-- ==== Sys2Proof/Word.lean ====
section
/-! DEFINITION. The word types of the device and the sparse store type shared by every table and memory. -/

namespace Sys2Proof

/-- A register of the device register window (R7). -/
abbrev Word := BitVec 32

/-- One byte. -/
abbrev Byte := BitVec 8

/-- The native word, one syllable, of 18 bits (00_scope, headline figures). -/
abbrev Syl := BitVec 18

/-- A store that lists only the items that differ from what an unlisted key reads as: strictly rising keys. -/
abbrev Sparse (β : Type) := List (Nat × β)

/-- A byte offset in the 256 MiB device register window (R818). -/
abbrev WinOff := BitVec 28

/-- An access path in the order of R65: cores 0 to 15, the management port 16, the I²C port 17. -/
abbrev Path := Fin 18

/-- A physical cluster (R82). -/
abbrev ClusterId := Fin 1088

/-- A Shoris lane (R41). -/
abbrev LaneId := Fin 128

end Sys2Proof
end

