-- ==== Sys2Proof/Syntax.lean ====
section
/-! DEFINITION. The commands of the block: one constructor per row of spec/opcode_table.json, in the table's order. -/

namespace Sys2Proof

/-- What a unit asks of its send buffer (R281, R286): GEN_ANY, the packet's syllables, and whether it expects a response. -/
structure SendBody where
  genAny : Bool
  data : List Syl
  expects : Bool
  deriving DecidableEq, Repr

/-- A receive buffer whose packet the destination unit has taken, and whether it refuses the content (R284, R308). -/
structure TakenBuf where
  buf : Nat
  refused : Bool
  deriving DecidableEq, Repr

/-- The HBM controller that takes a FILL or COPY_IN, and whether the reads of its first and of its last block find an
uncorrectable error (R341, R357). -/
structure HbcWrite where
  d : Fin 4
  ueFirst : Bool
  ueLast : Bool
  deriving DecidableEq, Repr

/-- Where an image has an uncorrectable error when it is checked, and when it is streamed (R405). -/
structure ImageEcc where
  eccAt : Option Nat
  eccLate : Option Nat
  deriving DecidableEq, Repr

/-- What Billet meets in a LOAD: the errors of the image, and a packet of its own that fails, with its status (R405, R412). -/
structure ImageRead where
  ecc : ImageEcc
  packet : Option (BitVec 12 × BitVec 4)
  deriving DecidableEq, Repr

/-- The commands and events of spec/opcode_table.json. A command that is a register write carries the path and the
value written; a command that is an event of the surroundings (a pin, a lane, a supply, a sensor, a received frame)
carries what arrives. -/
inductive Instr where
  /-- READ_LO_HALF (R15): A read of the _LO half of a 64-bit value returns it and loads the path's holding latch
  with the _HI half, tagged with that value. -/
  | readLoHalf (p : Path) (off : WinOff)
  /-- READ_HI_HALF (R17): A read of a _HI half returns the latched half when the path's latch is tagged with that
  value, and the live half otherwise. -/
  | readHiHalf (p : Path) (off : WinOff)
  /-- WRITE_LO_HALF (R18): A write to the _LO half of a writable 64-bit value is held, tagged with that value, and
  replaces any earlier held write on the path. -/
  | writeLoHalf (p : Path) (off : WinOff) (v : Word)
  /-- WRITE_HI_HALF (R19): A write to the _HI half commits it, together with the held _LO write of the same value or
  else the current low half. -/
  | writeHiHalf (p : Path) (off : WinOff) (v : Word)
  /-- REGISTER_WRITE (R11): A write to a register that has no row of its own acts as the access codes give; narrow
  writes and writes to reserved bits are dropped. -/
  | registerWrite (p : Path) (off : WinOff) (size : Nat) (v : Word)
  /-- READ_CLEAR_FIELD (R13): A read of an RC field returns its value and clears it, and an update in the same hub
  cycle is kept. -/
  | readClearField (p : Path) (off : WinOff) (size : Nat)
  /-- OFF_BLOCK_ACCESS (R33): An access to a block whose clock or power is off completes within 64 hub cycles: a
  read returns 0xDEAD_0FF0 and a write is dropped. -/
  | offBlockAccess (p : Path) (off : WinOff) (wr : Option Word)
  /-- UNMAPPED_WINDOW_ACCESS (R820): An access to a window offset outside every block returns zero or is dropped,
  without being recorded. -/
  | unmappedWindowAccess (p : Path) (off : WinOff) (wr : Option Word)
  /-- RESULT_READ (R26): A read of a mailbox RESULT register while DONE is 0 returns zero and sets READ_EARLY. -/
  | resultRead (p : Path) (off : WinOff)
  /-- MAILBOX_COMPLETION (R24): A command unit completes its command: it writes RESULT and ERR, and then sets DONE
  and clears BUSY in one later hub cycle. -/
  | mailboxCompletion (u : Fin 42)
  /-- MODE_REQUEST (R856): A DEV_CTRL write with MODE_GO = 1 is checked in order and is then refused, applied at
  once, or left pending until a frame barrier. -/
  | modeRequest (p : Path) (v : Word)
  /-- WARM_RESET (R765): A DEV_CTRL write with WARM_RST = 1 and KEY = 0xA5 abandons the frame in progress, stops
  releases and starts the Guestbook drain. -/
  | warmReset (p : Path) (v : Word)
  /-- WARM_RESET_ASSERT (R765): 1 µs after the Guestbook drain ends, internal reset is asserted in every domain
  except VBAT and Tidemark, and DEV_MODE becomes RESET. -/
  | warmResetAssert
  /-- WARM_RESET_RELEASE (R765): Internal reset is released 10 µs after it is asserted; straps are sampled, DEV_MODE
  becomes BOOT, and the power-up load and the Guestbook scan begin. -/
  | warmResetRelease (pull i2c : BitVec 2)
  /-- POWER_ON_RESET (R833): A monitored supply below its POR trip level, or not yet above its release level,
  asserts power-on reset. -/
  | powerOnReset (fallNs : Nat)
  /-- POR_RELEASE (R833): Power-on reset is released 2 ms after the last monitored supply rises above its release
  level, provided RESET_N is also released. -/
  | porRelease (pull i2c : BitVec 2)
  /-- RESET_N_ASSERT (R764): A recognised low level on RESET_N puts the device into RESET. -/
  | resetNAssert (lowNs : Nat)
  /-- RESET_N_RELEASE (R764): Release of RESET_N takes the device from RESET to BOOT and starts the power-up load.
  -/
  | resetNRelease (pull i2c : BitVec 2)
  /-- STEP_CYCLE (R112): In each cycle of its step clock, a cluster fetches word s+1, reads and evaluates step s,
  and writes the results of step s-1. -/
  | stepCycle (c : ClusterId)
  /-- STALL_CYCLE (R115): A cycle in which an operand names an OWED word issues nothing, and the step is tried again
  in the next cycle. -/
  | stallCycle (c : ClusterId)
  /-- ARRIVAL (R107): An arrival reaches the ring stop; it is written at once if its word is OWED, and otherwise
  waits in the holding queue until its due step. -/
  | arrival (c : ClusterId) (rank : Nat) (rxw : BitVec 7) (due : BitVec 11) (ftag : BitVec 2) (word : Syl)
  /-- CLUSTER_COMMIT (R105): Once every LATCH and every due arrival is written, the cluster swaps its state halves,
  samples its taps and sends its end marker. -/
  | clusterCommit (c : ClusterId)
  /-- END_MARKER_INJECT (R259): The cluster stop injects the END marker toward the nearer bridge stop once every
  flit of the frame has left its injection queues. -/
  | endMarkerInject (c : ClusterId)
  /-- SCRUB_READ (R128): Every 2^SCRUB_DIV step-clock cycles, the cluster scrubber reads one instruction word of
  every processor and one state-store row. -/
  | scrubRead (c : ClusterId)
  /-- CLUSTER_RESET_DONE (R131): Cluster reset completes within 2,112 step-clock cycles, and the cluster leaves the
  RESET state. -/
  | clusterResetDone (c : ClusterId)
  /-- TRIM_WRITE (R134): A CLU_TRIM.TARGET write outside 600 to 1,400 is ignored; otherwise it takes effect at once,
  or at the next release while frames run. -/
  | trimWrite (p : Path) (c : ClusterId) (v : Word)
  /-- FREQ_MEASURE (R850): Every 10 µs the island's step rate is measured against the ring clock, and CLU_FREQ and
  LOCKED are updated. -/
  | freqMeasure (c : ClusterId) (meas : BitVec 16)
  /-- CLU_MA_READ (R142): A CLU_MA_CMD READ reads the addressed store item into D0 to D3, with checking unless it is
  raw. -/
  | cluMaRead (p : Path) (c : ClusterId) (v : Word)
  /-- CLU_MA_WRITE (R139): A CLU_MA_CMD WRITE writes D0 to D3 to the addressed store item, as the store's rules
  give. -/
  | cluMaWrite (p : Path) (c : ClusterId) (v : Word)
  /-- NOP (R151): A NOP reads nothing, writes nothing and changes nothing. -/
  | nop (c : ClusterId) (k : Fin 64)
  /-- EVAL (R157): EVAL reads four operands in two-state mode and writes the truth-table result to net entry DEST.
  -/
  | eval (c : ClusterId) (k : Fin 64) (dest : BitVec 12) (tt : BitVec 16) (opa opb opc opd : BitVec 14)
  /-- EVAL4S (R158): EVAL4S reads four operands in four-state mode and writes the exact four-state result to net
  entry DEST. -/
  | eval4s (c : ClusterId) (k : Fin 64) (dest : BitVec 12) (tt : BitVec 16) (opa opb opc opd : BitVec 14)
  /-- LATCH (R161): LATCH evaluates its truth table and writes the result to the shadow value of the state entry,
  and also to the net store when NETW = 1. -/
  | latch (c : ClusterId) (k : Fin 64) (m4 netw : Bool) (dest : BitVec 12) (tt : BitVec 16) (opa opb opc opd : BitVec 14)
  /-- MUXW (R163): MUXW selects among up to 16 candidate values with a four-value select and writes the result to
  net entry DEST. -/
  | muxw (c : ClusterId) (k : Fin 64) (m4 stride : Bool) (dest : BitVec 12) (tt : BitVec 16) (opa opb opc opd : BitVec 14)
  /-- SEND (R170): SEND writes the word gather of operand A to a transmit word owned by the processor. -/
  | send (c : ClusterId) (k : Fin 64) (m4 : Bool) (dest : BitVec 12) (opa : BitVec 14)
  /-- MEM_READ (R176): A MEM read through a memory port delivers the addressed word to an RXB word at its due step.
  -/
  | memRead (c : ClusterId) (k : Fin 64) (m4 : Bool) (dest : BitVec 12) (tt : BitVec 16) (opa : BitVec 14)
  /-- MEM_WRITE (R178): A MEM write through a memory port stores the data gather when its enable reads 1. -/
  | memWrite (c : ClusterId) (k : Fin 64) (m4 : Bool) (tt : BitVec 16) (opa opb opc : BitVec 14)
  /-- WIN (R184): WIN sets the issuing processor's RWIN and/or LWIN, taking effect from the next step. -/
  | win (c : ClusterId) (k : Fin 64) (tt : BitVec 16)
  /-- PROBE (R185): PROBE writes the four-state value of operand A to a probe latch. -/
  | probe (c : ClusterId) (k : Fin 64) (dest : BitVec 12) (opa : BitVec 14)
  /-- BREAK (R188): BREAK raises a numbered breakpoint to the frame sequencer when its condition holds. -/
  | brk (c : ClusterId) (k : Fin 64) (tt : BitVec 16) (opa : BitVec 14)
  /-- RESERVED_SPECIAL (R189): A SPECIAL with a reserved OP acts as a NOP and sets RSV_OP. -/
  | reservedSpecial (c : ClusterId) (k : Fin 64) (op : BitVec 3)
  /-- DIE_MARKER (R201): A Confluence sends its die marker once it holds every mapped cluster's end marker and every
  HBM write acknowledgement of the frame. -/
  | dieMarker (d : Fin 4)
  /-- LOCAL_BARRIER (R202): Once every die marker and every output arrival is present, the hub folds the Ford
  digest, publishes the output ports and sends the outbound end markers. -/
  | localBarrier
  /-- END_MARKER_RECEIVE (R209): An end marker arrives on a lane; a wrong frame number sets FRAME_SKEW and holds the
  device. -/
  | endMarkerReceive (lane : LaneId) (frame : BitVec 16) (haltNotice notice : Bool)
  /-- BARRIER_COMPLETE (R203): The barrier completes once the local condition is met and every inbound end marker
  has arrived; what follows depends on the mode. -/
  | barrierComplete
  /-- TIMED_RELEASE (R525): In TIMED mode, the hub issues a release in the first hub cycle in which Tidemark time
  reaches T_k − TLEAD. -/
  | timedRelease
  /-- RELEASE_MARKER_ARRIVAL (R280): A RELEASE marker reaches a stop, which acts on the first copy and swaps its
  table halves when SW is set. -/
  | releaseMarkerArrival (d : Fin 4) (r : Fin 8) (pos : Fin 36) (frame : BitVec 16) (sw : Bool)
  /-- HALT_MARKER_ARRIVAL (R230): A broadcast halt reaches a mapped cluster, which halts at the first step it would
  next issue. -/
  | haltMarkerArrival (c : ClusterId)
  /-- BARRIER_TIMEOUT (R214): The barrier timer expires: no release is issued, HOLD is set, the missing source is
  recorded and a FATAL record is written. -/
  | barrierTimeout
  /-- STEPS (R237): The STEPS command lets every halted cluster issue up to COUNT more steps. -/
  | steps (p : Path) (count : BitVec 16)
  /-- FRAMES (R238): The FRAMES command issues releases until COUNT barriers have completed, and then halts. -/
  | frames (p : Path) (count : BitVec 16)
  /-- FRAME_NO_WRITE (R241): A write of SEQ_FRAME_NO takes effect only in IDLE; otherwise it is dropped and sets
  WR_STATE. -/
  | frameNoWrite (p : Path) (hi : Bool) (v : Word)
  /-- TIMED_SCHEDULE_WRITE (R226): A write of the schedule registers while in TIMED is dropped and sets WR_STATE. -/
  | timedScheduleWrite (p : Path) (off : WinOff) (v : Word)
  /-- BTO_WRITE (R243): A SEQ_BTO write leaves a field written as zero unchanged and sets SEQ_ERR.ARG. -/
  | btoWrite (p : Path) (v : Word)
  /-- SEGMENT_GRANT (R265): In each ring cycle, each stop grants each outgoing segment to the first candidate in
  priority order. -/
  | segmentGrant (d : Fin 4) (r : Fin 8) (pos : Fin 36) (ccw : Bool)
  /-- FLIT_EXIT (R268): A flit leaves the ring at its destination cluster stop and is matched through the RXT,
  written as an MREP, or discarded. -/
  | flitExit (d : Fin 4) (r : Fin 8) (pos : Fin 36) (ccw : Bool) (flit : BitVec 54)
  /-- BRT_ROUTE (R272): A bridge stop routes a flit or word through its BRT entry to the Confluence, the ring or a
  lane. -/
  | brtRoute (d : Fin 4) (r : Fin 8) (k : Fin 2) (flit : BitVec 54)
  /-- CRT_ROUTE (R276): A SCHED flit arriving on Confluence port 16, 17 or 18 is routed through its CRT entry, or
  discarded. -/
  | crtRoute (d : Fin 4) (port : Fin 3) (flit : BitVec 54)
  /-- WRITE_ACK_ABSORB (R340): A Confluence absorbs a write acknowledgement at CPORT 31 and counts it for its FTAG.
  -/
  | writeAckAbsorb (d : Fin 4) (ftag : BitVec 2)
  /-- RESV (R281): A destination answers a RESV with GRANT, NACK OK or a refusing NACK. -/
  | resv (dnode snode : BitVec 12) (tag : BitVec 8) (resp : Bool) (gen : BitVec 4) (body : SendBody)
  /-- GRANT (R282): On a GRANT, the source sends its packet into the granted buffer. -/
  | grant (node : BitVec 12) (tag : BitVec 8) (buf : Fin 4)
  /-- NACK (R283): On a NACK, the source waits to retry, or completes the packet with NO_BUF or the given status. -/
  | nack (node : BitVec 12) (tag : BitVec 8) (status : BitVec 4)
  /-- RETRY_GAP_EXPIRY (R283): RETRY_GAP ring cycles after a NACK OK, the source sends RESV again. -/
  | retryGapExpiry (node : BitVec 12) (tag : BitVec 8)
  /-- PACKET_RECEIVED (R296): A packet fully received into its reserved buffer is checked by generation and then
  delivered, held or returned. -/
  | packetReceived (node : BitVec 12) (resp : Bool) (buf : Nat)
  /-- PACKET_TAKEN (R284): When the destination unit has taken the whole packet, the destination frees the buffer
  and sends DONE. -/
  | packetTaken (node : BitVec 12) (resp : Bool) (b : TakenBuf)
  /-- DONE (R284): On DONE, the source frees its send buffer; a stray DONE sets STRAY. -/
  | done (node : BitVec 12) (tag : BitVec 8)
  /-- RETURNED_PACKET (R285): A returned packet arrives at its source's send buffer and completes with its status.
  -/
  | returnedPacket (node : BitVec 12) (tag : BitVec 8) (status : BitVec 4)
  /-- HOLD_TIMEOUT (R305): A destination that has held a packet for HOLD ring cycles returns it with GEN_TIMEOUT or
  TIMEOUT. -/
  | holdTimeout (node : BitVec 12) (resp : Bool) (buf : Nat)
  /-- SRC_TIMEOUT (R306): A source that has had neither DONE nor a return within SRC ring cycles completes the
  packet with LOST. -/
  | srcTimeout (node : BitVec 12) (tag : BitVec 8)
  /-- SET_GEN (R291): SET_GEN with a NEXT_GEN that is ahead sets PEND_GEN and PEND_VALID; otherwise it sets GEN_ERR.
  -/
  | setGen (p : Path) (d : Fin 4) (v : Word)
  /-- ARM (R293): ARM arms a generation switch at MLR_GEN_FRAME, or is refused with GEN_ERR. -/
  | arm (p : Path) (d : Fin 4) (v : Word)
  /-- NOW (R294): NOW swaps every table half of the die at once, or is refused with GEN_ERR. -/
  | now (p : Path) (d : Fin 4) (v : Word)
  /-- CANCEL (R315): CANCEL clears ARMED and PEND_VALID. -/
  | cancel (p : Path) (d : Fin 4) (v : Word)
  /-- UTO_WRITE (R316): An MLR_UTO write leaves a field written as zero unchanged and sets MLR_CFL_ERR.ARG. -/
  | utoWrite (p : Path) (d : Fin 4) (v : Word)
  /-- MLR_TBL_READ (R317): A table READ reads a TXT, RXT, BRT or CRT entry into D0 and D1. -/
  | mlrTblRead (p : Path) (d : Fin 4) (v : Word)
  /-- MLR_TBL_WRITE (R319): A table WRITE writes a slot-table entry, subject to the argument and mode checks. -/
  | mlrTblWrite (p : Path) (d : Fin 4) (v : Word)
  /-- MLR_TBL_CLEAR (R319): A table CLEAR sets V = 0 in every entry of the addressed half. -/
  | mlrTblClear (p : Path) (d : Fin 4) (v : Word)
  /-- LOOPBACK_MODE_WRITE (R311): A write of MLR_STOP_LB outside DIAGNOSE with a non-zero MODE or GO = 1 is dropped
  and sets LB_STATE. -/
  | loopbackModeWrite (p : Path) (d : Fin 4) (r : Fin 8) (pos : Fin 36) (v : Word)
  /-- LOOPBACK_GO (R310): GO sends COUNT test flits with a counting payload. -/
  | loopbackGo (p : Path) (d : Fin 4) (r : Fin 8) (pos : Fin 36) (v : Word)
  /-- LOOPBACK_RECEIVE (R310): The loopback checker compares each received test flit with the expected count. -/
  | loopbackReceive (d : Fin 4) (r : Fin 8) (pos : Fin 36) (payload : Syl)
  /-- LOOPBACK_BUSY_TIMEOUT (R310): BUSY clears 4,096 ring cycles after the last test flit was sent. -/
  | loopbackBusyTimeout (d : Fin 4) (r : Fin 8) (pos : Fin 36)
  /-- MREQ_PART_ARRIVAL (R336): An MREQ part reaches the HBM controller, is matched in the MQT, and completes a
  request that is then queued. -/
  | mreqPartArrival (d : Fin 4) (port : Fin 18) (flit : BitVec 54)
  /-- PARTIAL_TIMEOUT (R337): A request whose parts are incomplete 64 ring cycles after part 0 is discarded and sets
  PARTIAL. -/
  | partialTimeout (d : Fin 4) (port : Fin 18) (tag : BitVec 10)
  /-- HBM_WINDOW (R344): In each window, a pseudo-channel serves the design request with the earliest deadline, or
  acquisition, slack or carve-out traffic. -/
  | hbmWindow (d : Fin 4) (pc : Fin 32) (ownerUses overrun : Bool) (ecc : Fin 3)
  /-- FILL (R357): The HBC FILL command writes a value to a range of words of a memory. -/
  | fill (p : Path) (w : HbcWrite)
  /-- COPY_OUT (R357): The HBC COPY_OUT command copies memory words to the carve-out. -/
  | copyOut (p : Path) (d : Fin 4) (eccAt : Option Nat)
  /-- COPY_IN (R357): The HBC COPY_IN command copies words from the carve-out into a memory. -/
  | copyIn (p : Path) (w : HbcWrite)
  /-- HBC_TBL_READ (R364): An HBC table READ reads a memory-table or MQT entry. -/
  | hbcTblRead (p : Path) (d : Fin 4) (v : Word)
  /-- HBC_TBL_WRITE (R364): An HBC table WRITE writes a memory-table or MQT entry, subject to the argument and mode
  checks. -/
  | hbcTblWrite (p : Path) (d : Fin 4) (v : Word)
  /-- HBC_TBL_CLEAR (R364): An HBC table CLEAR invalidates the addressed table or half. -/
  | hbcTblClear (p : Path) (d : Fin 4) (v : Word)
  /-- ACQ_BASE_WRITE (R363): An HBC_ACQ_BASE write that would overlap a placed memory, or exceed 0xB0_0000, is
  dropped and sets ARG. -/
  | acqBaseWrite (p : Path) (d : Fin 4) (v : Word)
  /-- WIN_PERIOD_WRITE (R362): An HBC_WIN write outside 2,800 to 6,700 ps is dropped and sets HBC_ERR.ARG. -/
  | winPeriodWrite (p : Path) (d : Fin 4) (v : Word)
  /-- MPD_WRITE (R360): A CLU_MPD write is dropped and sets WR_REJ when the cluster state or a field is not
  permitted. -/
  | mpdWrite (p : Path) (c : ClusterId) (port : Fin 16) (v : Word)
  /-- MRT_DATA_ACCESS (R360): A CLU_MRT_DATA access reads or writes the addressed MRT entry, with the write checks,
  and increments STEP under AUTOINC. -/
  | mrtDataAccess (p : Path) (c : ClusterId) (wr : Option Word)
  /-- SRAM_FILL (R851): A CLU_SRW_ADDR write with FILL = 1 starts writing the fill value to every cluster SRAM word.
  -/
  | sramFill (p : Path) (c : ClusterId) (v : Word)
  /-- SRAM_FILL_DONE (R851): The SRAM fill completes after 32,768 step-clock cycles, and FILL_BUSY clears. -/
  | sramFillDone (c : ClusterId)
  /-- SRW_DATA_READ (R361): A CLU_SRW_DATA read returns the addressed SRAM word, corrected, or reports an
  uncorrectable error. -/
  | srwDataRead (p : Path) (c : ClusterId)
  /-- SRW_DATA_WRITE (R361): A CLU_SRW_DATA write stores a word with new check bits, or is dropped and sets WR_REJ.
  -/
  | srwDataWrite (p : Path) (c : ClusterId) (v : Word)
  /-- LOAD (R413): The Billet LOAD command checks, maps, routes and places an image, and then writes and streams it.
  -/
  | load (p : Path) (r : ImageRead)
  /-- BILLET_CHECK (R410): The Billet CHECK command runs phases CHECK to MEMORY of a LOAD and writes nothing. -/
  | billetCheck (p : Path) (eccAt : Option Nat)
  /-- UNLOAD (R446): UNLOAD removes the placed program, its tables and its votes. -/
  | unload (p : Path)
  /-- RELOAD (R447): RELOAD places the last loaded image again against the current failmap and keeps its memories.
  -/
  | reload (p : Path) (r : ImageRead)
  /-- REPLACE (R448): REPLACE rewrites the instruction stores of named placed partitions. -/
  | replace (p : Path) (e : ImageEcc)
  /-- CLRESET (R451): CLRESET performs cluster reset on the physical cluster BLT_SEL. -/
  | clreset (p : Path)
  /-- BILLET_TIMEOUT (R444): BLT_CFG.TMO_MS expires during a command, which ends with TIMEOUT, after cleanup in
  phases 5 and 6. -/
  | billetTimeout
  /-- LOAD_CHANNEL_BLOCK (R406): The payload of a load-channel block is written to the carve-out buffer, or
  discarded beyond its end. -/
  | loadChannelBlock (lane : LaneId) (bytes : List Byte)
  /-- LDCH_ENABLE (R408): A write that sets BLT_LDCH_CTRL.EN clears the count, or is refused with ADDR_REJ for a bad
  buffer. -/
  | ldchEnable (p : Path) (v : Word)
  /-- FAILMAP_WRITE (R455): A BLT_FAILMAP write cannot clear a fuse-failed bit, and takes effect at the next LOAD,
  CHECK or RELOAD. -/
  | failmapWrite (p : Path) (i : Fin 34) (v : Word)
  /-- TAP_COLLECTION (R459): The tap values of a frame finish travelling on the tap path and are collected at the
  hub. -/
  | tapCollection
  /-- PIN_SAMPLE (R461): At each sample instant, every enabled pin group is sampled into its PIN record. -/
  | pinSample (levels : BitVec 384)
  /-- FRAME_POINT (R482): At the frame point, the comparators are evaluated, and the sequencer, the trigger and the
  end of the capture are decided. -/
  | framePoint
  /-- ACQ_BLOCK_WRITE (R472): The engine writes a whole 64-byte stream block to HBM in an acquisition window. -/
  | acqBlockWrite
  /-- ACQ_ARM (R477): An accepted ARM clears the pointers, writes an ARM mark, and enters WAIT or STREAM. -/
  | acqArm (p : Path) (v : Word)
  /-- ACQ_STOP (R478): STOP writes an END mark, pads to the block boundary and enters DONE. -/
  | acqStop (p : Path) (v : Word)
  /-- FORCE (R483): FORCE requests a SOFT trigger at the next frame point in WAIT. -/
  | force (p : Path) (v : Word)
  /-- ACQ_CONFIG_WRITE (R479): A write of the capture configuration while a capture runs is dropped and sets
  CFG_REJ. -/
  | acqConfigWrite (p : Path) (off : WinOff) (v : Word)
  /-- TAP_TABLE_WRITE (R456): A write of ACQ_TAP_DATA or ACQ_TAP_NUM updates the tap table, or is dropped and sets
  CFG_REJ. -/
  | tapTableWrite (p : Path) (off : WinOff) (v : Word)
  /-- SKEW_EDGE_PAIR (R490): A calibrated pin edge matched with a reference edge is averaged, and DLY is stepped
  once the average completes. -/
  | skewEdgePair (pin : Fin 384) (dt : Int)
  /-- PIN_DLY_WRITE (R491): A DLY write while CAL_EN = 1 is dropped and sets CFG_REJ. -/
  | pinDlyWrite (p : Path) (pin : Fin 384) (v : Word)
  /-- COPY (R492): The ACQ COPY command copies stream bytes into the carve-out. -/
  | copy (p : Path)
  /-- TIME_READ (R499): A read of TMK_SEC_LO latches the rest of the time value on the reading path. -/
  | timeRead (p : Path)
  /-- SET (R500): TMK_CMD.SET steps the time to the SET value, or is refused. -/
  | set (p : Path) (v : Word)
  /-- OFFSET (R500): TMK_CMD.OFFSET adds TMK_OFS to the time, clamped at the ends of the range. -/
  | offset (p : Path) (v : Word)
  /-- ADJ_WRITE (R510): A TMK_ADJ write takes effect in the next hub cycle while SRC is FREE, and is dropped
  otherwise. -/
  | adjWrite (p : Path) (v : Word)
  /-- SRC_CHANGE (R511): A change of servo SRC clears the integral and the good count, and ends holdover. -/
  | srcChange (p : Path) (v : Word)
  /-- SERVO_MEASUREMENT (R508): For each θ, the servo steps the time or updates ADJ, and updates LOCKED. -/
  | servoMeasurement (theta : Int)
  /-- MEAS_COMMIT (R507): A TMK_MEAS commit delivers one PTP measurement, or is dropped when SRC is not PTP. -/
  | measCommit (p : Path) (v : Word)
  /-- PPS_IN_EDGE (R506): A PPS_IN edge yields a servo measurement, or sets PPS_MISMATCH in PPS_10M. -/
  | ppsInEdge (rising : Bool)
  /-- REF10M_EDGE (R505): A REF10M_IN edge, taken once per ms, yields a PPS_10M servo measurement. -/
  | ref10mEdge
  /-- REF10M_PRESENCE (R524): REF10M_IN becomes present or absent as its measured rate enters or leaves ±100 ppm. -/
  | ref10mPresence (hz : Nat)
  /-- HOLDOVER (R509): After HOLD_MS with no measurement, the servo enters holdover with ADJ = −integ. -/
  | holdover
  /-- PTP_TIMESTAMP (R512): A PTP event message sent or received is timestamped, with one-step insertion or a
  TMK_TXTS entry. -/
  | ptpTimestamp (tx : Bool) (msgType : BitVec 4) (seqId : BitVec 16) (oneStep tsReq : Bool)
  /-- TXTS_POP (R522): A read of TMK_TXTS_SEC_LO moves the head of the TMK_TXTS FIFO into the path's latch. -/
  | txtsPop (p : Path)
  /-- SHX_REQUEST (R515): Every 2^EXP ms while EN = 1, the device sends a time-exchange request on its lane. -/
  | shxRequest
  /-- TREQ_RECEIVE (R515): A TREQ received on a lane that is up is answered with a TRESP. -/
  | treqReceive (lane : LaneId) (id : Byte)
  /-- TRESP_RECEIVE (R516): A TRESP completes an exchange, and θ is computed and written to TMK_SHX_LAST. -/
  | trespReceive (lane : LaneId) (id : Byte) (t2 t3 : List Syl)
  /-- SHX_TIMEOUT (R517): An exchange with no answer within 1 ms of t1 is abandoned, and LOST increments. -/
  | shxTimeout
  /-- PULSE_ENABLE (R520): A write of ENABLE starts a pulse output, or is refused for a bad width, or fires at once
  when START has passed. -/
  | pulseEnable (p : Path) (n : Fin 8) (v : Word)
  /-- PULSE_FIRE (R519): At a scheduled instant, a pulse output raises its active level. -/
  | pulseFire (n : Fin 8)
  /-- PULSE_WIDTH_END (R519): WIDTH_NS after the instant, the output returns to its inactive level; a one-shot
  clears ENABLE. -/
  | pulseWidthEnd (n : Fin 8)
  /-- PPS_OUT_PULSE (R523): PPS_OUT rises at each whole second and falls after WIDTH_MS. -/
  | ppsOutPulse
  /-- CAPTURE_EDGE (R521): A selected edge on a capture input is timestamped into its FIFO, or discarded when the
  FIFO is full. -/
  | captureEdge (n : Fin 9) (rising : Bool)
  /-- CAPTURE_POP (R522): A read of TMK_CAPn_SEC_LO moves the oldest capture entry into the path's latch. -/
  | capturePop (p : Path) (n : Fin 9)
  /-- START (R535): START takes a lane from OFF or DOWN into RESET, or is refused. -/
  | start (p : Path) (lane : LaneId) (v : Word)
  /-- STOP (R536): STOP puts a lane into OFF and discards everything it holds. -/
  | stop (p : Path) (lane : LaneId) (v : Word)
  /-- SLIP (R534): SLIP moves the block boundary one bit later, or is dropped. -/
  | slip (p : Path) (lane : LaneId) (v : Word)
  /-- TEST (R573): TEST enters the TEST state with the PRBS and loopback settings, or sets START_REJ. -/
  | test (p : Path) (lane : LaneId) (v : Word)
  /-- PLL_LOCK (R537): Quad PLL lock takes a lane from RESET to ACQUIRE. -/
  | pllLock (lane : LaneId)
  /-- BLOCK_RECEIVE (R533): A received block's header is checked, to gain or lose block lock. -/
  | blockReceive (lane : LaneId) (hdr : BitVec 2) (syls : List Syl)
  /-- NEG_RECEIVE (R537): A NEG control block drives the negotiation to the next rate or to UP. -/
  | negReceive (lane : LaneId) (s1 s2 : Syl)
  /-- BRINGUP_STEP_TIMEOUT (R537): No matching NEG within STEP_TMO bans the rate and falls back, or takes the lane
  DOWN. -/
  | bringupStepTimeout (lane : LaneId)
  /-- PACKET_TRANSMIT (R559): The transmitter sends the next packet, filled with items by precedence, or an empty
  packet or a control block. -/
  | packetTransmit (lane : LaneId)
  /-- PACKET_RECEIVE (R561): A received packet is accepted, discarded or NAKed by its CRC and SEQ, and its ACK
  fields free replay buffers. -/
  | packetReceive (lane : LaneId) (syls : List Syl)
  /-- LANE_WORD_ROUTE (R552): A received value word is routed through the BRT once its frame has been released. -/
  | laneWordRoute (lane : LaneId)
  /-- REPLAY_TIMEOUT (R562): The oldest buffered packet's wait reaches TMO × 16 ring cycles, and the buffer is
  replayed. -/
  | replayTimeout (lane : LaneId)
  /-- RELOCK_TIMEOUT (R565): Block lock not regained within RELOCK_US takes the lane DOWN. -/
  | relockTimeout (lane : LaneId)
  /-- DOWN_BLOCK_RECEIVE (R567): A valid DOWN control block takes a lane in UP or RELOCK into DOWN with cause PEER.
  -/
  | downBlockReceive (lane : LaneId) (cause : BitVec 4)
  /-- FFE_WRITE (R541): A TXFFE write with an illegal sum or MAIN is dropped and sets FFE_REJ. -/
  | ffeWrite (p : Path) (lane : LaneId) (rate : Fin 7) (v : Word)
  /-- INJ (R576): INJ inverts one transmitted PRBS bit. -/
  | inj (p : Path) (lane : LaneId) (v : Word)
  /-- CLR (R575): CLR clears the PRBS counters and RESYNC. -/
  | clr (p : Path) (lane : LaneId) (v : Word)
  /-- RECENTER (R577): About every 1 ms, the auxiliary sampler measures the eye edges and moves the data sampler by
  1/64 UI. -/
  | recenter (lane : LaneId) (left right : Byte)
  /-- EYE_POINT (R578): EYE_POINT counts mismatches at one phase and voltage offset. -/
  | eyePoint (p : Path) (q : Fin 32) (mismatches : Nat)
  /-- EYE_WIDTH (R578): EYE_WIDTH measures the left and right eye edges of a lane. -/
  | eyeWidth (p : Path) (q : Fin 32) (left right : Byte)
  /-- LOAD_SEND (R578): LOAD_SEND sends carve-out bytes as load-channel DATA items on an anchor lane. -/
  | loadSend (p : Path) (q : Fin 32)
  /-- ROLE_REQ_PRIMARY (R586): A request for the PRIMARY role pairs with a partner that requests SHADOW, or is
  refused. -/
  | roleReqPrimary (p : Path) (v : Word)
  /-- ROLE_REQ_SHADOW (R586): A request for the SHADOW role pairs with a partner that requests PRIMARY, or is
  refused. -/
  | roleReqShadow (p : Path) (v : Word)
  /-- ROLE_REQ_CATCHUP (R586): A request for the CATCHUP role pairs with a journalling SOLO partner, or is refused.
  -/
  | roleReqCatchup (p : Path) (v : Word)
  /-- DETACH (R600): DETACH makes the device SOLO at the next barrier, sends LEAVE and starts journalling. -/
  | detach (p : Path) (v : Word)
  /-- CKPT_GO (R603): CKPT_GO starts a checkpoint toward a CATCHUP partner, or sets CKPT_FAIL. -/
  | ckptGo (p : Path) (v : Word)
  /-- CKPT_ABORT (R612): CKPT_ABORT fails the catch-up. -/
  | ckptAbort (p : Path) (v : Word)
  /-- PAIR_REPEAT (R588): Every 100 µs, a device with a role request pending resends PAIR. -/
  | pairRepeat
  /-- PAIR_RECEIVE (R588): A received PAIR message is answered, or decides a pending role request. -/
  | pairReceive (req : BitVec 2) (crc : Word) (flen : Byte) (role : BitVec 2) (jnlEn : Bool) (ssig : BitVec 64) (frame : BitVec 64)
  /-- PAIR_TIMEOUT (R586): No PAIR message within WAIT_US refuses the role request with TIMEOUT. -/
  | pairTimeout
  /-- INPUT (R596): An INPUT message supplies the frame inputs that gate the shadow's or catch-up device's release.
  -/
  | input (frame : BitVec 64) (join : Bool) (words : List Syl)
  /-- DIGEST (R594): A received DIGEST is compared with the device's own digest of that frame; a difference holds
  the device. -/
  | digest (frame : BitVec 64) (halted : Bool) (dig ssig : BitVec 64)
  /-- MODE (R596): A MODE message sets the shadow's mode at the barrier of its FRAME_NO. -/
  | mode (frame : BitVec 64) (target : BitVec 3) (check : Bool)
  /-- JOIN (R611): On JOIN, the survivor takes the PRIMARY role at its next barrier completion. -/
  | join (frame : BitVec 64)
  /-- LEAVE (R587): A device that receives LEAVE stops releasing, enters IDLE and becomes SOLO with EVICTED set. -/
  | leave
  /-- CKPT (R606): A CATCHUP device writes a received CKPT message into its own placement, and completes on KIND 3.
  -/
  | ckpt (frame : BitVec 64) (kind : BitVec 2) (index : BitVec 16) (offset : BitVec 32) (data : List Byte)
  /-- DIGEST_TIMEOUT (R599): A gate wait longer than WAIT_US, or a Ford link that goes down, separates the twins. -/
  | digestTimeout
  /-- CKPT_PRECOPY (R604): Ford sends repeated passes of dirty HBM blocks and SRAM groups until the barrier of frame
  C. -/
  | ckptPrecopy
  /-- CKPT_FINAL (R605): Once the MREPs of frame C have arrived, Ford sends the final dirty data, the cluster state
  and KIND 3, and then releases C+1. -/
  | ckptFinal
  /-- CONTENTION (R621): Two enabled drivers on one long line disable all its drivers and are recorded. -/
  | contention (line : Fin 1792) (group : BitVec 10)
  /-- CONT_MAP_WRITE (R623): A write of 1 to a FAB_CONT_MAP bit re-arms the line. -/
  | contMapWrite (p : Path) (i : Fin 56) (v : Word)
  /-- OUTPUT_ARRIVAL (R633): A SCHED flit from port 18 is staged through the output table as an output port word. -/
  | outputArrival (d : Fin 4) (flit : BitVec 54)
  /-- PROBE_SELECT_WRITE (R628): A FAB_PROBE write with SEL out of range is dropped and sets PROBE_REJ. -/
  | probeSelectWrite (p : Path) (k : Fin 16) (v : Word)
  /-- FAB_TABLE_WRITE (R642): A FAB_TBL_DATA write updates a port table, or is dropped and sets WR_STATE. -/
  | fabTableWrite (p : Path) (v : Word)
  /-- SNAP (R640): SNAP copies the fabric flip-flops of a range of tiles into the carve-out. -/
  | snap (p : Path)
  /-- LOAD_SLOT (R659): LOAD_SLOT loads a boot image from an MRAM slot through the load phases. -/
  | loadSlot (p : Path)
  /-- LOAD_MEM (R669): LOAD_MEM loads a boot image from the carve-out, skipping any firmware data. -/
  | loadMem (p : Path)
  /-- VERIFY (R669): VERIFY runs phases 1 and 2 and a decrypting pass that writes nothing. -/
  | verify (p : Path)
  /-- CFG_CLEAR (R669): The CFG CLEAR command runs phase 6 and clears the configuration. -/
  | cfgClear (p : Path)
  /-- FUSE_PROG (R667): FUSE_PROG sets bits in one fuse row. -/
  | fuseProg (p : Path)
  /-- CFG_PHASE_COMPLETE (R652): A phase of a configuration load finishes its checks and work, and the load passes
  to the next phase or fails. -/
  | cfgPhaseComplete (eccAt : Option Nat)
  /-- CFG_PHASE_TIMEOUT (R657): A phase limit or the DONE_MS limit expires and ends the load. -/
  | cfgPhaseTimeout
  /-- DONE_LINE_HIGH (R665): The DONE line reads high for 1,000 hub cycles in phase 4, and the load enters phase 5.
  -/
  | doneLineHigh
  /-- CLOCKS_LOCKED (R666): Once every user clock is locked, the outputs are enabled; global set-reset and
  CONFIGURED follow. -/
  | clocksLocked
  /-- COMMIT (R668): CFG_BBKEY_CTRL.COMMIT stores the battery-backed key in BOOT. -/
  | commit (p : Path) (v : Word)
  /-- ERASE (R668): CFG_BBKEY_CTRL.ERASE clears the battery-backed key in BOOT. -/
  | erase (p : Path) (v : Word)
  /-- MRAM_DATA_ACCESS (R677): A CFG_MRAM_DATA access reads or writes an MRAM word, except in the Guestbook
  partition or a slot being loaded. -/
  | mramDataAccess (p : Path) (wr : Option Word)
  /-- CFG_SCRUB_READ (R671): Every 2^DIV hub cycles, the configuration scrubber reads one syllable and corrects it
  or reports UE. -/
  | cfgScrubRead (voterDiffers : Bool)
  /-- SCRUB_HEARTBEAT_TIMEOUT (R675): No scrubbed frame for 1 ms restarts the scrubber, and after three restarts it
  is declared DEAD. -/
  | scrubHeartbeatTimeout
  /-- OSTLER_TICK (R685): At each Ostler tick, DELAYED tasks whose wake tick has passed enter READY. -/
  | ostlerTick
  /-- READY (R686): The Ostler READY command makes a task ready, or sets RERUN on a running one. -/
  | ready (p : Path)
  /-- DELAY (R686): The Ostler DELAY command puts a task in the delay list, or records its wake tick. -/
  | delay (p : Path)
  /-- OST_CANCEL (R686): The Ostler CANCEL command returns a task to IDLE, or clears its marks. -/
  | ostCancel (p : Path)
  /-- OST_DONE (R687): The Ostler DONE command ends the issuing core's running task into DELAYED, READY or IDLE. -/
  | ostDone (p : Path)
  /-- EVENT_COMMAND (R691): The waiting event command with the lowest event number executes as a READY for its bound
  task. -/
  | eventCommand
  /-- TASK_PLACE (R692): In each hub cycle, Ostler places at most one ready task into a core's slot. -/
  | taskPlace
  /-- CORE_TAKE (R694): A core's read of OST_CORE_TAKE moves its slot task to RUNNING. -/
  | coreTake (p : Path) (core : Fin 16)
  /-- CORE_RUN (R681): OST_CORE_CTRL.RUN releases a core to start at OST_CORE_VEC. -/
  | coreRun (p : Path) (core : Fin 16) (v : Word)
  /-- CORE_HOLD (R681): OST_CORE_CTRL.HOLD holds a core in reset and returns its tasks. -/
  | coreHold (p : Path) (core : Fin 16) (v : Word)
  /-- TASK_DESCRIPTOR_WRITE (R709): A task descriptor write is held until D2 stores all three words, or is dropped
  with TASK_BUSY. -/
  | taskDescriptorWrite (p : Path) (i : Fin 3) (v : Word)
  /-- TASK_DESCRIPTOR_READ (R709): A read of OST_TASK_D0 loads D1 and D2 from the addressed descriptor. -/
  | taskDescriptorRead (p : Path) (i : Fin 3)
  /-- DOORBELL (R691): Any write of OST_DOORBELL fires event 23. -/
  | doorbell (p : Path) (v : Word)
  /-- KICK (R696): A write of KICK restarts the core watchdog count. -/
  | kick (p : Path) (core : Fin 16) (v : Word)
  /-- CORE_WDT_NMI (R697): The core watchdog count reaches half of TIMEOUT_MS and asserts the NMI. -/
  | coreWdtNmi (core : Fin 16)
  /-- CORE_WDT_EXPIRY (R698): The core watchdog reaches TIMEOUT_MS and the core is recovered. -/
  | coreWdtExpiry (core : Fin 16)
  /-- MGE_FRAME_RECEIVE (R699): A received Ethernet frame is taken as a register-access request, answered as ARP, or
  placed in the receive ring. -/
  | mgeFrameReceive (frame : List Byte) (fcsOk : Bool)
  /-- RAP_REQUEST (R701): A register-access request executes its items in order and sends a response. -/
  | rapRequest
  /-- MGE_TX_DESCRIPTOR (R705): The port sends the frame of the next owned transmit descriptor and completes it. -/
  | mgeTxDescriptor
  /-- GO_BUSY (R678): MGE_MDIO_CMD.GO_BUSY starts a Clause 22 MDIO frame. -/
  | goBusy (p : Path) (v : Word)
  /-- MDIO_COMPLETE (R678): The MDIO frame completes within 30 µs, and GO_BUSY clears. -/
  | mdioComplete (data : BitVec 16)
  /-- I2C_WRITE (R706): An I²C write sets the pointer and may write a register. -/
  | i2cWrite (bytes : List Byte)
  /-- I2C_READ (R706): An I²C read returns the register at the pointer, with an optional PEC. -/
  | i2cRead (pec : Bool)
  /-- I2C_SCL_TIMEOUT (R707): SCL held low by the master for more than 25 ms releases the bus. -/
  | i2cSclTimeout
  /-- TRACE_BRANCH (R711): A retired branch or exception in an active trace is recorded in an ATOM or ADDR packet.
  -/
  | traceBranch (core : Fin 16) (kind : Fin 4) (taken : Bool) (target : BitVec 64) (cycles : Nat)
  /-- TRACE_CYCLE_OVERFLOW (R713): The core's cycle count reaches 0xFFFF with no packet emitted, and an OVF is
  emitted. -/
  | traceCycleOverflow (core : Fin 16)
  /-- TRACE_TS_PERIOD (R714): Every 2^TS_LOG2 µs, an active core emits a TS packet. -/
  | traceTsPeriod (core : Fin 16) (cycles : Nat)
  /-- TRACE_SLEEP (R720): Before a core's clock stops for sleep, a SLEEP packet is emitted. -/
  | traceSleep (core : Fin 16) (cycles : Nat)
  /-- TRACE_WAKE (R721): On leaving sleep, a WAKE packet is emitted and the cycle count restarts. -/
  | traceWake (core : Fin 16)
  /-- COMPARATOR_MATCH (R717): A comparator match starts or stops the trace, or raises a Wake trigger. -/
  | comparatorMatch (core : Fin 2) (addr : BitVec 64) (cycles : Nat)
  /-- WAKE_TRIGGER (R718): The first Wake trigger emits TRIG packets and moves cores with STOP_DLY_EN into STOPPING.
  -/
  | wakeTrigger (src : BitVec 3)
  /-- TRIG_SW (R718): WKE_CTRL.TRIG_SW raises a software Wake trigger. -/
  | trigSw (p : Path) (v : Word)
  /-- STOP_DELAY_EXPIRY (R719): STOP_DLY_US after the trigger, a STOPPING core enters STOPPED. -/
  | stopDelayExpiry (core : Fin 16) (cycles : Nat)
  /-- SECURE_TRANSITION (R723): Entry to or exit from the secure state emits a SECURE packet. -/
  | secureTransition (core : Fin 16) (entry : Bool) (cycles : Nat)
  /-- TRACE_STALL_TIMEOUT (R729): A trace stall longer than WKE_STALL_MAX ends, and packets are dropped. -/
  | traceStallTimeout (core : Fin 16)
  /-- MERGER_LINE_WRITE (R730): The merger moves whole packets into a 64-byte sink line and writes it to the carve-
  out. -/
  | mergerLineWrite
  /-- WKE_ENABLE_WRITE (R734): A WKE_CTRL.EN write starts the traces, or stops every core; a bad sink is refused. -/
  | wkeEnableWrite (p : Path) (v : Word)
  /-- AUTH_VERIFY (R725): VERIFY checks a trace authorisation certificate and adds its cores. -/
  | authVerify (p : Path) (v : Word)
  /-- REVOKE (R726): REVOKE clears the authorised cores. -/
  | revoke (p : Path) (v : Word)
  /-- AGGREGATOR_CLOSE (R741): At t0 + I, an aggregator closes and its record enters the write queue. -/
  | aggregatorClose (src : BitVec 12)
  /-- GBK_RECORD_WRITE (R747): Every 2 µs, the queue writes one record to the MRAM log at HEAD, skipping protected
  slots. -/
  | gbkRecordWrite
  /-- GBK_SCAN_DONE (R748): The post-reset scan of the log completes and sets HEAD, GBK_SEQ and SCAN_DONE. -/
  | gbkScanDone
  /-- EXPORT (R749): EXPORT copies log slots to the carve-out. -/
  | exportLog (p : Path)
  /-- GBK_ERASE (R750): ERASE zeroes every slot at or below a severity. -/
  | gbkErase (p : Path)
  /-- FLUSH (R750): FLUSH closes every open aggregator as PARTIAL. -/
  | flush (p : Path)
  /-- SEV_DATA_WRITE (R738): A GBK_SEV_DATA write sets a source's severity, or is dropped with SEV_REJ. -/
  | sevDataWrite (p : Path) (v : Word)
  /-- REGISTER_ACCESS_TIMEOUT (R755): An access unanswered within 1,000 hub cycles completes at the path with
  0xDEAD_0A70. -/
  | registerAccessTimeout (p : Path) (off : WinOff) (wr : Option Word)
  /-- LATE_ACCESS_PERFORM (R756): The target of a timed-out access may perform it once later, with its full effect.
  -/
  | lateAccessPerform (i : Nat)
  /-- HWDT_KICK (R759): A write of 0x5A to DEV_HWDT_KICK restarts the hub watchdog count. -/
  | hwdtKick (p : Path) (v : Word)
  /-- HUB_WATCHDOG_EXPIRY (R760): The hub watchdog reaches TIMEOUT_MS and performs a hub watchdog reset. -/
  | hubWatchdogExpiry (hubClockRuns : Bool)
  /-- WAKE_STEP_READY (R779): A domain wake step sees its ready signal, and the next step or ON follows. -/
  | wakeStepReady (i : Fin 91)
  /-- WAKE_STEP_TIMEOUT (R781): A wake step exceeding STEP_US leaves the domain OFF with FAIL set. -/
  | wakeStepTimeout (i : Fin 91)
  /-- POWERDOWN_STEP (R783): A power-down step completes, and the domain passes its abort point, returns, or goes
  OFF. -/
  | powerdownStep (i : Fin 91)
  /-- VOTE_SW_WRITE (R778): A PWR_VOTE_SW write sets software votes; bits 89 to 95 are ignored. -/
  | voteSwWrite (p : Path) (k : Fin 3) (v : Word)
  /-- DOMAIN_RESET (R787): PWR_DOMi.RST applies wake step 4 to an ON domain, or is refused with RST_REJ. -/
  | domainReset (p : Path) (i : Fin 91) (v : Word)
  /-- WAKE_N (R786): A low level or falling edge on WAKE_N requests exit from STANDBY. -/
  | wakeN (low : Bool)
  /-- STANDBY_ENTRY_STEP (R790): A step of the STANDBY entry sequence completes, and the next starts, until DEV_MODE
  becomes STANDBY. -/
  | standbyEntryStep
  /-- STANDBY_EXIT_STEP (R792): A step of the STANDBY exit sequence completes, and the next starts, until DEV_MODE
  becomes IDLE. -/
  | standbyExitStep
  /-- SENSOR_READING (R794): A temperature sensor delivers a reading, which may raise or clear a thermal alarm or
  THERMTRIP_N. -/
  | sensorReading (sensor : Fin 44) (quarterDegrees : BitVec 11)
  /-- SLOWDOWN_EVALUATION (R795): Every STEP_US µs, each ring's slowdown level is raised or lowered by temperature.
  -/
  | slowdownEvaluation
  /-- THRESHOLD_WRITE (R800): A PWR_THR_CLS write with inconsistent thresholds is dropped whole. -/
  | thresholdWrite (p : Path) (k : Fin 3) (v : Word)
  /-- MBIST (R806): MBIST runs March C- on the cluster stores and the configuration memory. -/
  | mbist (p : Path) (failed : List (Fin 1088)) (cfgFailed : Bool)
  /-- LBIST (R807): LBIST runs scan patterns in every non-failed cluster and compares signatures. -/
  | lbist (p : Path) (failed : List (Fin 1088))
  /-- HBM_BIST (R811): HBM_BIST tests the named stacks at PHY or STACK depth. -/
  | hbmBist (p : Path) (failedPc : List (Fin 128))
  /-- BIST_TIMEOUT (R812): A BIST command not complete within 10 s ends with TIMEOUT. -/
  | bistTimeout
  /-- LOOPBACK_ENABLE_WRITE (R801): A non-zero MGE_LB, FAB_IO_LB or TMK_LB write outside DIAGNOSE is dropped. -/
  | loopbackEnableWrite (p : Path) (off : WinOff) (v : Word)
  /-- TAP_INSTRUCTION_UPDATE (R815): A new TAP instruction takes effect; the pin-driving instructions hand the pins
  to the boundary register. -/
  | tapInstructionUpdate (code : Byte)
  /-- TEST_LOGIC_RESET (R815): Test-Logic-Reset returns every pin to its unit and selects IDCODE. -/
  | testLogicReset
  /-- VCCIO_LOSS (R835): A bank whose VCCIO falls below 0.5 V holds its pins high-impedance and reads 0. -/
  | vccioLoss (bank : Fin 24)
  /-- VCCIO_RETURN (R835): When VCCIO returns to range, the bank resumes its function within 10 µs. -/
  | vccioReturn (bank : Fin 24)
  /-- CROSSBAR_GRANT (R279): In each ring cycle, each Confluence output port grants scheduled flits, then markers,
  then stored unscheduled packets, oldest first within a class. -/
  | crossbarGrant (d : Fin 4) (port : Fin 20)
  /-- USER_CLOCK_EDGE (R630): At an edge of a fabric user clock, the port buffer registers input port words,
  published words reach their nets, and OUT_TICK and IN_TAKEN pulse. -/
  | userClockEdge (k : Fin 16) (bits : Sparse (List Bool))
  /-- USER_CLOCK_LOCK (R855): A fabric user clock manager gains or loses lock, and the port words assigned to that
  clock stop or resume. -/
  | userClockLock (k : Fin 16) (locked : Bool)
  /-- PRBS_CHECKER_BIT (R575): In TEST, the PRBS checker takes received bits, declares or loses SYNC, and counts
  bits and mismatches. -/
  | prbsCheckerBit (lane : LaneId) (bit : Bool)
  /-- SEC_MAX (R498): Tidemark time reaches the largest SEC, stops at NS 999,999,999 with FRAC all ones, and sets
  TMK_ERR.SEC_MAX. -/
  | secMax
  /-- RESUME_MARKER_ARRIVAL (R280): A broadcast RESUME marker reaches a halted cluster, which resumes issuing steps
  from its halt point. -/
  | resumeMarkerArrival (c : ClusterId)
  /-- PACE_GAP_EXPIRY (R610): GAP_NS after its barrier completes, a survivor pacing a CATCHUP partner issues its
  release. -/
  | paceGapExpiry
  /-- AUTH_VERIFY_DONE (R725): A trace-authorisation VERIFY finishes its certificate checks, sets RESULT, may add
  CORES, clears BUSY and renews the nonce. -/
  | authVerifyDone
  /-- VBAT_LOSS (R836): VBAT is removed while VCC_AUX is absent, and the battery-backed key is lost. -/
  | vbatLoss
  /-- TCK_EDGE (R816): A TCK edge advances the TAP controller: EXTEST_TRAIN toggles, and the test receivers sample
  at Capture-DR. -/
  | tckEdge (rising tms tdi : Bool) (pins : List Bool)
  deriving DecidableEq, Repr

end Sys2Proof
end

