-- ==== Sys2Proof/Decode.lean ====
section
/-! DEFINITION. The command that a word spells by the opcode table's bits. The table gives no row any bits, so no word
spells a command. -/

namespace Sys2Proof

/-- The command that a word spells: none, for the table gives no row an encoding (log entry 1). -/
def decodeTableWord (_nbits _w : Nat) : Option Instr := none

end Sys2Proof
end

