-- ==== Sys2Proof/Config.lean ====
section
/-! DEFINITION. The values that the spec leaves open, and the functions that outside standards fix: constants without a
body, so that nothing proved of the model rests on a value of them. -/

namespace Sys2Proof.Config

/-- A byte whose value the spec leaves open, by the count of free values taken (log entry 3). -/
opaque freeByte : Nat → BitVec 8

/-- A word of 18 bits whose value the spec leaves open (log entry 3). -/
opaque freeSyl : Nat → BitVec 18

/-- A word of 32 bits whose value the spec leaves open (log entry 3). -/
opaque freeWord : Nat → BitVec 32

/-- The values that the hub entropy source gives to WKE_AUTH_NONCE, in order (R725; log entry 3). -/
opaque nonce : Nat → BitVec 32

/-- A number of 15 bits whose value the spec leaves open (log entry 3). -/
opaque freeCount : Nat → BitVec 15

/-- One less than the words that a crossing between clock domains holds before it refuses the next (R46, R47; log entry
75). -/
opaque crossDepth : Nat

/-- Firmware that runs has retrained a stack by a hub cycle (R854, HBC_STAT fields; log entry 37). -/
opaque retrained : Nat → Nat → Bool

/-- Which VC an error of a SLOT record between two clusters names in RESULT1, by the record's offset: that of the source,
or that of the destination (R412; log entry 28). -/
opaque slotSrc : Nat → Bool

/-- Units of 32 bytes of the staging buffer that are held back beyond those that one capture's end needs (R469; log entry
77). -/
opaque acqHeld : Nat

/-- SHA-384 of FIPS 180-4, which the spec names and does not restate (log entry 4). -/
opaque sha384 : List (BitVec 8) → BitVec 384

/-- ECDSA verification over P-384 of FIPS 186-5: public key, digest and signature (log entry 4). -/
opaque ecdsaVerify : List (BitVec 8) → BitVec 384 → List (BitVec 8) → Bool

/-- AES-256-GCM decryption of SP 800-38D: key, IV, additional data and ciphertext give the plaintext (log entry 4). -/
opaque gcmDecrypt : BitVec 256 → List (BitVec 8) → List (BitVec 8) → List (BitVec 8) → List (BitVec 8)

/-- AES-256-GCM authentication of SP 800-38D: key, IV, additional data, ciphertext and tag (log entry 4). -/
opaque gcmAuthentic : BitVec 256 → List (BitVec 8) → List (BitVec 8) → List (BitVec 8) → List (BitVec 8) → Bool

/-! ### The fabric bit database

The spec gives the configuration bits of the look-up tables (R649) and says that the place of the others is in a database
that it does not give (log entry 5). Each constant below reads that database: it is a function of the configuration
memory's data bits, by frame key × 128 + syllable. -/

/-- An end of a fabric wire that a configuration connects to a source (R614 to R619, R624). -/
inductive Sink where
  /-- An input of a cell: I0 to I5; 6 the bypass input DX. -/
  | input (tile cell i : Nat)
  /-- The clock enable of a flip-flop. -/
  | enable (tile cell j : Nat)
  /-- The set or reset of a flip-flop. -/
  | setReset (tile cell j : Nat)
  /-- A select net of a fan selector, by net index: 0 lower, 1 upper. -/
  | fanSelect (n bit : Nat)
  /-- A select net of a pair selector, by tile pair: 0 lower, 1 upper. -/
  | pairSelect (m bit : Nat)
  /-- The data of a long line's driver point, by its place along the line. -/
  | driverData (line place : Nat)
  /-- The enable of a dynamic driver point. -/
  | driverEnable (line place : Nat)
  /-- A net of an input port word. -/
  | portWord (w bit : Nat)
  /-- A bit of the word that a pin's output serialiser takes. -/
  | outBit (pin bit : Nat)
  deriving DecidableEq, Repr

/-- What drives a fabric wire. -/
inductive Source where
  /-- A constant. -/
  | const (b : Bool)
  /-- A net of R616. -/
  | net (n : Nat)
  /-- A long line. -/
  | line (l : Nat)
  /-- A net of an output port word. -/
  | portWord (w bit : Nat)
  /-- OUT_TICK of a user clock. -/
  | tick (k : Nat)
  /-- IN_TAKEN of a user clock. -/
  | taken (k : Nat)
  /-- A bit of the word that a pin's input deserialiser holds. -/
  | inBit (pin bit : Nat)
  deriving DecidableEq, Repr, Inhabited

/-- The settings of a flip-flop (R614). -/
structure FlopMode where
  /-- Its data: 0 Y, 1 Z, 2 DX. -/
  data : Nat
  /-- Which of the two clock nets of its tile clocks it. -/
  clock : Bool
  /-- It has a clock enable. -/
  enabled : Bool
  /-- Its set or reset, if it has one: asynchronous or not, and the value it gives. -/
  setReset : Option (Bool × Bool)
  /-- Its configured initial value (R662). -/
  init : Bool
  deriving DecidableEq, Repr, Inhabited

/-- The split bit among the eight setting bits of a cell (R614, R649). -/
opaque cellSplit : Nat → Bool

/-- The settings of flip-flop Q0 or Q1 in the eight setting bits of a cell (R614, R649). -/
opaque flopMode : Nat → Nat → FlopMode

/-- The user clock on the first or the second clock net of a tile (R614, R626). -/
opaque tileClock : Sparse Nat → Nat → Bool → Nat

/-- The source of a wire's end (R616 to R619). -/
opaque source : Sparse Nat → Sink → Source

/-- A driver point of a long line, by its place along the line: 0 off, 1 static, 2 dynamic (R619). -/
opaque driverPoint : Sparse Nat → Nat → Nat → Nat

/-- The output serialiser of a pin: the logarithm of its ratio, and the user clock of its words (R624). -/
opaque serialiser : Sparse Nat → Nat → Nat × Nat

/-- The input deserialiser of a pin: the logarithm of its ratio, and the user clock of its words (R624). -/
opaque deserialiser : Sparse Nat → Nat → Nat × Nat

/-- The level of a long line that no driver point has driven yet (R622; log entry 73). -/
opaque keeperStart : Nat → Bool

/-- The level of a net that depends on itself through no flip-flop, by the count of free values taken (log entry 73). -/
opaque loopLevel : Nat → Bool

end Sys2Proof.Config
end

