-- ==== Sys2Proof/Machine/Bits.lean ====
section
/-! DEFINITION. Bit fields of numbers, bytes, check codes, and the sparse store shared by every table and memory. -/

namespace Sys2Proof.Machine

/-- A field of a register: the register's window offset, the field's lowest bit and its width. -/
structure Fld where
  /-- Window offset of the register. -/
  off : Nat
  /-- Lowest bit of the field. -/
  lo : Nat
  /-- Width of the field in bits. -/
  w : Nat
  deriving DecidableEq, Repr

/-- Bits lo + w − 1 to lo of a number. -/
def slice (n lo w : Nat) : Nat := n / 2 ^ lo % 2 ^ w

/-- The number with bits lo + w − 1 to lo replaced by v. -/
def splice (n lo w v : Nat) : Nat := n % 2 ^ lo + (v % 2 ^ w) * 2 ^ lo + n / 2 ^ (lo + w) * 2 ^ (lo + w)

/-- Bit i of a number. -/
def bitOf (n i : Nat) : Bool := n / 2 ^ i % 2 == 1

/-- An item put before the first one that it is not after. -/
def insertBy {α : Type} (le : α → α → Bool) (x : α) : List α → List α
  | [] => [x]
  | y :: ys => if le x y then x :: y :: ys else y :: insertBy le x ys

/-- A list in order; equal items keep theirs. -/
def sortBy {α : Type} (le : α → α → Bool) (l : List α) : List α := l.foldr (insertBy le) []

/-- A number of one bit. -/
def ofBool (b : Bool) : Nat := if b then 1 else 0

/-- The number with bit i set to b. -/
def putBit (n i : Nat) (b : Bool) : Nat := splice n i 1 (ofBool b)

/-- The signed value of the low w bits of a number. -/
def signed (w n : Nat) : Int := if bitOf n (w - 1) then (slice n 0 w : Int) - 2 ^ w else slice n 0 w

/-- The w-bit two's complement code of an integer. -/
def unsigned (w : Nat) (z : Int) : Nat := (z % 2 ^ w).toNat

/-- An integer held within the range from lo to hi. -/
def clampInt (lo hi z : Int) : Int := if z < lo then lo else if hi < z then hi else z

/-- A sum that saturates at the largest number of w bits. -/
def satAdd (w n k : Nat) : Nat := min (n + k) (2 ^ w - 1)

/-- The low k bytes of a number, the least significant first. -/
def bytesLE : Nat → Nat → List Byte
  | 0, _ => []
  | k + 1, n => BitVec.ofNat 8 n :: bytesLE k (n / 256)

/-- The number whose bytes, least significant first, are given. -/
def ofBytesLE : List Byte → Nat
  | [] => 0
  | b :: bs => b.toNat + 256 * ofBytesLE bs

/-- The number whose bytes, most significant first, are given. -/
def ofBytesBE (bs : List Byte) : Nat := bs.foldl (fun a b => a * 256 + b.toNat) 0

/-- The low k bytes of a number, the most significant first. -/
def bytesBE (k n : Nat) : List Byte := (bytesLE k n).reverse

/-- The number of ones in the low k bits. -/
def popcount : Nat → Nat → Nat
  | 0, _ => 0
  | k + 1, n => n % 2 + popcount k (n / 2)

/-- The even parity of the low k bits: 1 when the number of ones is odd. -/
def parityOf (k n : Nat) : Nat := popcount k n % 2

/-- The number of bits a number takes, as used by the comparisons of R748 and the tables of bit positions. -/
def natLog2Up (n : Nat) : Nat := if n ≤ 1 then 0 else (n - 1).log2 + 1

/-- One byte of the reflected CRC-32 of R387. -/
def crc32Step (c : Nat) (b : Byte) : Nat :=
  (List.range 8).foldl (fun c _ => if c % 2 = 1 then c / 2 ^^^ 0xEDB88320 else c / 2) (c ^^^ b.toNat)

/-- The CRC-32 of IEEE 802.3 (R387). -/
def crc32 (bs : List Byte) : Nat := bs.foldl crc32Step 0xFFFFFFFF ^^^ 0xFFFFFFFF

/-- One bit, most significant first, of a CRC of width w and the given polynomial. -/
def crcBit (w poly c : Nat) (b : Bool) : Nat :=
  if bitOf c (w - 1) == b then c * 2 % 2 ^ w else (c * 2 % 2 ^ w) ^^^ poly

/-- The bits of a number of w bits, the most significant first. -/
def bitsMSB (w n : Nat) : List Bool := (List.range w).reverse.map (bitOf n)

/-- The bits of a number of w bits, the least significant first. -/
def bitsLSB (w n : Nat) : List Bool := (List.range w).map (bitOf n)

/-- The number whose bits, least significant first, are given. -/
def ofBitsLSB : List Bool → Nat
  | [] => 0
  | b :: bs => ofBool b + 2 * ofBitsLSB bs

namespace Sparse

variable {β : Type}

/-- The item at a key: the listed one, or what an unlisted key reads as. -/
def get (dflt : β) : Sparse β → Nat → β
  | [], _ => dflt
  | (k, v) :: m, a => if a == k then v else get dflt m a

/-- The store with the item at a key removed. -/
def del : Sparse β → Nat → Sparse β
  | [], _ => []
  | (k, v) :: m, a => if a == k then del m a else (k, v) :: del m a

/-- The store with an item listed at its place in rising order of keys. -/
def ins : Sparse β → Nat → β → Sparse β
  | [], a, x => [(a, x)]
  | (k, v) :: m, a, x => if Nat.blt a k then (a, x) :: (k, v) :: m else if a == k then (a, x) :: m else (k, v) :: ins m a x

/-- A write: the item is listed, or removed when it is what an unlisted key reads as. -/
def put [DecidableEq β] (dflt : β) (m : Sparse β) (a : Nat) (x : β) : Sparse β :=
  if x = dflt then del m a else ins m a x

/-- The store with every key that fails a test removed. -/
def keep (p : Nat → Bool) (m : Sparse β) : Sparse β := m.filter fun kv => p kv.1

/-- Writes in order, from a list of keys and items. -/
def putAll [DecidableEq β] (dflt : β) (m : Sparse β) (kvs : List (Nat × β)) : Sparse β :=
  kvs.foldl (fun m kv => put dflt m kv.1 kv.2) m

/-- Items written at consecutive keys. -/
def putList [DecidableEq β] (dflt : β) (m : Sparse β) (a : Nat) : List β → Sparse β
  | [] => m
  | x :: xs => putList dflt (put dflt m a x) (a + 1) xs

/-- Items read from consecutive keys. -/
def getList (dflt : β) (m : Sparse β) (a : Nat) : Nat → List β
  | 0 => []
  | n + 1 => get dflt m a :: getList dflt m (a + 1) n

/-- The canonical form: keys strictly rising from a bound, and no item equal to what an unlisted key reads as. -/
def wfFrom [DecidableEq β] (dflt : Nat → β) : Nat → Sparse β → Bool
  | _, [] => true
  | b, (k, v) :: m => Nat.ble b k && !decide (v = dflt k) && wfFrom dflt (k + 1) m

/-- The canonical form of a store. -/
def wf [DecidableEq β] (dflt : Nat → β) (m : Sparse β) : Bool := wfFrom dflt 0 m

end Sparse

end Sys2Proof.Machine
end

