-- ==== Sys2Proof/Machine/Fields.lean ====
section
/-! DEFINITION. The names of the registers and of their fields, as the chapters give them: a register's name is its
window offset (R818, R821), a field's name is its register, its lowest bit and its width. -/

namespace Sys2Proof.Machine.Reg

/-- The window offset of cluster c (R82). -/
def cluBase (c : Nat) : Nat := 0x8000000 + c * 0x4000
/-- The window offset of quad q (R580). -/
def quadBase (q : Nat) : Nat := 0x1000000 + q * 0x10000
/-- The window offset of lane l (R580). -/
def laneBase (l : Nat) : Nat := 0x1000000 + l / 4 * 0x10000 + 0x1000 + l % 4 * 0x400
/-- The window offset of the HBC of die d (R362). -/
def hbcBase (d : Nat) : Nat := 0x2000000 + d * 0x100000
/-- The window offset of the MLR of die d (R313). -/
def mlrBase (d : Nat) : Nat := 0x3000000 + d * 0x400000
/-- The window offset of the Ostler registers of core c. -/
def ostCoreBase (c : Nat) : Nat := 0x401000 + c * 0x100
/-- The window offset of the Wake registers of core c. -/
def wkeCoreBase (c : Nat) : Nat := 0x501000 + c * 0x100
/-- The window offset of pulse output n. -/
def pulseBase (n : Nat) : Nat := 0x200800 + n * 0x20
/-- The window offset of capture input n, 8 being PPS_IN. -/
def captureBase (n : Nat) : Nat := 0x200A00 + n * 0x20
/-- The window offset of the stop at ring r, position p, of die d (R313). -/
def stopBase (d r p : Nat) : Nat := mlrBase d + 0x10000 + r * 0x1000 + p * 0x40

def DEV_ID : Nat := 0
def DEV_ID_PART : Fld := ⟨DEV_ID, 0, 16⟩
def DEV_ID_REV : Fld := ⟨DEV_ID, 16, 4⟩
def DEV_ID_ARCH : Fld := ⟨DEV_ID, 24, 8⟩
def DEV_CAPS : Nat := 4
def DEV_CAPS_DIES : Fld := ⟨DEV_CAPS, 0, 3⟩
def DEV_CAPS_STACKS : Fld := ⟨DEV_CAPS, 3, 3⟩
def DEV_CAPS_QUADS : Fld := ⟨DEV_CAPS, 6, 6⟩
def DEV_CAPS_VCLU : Fld := ⟨DEV_CAPS, 12, 11⟩
def DEV_STRAP : Nat := 8
def DEV_STRAP_PULL : Fld := ⟨DEV_STRAP, 0, 2⟩
def DEV_STRAP_I2C_A : Fld := ⟨DEV_STRAP, 2, 2⟩
def DEV_CTRL : Nat := 0x20
def DEV_CTRL_MODE_REQ : Fld := ⟨DEV_CTRL, 0, 3⟩
def DEV_CTRL_MODE_GO : Fld := ⟨DEV_CTRL, 3, 1⟩
def DEV_CTRL_CHECK : Fld := ⟨DEV_CTRL, 4, 1⟩
def DEV_CTRL_WARM_RST : Fld := ⟨DEV_CTRL, 8, 1⟩
def DEV_CTRL_KEY : Fld := ⟨DEV_CTRL, 24, 8⟩
def DEV_MODE : Nat := 0x24
def DEV_MODE_MODE : Fld := ⟨DEV_MODE, 0, 3⟩
def DEV_MODE_PENDING : Fld := ⟨DEV_MODE, 3, 1⟩
def DEV_MODE_TARGET : Fld := ⟨DEV_MODE, 4, 3⟩
def DEV_MODE_CHECK_ACT : Fld := ⟨DEV_MODE, 7, 1⟩
def DEV_MODE_PROG_VALID : Fld := ⟨DEV_MODE, 8, 1⟩
def DEV_MODE_HOLD : Fld := ⟨DEV_MODE, 9, 1⟩
def DEV_MODE_ROLE : Fld := ⟨DEV_MODE, 10, 2⟩
def DEV_MODE_MODE_ERR : Fld := ⟨DEV_MODE, 12, 4⟩
def DEV_MODE_MODE_REJ : Fld := ⟨DEV_MODE, 16, 1⟩
def DEV_RST_CAUSE : Nat := 0x30
def DEV_RST_CAUSE_CAUSE : Fld := ⟨DEV_RST_CAUSE, 0, 2⟩
def DEV_RST_CAUSE_PATH : Fld := ⟨DEV_RST_CAUSE, 4, 5⟩
def DEV_RST_CAUSE_HWDT_CNT : Fld := ⟨DEV_RST_CAUSE, 16, 8⟩
def DEV_HWDT : Nat := 0x34
def DEV_HWDT_TIMEOUT_MS : Fld := ⟨DEV_HWDT, 0, 16⟩
def DEV_HWDT_EN : Fld := ⟨DEV_HWDT, 16, 1⟩
def DEV_HWDT_KICK : Nat := 0x38
def DEV_HWDT_KICK_KEY : Fld := ⟨DEV_HWDT_KICK, 0, 8⟩
def DEV_RAT_INFO : Nat := 0x3c
def DEV_RAT_INFO_OFFSET : Fld := ⟨DEV_RAT_INFO, 0, 26⟩
def DEV_RAT_INFO_PATH : Fld := ⟨DEV_RAT_INFO, 26, 5⟩
def DEV_RAT_INFO_VALID : Fld := ⟨DEV_RAT_INFO, 31, 1⟩
def DEV_RAT_CNT : Nat := 0x40
def DEV_RAT_CNT_COUNT : Fld := ⟨DEV_RAT_CNT, 0, 16⟩
def DEV_RAT_CNT_WRITE : Fld := ⟨DEV_RAT_CNT, 16, 1⟩
def DEV_BIST_CMD : Nat := 0x100
def DEV_BIST_CMD_CMD : Fld := ⟨DEV_BIST_CMD, 0, 4⟩
def DEV_BIST_STATUS : Nat := 0x104
def DEV_BIST_STATUS_BUSY : Fld := ⟨DEV_BIST_STATUS, 0, 1⟩
def DEV_BIST_STATUS_DONE : Fld := ⟨DEV_BIST_STATUS, 1, 1⟩
def DEV_BIST_STATUS_ERR : Fld := ⟨DEV_BIST_STATUS, 2, 4⟩
def DEV_BIST_STATUS_TICKET : Fld := ⟨DEV_BIST_STATUS, 6, 4⟩
def DEV_BIST_STATUS_READ_EARLY : Fld := ⟨DEV_BIST_STATUS, 10, 1⟩
def DEV_BIST_STATUS_CMD_REJECT : Fld := ⟨DEV_BIST_STATUS, 11, 1⟩
def DEV_BIST_STATUS_JTAG_PINS : Fld := ⟨DEV_BIST_STATUS, 16, 1⟩
def DEV_BIST_RESULT (i : Nat) : Nat := 0x108 + 4 * i
def DEV_BIST_ARG (i : Nat) : Nat := 0x110 + 4 * i
def DEV_BIST_FAIL (i : Nat) : Nat := 0x180 + 4 * i
def PWR_CFG : Nat := 0x100000
def PWR_CFG_WAKE_EDGE : Fld := ⟨PWR_CFG, 0, 1⟩
def PWR_ERR : Nat := 0x100004
def PWR_ERR_WAKE_FAIL : Fld := ⟨PWR_ERR, 0, 1⟩
def PWR_ERR_RST_REJ : Fld := ⟨PWR_ERR, 1, 1⟩
def PWR_ERR_INFO : Nat := 0x100008
def PWR_ERR_INFO_DOMAIN : Fld := ⟨PWR_ERR_INFO, 0, 7⟩
def PWR_ERR_INFO_STEP : Fld := ⟨PWR_ERR_INFO, 7, 2⟩
def PWR_ERR_INFO_VALID : Fld := ⟨PWR_ERR_INFO, 31, 1⟩
def PWR_TMO : Nat := 0x10000c
def PWR_TMO_STEP_US : Fld := ⟨PWR_TMO, 0, 16⟩
def PWR_OFFACC : Nat := 0x100010
def PWR_OFFACC_OFFSET : Fld := ⟨PWR_OFFACC, 0, 26⟩
def PWR_OFFACC_PATH : Fld := ⟨PWR_OFFACC, 26, 5⟩
def PWR_OFFACC_VALID : Fld := ⟨PWR_OFFACC, 31, 1⟩
def PWR_OFFACC_CNT : Nat := 0x100014
def PWR_OFFACC_CNT_COUNT : Fld := ⟨PWR_OFFACC_CNT, 0, 16⟩
def PWR_OFFACC_CNT_WRITE : Fld := ⟨PWR_OFFACC_CNT, 16, 1⟩
def PWR_VOTE_SW (i : Nat) : Nat := 0x100020 + 4 * i
def PWR_THR_CFG : Nat := 0x100040
def PWR_THR_CFG_STEP_US : Fld := ⟨PWR_THR_CFG, 0, 16⟩
def PWR_THR_CLS (i : Nat) : Nat := 0x100044 + 4 * i
def PWR_THR_CLS_WARN (i : Nat) : Fld := ⟨PWR_THR_CLS i, 0, 8⟩
def PWR_THR_CLS_SLOW (i : Nat) : Fld := ⟨PWR_THR_CLS i, 8, 8⟩
def PWR_THR_CLS_CRIT (i : Nat) : Fld := ⟨PWR_THR_CLS i, 16, 8⟩
def PWR_THR_CLS_HYST (i : Nat) : Fld := ⟨PWR_THR_CLS i, 24, 4⟩
def PWR_THR_STAT : Nat := 0x100050
def PWR_THR_STAT_CRIT : Fld := ⟨PWR_THR_STAT + 4, 31, 1⟩
def PWR_SLOW (i : Nat) : Nat := 0x100060 + 4 * i
def PWR_DOM (i : Nat) : Nat := 0x100100 + 4 * i
def PWR_DOM_STATE (i : Nat) : Fld := ⟨PWR_DOM i, 0, 2⟩
def PWR_DOM_WANTED (i : Nat) : Fld := ⟨PWR_DOM i, 2, 1⟩
def PWR_DOM_FAIL (i : Nat) : Fld := ⟨PWR_DOM i, 3, 1⟩
def PWR_DOM_PD_STEP (i : Nat) : Fld := ⟨PWR_DOM i, 4, 3⟩
def PWR_DOM_RST (i : Nat) : Fld := ⟨PWR_DOM i, 7, 1⟩
def PWR_DOM_VOTES (i : Nat) : Fld := ⟨PWR_DOM i, 8, 8⟩
def PWR_TEMP (i : Nat) : Nat := 0x100400 + 4 * i
def PWR_TEMP_TEMP (i : Nat) : Fld := ⟨PWR_TEMP i, 0, 11⟩
def PWR_TEMP_VALID (i : Nat) : Fld := ⟨PWR_TEMP i, 15, 1⟩
def PWR_TEMP_MAX (i : Nat) : Fld := ⟨PWR_TEMP i, 16, 11⟩
def TMK_SEC : Nat := 0x200000
def TMK_NS : Nat := 0x200008
def TMK_NS_NS : Fld := ⟨TMK_NS, 0, 30⟩
def TMK_FRAC : Nat := 0x20000c
def TMK_FRAC_FRAC : Fld := ⟨TMK_FRAC, 0, 18⟩
def TMK_SET_SEC : Nat := 0x200010
def TMK_SET_NS : Nat := 0x200018
def TMK_SET_NS_NS : Fld := ⟨TMK_SET_NS, 0, 30⟩
def TMK_SET_FRAC : Nat := 0x20001c
def TMK_SET_FRAC_FRAC : Fld := ⟨TMK_SET_FRAC, 0, 18⟩
def TMK_OFS : Nat := 0x200020
def TMK_CMD : Nat := 0x200028
def TMK_CMD_SET : Fld := ⟨TMK_CMD, 0, 1⟩
def TMK_CMD_OFFSET : Fld := ⟨TMK_CMD, 1, 1⟩
def TMK_ADJ : Nat := 0x20002c
def TMK_SRV_CFG : Nat := 0x200030
def TMK_SRV_CFG_SRC : Fld := ⟨TMK_SRV_CFG, 0, 3⟩
def TMK_SRV_CFG_STEP_EN : Fld := ⟨TMK_SRV_CFG, 3, 1⟩
def TMK_SRV_CFG_KP_SHIFT : Fld := ⟨TMK_SRV_CFG, 4, 5⟩
def TMK_SRV_CFG_KI_SHIFT : Fld := ⟨TMK_SRV_CFG, 9, 5⟩
def TMK_SRV_LOCK : Nat := 0x200034
def TMK_SRV_LOCK_LOCK_THR_NS : Fld := ⟨TMK_SRV_LOCK, 0, 16⟩
def TMK_SRV_LOCK_LOCK_CNT : Fld := ⟨TMK_SRV_LOCK, 16, 8⟩
def TMK_SRV_LOCK_HOLD_100MS : Fld := ⟨TMK_SRV_LOCK, 24, 8⟩
def TMK_STEP_THR : Nat := 0x200038
def TMK_SRV_STAT : Nat := 0x20003c
def TMK_SRV_STAT_LOCKED : Fld := ⟨TMK_SRV_STAT, 0, 1⟩
def TMK_SRV_STAT_HOLDOVER : Fld := ⟨TMK_SRV_STAT, 1, 1⟩
def TMK_SRV_STAT_REF_OK : Fld := ⟨TMK_SRV_STAT, 2, 1⟩
def TMK_SRV_STAT_STEPS : Fld := ⟨TMK_SRV_STAT, 16, 16⟩
def TMK_SRV_LAST : Nat := 0x200040
def TMK_MEAS : Nat := 0x200048
def TMK_ERR : Nat := 0x200050
def TMK_ERR_ARG : Fld := ⟨TMK_ERR, 0, 1⟩
def TMK_ERR_STEP_REJ : Fld := ⟨TMK_ERR, 1, 1⟩
def TMK_ERR_STEP_BLOCK : Fld := ⟨TMK_ERR, 2, 1⟩
def TMK_ERR_SRC : Fld := ⟨TMK_ERR, 3, 1⟩
def TMK_ERR_PPS_MISMATCH : Fld := ⟨TMK_ERR, 4, 1⟩
def TMK_ERR_TXTS_OVF : Fld := ⟨TMK_ERR, 5, 1⟩
def TMK_ERR_SEC_MAX : Fld := ⟨TMK_ERR, 6, 1⟩
def TMK_TXTS_SEC : Nat := 0x200060
def TMK_TXTS_NS : Nat := 0x200068
def TMK_TXTS_FRAC : Nat := 0x20006c
def TMK_TXTS_ID : Nat := 0x200070
def TMK_TXTS_ID_SEQUENCEID : Fld := ⟨TMK_TXTS_ID, 0, 16⟩
def TMK_TXTS_ID_MESSAGETYPE : Fld := ⟨TMK_TXTS_ID, 16, 4⟩
def TMK_TXTS_ID_VALID : Fld := ⟨TMK_TXTS_ID, 31, 1⟩
def TMK_SHX_CFG : Nat := 0x200080
def TMK_SHX_CFG_LANE : Fld := ⟨TMK_SHX_CFG, 0, 7⟩
def TMK_SHX_CFG_EN : Fld := ⟨TMK_SHX_CFG, 7, 1⟩
def TMK_SHX_CFG_EXP : Fld := ⟨TMK_SHX_CFG, 8, 4⟩
def TMK_SHX_STAT : Nat := 0x200084
def TMK_SHX_STAT_DONE : Fld := ⟨TMK_SHX_STAT, 0, 16⟩
def TMK_SHX_STAT_LOST : Fld := ⟨TMK_SHX_STAT, 16, 16⟩
def TMK_SHX_LAST : Nat := 0x200088
def TMK_PPS_CFG : Nat := 0x200090
def TMK_PPS_CFG_OUT_EN : Fld := ⟨TMK_PPS_CFG, 0, 1⟩
def TMK_PPS_CFG_WIDTH_MS : Fld := ⟨TMK_PPS_CFG, 16, 10⟩
def TMK_PORT_LAT (i : Nat) : Nat := 0x200100 + 8 * i
def TMK_PORT_LAT_INGRESS (i : Nat) : Fld := ⟨TMK_PORT_LAT i, 0, 16⟩
def TMK_PORT_LAT_EGRESS (i : Nat) : Fld := ⟨TMK_PORT_LAT i, 16, 16⟩
def TMK_PORT_ASYM (i : Nat) : Nat := 0x200104 + 8 * i
def TMK_LANE_ASYM (i : Nat) : Nat := 0x200400 + 4 * i
def TMK_LB : Nat := 0x200c00
def TMK_LB_CAP : Fld := ⟨TMK_LB, 0, 8⟩
def TMK_LB_PPS : Fld := ⟨TMK_LB, 8, 1⟩
def TMK_PO_START_SEC (n : Nat) : Nat := pulseBase n
def TMK_PO_START_NS (n : Nat) : Nat := pulseBase n + 8
def TMK_PO_START_NS_NS (n : Nat) : Fld := ⟨TMK_PO_START_NS n, 0, 30⟩
def TMK_PO_PER_NS (n : Nat) : Nat := pulseBase n + 0xc
def TMK_PO_PER_NS_PER_NS (n : Nat) : Fld := ⟨TMK_PO_PER_NS n, 0, 30⟩
def TMK_PO_PER_FRAC (n : Nat) : Nat := pulseBase n + 0x10
def TMK_PO_PER_FRAC_PER_FRAC (n : Nat) : Fld := ⟨TMK_PO_PER_FRAC n, 0, 18⟩
def TMK_PO_WIDTH (n : Nat) : Nat := pulseBase n + 0x14
def TMK_PO_WIDTH_WIDTH_NS (n : Nat) : Fld := ⟨TMK_PO_WIDTH n, 0, 30⟩
def TMK_PO_CTRL (n : Nat) : Nat := pulseBase n + 0x18
def TMK_PO_CTRL_ENABLE (n : Nat) : Fld := ⟨TMK_PO_CTRL n, 0, 1⟩
def TMK_PO_CTRL_PERIODIC (n : Nat) : Fld := ⟨TMK_PO_CTRL n, 1, 1⟩
def TMK_PO_CTRL_POL (n : Nat) : Fld := ⟨TMK_PO_CTRL n, 2, 1⟩
def TMK_PO_STAT (n : Nat) : Nat := pulseBase n + 0x1c
def TMK_PO_STAT_MISSED (n : Nat) : Fld := ⟨TMK_PO_STAT n, 0, 16⟩
def TMK_CAP_CTRL (n : Nat) : Nat := captureBase n
def TMK_CAP_CTRL_EDGE (n : Nat) : Fld := ⟨TMK_CAP_CTRL n, 0, 2⟩
def TMK_CAP_STAT (n : Nat) : Nat := captureBase n + 4
def TMK_CAP_STAT_COUNT (n : Nat) : Fld := ⟨TMK_CAP_STAT n, 0, 5⟩
def TMK_CAP_STAT_EMPTY_RD (n : Nat) : Fld := ⟨TMK_CAP_STAT n, 5, 1⟩
def TMK_CAP_STAT_OVF (n : Nat) : Fld := ⟨TMK_CAP_STAT n, 16, 16⟩
def TMK_CAP_SEC (n : Nat) : Nat := captureBase n + 8
def TMK_CAP_NS (n : Nat) : Nat := captureBase n + 0x10
def TMK_CAP_NS_NS (n : Nat) : Fld := ⟨TMK_CAP_NS n, 0, 30⟩
def TMK_CAP_FRAC (n : Nat) : Nat := captureBase n + 0x14
def TMK_CAP_FRAC_FRAC (n : Nat) : Fld := ⟨TMK_CAP_FRAC n, 0, 18⟩
def GBK_CFG : Nat := 0x300000
def GBK_CFG_INTERVAL_MS : Fld := ⟨GBK_CFG, 0, 16⟩
def GBK_CFG_EN : Fld := ⟨GBK_CFG, 16, 1⟩
def GBK_STAT : Nat := 0x300004
def GBK_STAT_HEAD : Fld := ⟨GBK_STAT, 0, 16⟩
def GBK_STAT_SCAN_DONE : Fld := ⟨GBK_STAT, 16, 1⟩
def GBK_STAT_OPEN : Fld := ⟨GBK_STAT, 17, 7⟩
def GBK_STAT_QUEUE : Fld := ⟨GBK_STAT, 24, 6⟩
def GBK_SEQ : Nat := 0x300008
def GBK_ERR : Nat := 0x30000c
def GBK_ERR_DROP_OCC : Fld := ⟨GBK_ERR, 0, 1⟩
def GBK_ERR_DROP_REC : Fld := ⟨GBK_ERR, 1, 1⟩
def GBK_ERR_SEV_REJ : Fld := ⟨GBK_ERR, 2, 1⟩
def GBK_DROP : Nat := 0x300010
def GBK_DROP_OCC : Fld := ⟨GBK_DROP, 0, 16⟩
def GBK_DROP_REC : Fld := ⟨GBK_DROP, 16, 16⟩
def GBK_BAD : Nat := 0x300014
def GBK_BAD_SLOTS : Fld := ⟨GBK_BAD, 0, 17⟩
def GBK_SEV_ADDR : Nat := 0x300020
def GBK_SEV_ADDR_SRC : Fld := ⟨GBK_SEV_ADDR, 0, 12⟩
def GBK_SEV_DATA : Nat := 0x300024
def GBK_SEV_DATA_SEV : Fld := ⟨GBK_SEV_DATA, 0, 2⟩
def GBK_SEV_DATA_FIXED : Fld := ⟨GBK_SEV_DATA, 2, 1⟩
def GBK_MB_CMD : Nat := 0x300080
def GBK_MB_CMD_CMD : Fld := ⟨GBK_MB_CMD, 0, 4⟩
def GBK_MB_STATUS : Nat := 0x300084
def GBK_MB_STATUS_BUSY : Fld := ⟨GBK_MB_STATUS, 0, 1⟩
def GBK_MB_STATUS_DONE : Fld := ⟨GBK_MB_STATUS, 1, 1⟩
def GBK_MB_STATUS_ERR : Fld := ⟨GBK_MB_STATUS, 2, 4⟩
def GBK_MB_STATUS_TICKET : Fld := ⟨GBK_MB_STATUS, 6, 4⟩
def GBK_MB_STATUS_READ_EARLY : Fld := ⟨GBK_MB_STATUS, 10, 1⟩
def GBK_MB_STATUS_CMD_REJECT : Fld := ⟨GBK_MB_STATUS, 11, 1⟩
def GBK_MB_RESULT : Nat := 0x300088
def GBK_MB_ARG (i : Nat) : Nat := 0x300090 + 4 * i
def OST_CMD : Nat := 0x400000
def OST_CMD_TASK : Fld := ⟨OST_CMD, 0, 14⟩
def OST_CMD_OP : Fld := ⟨OST_CMD, 16, 3⟩
def OST_CMD_ARG : Fld := ⟨OST_CMD + 4, 0, 32⟩
def OST_ERR : Nat := 0x400008
def OST_ERR_BAD_TASK : Fld := ⟨OST_ERR, 0, 1⟩
def OST_ERR_BAD_OP : Fld := ⟨OST_ERR, 1, 1⟩
def OST_ERR_DLY_FULL : Fld := ⟨OST_ERR, 2, 1⟩
def OST_ERR_CMD_DROP : Fld := ⟨OST_ERR, 3, 1⟩
def OST_ERR_TASK_BUSY : Fld := ⟨OST_ERR, 4, 1⟩
def OST_DLY_CNT : Nat := 0x40000c
def OST_DLY_CNT_NOW : Fld := ⟨OST_DLY_CNT, 0, 13⟩
def OST_DLY_CNT_MAX : Fld := ⟨OST_DLY_CNT, 16, 13⟩
def OST_TICK : Nat := 0x400010
def OST_TASK_ADDR : Nat := 0x400020
def OST_TASK_ADDR_TASK : Fld := ⟨OST_TASK_ADDR, 0, 14⟩
def OST_TASK_ADDR_AUTOINC : Fld := ⟨OST_TASK_ADDR, 31, 1⟩
def OST_TASK_D0 : Nat := 0x400024
def OST_TASK_D0_MASK : Fld := ⟨OST_TASK_D0, 0, 16⟩
def OST_TASK_D0_PRI : Fld := ⟨OST_TASK_D0, 16, 3⟩
def OST_TASK_D0_STATE : Fld := ⟨OST_TASK_D0, 20, 3⟩
def OST_TASK_D0_CORE : Fld := ⟨OST_TASK_D0, 24, 4⟩
def OST_TASK_D0_RERUN : Fld := ⟨OST_TASK_D0, 28, 1⟩
def OST_TASK_D0_DRERUN : Fld := ⟨OST_TASK_D0, 29, 1⟩
def OST_TASK_D1 : Nat := 0x400028
def OST_TASK_D2 : Nat := 0x40002c
def OST_EVT_TASK (i : Nat) : Nat := 0x400100 + 4 * i
def OST_EVT_TASK_TASK (i : Nat) : Fld := ⟨OST_EVT_TASK i, 0, 14⟩
def OST_EVT_TASK_EN (i : Nat) : Fld := ⟨OST_EVT_TASK i, 31, 1⟩
def OST_EVT_PEND (i : Nat) : Nat := 0x400200 + 4 * i
def OST_DOORBELL : Nat := 0x400210
def OST_DOORBELL_VALUE : Fld := ⟨OST_DOORBELL, 0, 16⟩
def OST_CORE_CTRL (c : Nat) : Nat := ostCoreBase c
def OST_CORE_CTRL_RUN (c : Nat) : Fld := ⟨OST_CORE_CTRL c, 0, 1⟩
def OST_CORE_CTRL_HOLD (c : Nat) : Fld := ⟨OST_CORE_CTRL c, 1, 1⟩
def OST_CORE_CTRL_STYLE (c : Nat) : Fld := ⟨OST_CORE_CTRL c, 2, 1⟩
def OST_CORE_CTRL_DISPATCH (c : Nat) : Fld := ⟨OST_CORE_CTRL c, 3, 1⟩
def OST_CORE_CTRL_AUTO_RESTART (c : Nat) : Fld := ⟨OST_CORE_CTRL c, 4, 1⟩
def OST_CORE_VEC (c : Nat) : Nat := ostCoreBase c + 8
def OST_CORE_TAKE (c : Nat) : Nat := ostCoreBase c + 0x10
def OST_CORE_TAKE_TASK (c : Nat) : Fld := ⟨OST_CORE_TAKE c, 0, 14⟩
def OST_CORE_TAKE_VALID (c : Nat) : Fld := ⟨OST_CORE_TAKE c, 31, 1⟩
def OST_CORE_WORD (c : Nat) : Nat := ostCoreBase c + 0x18
def OST_CORE_STAT (c : Nat) : Nat := ostCoreBase c + 0x20
def OST_CORE_STAT_STATE (c : Nat) : Fld := ⟨OST_CORE_STAT c, 0, 2⟩
def OST_CORE_STAT_CUR (c : Nat) : Fld := ⟨OST_CORE_STAT c, 2, 14⟩
def OST_CORE_STAT_CUR_V (c : Nat) : Fld := ⟨OST_CORE_STAT c, 16, 1⟩
def OST_CORE_STAT_IRQ (c : Nat) : Fld := ⟨OST_CORE_STAT c, 17, 1⟩
def OST_CORE_WDT (c : Nat) : Nat := ostCoreBase c + 0x28
def OST_CORE_WDT_TIMEOUT_MS (c : Nat) : Fld := ⟨OST_CORE_WDT c, 0, 16⟩
def OST_CORE_WDT_EN (c : Nat) : Fld := ⟨OST_CORE_WDT c, 16, 1⟩
def OST_CORE_WDT_KICK (c : Nat) : Fld := ⟨OST_CORE_WDT c, 17, 1⟩
def OST_CORE_WDT_RECOV (c : Nat) : Fld := ⟨OST_CORE_WDT c, 24, 8⟩
def WKE_CTRL : Nat := 0x500000
def WKE_CTRL_EN : Fld := ⟨WKE_CTRL, 0, 1⟩
def WKE_CTRL_SINK_MODE : Fld := ⟨WKE_CTRL, 1, 1⟩
def WKE_CTRL_TRIG_SW : Fld := ⟨WKE_CTRL, 2, 1⟩
def WKE_CTRL_TS_LOG2 : Fld := ⟨WKE_CTRL, 4, 4⟩
def WKE_CTRL_TRIG_SRC : Fld := ⟨WKE_CTRL, 16, 5⟩
def WKE_STAT : Nat := 0x500004
def WKE_STAT_ACTIVE : Fld := ⟨WKE_STAT, 0, 1⟩
def WKE_STAT_DRAINED : Fld := ⟨WKE_STAT, 1, 1⟩
def WKE_STAT_TRIGGERED : Fld := ⟨WKE_STAT, 2, 1⟩
def WKE_STAT_SINK_FULL : Fld := ⟨WKE_STAT, 3, 1⟩
def WKE_ERR : Nat := 0x500008
def WKE_ERR_STALL_TMO : Fld := ⟨WKE_ERR, 0, 1⟩
def WKE_ERR_DROP : Fld := ⟨WKE_ERR, 1, 1⟩
def WKE_ERR_CFG_REJ : Fld := ⟨WKE_ERR, 2, 1⟩
def WKE_ERR_AUTH_FAIL : Fld := ⟨WKE_ERR, 3, 1⟩
def WKE_STALL_MAX : Nat := 0x50000c
def WKE_STALL_MAX_US : Fld := ⟨WKE_STALL_MAX, 0, 16⟩
def WKE_SINK_BASE : Nat := 0x500010
def WKE_SINK_LEN : Nat := 0x500018
def WKE_SINK_WR : Nat := 0x500020
def WKE_AUTH_ADDR : Nat := 0x500040
def WKE_AUTH_CMD : Nat := 0x500048
def WKE_AUTH_CMD_VERIFY : Fld := ⟨WKE_AUTH_CMD, 0, 1⟩
def WKE_AUTH_CMD_REVOKE : Fld := ⟨WKE_AUTH_CMD, 1, 1⟩
def WKE_AUTH_STAT : Nat := 0x50004c
def WKE_AUTH_STAT_BUSY : Fld := ⟨WKE_AUTH_STAT, 0, 1⟩
def WKE_AUTH_STAT_RESULT : Fld := ⟨WKE_AUTH_STAT, 1, 3⟩
def WKE_AUTH_STAT_CORES : Fld := ⟨WKE_AUTH_STAT, 16, 16⟩
def WKE_AUTH_NONCE : Nat := 0x500050
def WKE_CORE_CFG (c : Nat) : Nat := wkeCoreBase c
def WKE_CORE_CFG_EN (c : Nat) : Fld := ⟨WKE_CORE_CFG c, 0, 1⟩
def WKE_CORE_CFG_STALL (c : Nat) : Fld := ⟨WKE_CORE_CFG c, 1, 1⟩
def WKE_CORE_CFG_STOP_DLY_EN (c : Nat) : Fld := ⟨WKE_CORE_CFG c, 2, 1⟩
def WKE_CORE_CFG_STOP_DLY_US (c : Nat) : Fld := ⟨WKE_CORE_CFG c, 16, 16⟩
def WKE_CORE_STAT (c : Nat) : Nat := wkeCoreBase c + 4
def WKE_CORE_STAT_STATE (c : Nat) : Fld := ⟨WKE_CORE_STAT c, 0, 3⟩
def WKE_CORE_STAT_ASLEEP (c : Nat) : Fld := ⟨WKE_CORE_STAT c, 3, 1⟩
def WKE_CORE_STAT_LEVEL (c : Nat) : Fld := ⟨WKE_CORE_STAT c, 4, 10⟩
def WKE_CORE_STAT_DROPS (c : Nat) : Fld := ⟨WKE_CORE_STAT c, 16, 16⟩
def WKE_CMP_ADDR (c i : Nat) : Nat := wkeCoreBase c + 0x40 + 16 * i
def WKE_CMP_CFG (c i : Nat) : Nat := wkeCoreBase c + 0x48 + 16 * i
def WKE_CMP_CFG_ACT (c i : Nat) : Fld := ⟨WKE_CMP_CFG c i, 0, 2⟩
def WKE_CMP_CFG_RANGE (c i : Nat) : Fld := ⟨WKE_CMP_CFG c i, 2, 1⟩
def BLT_CMD : Nat := 0x600000
def BLT_CMD_CMD : Fld := ⟨BLT_CMD, 0, 4⟩
def BLT_STATUS : Nat := 0x600004
def BLT_STATUS_BUSY : Fld := ⟨BLT_STATUS, 0, 1⟩
def BLT_STATUS_DONE : Fld := ⟨BLT_STATUS, 1, 1⟩
def BLT_STATUS_ERR : Fld := ⟨BLT_STATUS, 2, 4⟩
def BLT_STATUS_TICKET : Fld := ⟨BLT_STATUS, 6, 4⟩
def BLT_STATUS_READ_EARLY : Fld := ⟨BLT_STATUS, 10, 1⟩
def BLT_STATUS_CMD_REJECT : Fld := ⟨BLT_STATUS, 11, 1⟩
def BLT_STATUS_PHASE : Fld := ⟨BLT_STATUS, 16, 3⟩
def BLT_RESULT (i : Nat) : Nat := 0x600008 + 4 * i
def BLT_ADDR : Nat := 0x600010
def BLT_LEN : Nat := 0x600018
def BLT_SEL : Nat := 0x600020
def BLT_SEL_CLUSTER : Fld := ⟨BLT_SEL, 0, 11⟩
def BLT_CFG : Nat := 0x600024
def BLT_CFG_TMO_MS : Fld := ⟨BLT_CFG, 0, 16⟩
def BLT_SYS : Nat := 0x600028
def BLT_SYS_DEV : Nat := 0x600030
def BLT_SYS_DEV_DEV_INDEX : Fld := ⟨BLT_SYS_DEV, 0, 8⟩
def BLT_SYS_DEV_NDEV : Fld := ⟨BLT_SYS_DEV, 16, 9⟩
def BLT_SYS_DEV_EN : Fld := ⟨BLT_SYS_DEV, 31, 1⟩
def BLT_LOADED : Nat := 0x600040
def BLT_LOADED_NPART : Fld := ⟨BLT_LOADED, 0, 11⟩
def BLT_LOADED_FLEN : Fld := ⟨BLT_LOADED, 16, 6⟩
def BLT_LOADED_PINNED : Fld := ⟨BLT_LOADED, 24, 1⟩
def BLT_LOADED_LOADED : Fld := ⟨BLT_LOADED, 31, 1⟩
def BLT_IMG_CRC : Nat := 0x600044
def BLT_LDCH_CTRL : Nat := 0x600050
def BLT_LDCH_CTRL_LANE : Fld := ⟨BLT_LDCH_CTRL, 0, 7⟩
def BLT_LDCH_CTRL_EN : Fld := ⟨BLT_LDCH_CTRL, 8, 1⟩
def BLT_LDCH_CTRL_OVF : Fld := ⟨BLT_LDCH_CTRL, 9, 1⟩
def BLT_LDCH_CTRL_ADDR_REJ : Fld := ⟨BLT_LDCH_CTRL, 10, 1⟩
def BLT_LDCH_ADDR : Nat := 0x600054
def BLT_LDCH_LEN : Nat := 0x60005c
def BLT_LDCH_CNT : Nat := 0x600060
def BLT_VMAP_IDX : Nat := 0x600070
def BLT_VMAP_IDX_VIRT : Fld := ⟨BLT_VMAP_IDX, 0, 10⟩
def BLT_VMAP : Nat := 0x600074
def BLT_VMAP_PHYS : Fld := ⟨BLT_VMAP, 0, 11⟩
def BLT_VMAP_VALID : Fld := ⟨BLT_VMAP, 31, 1⟩
def BLT_FAILMAP (i : Nat) : Nat := 0x600100 + 4 * i
def CFG_CMD : Nat := 0x700000
def CFG_CMD_CMD : Fld := ⟨CFG_CMD, 0, 4⟩
def CFG_STATUS : Nat := 0x700004
def CFG_STATUS_BUSY : Fld := ⟨CFG_STATUS, 0, 1⟩
def CFG_STATUS_DONE : Fld := ⟨CFG_STATUS, 1, 1⟩
def CFG_STATUS_ERR : Fld := ⟨CFG_STATUS, 2, 4⟩
def CFG_STATUS_TICKET : Fld := ⟨CFG_STATUS, 6, 4⟩
def CFG_STATUS_READ_EARLY : Fld := ⟨CFG_STATUS, 10, 1⟩
def CFG_STATUS_CMD_REJECT : Fld := ⟨CFG_STATUS, 11, 1⟩
def CFG_STATUS_PHASE : Fld := ⟨CFG_STATUS, 16, 3⟩
def CFG_STATUS_SLOT : Fld := ⟨CFG_STATUS, 19, 1⟩
def CFG_STATUS_FALLBACK : Fld := ⟨CFG_STATUS, 20, 1⟩
def CFG_RESULT (i : Nat) : Nat := 0x700008 + 4 * i
def CFG_ARG (i : Nat) : Nat := 0x700010 + 4 * i
def CFG_STATE : Nat := 0x700020
def CFG_STATE_CONFIGURED : Fld := ⟨CFG_STATE, 0, 1⟩
def CFG_STATE_DONE_LINE : Fld := ⟨CFG_STATE, 1, 1⟩
def CFG_STATE_GSR : Fld := ⟨CFG_STATE, 2, 1⟩
def CFG_STATE_PULL : Fld := ⟨CFG_STATE, 3, 2⟩
def CFG_STATE_KEYSEL : Fld := ⟨CFG_STATE, 5, 2⟩
def CFG_USERID : Nat := 0x700024
def CFG_DEVID : Nat := 0x700028
def CFG_KEYSTAT : Nat := 0x700030
def CFG_KEYSTAT_FUSE_KEY : Fld := ⟨CFG_KEYSTAT, 0, 1⟩
def CFG_KEYSTAT_KEY_VALID : Fld := ⟨CFG_KEYSTAT, 1, 1⟩
def CFG_KEYSTAT_REVOKE : Fld := ⟨CFG_KEYSTAT, 4, 4⟩
def CFG_KEYSTAT_SVN : Fld := ⟨CFG_KEYSTAT, 8, 6⟩
def CFG_TMO : Nat := 0x700034
def CFG_TMO_STEP_MS : Fld := ⟨CFG_TMO, 0, 16⟩
def CFG_TMO_DONE_MS : Fld := ⟨CFG_TMO, 16, 16⟩
def CFG_BOOTLOG : Nat := 0x700038
def CFG_BOOTLOG_ERR_FIRST : Fld := ⟨CFG_BOOTLOG, 0, 4⟩
def CFG_BOOTLOG_ERR_SECOND : Fld := ⟨CFG_BOOTLOG, 4, 4⟩
def CFG_SCRUB_CTRL : Nat := 0x700040
def CFG_SCRUB_CTRL_EN : Fld := ⟨CFG_SCRUB_CTRL, 0, 1⟩
def CFG_SCRUB_CTRL_DIV : Fld := ⟨CFG_SCRUB_CTRL, 4, 4⟩
def CFG_SCRUB_ERR : Nat := 0x700044
def CFG_SCRUB_ERR_UE : Fld := ⟨CFG_SCRUB_ERR, 0, 1⟩
def CFG_SCRUB_ERR_RESTART : Fld := ⟨CFG_SCRUB_ERR, 1, 1⟩
def CFG_SCRUB_ERR_DEAD : Fld := ⟨CFG_SCRUB_ERR, 2, 1⟩
def CFG_SCRUB_INFO : Nat := 0x700048
def CFG_SCRUB_INFO_KEY : Fld := ⟨CFG_SCRUB_INFO, 0, 18⟩
def CFG_SCRUB_INFO_VALID : Fld := ⟨CFG_SCRUB_INFO, 31, 1⟩
def CFG_SCRUB_CNT : Nat := 0x70004c
def CFG_SCRUB_CNT_CE : Fld := ⟨CFG_SCRUB_CNT, 0, 16⟩
def CFG_SCRUB_CNT_TMR : Fld := ⟨CFG_SCRUB_CNT, 16, 16⟩
def CFG_MRAM_ADDR : Nat := 0x700060
def CFG_MRAM_ADDR_ADDR : Fld := ⟨CFG_MRAM_ADDR, 2, 25⟩
def CFG_MRAM_ADDR_AUTOINC : Fld := ⟨CFG_MRAM_ADDR, 31, 1⟩
def CFG_MRAM_DATA : Nat := 0x700064
def CFG_BBKEY (i : Nat) : Nat := 0x700080 + 4 * i
def CFG_BBKEY_CTRL : Nat := 0x7000a0
def CFG_BBKEY_CTRL_COMMIT : Fld := ⟨CFG_BBKEY_CTRL, 0, 1⟩
def CFG_BBKEY_CTRL_ERASE : Fld := ⟨CFG_BBKEY_CTRL, 1, 1⟩
def FAB_STATUS : Nat := 0x800000
def FAB_STATUS_CONFIGURED : Fld := ⟨FAB_STATUS, 0, 1⟩
def FAB_STATUS_PARKED : Fld := ⟨FAB_STATUS, 1, 1⟩
def FAB_ERR : Nat := 0x800004
def FAB_ERR_CONTENTION : Fld := ⟨FAB_ERR, 0, 1⟩
def FAB_ERR_NO_ENTRY : Fld := ⟨FAB_ERR, 1, 1⟩
def FAB_ERR_OUT_MISS : Fld := ⟨FAB_ERR, 2, 1⟩
def FAB_ERR_PROBE_REJ : Fld := ⟨FAB_ERR, 3, 1⟩
def FAB_ERR_WR_STATE : Fld := ⟨FAB_ERR, 4, 1⟩
def FAB_CONT_INFO : Nat := 0x800008
def FAB_CONT_INFO_LINE : Fld := ⟨FAB_CONT_INFO, 0, 11⟩
def FAB_CONT_INFO_GROUP : Fld := ⟨FAB_CONT_INFO, 11, 10⟩
def FAB_CONT_INFO_VALID : Fld := ⟨FAB_CONT_INFO, 31, 1⟩
def FAB_CONT_CNT : Nat := 0x80000c
def FAB_CONT_CNT_COUNT : Fld := ⟨FAB_CONT_CNT, 0, 16⟩
def FAB_CLK_STAT : Nat := 0x800010
def FAB_CLK_STAT_LOCK : Fld := ⟨FAB_CLK_STAT, 0, 16⟩
def FAB_OUT_INFO : Nat := 0x800014
def FAB_OUT_INFO_ENTRY : Fld := ⟨FAB_OUT_INFO, 0, 10⟩
def FAB_OUT_INFO_DIE : Fld := ⟨FAB_OUT_INFO, 10, 2⟩
def FAB_OUT_INFO_VALID : Fld := ⟨FAB_OUT_INFO, 31, 1⟩
def FAB_PUB : Nat := 0x800018
def FAB_TBL_ADDR : Nat := 0x800040
def FAB_TBL_ADDR_ENTRY : Fld := ⟨FAB_TBL_ADDR, 0, 13⟩
def FAB_TBL_ADDR_DIE : Fld := ⟨FAB_TBL_ADDR, 13, 2⟩
def FAB_TBL_ADDR_TABLE : Fld := ⟨FAB_TBL_ADDR, 15, 2⟩
def FAB_TBL_ADDR_AUTOINC : Fld := ⟨FAB_TBL_ADDR, 17, 1⟩
def FAB_TBL_DATA : Nat := 0x800044
def FAB_PROBE (i : Nat) : Nat := 0x800080 + 4 * i
def FAB_PROBE_SRC (i : Nat) : Fld := ⟨FAB_PROBE i, 0, 2⟩
def FAB_PROBE_SEL (i : Nat) : Fld := ⟨FAB_PROBE i, 2, 19⟩
def FAB_PROBE_EN (i : Nat) : Fld := ⟨FAB_PROBE i, 31, 1⟩
def FAB_CONT_MAP (i : Nat) : Nat := 0x800100 + 4 * i
def FAB_MB_CMD : Nat := 0x800200
def FAB_MB_CMD_CMD : Fld := ⟨FAB_MB_CMD, 0, 4⟩
def FAB_MB_STATUS : Nat := 0x800204
def FAB_MB_STATUS_BUSY : Fld := ⟨FAB_MB_STATUS, 0, 1⟩
def FAB_MB_STATUS_DONE : Fld := ⟨FAB_MB_STATUS, 1, 1⟩
def FAB_MB_STATUS_ERR : Fld := ⟨FAB_MB_STATUS, 2, 4⟩
def FAB_MB_STATUS_TICKET : Fld := ⟨FAB_MB_STATUS, 6, 4⟩
def FAB_MB_STATUS_READ_EARLY : Fld := ⟨FAB_MB_STATUS, 10, 1⟩
def FAB_MB_STATUS_CMD_REJECT : Fld := ⟨FAB_MB_STATUS, 11, 1⟩
def FAB_MB_RESULT : Nat := 0x800208
def FAB_MB_ARG (i : Nat) : Nat := 0x800210 + 4 * i
def FAB_IO_LB : Nat := 0x800300
def FAB_IO_LB_BANK : Fld := ⟨FAB_IO_LB, 0, 24⟩
def MGE_CTRL : Nat := 0x900000
def MGE_CTRL_RX_EN : Fld := ⟨MGE_CTRL, 0, 1⟩
def MGE_CTRL_TX_EN : Fld := ⟨MGE_CTRL, 1, 1⟩
def MGE_CTRL_AN_EN : Fld := ⟨MGE_CTRL, 2, 1⟩
def MGE_CTRL_PAUSE_EN : Fld := ⟨MGE_CTRL, 3, 1⟩
def MGE_STAT : Nat := 0x900004
def MGE_STAT_LINK : Fld := ⟨MGE_STAT, 0, 1⟩
def MGE_STAT_AN_DONE : Fld := ⟨MGE_STAT, 1, 1⟩
def MGE_MAC : Nat := 0x900008
def MGE_IP : Nat := 0x900010
def MGE_RAP_CFG : Nat := 0x900014
def MGE_RAP_CFG_PORT : Fld := ⟨MGE_RAP_CFG, 0, 16⟩
def MGE_RAP_CFG_EN : Fld := ⟨MGE_RAP_CFG, 16, 1⟩
def MGE_RAP_CFG_WR_EN : Fld := ⟨MGE_RAP_CFG, 17, 1⟩
def MGE_RAP_ACL : Nat := 0x900018
def MGE_RAP_MASK : Nat := 0x90001c
def MGE_RAP_CNT : Nat := 0x900020
def MGE_RAP_CNT_DONE : Fld := ⟨MGE_RAP_CNT, 0, 16⟩
def MGE_RAP_CNT_DROP : Fld := ⟨MGE_RAP_CNT, 16, 16⟩
def MGE_RXR_BASE : Nat := 0x900030
def MGE_RXR_LEN : Nat := 0x900038
def MGE_RXR_LEN_LEN : Fld := ⟨MGE_RXR_LEN, 0, 16⟩
def MGE_RXR_HEAD : Nat := 0x90003c
def MGE_RXR_HEAD_HEAD : Fld := ⟨MGE_RXR_HEAD, 0, 16⟩
def MGE_TXR_BASE : Nat := 0x900040
def MGE_TXR_LEN : Nat := 0x900048
def MGE_TXR_LEN_LEN : Fld := ⟨MGE_TXR_LEN, 0, 16⟩
def MGE_TXR_HEAD : Nat := 0x90004c
def MGE_TXR_HEAD_HEAD : Fld := ⟨MGE_TXR_HEAD, 0, 16⟩
def MGE_RX_DROP : Nat := 0x900050
def MGE_MDIO_CMD : Nat := 0x900060
def MGE_MDIO_CMD_DATA : Fld := ⟨MGE_MDIO_CMD, 0, 16⟩
def MGE_MDIO_CMD_REG : Fld := ⟨MGE_MDIO_CMD, 16, 5⟩
def MGE_MDIO_CMD_PHYAD : Fld := ⟨MGE_MDIO_CMD, 21, 5⟩
def MGE_MDIO_CMD_READ : Fld := ⟨MGE_MDIO_CMD, 26, 1⟩
def MGE_MDIO_CMD_GO_BUSY : Fld := ⟨MGE_MDIO_CMD, 31, 1⟩
def MGE_LB : Nat := 0x900070
def MGE_LB_MODE : Fld := ⟨MGE_LB, 0, 2⟩
def FRD_CFG : Nat := 0xa00000
def FRD_CFG_LANE : Fld := ⟨FRD_CFG, 0, 7⟩
def FRD_CFG_SIDE : Fld := ⟨FRD_CFG, 7, 1⟩
def FRD_CFG_WINDOW : Fld := ⟨FRD_CFG, 8, 4⟩
def FRD_CFG_SH_ACT : Fld := ⟨FRD_CFG, 12, 1⟩
def FRD_CFG_JNL_EN : Fld := ⟨FRD_CFG, 13, 1⟩
def FRD_CTRL : Nat := 0xa00004
def FRD_CTRL_ROLE_REQ : Fld := ⟨FRD_CTRL, 0, 2⟩
def FRD_CTRL_DETACH : Fld := ⟨FRD_CTRL, 2, 1⟩
def FRD_CTRL_CKPT_GO : Fld := ⟨FRD_CTRL, 3, 1⟩
def FRD_CTRL_CKPT_ABORT : Fld := ⟨FRD_CTRL, 4, 1⟩
def FRD_STATUS : Nat := 0xa00008
def FRD_STATUS_ROLE : Fld := ⟨FRD_STATUS, 0, 2⟩
def FRD_STATUS_LINK_UP : Fld := ⟨FRD_STATUS, 2, 1⟩
def FRD_STATUS_REQ_ERR : Fld := ⟨FRD_STATUS, 3, 3⟩
def FRD_STATUS_SEP_CAUSE : Fld := ⟨FRD_STATUS, 6, 3⟩
def FRD_STATUS_CKPT : Fld := ⟨FRD_STATUS, 9, 3⟩
def FRD_STATUS_EVICTED : Fld := ⟨FRD_STATUS, 12, 1⟩
def FRD_STATUS_JNL_WRAP : Fld := ⟨FRD_STATUS, 13, 1⟩
def FRD_ERR : Nat := 0xa0000c
def FRD_ERR_MISMATCH : Fld := ⟨FRD_ERR, 0, 1⟩
def FRD_ERR_DTO : Fld := ⟨FRD_ERR, 1, 1⟩
def FRD_ERR_REQ_REJ : Fld := ⟨FRD_ERR, 2, 1⟩
def FRD_ERR_CKPT_FAIL : Fld := ⟨FRD_ERR, 3, 1⟩
def FRD_ERR_STREAM : Fld := ⟨FRD_ERR, 4, 1⟩
def FRD_DTO : Nat := 0xa00010
def FRD_DTO_WAIT_US : Fld := ⟨FRD_DTO, 0, 20⟩
def FRD_PACE : Nat := 0xa00014
def FRD_PACE_GAP_NS : Fld := ⟨FRD_PACE, 0, 16⟩
def FRD_NIN : Nat := 0xa00018
def FRD_NIN_NIN : Fld := ⟨FRD_NIN, 0, 16⟩
def FRD_MIS_FRAME : Nat := 0xa00020
def FRD_DIG : Nat := 0xa00028
def FRD_PDIG : Nat := 0xa00030
def FRD_SSIG : Nat := 0xa00038
def FRD_JNL_BASE : Nat := 0xa00040
def FRD_JNL_LEN : Nat := 0xa00048
def FRD_JNL_OLD : Nat := 0xa00050
def FRD_CKPT_FRAME : Nat := 0xa00058
def ACQ_CTRL : Nat := 0xb00000
def ACQ_CTRL_MODE : Fld := ⟨ACQ_CTRL, 0, 2⟩
def ACQ_CTRL_ARM : Fld := ⟨ACQ_CTRL, 2, 1⟩
def ACQ_CTRL_STOP : Fld := ⟨ACQ_CTRL, 3, 1⟩
def ACQ_CTRL_FORCE : Fld := ⟨ACQ_CTRL, 4, 1⟩
def ACQ_CTRL_TAP_EN : Fld := ⟨ACQ_CTRL, 5, 1⟩
def ACQ_CTRL_PDIV : Fld := ⟨ACQ_CTRL, 8, 3⟩
def ACQ_STATUS : Nat := 0xb00004
def ACQ_STATUS_STATE : Fld := ⟨ACQ_STATUS, 0, 3⟩
def ACQ_STATUS_TRIGGERED : Fld := ⟨ACQ_STATUS, 3, 1⟩
def ACQ_STATUS_KIND : Fld := ⟨ACQ_STATUS, 4, 2⟩
def ACQ_STATUS_SEQ_STATE : Fld := ⟨ACQ_STATUS, 8, 4⟩
def ACQ_STATUS_PRE_SHORT : Fld := ⟨ACQ_STATUS, 12, 1⟩
def ACQ_STATUS_STOP_CAUSE : Fld := ⟨ACQ_STATUS, 13, 3⟩
def ACQ_ERR : Nat := 0xb00008
def ACQ_ERR_ARM_REJ : Fld := ⟨ACQ_ERR, 0, 1⟩
def ACQ_ERR_CFG_REJ : Fld := ⟨ACQ_ERR, 1, 1⟩
def ACQ_ERR_DROP : Fld := ⟨ACQ_ERR, 2, 1⟩
def ACQ_ERR_TAP_SKIP : Fld := ⟨ACQ_ERR, 3, 1⟩
def ACQ_ERR_LOST : Fld := ⟨ACQ_ERR, 4, 1⟩
def ACQ_DEPTH : Nat := 0xb0000c
def ACQ_DEPTH_PRE : Fld := ⟨ACQ_DEPTH, 0, 16⟩
def ACQ_DEPTH_POST : Fld := ⟨ACQ_DEPTH, 16, 16⟩
def ACQ_AUTO_US : Nat := 0xb00010
def ACQ_PIN_EN : Nat := 0xb00014
def ACQ_PIN_EN_EN : Fld := ⟨ACQ_PIN_EN, 0, 24⟩
def ACQ_DROP : Nat := 0xb00018
def ACQ_DROP_RECORDS : Fld := ⟨ACQ_DROP, 0, 16⟩
def ACQ_DROP_TAP : Fld := ⟨ACQ_DROP, 16, 16⟩
def ACQ_TAP_NUM : Nat := 0xb0001c
def ACQ_TAP_NUM_NTAP : Fld := ⟨ACQ_TAP_NUM, 0, 15⟩
def ACQ_WR_PTR : Nat := 0xb00020
def ACQ_OLDEST : Nat := 0xb00028
def ACQ_TRIG_PTR : Nat := 0xb00030
def ACQ_TRIG_FRAME : Nat := 0xb00038
def ACQ_CAP : Nat := 0xb00040
def ACQ_RD_PTR : Nat := 0xb00048
def ACQ_LOST : Nat := 0xb00050
def ACQ_CMP_FRAME : Nat := 0xb00058
def ACQ_TAP_ADDR : Nat := 0xb00060
def ACQ_TAP_ADDR_ENTRY : Fld := ⟨ACQ_TAP_ADDR, 0, 14⟩
def ACQ_TAP_ADDR_AUTOINC : Fld := ⟨ACQ_TAP_ADDR, 14, 1⟩
def ACQ_TAP_DATA : Nat := 0xb00064
def ACQ_TAP_DATA_CLUSTER : Fld := ⟨ACQ_TAP_DATA, 0, 11⟩
def ACQ_TAP_DATA_KIND : Fld := ⟨ACQ_TAP_DATA, 11, 2⟩
def ACQ_TAP_DATA_INDEX : Fld := ⟨ACQ_TAP_DATA, 13, 15⟩
def ACQ_MB_CMD : Nat := 0xb00080
def ACQ_MB_CMD_CMD : Fld := ⟨ACQ_MB_CMD, 0, 4⟩
def ACQ_MB_STATUS : Nat := 0xb00084
def ACQ_MB_STATUS_BUSY : Fld := ⟨ACQ_MB_STATUS, 0, 1⟩
def ACQ_MB_STATUS_DONE : Fld := ⟨ACQ_MB_STATUS, 1, 1⟩
def ACQ_MB_STATUS_ERR : Fld := ⟨ACQ_MB_STATUS, 2, 4⟩
def ACQ_MB_STATUS_TICKET : Fld := ⟨ACQ_MB_STATUS, 6, 4⟩
def ACQ_MB_STATUS_READ_EARLY : Fld := ⟨ACQ_MB_STATUS, 10, 1⟩
def ACQ_MB_STATUS_CMD_REJECT : Fld := ⟨ACQ_MB_STATUS, 11, 1⟩
def ACQ_MB_RESULT : Nat := 0xb00088
def ACQ_MB_SRC : Nat := 0xb00090
def ACQ_MB_LEN : Nat := 0xb00098
def ACQ_MB_DST : Nat := 0xb000a0
def ACQ_SKEW_CFG : Nat := 0xb000c0
def ACQ_SKEW_CFG_EN : Fld := ⟨ACQ_SKEW_CFG, 0, 1⟩
def ACQ_SKEW_CFG_AVG_LOG2 : Fld := ⟨ACQ_SKEW_CFG, 4, 4⟩
def ACQ_ST_MASK (i : Nat) : Nat := 0xb00100 + 8 * i
def ACQ_ST_CFG (i : Nat) : Nat := 0xb00104 + 8 * i
def ACQ_ST_CFG_NEXT (i : Nat) : Fld := ⟨ACQ_ST_CFG i, 0, 4⟩
def ACQ_ST_CFG_OP (i : Nat) : Fld := ⟨ACQ_ST_CFG i, 4, 1⟩
def ACQ_ST_CFG_TRIG (i : Nat) : Fld := ⟨ACQ_ST_CFG i, 5, 1⟩
def ACQ_ST_CFG_CNT_EN (i : Nat) : Fld := ⟨ACQ_ST_CFG i, 6, 1⟩
def ACQ_ST_CFG_CNT_SEL (i : Nat) : Fld := ⟨ACQ_ST_CFG i, 7, 2⟩
def ACQ_ST_CFG_CLR (i : Nat) : Fld := ⟨ACQ_ST_CFG i, 9, 1⟩
def ACQ_CMP_CFG (i : Nat) : Nat := 0xb00200 + 8 * i
def ACQ_CMP_CFG_KIND (i : Nat) : Fld := ⟨ACQ_CMP_CFG i, 0, 3⟩
def ACQ_CMP_CFG_OP (i : Nat) : Fld := ⟨ACQ_CMP_CFG i, 3, 1⟩
def ACQ_CMP_CFG_EDGE (i : Nat) : Fld := ⟨ACQ_CMP_CFG i, 4, 2⟩
def ACQ_CMP_CFG_SEL (i : Nat) : Fld := ⟨ACQ_CMP_CFG i, 6, 15⟩
def ACQ_CMP_MV (i : Nat) : Nat := 0xb00204 + 8 * i
def ACQ_CMP_MV_MASK (i : Nat) : Fld := ⟨ACQ_CMP_MV i, 0, 16⟩
def ACQ_CMP_MV_VAL (i : Nat) : Fld := ⟨ACQ_CMP_MV i, 16, 16⟩
def ACQ_CNT (i : Nat) : Nat := 0xb00300 + 8 * i
def ACQ_CNT_LIM (i : Nat) : Nat := 0xb00304 + 8 * i
def ACQ_PIN_DLY (i : Nat) : Nat := 0xb01000 + 4 * i
def ACQ_PIN_DLY_DLY (i : Nat) : Fld := ⟨ACQ_PIN_DLY i, 0, 6⟩
def ACQ_PIN_DLY_CAL_EN (i : Nat) : Fld := ⟨ACQ_PIN_DLY i, 6, 1⟩
def ACQ_PIN_DLY_LOCK (i : Nat) : Fld := ⟨ACQ_PIN_DLY i, 7, 1⟩
def ACQ_PIN_DLY_REF (i : Nat) : Fld := ⟨ACQ_PIN_DLY i, 8, 9⟩
def ACQ_PIN_DLY_SAT (i : Nat) : Fld := ⟨ACQ_PIN_DLY i, 17, 1⟩
def ACQ_PIN_DLY_OFS (i : Nat) : Fld := ⟨ACQ_PIN_DLY i, 24, 8⟩
def SHR_QSTAT (q : Nat) : Nat := quadBase q
def SHR_QSTAT_REF_OK (q : Nat) : Fld := ⟨SHR_QSTAT q, 0, 1⟩
def SHR_QSTAT_PLL_LOCK (q : Nat) : Fld := ⟨SHR_QSTAT q, 1, 1⟩
def SHR_MB_CMD (q : Nat) : Nat := quadBase q + 0x100
def SHR_MB_CMD_CMD (q : Nat) : Fld := ⟨SHR_MB_CMD q, 0, 4⟩
def SHR_MB_STATUS (q : Nat) : Nat := quadBase q + 0x104
def SHR_MB_STATUS_BUSY (q : Nat) : Fld := ⟨SHR_MB_STATUS q, 0, 1⟩
def SHR_MB_STATUS_DONE (q : Nat) : Fld := ⟨SHR_MB_STATUS q, 1, 1⟩
def SHR_MB_STATUS_ERR (q : Nat) : Fld := ⟨SHR_MB_STATUS q, 2, 4⟩
def SHR_MB_STATUS_TICKET (q : Nat) : Fld := ⟨SHR_MB_STATUS q, 6, 4⟩
def SHR_MB_STATUS_READ_EARLY (q : Nat) : Fld := ⟨SHR_MB_STATUS q, 10, 1⟩
def SHR_MB_STATUS_CMD_REJECT (q : Nat) : Fld := ⟨SHR_MB_STATUS q, 11, 1⟩
def SHR_MB_RESULT (q i : Nat) : Nat := quadBase q + 0x108 + 4 * i
def SHR_MB_ARG (q i : Nat) : Nat := quadBase q + 0x110 + 4 * i
def SHR_LCTRL (l : Nat) : Nat := laneBase l
def SHR_LCTRL_START (l : Nat) : Fld := ⟨SHR_LCTRL l, 0, 1⟩
def SHR_LCTRL_STOP (l : Nat) : Fld := ⟨SHR_LCTRL l, 1, 1⟩
def SHR_LCTRL_SLIP (l : Nat) : Fld := ⟨SHR_LCTRL l, 2, 1⟩
def SHR_LCTRL_TEST (l : Nat) : Fld := ⟨SHR_LCTRL l, 3, 1⟩
def SHR_LCFG (l : Nat) : Nat := laneBase l + 4
def SHR_LCFG_MAX_RATE (l : Nat) : Fld := ⟨SHR_LCFG l, 0, 3⟩
def SHR_LCFG_BOND_LOG2 (l : Nat) : Fld := ⟨SHR_LCFG l, 3, 3⟩
def SHR_LCFG_TX_INV (l : Nat) : Fld := ⟨SHR_LCFG l, 6, 1⟩
def SHR_LCFG_RX_INV (l : Nat) : Fld := ⟨SHR_LCFG l, 7, 1⟩
def SHR_LCFG_AUTO_LOCK (l : Nat) : Fld := ⟨SHR_LCFG l, 8, 1⟩
def SHR_LCFG_RECENTER_EN (l : Nat) : Fld := ⟨SHR_LCFG l, 9, 1⟩
def SHR_LCFG_STEP_TMO_US (l : Nat) : Fld := ⟨SHR_LCFG l, 10, 10⟩
def SHR_LCFG_RELOCK_US (l : Nat) : Fld := ⟨SHR_LCFG l, 20, 12⟩
def SHR_LSTAT (l : Nat) : Nat := laneBase l + 8
def SHR_LSTAT_STATE (l : Nat) : Fld := ⟨SHR_LSTAT l, 0, 3⟩
def SHR_LSTAT_RATE (l : Nat) : Fld := ⟨SHR_LSTAT l, 3, 3⟩
def SHR_LSTAT_LOCK (l : Nat) : Fld := ⟨SHR_LSTAT l, 6, 1⟩
def SHR_LSTAT_GROUP_UP (l : Nat) : Fld := ⟨SHR_LSTAT l, 7, 1⟩
def SHR_LSTAT_BAN (l : Nat) : Fld := ⟨SHR_LSTAT l, 8, 7⟩
def SHR_LSTAT_HDR_OK (l : Nat) : Fld := ⟨SHR_LSTAT l, 16, 7⟩
def SHR_LSTAT_DOWN_CAUSE (l : Nat) : Fld := ⟨SHR_LSTAT l, 24, 4⟩
def SHR_PEER (l : Nat) : Nat := laneBase l + 0xc
def SHR_PEER_DEV_INDEX (l : Nat) : Fld := ⟨SHR_PEER l, 0, 8⟩
def SHR_PEER_LANE (l : Nat) : Fld := ⟨SHR_PEER l, 8, 7⟩
def SHR_PEER_VALID (l : Nat) : Fld := ⟨SHR_PEER l, 31, 1⟩
def SHR_TXFFE (l i : Nat) : Nat := laneBase l + 0x10 + 4 * i
def SHR_TXFFE_PRE (l i : Nat) : Fld := ⟨SHR_TXFFE l i, 0, 4⟩
def SHR_TXFFE_MAIN (l i : Nat) : Fld := ⟨SHR_TXFFE l i, 4, 6⟩
def SHR_TXFFE_POST (l i : Nat) : Fld := ⟨SHR_TXFFE l i, 10, 5⟩
def SHR_LERR (l : Nat) : Nat := laneBase l + 0x30
def SHR_LERR_FMT (l : Nat) : Fld := ⟨SHR_LERR l, 0, 1⟩
def SHR_LERR_SEQ_GAP (l : Nat) : Fld := ⟨SHR_LERR l, 1, 1⟩
def SHR_LERR_POS (l : Nat) : Fld := ⟨SHR_LERR l, 2, 1⟩
def SHR_LERR_SLIP_REJ (l : Nat) : Fld := ⟨SHR_LERR l, 3, 1⟩
def SHR_LERR_START_REJ (l : Nat) : Fld := ⟨SHR_LERR l, 4, 1⟩
def SHR_LERR_FFE_REJ (l : Nat) : Fld := ⟨SHR_LERR l, 5, 1⟩
def SHR_LERR_DOWN (l : Nat) : Fld := ⟨SHR_LERR l, 6, 1⟩
def SHR_LERR_LOCK_LOSS (l : Nat) : Fld := ⟨SHR_LERR l, 7, 1⟩
def SHR_LCNT (l : Nat) : Nat := laneBase l + 0x34
def SHR_LCNT_CRC (l : Nat) : Fld := ⟨SHR_LCNT l, 0, 16⟩
def SHR_LCNT_REPLAYS (l : Nat) : Fld := ⟨SHR_LCNT l, 16, 16⟩
def SHR_LCNT2 (l : Nat) : Nat := laneBase l + 0x38
def SHR_LCNT2_CTL (l : Nat) : Fld := ⟨SHR_LCNT2 l, 0, 16⟩
def SHR_REPLAY_CFG (l : Nat) : Nat := laneBase l + 0x3c
def SHR_REPLAY_CFG_MAX (l : Nat) : Fld := ⟨SHR_REPLAY_CFG l, 0, 8⟩
def SHR_REPLAY_CFG_TMO (l : Nat) : Fld := ⟨SHR_REPLAY_CFG l, 16, 16⟩
def SHR_RTT (l : Nat) : Nat := laneBase l + 0x40
def SHR_RTT_LAST (l : Nat) : Fld := ⟨SHR_RTT l, 0, 16⟩
def SHR_RXBASE (l : Nat) : Nat := laneBase l + 0x44
def SHR_RXBASE_BASE (l : Nat) : Fld := ⟨SHR_RXBASE l, 0, 10⟩
def SHR_TEST (l : Nat) : Nat := laneBase l + 0x50
def SHR_TEST_RATE (l : Nat) : Fld := ⟨SHR_TEST l, 0, 3⟩
def SHR_TEST_LB_MODE (l : Nat) : Fld := ⟨SHR_TEST l, 3, 3⟩
def SHR_PRBS_CFG (l : Nat) : Nat := laneBase l + 0x54
def SHR_PRBS_CFG_TX_PAT (l : Nat) : Fld := ⟨SHR_PRBS_CFG l, 0, 3⟩
def SHR_PRBS_CFG_RX_PAT (l : Nat) : Fld := ⟨SHR_PRBS_CFG l, 3, 3⟩
def SHR_PRBS_CFG_TX_EN (l : Nat) : Fld := ⟨SHR_PRBS_CFG l, 6, 1⟩
def SHR_PRBS_CFG_RX_EN (l : Nat) : Fld := ⟨SHR_PRBS_CFG l, 7, 1⟩
def SHR_PRBS_CFG_INV (l : Nat) : Fld := ⟨SHR_PRBS_CFG l, 8, 1⟩
def SHR_PRBS_CFG_INJ (l : Nat) : Fld := ⟨SHR_PRBS_CFG l, 9, 1⟩
def SHR_PRBS_CFG_CLR (l : Nat) : Fld := ⟨SHR_PRBS_CFG l, 10, 1⟩
def SHR_PRBS_STAT (l : Nat) : Nat := laneBase l + 0x58
def SHR_PRBS_STAT_SYNC (l : Nat) : Fld := ⟨SHR_PRBS_STAT l, 0, 1⟩
def SHR_PRBS_STAT_RESYNC (l : Nat) : Fld := ⟨SHR_PRBS_STAT l, 16, 16⟩
def SHR_PRBS_ERR (l : Nat) : Nat := laneBase l + 0x60
def SHR_PRBS_BITS (l : Nat) : Nat := laneBase l + 0x68
def SHR_EYE (l : Nat) : Nat := laneBase l + 0x70
def SHR_EYE_L (l : Nat) : Fld := ⟨SHR_EYE l, 0, 8⟩
def SHR_EYE_R (l : Nat) : Fld := ⟨SHR_EYE l, 8, 8⟩
def SHR_EYE_PHASE (l : Nat) : Fld := ⟨SHR_EYE l, 16, 8⟩
def HBC_STAT (d : Nat) : Nat := hbcBase d
def HBC_STAT_TRAINED (d : Nat) : Fld := ⟨HBC_STAT d, 0, 1⟩
def HBC_STAT_SELF_REF (d : Nat) : Fld := ⟨HBC_STAT d, 1, 1⟩
def HBC_STAT_OVR_CNT (d : Nat) : Fld := ⟨HBC_STAT d, 16, 16⟩
def HBC_WIN (d : Nat) : Nat := hbcBase d + 4
def HBC_WIN_PERIOD_PS (d : Nat) : Fld := ⟨HBC_WIN d, 0, 16⟩
def HBC_BUDGET (d : Nat) : Nat := hbcBase d + 8
def HBC_BUDGET_LC0 (d : Nat) : Fld := ⟨HBC_BUDGET d, 0, 10⟩
def HBC_BUDGET_LC1 (d : Nat) : Fld := ⟨HBC_BUDGET d, 10, 10⟩
def HBC_BUDGET_LC2 (d : Nat) : Fld := ⟨HBC_BUDGET d, 20, 10⟩
def HBC_ACQ_BASE (d : Nat) : Nat := hbcBase d + 0xc
def HBC_ACQ_BASE_BASE (d : Nat) : Fld := ⟨HBC_ACQ_BASE d, 0, 24⟩
def HBC_WACK (d : Nat) : Nat := hbcBase d + 0x10
def HBC_WACK_PEND (d : Nat) : Fld := ⟨HBC_WACK d, 0, 16⟩
def HBC_WACK_ACT (d : Nat) : Fld := ⟨HBC_WACK d, 16, 16⟩
def HBC_ERR (d : Nat) : Nat := hbcBase d + 0x20
def HBC_ERR_UE (d : Nat) : Fld := ⟨HBC_ERR d, 0, 1⟩
def HBC_ERR_TAG (d : Nat) : Fld := ⟨HBC_ERR d, 1, 1⟩
def HBC_ERR_RANGE (d : Nat) : Fld := ⟨HBC_ERR d, 2, 1⟩
def HBC_ERR_NO_MID (d : Nat) : Fld := ⟨HBC_ERR d, 3, 1⟩
def HBC_ERR_MQT_MISS (d : Nat) : Fld := ⟨HBC_ERR d, 4, 1⟩
def HBC_ERR_PARTIAL (d : Nat) : Fld := ⟨HBC_ERR d, 5, 1⟩
def HBC_ERR_QFULL (d : Nat) : Fld := ⟨HBC_ERR d, 6, 1⟩
def HBC_ERR_ARG (d : Nat) : Fld := ⟨HBC_ERR d, 7, 1⟩
def HBC_ERR_INFO (d : Nat) : Nat := hbcBase d + 0x24
def HBC_ERR_INFO_PCBLK (d : Nat) : Fld := ⟨HBC_ERR_INFO d, 0, 24⟩
def HBC_ERR_INFO_PC (d : Nat) : Fld := ⟨HBC_ERR_INFO d, 24, 5⟩
def HBC_ERR_INFO_CODE (d : Nat) : Fld := ⟨HBC_ERR_INFO d, 29, 2⟩
def HBC_ERR_INFO_VALID (d : Nat) : Fld := ⟨HBC_ERR_INFO d, 31, 1⟩
def HBC_MISS (d : Nat) : Nat := hbcBase d + 0x30
def HBC_MISS_COUNT (d : Nat) : Fld := ⟨HBC_MISS d, 0, 16⟩
def HBC_MISS_MAX_NS (d : Nat) : Fld := ⟨HBC_MISS d, 16, 16⟩
def HBC_CE_CNT (d : Nat) : Nat := hbcBase d + 0x34
def HBC_CE_CNT_CE (d : Nat) : Fld := ⟨HBC_CE_CNT d, 0, 16⟩
def HBC_TBL_ADDR (d : Nat) : Nat := hbcBase d + 0x40
def HBC_TBL_ADDR_ENTRY (d : Nat) : Fld := ⟨HBC_TBL_ADDR d, 0, 10⟩
def HBC_TBL_ADDR_PORT (d : Nat) : Fld := ⟨HBC_TBL_ADDR d, 10, 5⟩
def HBC_TBL_ADDR_TABLE (d : Nat) : Fld := ⟨HBC_TBL_ADDR d, 15, 1⟩
def HBC_TBL_ADDR_HALF (d : Nat) : Fld := ⟨HBC_TBL_ADDR d, 16, 1⟩
def HBC_TBL_ADDR_AUTOINC (d : Nat) : Fld := ⟨HBC_TBL_ADDR d, 17, 1⟩
def HBC_TBL_D0 (d : Nat) : Nat := hbcBase d + 0x44
def HBC_TBL_D1 (d : Nat) : Nat := hbcBase d + 0x48
def HBC_TBL_CMD (d : Nat) : Nat := hbcBase d + 0x4c
def HBC_TBL_CMD_READ (d : Nat) : Fld := ⟨HBC_TBL_CMD d, 0, 1⟩
def HBC_TBL_CMD_WRITE (d : Nat) : Fld := ⟨HBC_TBL_CMD d, 1, 1⟩
def HBC_TBL_CMD_CLEAR (d : Nat) : Fld := ⟨HBC_TBL_CMD d, 2, 1⟩
def HBC_TBL_STAT (d : Nat) : Nat := hbcBase d + 0x50
def HBC_TBL_STAT_ERR (d : Nat) : Fld := ⟨HBC_TBL_STAT d, 0, 2⟩
def HBC_MB_CMD (d : Nat) : Nat := hbcBase d + 0x80
def HBC_MB_CMD_CMD (d : Nat) : Fld := ⟨HBC_MB_CMD d, 0, 4⟩
def HBC_MB_STATUS (d : Nat) : Nat := hbcBase d + 0x84
def HBC_MB_STATUS_BUSY (d : Nat) : Fld := ⟨HBC_MB_STATUS d, 0, 1⟩
def HBC_MB_STATUS_DONE (d : Nat) : Fld := ⟨HBC_MB_STATUS d, 1, 1⟩
def HBC_MB_STATUS_ERR (d : Nat) : Fld := ⟨HBC_MB_STATUS d, 2, 4⟩
def HBC_MB_STATUS_TICKET (d : Nat) : Fld := ⟨HBC_MB_STATUS d, 6, 4⟩
def HBC_MB_STATUS_READ_EARLY (d : Nat) : Fld := ⟨HBC_MB_STATUS d, 10, 1⟩
def HBC_MB_STATUS_CMD_REJECT (d : Nat) : Fld := ⟨HBC_MB_STATUS d, 11, 1⟩
def HBC_MB_RESULT (d : Nat) : Nat := hbcBase d + 0x88
def HBC_MB_ARG0 (d : Nat) : Nat := hbcBase d + 0x90
def HBC_MB_ARG0_MID (d : Nat) : Fld := ⟨HBC_MB_ARG0 d, 0, 10⟩
def HBC_MB_ARG1 (d : Nat) : Nat := hbcBase d + 0x94
def HBC_MB_ARG2 (d : Nat) : Nat := hbcBase d + 0x98
def HBC_MB_ARG3 (d : Nat) : Nat := hbcBase d + 0x9c
def MLR_GEN_CTRL (d : Nat) : Nat := mlrBase d
def MLR_GEN_CTRL_NEXT_GEN (d : Nat) : Fld := ⟨MLR_GEN_CTRL d, 0, 4⟩
def MLR_GEN_CTRL_ARM (d : Nat) : Fld := ⟨MLR_GEN_CTRL d, 4, 1⟩
def MLR_GEN_CTRL_NOW (d : Nat) : Fld := ⟨MLR_GEN_CTRL d, 5, 1⟩
def MLR_GEN_CTRL_CANCEL (d : Nat) : Fld := ⟨MLR_GEN_CTRL d, 6, 1⟩
def MLR_GEN_CTRL_SET_GEN (d : Nat) : Fld := ⟨MLR_GEN_CTRL d, 7, 1⟩
def MLR_GEN_STATUS (d : Nat) : Nat := mlrBase d + 4
def MLR_GEN_STATUS_ACTIVE_GEN (d : Nat) : Fld := ⟨MLR_GEN_STATUS d, 0, 4⟩
def MLR_GEN_STATUS_PEND_GEN (d : Nat) : Fld := ⟨MLR_GEN_STATUS d, 4, 4⟩
def MLR_GEN_STATUS_PEND_VALID (d : Nat) : Fld := ⟨MLR_GEN_STATUS d, 8, 1⟩
def MLR_GEN_STATUS_ARMED (d : Nat) : Fld := ⟨MLR_GEN_STATUS d, 9, 1⟩
def MLR_GEN_STATUS_GEN_ERR (d : Nat) : Fld := ⟨MLR_GEN_STATUS d, 10, 1⟩
def MLR_GEN_FRAME (d : Nat) : Nat := mlrBase d + 8
def MLR_UTO (d : Nat) : Nat := mlrBase d + 0x10
def MLR_UTO_HOLD (d : Nat) : Fld := ⟨MLR_UTO d, 0, 16⟩
def MLR_UTO_SRC (d : Nat) : Fld := ⟨MLR_UTO d, 16, 16⟩
def MLR_UCFG (d : Nat) : Nat := mlrBase d + 0x14
def MLR_UCFG_RETRY_GAP (d : Nat) : Fld := ⟨MLR_UCFG d, 0, 8⟩
def MLR_UCFG_RETRY_MAX (d : Nat) : Fld := ⟨MLR_UCFG d, 8, 8⟩
def MLR_CFL_ERR (d : Nat) : Nat := mlrBase d + 0x20
def MLR_CFL_ERR_ROUTE_MISS (d : Nat) : Fld := ⟨MLR_CFL_ERR d, 0, 1⟩
def MLR_CFL_ERR_GEN_MISS (d : Nat) : Fld := ⟨MLR_CFL_ERR d, 1, 1⟩
def MLR_CFL_ERR_PORT_OFF (d : Nat) : Fld := ⟨MLR_CFL_ERR d, 2, 1⟩
def MLR_CFL_ERR_NO_NODE (d : Nat) : Fld := ⟨MLR_CFL_ERR d, 3, 1⟩
def MLR_CFL_ERR_ARG (d : Nat) : Fld := ⟨MLR_CFL_ERR d, 4, 1⟩
def MLR_CFL_INFO (d : Nat) : Nat := mlrBase d + 0x24
def MLR_CFL_INFO_PORT (d : Nat) : Fld := ⟨MLR_CFL_INFO d, 0, 5⟩
def MLR_CFL_INFO_TAG (d : Nat) : Fld := ⟨MLR_CFL_INFO d, 5, 10⟩
def MLR_CFL_INFO_CODE (d : Nat) : Fld := ⟨MLR_CFL_INFO d, 15, 3⟩
def MLR_CFL_INFO_VALID (d : Nat) : Fld := ⟨MLR_CFL_INFO d, 31, 1⟩
def MLR_TBL_ADDR (d : Nat) : Nat := mlrBase d + 0x40
def MLR_TBL_ADDR_ENTRY (d : Nat) : Fld := ⟨MLR_TBL_ADDR d, 0, 10⟩
def MLR_TBL_ADDR_POS (d : Nat) : Fld := ⟨MLR_TBL_ADDR d, 10, 6⟩
def MLR_TBL_ADDR_RING (d : Nat) : Fld := ⟨MLR_TBL_ADDR d, 16, 3⟩
def MLR_TBL_ADDR_TABLE (d : Nat) : Fld := ⟨MLR_TBL_ADDR d, 19, 2⟩
def MLR_TBL_ADDR_HALF (d : Nat) : Fld := ⟨MLR_TBL_ADDR d, 21, 1⟩
def MLR_TBL_ADDR_AUTOINC (d : Nat) : Fld := ⟨MLR_TBL_ADDR d, 22, 1⟩
def MLR_TBL_D0 (d : Nat) : Nat := mlrBase d + 0x44
def MLR_TBL_D1 (d : Nat) : Nat := mlrBase d + 0x48
def MLR_TBL_CMD (d : Nat) : Nat := mlrBase d + 0x4c
def MLR_TBL_CMD_READ (d : Nat) : Fld := ⟨MLR_TBL_CMD d, 0, 1⟩
def MLR_TBL_CMD_WRITE (d : Nat) : Fld := ⟨MLR_TBL_CMD d, 1, 1⟩
def MLR_TBL_CMD_CLEAR (d : Nat) : Fld := ⟨MLR_TBL_CMD d, 2, 1⟩
def MLR_TBL_STAT (d : Nat) : Nat := mlrBase d + 0x50
def MLR_TBL_STAT_ERR (d : Nat) : Fld := ⟨MLR_TBL_STAT d, 0, 2⟩
def MLR_STOP_STAT (b : Nat) : Nat := b
def MLR_STOP_STAT_KIND (b : Nat) : Fld := ⟨MLR_STOP_STAT b, 0, 1⟩
def MLR_STOP_STAT_DOM (b : Nat) : Fld := ⟨MLR_STOP_STAT b, 1, 2⟩
def MLR_STOP_STAT_DRAINED (b : Nat) : Fld := ⟨MLR_STOP_STAT b, 3, 1⟩
def MLR_STOP_STAT_REQ_FREE (b : Nat) : Fld := ⟨MLR_STOP_STAT b, 8, 3⟩
def MLR_STOP_STAT_RESP_FREE (b : Nat) : Fld := ⟨MLR_STOP_STAT b, 12, 3⟩
def MLR_STOP_ERR (b : Nat) : Nat := b + 4
def MLR_STOP_ERR_NO_ENTRY (b : Nat) : Fld := ⟨MLR_STOP_ERR b, 0, 1⟩
def MLR_STOP_ERR_GEN_MISS (b : Nat) : Fld := ⟨MLR_STOP_ERR b, 1, 1⟩
def MLR_STOP_ERR_OFF_DROP (b : Nat) : Fld := ⟨MLR_STOP_ERR b, 2, 1⟩
def MLR_STOP_ERR_DUP_TAG (b : Nat) : Fld := ⟨MLR_STOP_ERR b, 3, 1⟩
def MLR_STOP_ERR_TXQ_OVF (b : Nat) : Fld := ⟨MLR_STOP_ERR b, 4, 1⟩
def MLR_STOP_ERR_STRAY (b : Nat) : Fld := ⟨MLR_STOP_ERR b, 5, 1⟩
def MLR_STOP_ERR_LB_STATE (b : Nat) : Fld := ⟨MLR_STOP_ERR b, 6, 1⟩
def MLR_STOP_ERR_LB_MISMATCH (b : Nat) : Fld := ⟨MLR_STOP_ERR b, 7, 1⟩
def MLR_STOP_COLL (b : Nat) : Nat := b + 8
def MLR_STOP_COLL_COLL (b : Nat) : Fld := ⟨MLR_STOP_COLL b, 0, 16⟩
def MLR_STOP_COLL_RECIRC (b : Nat) : Fld := ⟨MLR_STOP_COLL b, 16, 16⟩
def MLR_STOP_CINFO (b : Nat) : Nat := b + 0xc
def MLR_STOP_CINFO_STEP (b : Nat) : Fld := ⟨MLR_STOP_CINFO b, 0, 11⟩
def MLR_STOP_CINFO_DIR (b : Nat) : Fld := ⟨MLR_STOP_CINFO b, 11, 1⟩
def MLR_STOP_CINFO_PH (b : Nat) : Fld := ⟨MLR_STOP_CINFO b, 12, 1⟩
def MLR_STOP_CINFO_VALID (b : Nat) : Fld := ⟨MLR_STOP_CINFO b, 31, 1⟩
def MLR_STOP_UCNT (b : Nat) : Nat := b + 0x10
def MLR_STOP_UCNT_NACK (b : Nat) : Fld := ⟨MLR_STOP_UCNT b, 0, 16⟩
def MLR_STOP_UCNT_RET (b : Nat) : Fld := ⟨MLR_STOP_UCNT b, 16, 16⟩
def MLR_STOP_LB (b : Nat) : Nat := b + 0x14
def MLR_STOP_LB_MODE (b : Nat) : Fld := ⟨MLR_STOP_LB b, 0, 2⟩
def MLR_STOP_LB_DIR (b : Nat) : Fld := ⟨MLR_STOP_LB b, 2, 1⟩
def MLR_STOP_LB_GO (b : Nat) : Fld := ⟨MLR_STOP_LB b, 3, 1⟩
def MLR_STOP_LB_COUNT (b : Nat) : Fld := ⟨MLR_STOP_LB b, 16, 16⟩
def MLR_STOP_LBSTAT (b : Nat) : Nat := b + 0x18
def MLR_STOP_LBSTAT_RCVD (b : Nat) : Fld := ⟨MLR_STOP_LBSTAT b, 0, 16⟩
def MLR_STOP_LBSTAT_ERRS (b : Nat) : Fld := ⟨MLR_STOP_LBSTAT b, 16, 15⟩
def MLR_STOP_LBSTAT_BUSY (b : Nat) : Fld := ⟨MLR_STOP_LBSTAT b, 31, 1⟩
def SEQ_CFG : Nat := 0x4000000
def SEQ_CFG_FLEN : Fld := ⟨SEQ_CFG, 0, 6⟩
def SEQ_CFG_LATE_POL : Fld := ⟨SEQ_CFG, 8, 2⟩
def SEQ_CFG_FRAME_EN : Fld := ⟨SEQ_CFG, 12, 1⟩
def SEQ_STATUS : Nat := 0x4000004
def SEQ_STATUS_PHASE : Fld := ⟨SEQ_STATUS, 0, 3⟩
def SEQ_STATUS_STEP_BUSY : Fld := ⟨SEQ_STATUS, 3, 1⟩
def SEQ_STATUS_XFRAME_LOST : Fld := ⟨SEQ_STATUS, 4, 1⟩
def SEQ_STATUS_HOLD_CAUSE : Fld := ⟨SEQ_STATUS, 8, 4⟩
def SEQ_FRAME_NO : Nat := 0x4000008
def SEQ_BTO : Nat := 0x4000010
def SEQ_BTO_TIMEOUT_US : Fld := ⟨SEQ_BTO, 0, 20⟩
def SEQ_BTO_FIRST_MS : Fld := ⟨SEQ_BTO, 20, 12⟩
def SEQ_BTO_INFO : Nat := 0x4000014
def SEQ_BTO_INFO_SRC : Fld := ⟨SEQ_BTO_INFO, 0, 3⟩
def SEQ_BTO_INFO_INDEX : Fld := ⟨SEQ_BTO_INFO, 3, 11⟩
def SEQ_BTO_INFO_VALID : Fld := ⟨SEQ_BTO_INFO, 31, 1⟩
def SEQ_FRAME_TIME : Nat := 0x4000018
def SEQ_FRAME_TIME_LAST_NS : Fld := ⟨SEQ_FRAME_TIME, 0, 16⟩
def SEQ_FRAME_TIME_MAX_NS : Fld := ⟨SEQ_FRAME_TIME, 16, 16⟩
def SEQ_TIMED_CNT : Nat := 0x4000020
def SEQ_TIMED_CNT_LATE : Fld := ⟨SEQ_TIMED_CNT, 0, 16⟩
def SEQ_TIMED_CNT_SKIP : Fld := ⟨SEQ_TIMED_CNT, 16, 16⟩
def SEQ_LATE_MAX : Nat := 0x4000024
def SEQ_INMASK (i : Nat) : Nat := 0x4000030 + 4 * i
def SEQ_TSTART_SEC : Nat := 0x4000040
def SEQ_TSTART_NS : Nat := 0x4000048
def SEQ_TSTART_NS_NS : Fld := ⟨SEQ_TSTART_NS, 0, 30⟩
def SEQ_TSTART_NS_SET : Fld := ⟨SEQ_TSTART_NS, 31, 1⟩
def SEQ_TPER_NS : Nat := 0x400004c
def SEQ_TPER_NS_NS : Fld := ⟨SEQ_TPER_NS, 0, 30⟩
def SEQ_TPER_FRAC : Nat := 0x4000050
def SEQ_TPER_FRAC_FRAC : Fld := ⟨SEQ_TPER_FRAC, 0, 18⟩
def SEQ_TLEAD : Nat := 0x4000054
def SEQ_TLEAD_LEAD_PS : Fld := ⟨SEQ_TLEAD, 0, 16⟩
def SEQ_BRK_CTRL : Nat := 0x4000060
def SEQ_BRK_CTRL_EN : Fld := ⟨SEQ_BRK_CTRL, 0, 16⟩
def SEQ_BRK_CTRL_ACT : Fld := ⟨SEQ_BRK_CTRL, 16, 16⟩
def SEQ_BRK_FRAME : Nat := 0x4000068
def SEQ_BRK_STATUS : Nat := 0x4000070
def SEQ_BRK_STATUS_NUM : Fld := ⟨SEQ_BRK_STATUS, 0, 4⟩
def SEQ_BRK_STATUS_KIND : Fld := ⟨SEQ_BRK_STATUS, 4, 2⟩
def SEQ_BRK_STATUS_HITS : Fld := ⟨SEQ_BRK_STATUS, 8, 8⟩
def SEQ_BRK_STATUS_VALID : Fld := ⟨SEQ_BRK_STATUS, 31, 1⟩
def SEQ_BRK_WHERE : Nat := 0x4000074
def SEQ_BRK_WHERE_STEP : Fld := ⟨SEQ_BRK_WHERE, 0, 11⟩
def SEQ_BRK_WHERE_PROC : Fld := ⟨SEQ_BRK_WHERE, 11, 6⟩
def SEQ_BRK_WHERE_CLUSTER : Fld := ⟨SEQ_BRK_WHERE, 17, 11⟩
def SEQ_STEP_CMD : Nat := 0x4000080
def SEQ_STEP_CMD_OP : Fld := ⟨SEQ_STEP_CMD, 0, 2⟩
def SEQ_STEP_CMD_COUNT : Fld := ⟨SEQ_STEP_CMD, 16, 16⟩
def SEQ_ERR : Nat := 0x4000084
def SEQ_ERR_BTO : Fld := ⟨SEQ_ERR, 0, 1⟩
def SEQ_ERR_FRAME_SKEW : Fld := ⟨SEQ_ERR, 1, 1⟩
def SEQ_ERR_FRAME_MAX : Fld := ⟨SEQ_ERR, 2, 1⟩
def SEQ_ERR_LATE_HALT : Fld := ⟨SEQ_ERR, 3, 1⟩
def SEQ_ERR_WR_STATE : Fld := ⟨SEQ_ERR, 4, 1⟩
def SEQ_ERR_ARG : Fld := ⟨SEQ_ERR, 5, 1⟩
def SEQ_ERR_CMD_REJECT : Fld := ⟨SEQ_ERR, 6, 1⟩
def SEQ_ERR_BRK_TIMED : Fld := ⟨SEQ_ERR, 7, 1⟩
def CLU_ID (c : Nat) : Nat := cluBase c
def CLU_ID_PHYS_ID (c : Nat) : Fld := ⟨CLU_ID c, 0, 11⟩
def CLU_ID_STOP (c : Nat) : Fld := ⟨CLU_ID c, 16, 6⟩
def CLU_ID_RING (c : Nat) : Fld := ⟨CLU_ID c, 22, 3⟩
def CLU_ID_DIE (c : Nat) : Fld := ⟨CLU_ID c, 25, 2⟩
def CLU_CTRL (c : Nat) : Nat := cluBase c + 4
def CLU_CTRL_SCRUB_EN (c : Nat) : Fld := ⟨CLU_CTRL c, 0, 1⟩
def CLU_CTRL_ERR_EVT_EN (c : Nat) : Fld := ⟨CLU_CTRL c, 1, 1⟩
def CLU_CTRL_SCRUB_DIV (c : Nat) : Fld := ⟨CLU_CTRL c, 4, 4⟩
def CLU_STATUS (c : Nat) : Nat := cluBase c + 8
def CLU_STATUS_STATE (c : Nat) : Fld := ⟨CLU_STATUS c, 0, 3⟩
def CLU_STATUS_STEP (c : Nat) : Fld := ⟨CLU_STATUS c, 8, 11⟩
def CLU_STATUS_FPAR (c : Nat) : Fld := ⟨CLU_STATUS c, 20, 1⟩
def CLU_STATUS_HALF_RATE (c : Nat) : Fld := ⟨CLU_STATUS c, 21, 1⟩
def CLU_ERR (c : Nat) : Nat := cluBase c + 0xc
def CLU_ERR_IS_CE (c : Nat) : Fld := ⟨CLU_ERR c, 0, 1⟩
def CLU_ERR_IS_UE (c : Nat) : Fld := ⟨CLU_ERR c, 1, 1⟩
def CLU_ERR_SS_CE (c : Nat) : Fld := ⟨CLU_ERR c, 2, 1⟩
def CLU_ERR_SS_UE (c : Nat) : Fld := ⟨CLU_ERR c, 3, 1⟩
def CLU_ERR_NS_PE (c : Nat) : Fld := ⟨CLU_ERR c, 4, 1⟩
def CLU_ERR_RX_PE (c : Nat) : Fld := ⟨CLU_ERR c, 5, 1⟩
def CLU_ERR_BANK_VIOL (c : Nat) : Fld := ⟨CLU_ERR c, 6, 1⟩
def CLU_ERR_RX_RANGE (c : Nat) : Fld := ⟨CLU_ERR c, 7, 1⟩
def CLU_ERR_OSC_RANGE (c : Nat) : Fld := ⟨CLU_ERR c, 8, 1⟩
def CLU_ERR_QUEUE_FULL (c : Nat) : Fld := ⟨CLU_ERR c, 9, 1⟩
def CLU_ERR_INFO (c : Nat) : Nat := cluBase c + 0x10
def CLU_ERR_INFO_STEP (c : Nat) : Fld := ⟨CLU_ERR_INFO c, 0, 11⟩
def CLU_ERR_INFO_PROC (c : Nat) : Fld := ⟨CLU_ERR_INFO c, 11, 6⟩
def CLU_ERR_INFO_SRC (c : Nat) : Fld := ⟨CLU_ERR_INFO c, 17, 3⟩
def CLU_ERR_INFO_VALID (c : Nat) : Fld := ⟨CLU_ERR_INFO c, 31, 1⟩
def CLU_CE_CNT (c : Nat) : Nat := cluBase c + 0x14
def CLU_CE_CNT_CE_COUNT (c : Nat) : Fld := ⟨CLU_CE_CNT c, 0, 16⟩
def CLU_STALL (c : Nat) : Nat := cluBase c + 0x18
def CLU_STALL_LAST (c : Nat) : Fld := ⟨CLU_STALL c, 0, 16⟩
def CLU_STALL_MAX (c : Nat) : Fld := ⟨CLU_STALL c, 16, 16⟩
def CLU_TRIM (c : Nat) : Nat := cluBase c + 0x1c
def CLU_TRIM_TARGET (c : Nat) : Fld := ⟨CLU_TRIM c, 0, 11⟩
def CLU_TRIM_LOCKED (c : Nat) : Fld := ⟨CLU_TRIM c, 16, 1⟩
def CLU_FREQ (c : Nat) : Nat := cluBase c + 0x20
def CLU_FREQ_MEAS (c : Nat) : Fld := ⟨CLU_FREQ c, 0, 16⟩
def CLU_SCRUB (c : Nat) : Nat := cluBase c + 0x24
def CLU_SCRUB_IS_PASSES (c : Nat) : Fld := ⟨CLU_SCRUB c, 0, 16⟩
def CLU_SCRUB_SS_PASSES (c : Nat) : Fld := ⟨CLU_SCRUB c, 16, 16⟩
def CLU_VMAP (c : Nat) : Nat := cluBase c + 0x28
def CLU_VMAP_VIRT_ID (c : Nat) : Fld := ⟨CLU_VMAP c, 0, 10⟩
def CLU_VMAP_MAPPED (c : Nat) : Fld := ⟨CLU_VMAP c, 16, 1⟩
def CLU_MA_ADDR (c : Nat) : Nat := cluBase c + 0x40
def CLU_MA_ADDR_ADDR (c : Nat) : Fld := ⟨CLU_MA_ADDR c, 0, 15⟩
def CLU_MA_ADDR_PROC (c : Nat) : Fld := ⟨CLU_MA_ADDR c, 15, 6⟩
def CLU_MA_ADDR_STORE (c : Nat) : Fld := ⟨CLU_MA_ADDR c, 24, 3⟩
def CLU_MA_ADDR_RAW (c : Nat) : Fld := ⟨CLU_MA_ADDR c, 28, 1⟩
def CLU_MA_ADDR_AUTOINC (c : Nat) : Fld := ⟨CLU_MA_ADDR c, 29, 1⟩
def CLU_MA_D (c i : Nat) : Nat := cluBase c + 0x44 + 4 * i
def CLU_MA_CMD (c : Nat) : Nat := cluBase c + 0x54
def CLU_MA_CMD_READ (c : Nat) : Fld := ⟨CLU_MA_CMD c, 0, 1⟩
def CLU_MA_CMD_WRITE (c : Nat) : Fld := ⟨CLU_MA_CMD c, 1, 1⟩
def CLU_MA_STAT (c : Nat) : Nat := cluBase c + 0x58
def CLU_MA_STAT_ERR (c : Nat) : Fld := ⟨CLU_MA_STAT c, 0, 3⟩
def CLU_ISA_ERR (c : Nat) : Nat := cluBase c + 0x60
def CLU_ISA_ERR_RSV_OP (c : Nat) : Fld := ⟨CLU_ISA_ERR c, 0, 1⟩
def CLU_ISA_ERR_MEM_CONFLICT (c : Nat) : Fld := ⟨CLU_ISA_ERR c, 1, 1⟩
def CLU_ISA_ERR_MEM_XADDR (c : Nat) : Fld := ⟨CLU_ISA_ERR c, 2, 1⟩
def CLU_ISA_ERR_MEM_PORT (c : Nat) : Fld := ⟨CLU_ISA_ERR c, 3, 1⟩
def CLU_ISA_ERR_PROBE_CONFLICT (c : Nat) : Fld := ⟨CLU_ISA_ERR c, 4, 1⟩
def CLU_ISA_INFO (c : Nat) : Nat := cluBase c + 0x64
def CLU_ISA_INFO_STEP (c : Nat) : Fld := ⟨CLU_ISA_INFO c, 0, 11⟩
def CLU_ISA_INFO_PROC (c : Nat) : Fld := ⟨CLU_ISA_INFO c, 11, 6⟩
def CLU_ISA_INFO_CODE (c : Nat) : Fld := ⟨CLU_ISA_INFO c, 17, 3⟩
def CLU_ISA_INFO_VALID (c : Nat) : Fld := ⟨CLU_ISA_INFO c, 31, 1⟩
def CLU_PLATCH (c : Nat) : Nat := cluBase c + 0x68
def CLU_CHK_CTRL (c : Nat) : Nat := cluBase c + 0x70
def CLU_CHK_CTRL_BRK_EN (c : Nat) : Fld := ⟨CLU_CHK_CTRL c, 0, 1⟩
def CLU_CHK_CTRL_BRK_NUM (c : Nat) : Fld := ⟨CLU_CHK_CTRL c, 4, 4⟩
def CLU_CHK_ERR (c : Nat) : Nat := cluBase c + 0x74
def CLU_CHK_ERR_NET_SHADOW (c : Nat) : Fld := ⟨CLU_CHK_ERR c, 0, 1⟩
def CLU_CHK_ERR_NET_STALE (c : Nat) : Fld := ⟨CLU_CHK_ERR c, 1, 1⟩
def CLU_CHK_ERR_RX_STALE (c : Nat) : Fld := ⟨CLU_CHK_ERR c, 2, 1⟩
def CLU_CHK_ERR_TX_STALE (c : Nat) : Fld := ⟨CLU_CHK_ERR c, 3, 1⟩
def CLU_CHK_ERR_TX_SHADOW (c : Nat) : Fld := ⟨CLU_CHK_ERR c, 4, 1⟩
def CLU_CHK_INFO (c : Nat) : Nat := cluBase c + 0x78
def CLU_CHK_INFO_STEP (c : Nat) : Fld := ⟨CLU_CHK_INFO c, 0, 11⟩
def CLU_CHK_INFO_PROC (c : Nat) : Fld := ⟨CLU_CHK_INFO c, 11, 6⟩
def CLU_CHK_INFO_CODE (c : Nat) : Fld := ⟨CLU_CHK_INFO c, 17, 3⟩
def CLU_CHK_INFO_VALID (c : Nat) : Fld := ⟨CLU_CHK_INFO c, 31, 1⟩
def CLU_CHK_ENTRY (c : Nat) : Nat := cluBase c + 0x7c
def CLU_CHK_ENTRY_INDEX (c : Nat) : Fld := ⟨CLU_CHK_ENTRY c, 0, 12⟩
def CLU_MPD (c i : Nat) : Nat := cluBase c + 0x80 + 4 * i
def CLU_MPD_KIND (c i : Nat) : Fld := ⟨CLU_MPD c i, 0, 2⟩
def CLU_MPD_AW (c i : Nat) : Fld := ⟨CLU_MPD c i, 2, 6⟩
def CLU_MPD_LC (c i : Nat) : Fld := ⟨CLU_MPD c i, 8, 2⟩
def CLU_MPD_TARGET (c i : Nat) : Fld := ⟨CLU_MPD c i, 16, 15⟩
def CLU_MRT_ADDR (c : Nat) : Nat := cluBase c + 0xc0
def CLU_MRT_ADDR_STEP (c : Nat) : Fld := ⟨CLU_MRT_ADDR c, 0, 11⟩
def CLU_MRT_ADDR_HALF (c : Nat) : Fld := ⟨CLU_MRT_ADDR c, 11, 1⟩
def CLU_MRT_ADDR_AUTOINC (c : Nat) : Fld := ⟨CLU_MRT_ADDR c, 12, 1⟩
def CLU_MRT_DATA (c : Nat) : Nat := cluBase c + 0xc4
def CLU_MRT_DATA_TAG (c : Nat) : Fld := ⟨CLU_MRT_DATA c, 0, 10⟩
def CLU_MRT_DATA_PH (c : Nat) : Fld := ⟨CLU_MRT_DATA c, 10, 1⟩
def CLU_MRT_DATA_DIR (c : Nat) : Fld := ⟨CLU_MRT_DATA c, 11, 1⟩
def CLU_MRT_DATA_V (c : Nat) : Fld := ⟨CLU_MRT_DATA c, 31, 1⟩
def CLU_SRW_ADDR (c : Nat) : Nat := cluBase c + 0xc8
def CLU_SRW_ADDR_ADDR (c : Nat) : Fld := ⟨CLU_SRW_ADDR c, 0, 15⟩
def CLU_SRW_ADDR_AUTOINC (c : Nat) : Fld := ⟨CLU_SRW_ADDR c, 15, 1⟩
def CLU_SRW_ADDR_FILL (c : Nat) : Fld := ⟨CLU_SRW_ADDR c, 16, 1⟩
def CLU_SRW_ADDR_FILL_BUSY (c : Nat) : Fld := ⟨CLU_SRW_ADDR c, 17, 1⟩
def CLU_SRW_DATA (c : Nat) : Nat := cluBase c + 0xcc
def CLU_SRW_DATA_DATA (c : Nat) : Fld := ⟨CLU_SRW_DATA c, 0, 18⟩
def CLU_MEM_ERR (c : Nat) : Nat := cluBase c + 0xd0
def CLU_MEM_ERR_SR_CE (c : Nat) : Fld := ⟨CLU_MEM_ERR c, 0, 1⟩
def CLU_MEM_ERR_SR_UE (c : Nat) : Fld := ⟨CLU_MEM_ERR c, 1, 1⟩
def CLU_MEM_ERR_MRT_MISS (c : Nat) : Fld := ⟨CLU_MEM_ERR c, 2, 1⟩
def CLU_MEM_ERR_WR_REJ (c : Nat) : Fld := ⟨CLU_MEM_ERR c, 3, 1⟩

end Sys2Proof.Machine.Reg
end

