-- ==== Sys2Proof/Machine/RegTable.lean ====
section
/-! DEFINITION. The registers of the device register window, block by block, transcribed from the field tables of the
chapters: offset, stride and count of an array, half of a 64-bit value, reset value, and the bits of each access code
of R11. -/

namespace Sys2Proof.Machine

/-- One register, or one array of registers, of a block: the masks are the bits of each access code (R11). -/
structure RegDef where
  /-- Byte offset in the block or instance window. -/
  off : Nat
  /-- Distance between the members of an array. -/
  stride : Nat
  /-- Members of the array; 1 for a single register. -/
  count : Nat
  /-- 0 a 32-bit register, 1 the _LO half and 2 the _HI half of a 64-bit value. -/
  half : Nat
  /-- Reset value. -/
  reset : Nat
  /-- RW bits. -/
  rw : Nat
  /-- W1C bits. -/
  w1c : Nat
  /-- W1S bits. -/
  w1s : Nat
  /-- RC bits. -/
  rc : Nat
  /-- LK bits. -/
  lk : Nat
  deriving DecidableEq, Repr

/-- The registers of the DEV window (01_architecture, 18_faults_recovery, 20_test_loopback, 21_register_index): ⟨offset, stride, count, half, reset, RW, W1C, W1S, RC, LK⟩. -/
def devRegs : List RegDef := [
  ⟨0, 4, 1, 0, 0x1020007, 0, 0, 0, 0, 0⟩ /- DEV_ID -/,
  ⟨4, 4, 1, 0, 0x400824, 0, 0, 0, 0, 0⟩ /- DEV_CAPS -/,
  ⟨8, 4, 1, 0, 0, 0, 0, 0, 0, 0⟩ /- DEV_STRAP -/,
  ⟨0x20, 4, 1, 0, 0, 0x10, 0, 0, 0, 0⟩ /- DEV_CTRL -/,
  ⟨0x24, 4, 1, 0, 1, 0, 0x10000, 0, 0, 0⟩ /- DEV_MODE -/,
  ⟨0x30, 4, 1, 0, 0, 0, 0, 0, 0, 0⟩ /- DEV_RST_CAUSE -/,
  ⟨0x34, 4, 1, 0, 0x11388, 0, 0, 0, 0, 0x1ffff⟩ /- DEV_HWDT -/,
  ⟨0x38, 4, 1, 0, 0, 0, 0, 0, 0, 0⟩ /- DEV_HWDT_KICK -/,
  ⟨0x3c, 4, 1, 0, 0, 0, 0x80000000, 0, 0, 0⟩ /- DEV_RAT_INFO -/,
  ⟨0x40, 4, 1, 0, 0, 0, 0, 0, 0xffff, 0⟩ /- DEV_RAT_CNT -/,
  ⟨0x100, 4, 1, 0, 0, 0, 0, 0, 0, 0⟩ /- DEV_BIST_CMD -/,
  ⟨0x104, 4, 1, 0, 0, 0, 0xc00, 0, 0, 0⟩ /- DEV_BIST_STATUS -/,
  ⟨0x108, 4, 2, 0, 0, 0, 0, 0, 0, 0⟩ /- DEV_BIST_RESULT -/,
  ⟨0x110, 4, 2, 0, 0, 0xffffffff, 0, 0, 0, 0⟩ /- DEV_BIST_ARG -/,
  ⟨0x180, 4, 0x22, 0, 0, 0, 0, 0, 0, 0⟩ /- DEV_BIST_FAIL -/]

/-- The registers of the PWR window (19_power_thermal): ⟨offset, stride, count, half, reset, RW, W1C, W1S, RC, LK⟩. -/
def pwrRegs : List RegDef := [
  ⟨0, 4, 1, 0, 0, 1, 0, 0, 0, 0⟩ /- PWR_CFG -/,
  ⟨4, 4, 1, 0, 0, 0, 3, 0, 0, 0⟩ /- PWR_ERR -/,
  ⟨8, 4, 1, 0, 0, 0, 0x80000000, 0, 0, 0⟩ /- PWR_ERR_INFO -/,
  ⟨0xc, 4, 1, 0, 0xc8, 0xffff, 0, 0, 0, 0⟩ /- PWR_TMO -/,
  ⟨0x10, 4, 1, 0, 0, 0, 0x80000000, 0, 0, 0⟩ /- PWR_OFFACC -/,
  ⟨0x14, 4, 1, 0, 0, 0, 0, 0, 0xffff, 0⟩ /- PWR_OFFACC_CNT -/,
  ⟨0x20, 4, 3, 0, 0, 0xffffffff, 0, 0, 0, 0⟩ /- PWR_VOTE_SW -/,
  ⟨0x40, 4, 1, 0, 0x3e8, 0xffff, 0, 0, 0, 0⟩ /- PWR_THR_CFG -/,
  ⟨0x44, 4, 1, 0, 0x373645f, 0xfffffff, 0, 0, 0, 0⟩ /- PWR_THR_CLS0 -/,
  ⟨0x48, 4, 1, 0, 0x36eff5f, 0xfff00ff, 0, 0, 0, 0⟩ /- PWR_THR_CLS1 -/,
  ⟨0x4c, 4, 1, 0, 0x3645a55, 0xfffffff, 0, 0, 0, 0⟩ /- PWR_THR_CLS2 -/,
  ⟨0x50, 8, 1, 1, 0, 0, 0, 0, 0, 0⟩ /- PWR_THR_STAT_LO -/,
  ⟨0x54, 8, 1, 2, 0, 0, 0, 0, 0, 0⟩ /- PWR_THR_STAT_HI -/,
  ⟨0x60, 4, 4, 0, 0, 0, 0, 0, 0, 0⟩ /- PWR_SLOW -/,
  ⟨0x100, 4, 0x5b, 0, 2, 0, 8, 0, 0, 0⟩ /- PWR_DOM -/,
  ⟨0x400, 4, 0x2c, 0, 0, 0, 0, 0, 0x7ff0000, 0⟩ /- PWR_TEMP -/]

/-- The registers of the TMK window (10_tidemark_time): ⟨offset, stride, count, half, reset, RW, W1C, W1S, RC, LK⟩. -/
def tmkRegs : List RegDef := [
  ⟨0, 8, 1, 1, 0, 0, 0, 0, 0, 0⟩ /- TMK_SEC_LO -/,
  ⟨4, 8, 1, 2, 0, 0, 0, 0, 0, 0⟩ /- TMK_SEC_HI -/,
  ⟨8, 4, 1, 0, 0, 0, 0, 0, 0, 0⟩ /- TMK_NS -/,
  ⟨0xc, 4, 1, 0, 0, 0, 0, 0, 0, 0⟩ /- TMK_FRAC -/,
  ⟨0x10, 8, 1, 1, 0, 0xffffffff, 0, 0, 0, 0⟩ /- TMK_SET_SEC_LO -/,
  ⟨0x14, 8, 1, 2, 0, 0xffffffff, 0, 0, 0, 0⟩ /- TMK_SET_SEC_HI -/,
  ⟨0x18, 4, 1, 0, 0, 0x3fffffff, 0, 0, 0, 0⟩ /- TMK_SET_NS -/,
  ⟨0x1c, 4, 1, 0, 0, 0x3ffff, 0, 0, 0, 0⟩ /- TMK_SET_FRAC -/,
  ⟨0x20, 8, 1, 1, 0, 0xffffffff, 0, 0, 0, 0⟩ /- TMK_OFS_LO -/,
  ⟨0x24, 8, 1, 2, 0, 0xffffffff, 0, 0, 0, 0⟩ /- TMK_OFS_HI -/,
  ⟨0x28, 4, 1, 0, 0, 0, 0, 0, 0, 0⟩ /- TMK_CMD -/,
  ⟨0x2c, 4, 1, 0, 0, 0xffffffff, 0, 0, 0, 0⟩ /- TMK_ADJ -/,
  ⟨0x30, 4, 1, 0, 0x1890, 0x3fff, 0, 0, 0, 0⟩ /- TMK_SRV_CFG -/,
  ⟨0x34, 4, 1, 0, 0x32080014, 0xffffffff, 0, 0, 0, 0⟩ /- TMK_SRV_LOCK -/,
  ⟨0x38, 4, 1, 0, 0xf4240, 0xffffffff, 0, 0, 0, 0⟩ /- TMK_STEP_THR -/,
  ⟨0x3c, 4, 1, 0, 1, 0, 0, 0, 0, 0⟩ /- TMK_SRV_STAT -/,
  ⟨0x40, 4, 1, 0, 0, 0, 0, 0, 0, 0⟩ /- TMK_SRV_LAST -/,
  ⟨0x48, 8, 1, 1, 0, 0, 0, 0, 0, 0⟩ /- TMK_MEAS_LO -/,
  ⟨0x4c, 8, 1, 2, 0, 0, 0, 0, 0, 0⟩ /- TMK_MEAS_HI -/,
  ⟨0x50, 4, 1, 0, 0, 0, 0x7f, 0, 0, 0⟩ /- TMK_ERR -/,
  ⟨0x60, 8, 1, 1, 0, 0, 0, 0, 0, 0⟩ /- TMK_TXTS_SEC_LO -/,
  ⟨0x64, 8, 1, 2, 0, 0, 0, 0, 0, 0⟩ /- TMK_TXTS_SEC_HI -/,
  ⟨0x68, 4, 1, 0, 0, 0, 0, 0, 0, 0⟩ /- TMK_TXTS_NS -/,
  ⟨0x6c, 4, 1, 0, 0, 0, 0, 0, 0, 0⟩ /- TMK_TXTS_FRAC -/,
  ⟨0x70, 4, 1, 0, 0, 0, 0, 0, 0, 0⟩ /- TMK_TXTS_ID -/,
  ⟨0x80, 4, 1, 0, 0xa00, 0xfff, 0, 0, 0, 0⟩ /- TMK_SHX_CFG -/,
  ⟨0x84, 4, 1, 0, 0, 0, 0, 0, 0xffffffff, 0⟩ /- TMK_SHX_STAT -/,
  ⟨0x88, 4, 1, 0, 0, 0, 0, 0, 0, 0⟩ /- TMK_SHX_LAST -/,
  ⟨0x90, 4, 1, 0, 0x640000, 0x3ff0001, 0, 0, 0, 0⟩ /- TMK_PPS_CFG -/,
  ⟨0x100, 8, 0x13, 0, 0, 0xffffffff, 0, 0, 0, 0⟩ /- TMK_PORT_LAT -/,
  ⟨0x104, 8, 0x13, 0, 0, 0xffffffff, 0, 0, 0, 0⟩ /- TMK_PORT_ASYM -/,
  ⟨0x400, 4, 0x80, 0, 0, 0xffffffff, 0, 0, 0, 0⟩ /- TMK_LANE_ASYM -/,
  ⟨0xc00, 4, 1, 0, 0, 0x1ff, 0, 0, 0, 0⟩ /- TMK_LB -/]

/-- The registers of the GBK window (17_guestbook): ⟨offset, stride, count, half, reset, RW, W1C, W1S, RC, LK⟩. -/
def gbkRegs : List RegDef := [
  ⟨0, 4, 1, 0, 0x103e8, 0x1ffff, 0, 0, 0, 0⟩ /- GBK_CFG -/,
  ⟨4, 4, 1, 0, 0, 0, 0, 0, 0, 0⟩ /- GBK_STAT -/,
  ⟨8, 4, 1, 0, 0, 0, 0, 0, 0, 0⟩ /- GBK_SEQ -/,
  ⟨0xc, 4, 1, 0, 0, 0, 7, 0, 0, 0⟩ /- GBK_ERR -/,
  ⟨0x10, 4, 1, 0, 0, 0, 0, 0, 0xffffffff, 0⟩ /- GBK_DROP -/,
  ⟨0x14, 4, 1, 0, 0, 0, 0, 0, 0, 0⟩ /- GBK_BAD -/,
  ⟨0x20, 4, 1, 0, 0, 0xfff, 0, 0, 0, 0⟩ /- GBK_SEV_ADDR -/,
  ⟨0x24, 4, 1, 0, 0, 3, 0, 0, 0, 0⟩ /- GBK_SEV_DATA -/,
  ⟨0x80, 4, 1, 0, 0, 0, 0, 0, 0, 0⟩ /- GBK_MB_CMD -/,
  ⟨0x84, 4, 1, 0, 0, 0, 0xc00, 0, 0, 0⟩ /- GBK_MB_STATUS -/,
  ⟨0x88, 4, 1, 0, 0, 0, 0, 0, 0, 0⟩ /- GBK_MB_RESULT -/,
  ⟨0x90, 4, 4, 0, 0, 0xffffffff, 0, 0, 0, 0⟩ /- GBK_MB_ARG -/]

/-- The registers of the OST window (15_innkeeper_ostler): ⟨offset, stride, count, half, reset, RW, W1C, W1S, RC, LK⟩. -/
def ostRegs : List RegDef := [
  ⟨0, 8, 1, 1, 0, 0, 0, 0, 0, 0⟩ /- OST_CMD_LO -/,
  ⟨4, 8, 1, 2, 0, 0, 0, 0, 0, 0⟩ /- OST_CMD_HI -/,
  ⟨8, 4, 1, 0, 0, 0, 0x1f, 0, 0, 0⟩ /- OST_ERR -/,
  ⟨0xc, 4, 1, 0, 0, 0, 0, 0, 0x1fff0000, 0⟩ /- OST_DLY_CNT -/,
  ⟨0x10, 8, 1, 1, 0, 0, 0, 0, 0, 0⟩ /- OST_TICK_LO -/,
  ⟨0x14, 8, 1, 2, 0, 0, 0, 0, 0, 0⟩ /- OST_TICK_HI -/,
  ⟨0x20, 4, 1, 0, 0, 0x80003fff, 0, 0, 0, 0⟩ /- OST_TASK_ADDR -/,
  ⟨0x24, 4, 1, 0, 0, 0x7ffff, 0, 0, 0, 0⟩ /- OST_TASK_D0 -/,
  ⟨0x28, 4, 1, 0, 0, 0xffffffff, 0, 0, 0, 0⟩ /- OST_TASK_D1 -/,
  ⟨0x2c, 4, 1, 0, 0, 0xffffffff, 0, 0, 0, 0⟩ /- OST_TASK_D2 -/,
  ⟨0x100, 4, 0x40, 0, 0, 0x80003fff, 0, 0, 0, 0⟩ /- OST_EVT_TASK -/,
  ⟨0x200, 4, 2, 0, 0, 0, 0xffffffff, 0, 0, 0⟩ /- OST_EVT_PEND -/,
  ⟨0x210, 4, 1, 0, 0, 0xffff, 0, 0, 0, 0⟩ /- OST_DOORBELL -/]

/-- The registers of the WKE window (16_wake_trace): ⟨offset, stride, count, half, reset, RW, W1C, W1S, RC, LK⟩. -/
def wkeRegs : List RegDef := [
  ⟨0, 4, 1, 0, 0xa0, 0x1f00f3, 0, 0, 0, 0⟩ /- WKE_CTRL -/,
  ⟨4, 4, 1, 0, 2, 0, 0, 0, 0, 0⟩ /- WKE_STAT -/,
  ⟨8, 4, 1, 0, 0, 0, 0xf, 0, 0, 0⟩ /- WKE_ERR -/,
  ⟨0xc, 4, 1, 0, 0x64, 0xffff, 0, 0, 0, 0⟩ /- WKE_STALL_MAX -/,
  ⟨0x10, 8, 1, 1, 0, 0xffffffff, 0, 0, 0, 0⟩ /- WKE_SINK_BASE_LO -/,
  ⟨0x14, 8, 1, 2, 0, 0xffffffff, 0, 0, 0, 0⟩ /- WKE_SINK_BASE_HI -/,
  ⟨0x18, 8, 1, 1, 0, 0xffffffff, 0, 0, 0, 0⟩ /- WKE_SINK_LEN_LO -/,
  ⟨0x1c, 8, 1, 2, 0, 0xffffffff, 0, 0, 0, 0⟩ /- WKE_SINK_LEN_HI -/,
  ⟨0x20, 8, 1, 1, 0, 0, 0, 0, 0, 0⟩ /- WKE_SINK_WR_LO -/,
  ⟨0x24, 8, 1, 2, 0, 0, 0, 0, 0, 0⟩ /- WKE_SINK_WR_HI -/,
  ⟨0x40, 8, 1, 1, 0, 0xffffffff, 0, 0, 0, 0⟩ /- WKE_AUTH_ADDR_LO -/,
  ⟨0x44, 8, 1, 2, 0, 0xffffffff, 0, 0, 0, 0⟩ /- WKE_AUTH_ADDR_HI -/,
  ⟨0x48, 4, 1, 0, 0, 0, 0, 0, 0, 0⟩ /- WKE_AUTH_CMD -/,
  ⟨0x4c, 4, 1, 0, 0, 0, 0, 0, 0, 0⟩ /- WKE_AUTH_STAT -/,
  ⟨0x50, 4, 1, 0, 0, 0, 0, 0, 0, 0⟩ /- WKE_AUTH_NONCE -/]

/-- The registers of the BLT window (08_billet_loading): ⟨offset, stride, count, half, reset, RW, W1C, W1S, RC, LK⟩. -/
def bltRegs : List RegDef := [
  ⟨0, 4, 1, 0, 0, 0, 0, 0, 0, 0⟩ /- BLT_CMD -/,
  ⟨4, 4, 1, 0, 0, 0, 0xc00, 0, 0, 0⟩ /- BLT_STATUS -/,
  ⟨8, 4, 2, 0, 0, 0, 0, 0, 0, 0⟩ /- BLT_RESULT -/,
  ⟨0x10, 8, 1, 1, 0, 0xffffffff, 0, 0, 0, 0⟩ /- BLT_ADDR_LO -/,
  ⟨0x14, 8, 1, 2, 0, 0xffffffff, 0, 0, 0, 0⟩ /- BLT_ADDR_HI -/,
  ⟨0x18, 8, 1, 1, 0, 0xffffffff, 0, 0, 0, 0⟩ /- BLT_LEN_LO -/,
  ⟨0x1c, 8, 1, 2, 0, 0xffffffff, 0, 0, 0, 0⟩ /- BLT_LEN_HI -/,
  ⟨0x20, 4, 1, 0, 0, 0x7ff, 0, 0, 0, 0⟩ /- BLT_SEL -/,
  ⟨0x24, 4, 1, 0, 0x3e8, 0xffff, 0, 0, 0, 0⟩ /- BLT_CFG -/,
  ⟨0x28, 8, 1, 1, 0, 0xffffffff, 0, 0, 0, 0⟩ /- BLT_SYS_LO -/,
  ⟨0x2c, 8, 1, 2, 0, 0xffffffff, 0, 0, 0, 0⟩ /- BLT_SYS_HI -/,
  ⟨0x30, 4, 1, 0, 0, 0x81ff00ff, 0, 0, 0, 0⟩ /- BLT_SYS_DEV -/,
  ⟨0x40, 4, 1, 0, 0, 0, 0, 0, 0, 0⟩ /- BLT_LOADED -/,
  ⟨0x44, 4, 1, 0, 0, 0, 0, 0, 0, 0⟩ /- BLT_IMG_CRC -/,
  ⟨0x50, 4, 1, 0, 0, 0x17f, 0x600, 0, 0, 0⟩ /- BLT_LDCH_CTRL -/,
  ⟨0x54, 8, 1, 1, 0, 0xffffffff, 0, 0, 0, 0⟩ /- BLT_LDCH_ADDR_LO -/,
  ⟨0x58, 8, 1, 2, 0, 0xffffffff, 0, 0, 0, 0⟩ /- BLT_LDCH_ADDR_HI -/,
  ⟨0x5c, 4, 1, 0, 0, 0xffffffff, 0, 0, 0, 0⟩ /- BLT_LDCH_LEN -/,
  ⟨0x60, 4, 1, 0, 0, 0, 0, 0, 0, 0⟩ /- BLT_LDCH_CNT -/,
  ⟨0x70, 4, 1, 0, 0, 0x3ff, 0, 0, 0, 0⟩ /- BLT_VMAP_IDX -/,
  ⟨0x74, 4, 1, 0, 0, 0, 0, 0, 0, 0⟩ /- BLT_VMAP -/,
  ⟨0x100, 4, 0x22, 0, 0, 0xffffffff, 0, 0, 0, 0⟩ /- BLT_FAILMAP -/]

/-- The registers of the CFG window (14_boot_configuration): ⟨offset, stride, count, half, reset, RW, W1C, W1S, RC, LK⟩. -/
def cfgRegs : List RegDef := [
  ⟨0, 4, 1, 0, 0, 0, 0, 0, 0, 0⟩ /- CFG_CMD -/,
  ⟨4, 4, 1, 0, 0x10041, 0, 0xc00, 0, 0, 0⟩ /- CFG_STATUS -/,
  ⟨8, 4, 2, 0, 0, 0, 0, 0, 0, 0⟩ /- CFG_RESULT -/,
  ⟨0x10, 4, 3, 0, 0, 0xffffffff, 0, 0, 0, 0⟩ /- CFG_ARG -/,
  ⟨0x20, 4, 1, 0, 4, 0, 0, 0, 0, 0⟩ /- CFG_STATE -/,
  ⟨0x24, 4, 1, 0, 0, 0, 0, 0, 0, 0⟩ /- CFG_USERID -/,
  ⟨0x28, 8, 1, 1, 0, 0, 0, 0, 0, 0⟩ /- CFG_DEVID_LO -/,
  ⟨0x2c, 8, 1, 2, 0, 0, 0, 0, 0, 0⟩ /- CFG_DEVID_HI -/,
  ⟨0x30, 4, 1, 0, 0, 0, 0, 0, 0, 0⟩ /- CFG_KEYSTAT -/,
  ⟨0x34, 4, 1, 0, 0x640064, 0xffffffff, 0, 0, 0, 0⟩ /- CFG_TMO -/,
  ⟨0x38, 4, 1, 0, 0, 0, 0, 0, 0, 0⟩ /- CFG_BOOTLOG -/,
  ⟨0x40, 4, 1, 0, 0x41, 0xf1, 0, 0, 0, 0⟩ /- CFG_SCRUB_CTRL -/,
  ⟨0x44, 4, 1, 0, 0, 0, 7, 0, 0, 0⟩ /- CFG_SCRUB_ERR -/,
  ⟨0x48, 4, 1, 0, 0, 0, 0x80000000, 0, 0, 0⟩ /- CFG_SCRUB_INFO -/,
  ⟨0x4c, 4, 1, 0, 0, 0, 0, 0, 0xffffffff, 0⟩ /- CFG_SCRUB_CNT -/,
  ⟨0x60, 4, 1, 0, 0, 0x87fffffc, 0, 0, 0, 0⟩ /- CFG_MRAM_ADDR -/,
  ⟨0x64, 4, 1, 0, 0, 0xffffffff, 0, 0, 0, 0⟩ /- CFG_MRAM_DATA -/,
  ⟨0x80, 4, 8, 0, 0, 0xffffffff, 0, 0, 0, 0⟩ /- CFG_BBKEY -/,
  ⟨0xa0, 4, 1, 0, 0, 0, 0, 0, 0, 0⟩ /- CFG_BBKEY_CTRL -/]

/-- The registers of the FAB window (13_interface_fabric): ⟨offset, stride, count, half, reset, RW, W1C, W1S, RC, LK⟩. -/
def fabRegs : List RegDef := [
  ⟨0, 4, 1, 0, 2, 0, 0, 0, 0, 0⟩ /- FAB_STATUS -/,
  ⟨4, 4, 1, 0, 0, 0, 0x1f, 0, 0, 0⟩ /- FAB_ERR -/,
  ⟨8, 4, 1, 0, 0, 0, 0x80000000, 0, 0, 0⟩ /- FAB_CONT_INFO -/,
  ⟨0xc, 4, 1, 0, 0, 0, 0, 0, 0xffff, 0⟩ /- FAB_CONT_CNT -/,
  ⟨0x10, 4, 1, 0, 0, 0, 0, 0, 0, 0⟩ /- FAB_CLK_STAT -/,
  ⟨0x14, 4, 1, 0, 0, 0, 0x80000000, 0, 0, 0⟩ /- FAB_OUT_INFO -/,
  ⟨0x18, 8, 1, 1, 0, 0, 0, 0, 0, 0⟩ /- FAB_PUB_LO -/,
  ⟨0x1c, 8, 1, 2, 0, 0, 0, 0, 0, 0⟩ /- FAB_PUB_HI -/,
  ⟨0x40, 4, 1, 0, 0, 0x3ffff, 0, 0, 0, 0⟩ /- FAB_TBL_ADDR -/,
  ⟨0x44, 4, 1, 0, 0, 0, 0, 0, 0, 0⟩ /- FAB_TBL_DATA -/,
  ⟨0x80, 4, 0x10, 0, 0, 0x801fffff, 0, 0, 0, 0⟩ /- FAB_PROBE -/,
  ⟨0x100, 4, 0x38, 0, 0, 0, 0xffffffff, 0, 0, 0⟩ /- FAB_CONT_MAP -/,
  ⟨0x200, 4, 1, 0, 0, 0, 0, 0, 0, 0⟩ /- FAB_MB_CMD -/,
  ⟨0x204, 4, 1, 0, 0, 0, 0xc00, 0, 0, 0⟩ /- FAB_MB_STATUS -/,
  ⟨0x208, 4, 1, 0, 0, 0, 0, 0, 0, 0⟩ /- FAB_MB_RESULT -/,
  ⟨0x210, 4, 4, 0, 0, 0xffffffff, 0, 0, 0, 0⟩ /- FAB_MB_ARG -/,
  ⟨0x300, 4, 1, 0, 0, 0xffffff, 0, 0, 0, 0⟩ /- FAB_IO_LB -/]

/-- The registers of the MGE window (15_innkeeper_ostler, 20_test_loopback): ⟨offset, stride, count, half, reset, RW, W1C, W1S, RC, LK⟩. -/
def mgeRegs : List RegDef := [
  ⟨0, 4, 1, 0, 4, 0xf, 0, 0, 0, 0⟩ /- MGE_CTRL -/,
  ⟨4, 4, 1, 0, 0, 0, 0, 0, 0, 0⟩ /- MGE_STAT -/,
  ⟨8, 8, 1, 1, 0, 0xffffffff, 0, 0, 0, 0⟩ /- MGE_MAC_LO -/,
  ⟨0xc, 8, 1, 2, 0x200, 0xffff, 0, 0, 0, 0⟩ /- MGE_MAC_HI -/,
  ⟨0x10, 4, 1, 0, 0, 0xffffffff, 0, 0, 0, 0⟩ /- MGE_IP -/,
  ⟨0x14, 4, 1, 0, 0x31e21, 0x3ffff, 0, 0, 0, 0⟩ /- MGE_RAP_CFG -/,
  ⟨0x18, 4, 1, 0, 0, 0xffffffff, 0, 0, 0, 0⟩ /- MGE_RAP_ACL -/,
  ⟨0x1c, 4, 1, 0, 0, 0xffffffff, 0, 0, 0, 0⟩ /- MGE_RAP_MASK -/,
  ⟨0x20, 4, 1, 0, 0, 0, 0, 0, 0xffffffff, 0⟩ /- MGE_RAP_CNT -/,
  ⟨0x30, 8, 1, 1, 0, 0xffffffff, 0, 0, 0, 0⟩ /- MGE_RXR_BASE_LO -/,
  ⟨0x34, 8, 1, 2, 0, 0xffffffff, 0, 0, 0, 0⟩ /- MGE_RXR_BASE_HI -/,
  ⟨0x38, 4, 1, 0, 0, 0xffff, 0, 0, 0, 0⟩ /- MGE_RXR_LEN -/,
  ⟨0x3c, 4, 1, 0, 0, 0, 0, 0, 0, 0⟩ /- MGE_RXR_HEAD -/,
  ⟨0x40, 8, 1, 1, 0, 0xffffffff, 0, 0, 0, 0⟩ /- MGE_TXR_BASE_LO -/,
  ⟨0x44, 8, 1, 2, 0, 0xffffffff, 0, 0, 0, 0⟩ /- MGE_TXR_BASE_HI -/,
  ⟨0x48, 4, 1, 0, 0, 0xffff, 0, 0, 0, 0⟩ /- MGE_TXR_LEN -/,
  ⟨0x4c, 4, 1, 0, 0, 0, 0, 0, 0, 0⟩ /- MGE_TXR_HEAD -/,
  ⟨0x50, 4, 1, 0, 0, 0, 0, 0, 0xffffffff, 0⟩ /- MGE_RX_DROP -/,
  ⟨0x60, 4, 1, 0, 0, 0x7ffffff, 0, 0x80000000, 0, 0⟩ /- MGE_MDIO_CMD -/,
  ⟨0x70, 4, 1, 0, 0, 3, 0, 0, 0, 0⟩ /- MGE_LB -/]

/-- The registers of the FRD window (12_ford_twin): ⟨offset, stride, count, half, reset, RW, W1C, W1S, RC, LK⟩. -/
def frdRegs : List RegDef := [
  ⟨0, 4, 1, 0, 0x478, 0x3fff, 0, 0, 0, 0⟩ /- FRD_CFG -/,
  ⟨4, 4, 1, 0, 0, 0, 0, 0, 0, 0⟩ /- FRD_CTRL -/,
  ⟨8, 4, 1, 0, 0, 0, 0x2000, 0, 0, 0⟩ /- FRD_STATUS -/,
  ⟨0xc, 4, 1, 0, 0, 0, 0x1f, 0, 0, 0⟩ /- FRD_ERR -/,
  ⟨0x10, 4, 1, 0, 0x3e8, 0xfffff, 0, 0, 0, 0⟩ /- FRD_DTO -/,
  ⟨0x14, 4, 1, 0, 0x40, 0xffff, 0, 0, 0, 0⟩ /- FRD_PACE -/,
  ⟨0x18, 4, 1, 0, 0, 0, 0, 0, 0, 0⟩ /- FRD_NIN -/,
  ⟨0x20, 8, 1, 1, 0, 0, 0, 0, 0, 0⟩ /- FRD_MIS_FRAME_LO -/,
  ⟨0x24, 8, 1, 2, 0, 0, 0, 0, 0, 0⟩ /- FRD_MIS_FRAME_HI -/,
  ⟨0x28, 8, 1, 1, 0, 0, 0, 0, 0, 0⟩ /- FRD_DIG_LO -/,
  ⟨0x2c, 8, 1, 2, 0, 0, 0, 0, 0, 0⟩ /- FRD_DIG_HI -/,
  ⟨0x30, 8, 1, 1, 0, 0, 0, 0, 0, 0⟩ /- FRD_PDIG_LO -/,
  ⟨0x34, 8, 1, 2, 0, 0, 0, 0, 0, 0⟩ /- FRD_PDIG_HI -/,
  ⟨0x38, 8, 1, 1, 0, 0, 0, 0, 0, 0⟩ /- FRD_SSIG_LO -/,
  ⟨0x3c, 8, 1, 2, 0, 0, 0, 0, 0, 0⟩ /- FRD_SSIG_HI -/,
  ⟨0x40, 8, 1, 1, 0, 0xffffffff, 0, 0, 0, 0⟩ /- FRD_JNL_BASE_LO -/,
  ⟨0x44, 8, 1, 2, 0, 0xffffffff, 0, 0, 0, 0⟩ /- FRD_JNL_BASE_HI -/,
  ⟨0x48, 8, 1, 1, 0, 0xffffffff, 0, 0, 0, 0⟩ /- FRD_JNL_LEN_LO -/,
  ⟨0x4c, 8, 1, 2, 0, 0xffffffff, 0, 0, 0, 0⟩ /- FRD_JNL_LEN_HI -/,
  ⟨0x50, 8, 1, 1, 0, 0, 0, 0, 0, 0⟩ /- FRD_JNL_OLD_LO -/,
  ⟨0x54, 8, 1, 2, 0, 0, 0, 0, 0, 0⟩ /- FRD_JNL_OLD_HI -/,
  ⟨0x58, 8, 1, 1, 0, 0xffffffff, 0, 0, 0, 0⟩ /- FRD_CKPT_FRAME_LO -/,
  ⟨0x5c, 8, 1, 2, 0, 0xffffffff, 0, 0, 0, 0⟩ /- FRD_CKPT_FRAME_HI -/]

/-- The registers of the ACQ window (09_acquisition_trigger): ⟨offset, stride, count, half, reset, RW, W1C, W1S, RC, LK⟩. -/
def acqRegs : List RegDef := [
  ⟨0, 4, 1, 0, 0x20, 0x723, 0, 0, 0, 0⟩ /- ACQ_CTRL -/,
  ⟨4, 4, 1, 0, 0, 0, 0, 0, 0, 0⟩ /- ACQ_STATUS -/,
  ⟨8, 4, 1, 0, 0, 0, 0x1f, 0, 0, 0⟩ /- ACQ_ERR -/,
  ⟨0xc, 4, 1, 0, 0, 0xffffffff, 0, 0, 0, 0⟩ /- ACQ_DEPTH -/,
  ⟨0x10, 4, 1, 0, 0xf4240, 0xffffffff, 0, 0, 0, 0⟩ /- ACQ_AUTO_US -/,
  ⟨0x14, 4, 1, 0, 0, 0xffffff, 0, 0, 0, 0⟩ /- ACQ_PIN_EN -/,
  ⟨0x18, 4, 1, 0, 0, 0, 0, 0, 0xffffffff, 0⟩ /- ACQ_DROP -/,
  ⟨0x1c, 4, 1, 0, 0, 0x7fff, 0, 0, 0, 0⟩ /- ACQ_TAP_NUM -/,
  ⟨0x20, 8, 1, 1, 0, 0, 0, 0, 0, 0⟩ /- ACQ_WR_PTR_LO -/,
  ⟨0x24, 8, 1, 2, 0, 0, 0, 0, 0, 0⟩ /- ACQ_WR_PTR_HI -/,
  ⟨0x28, 8, 1, 1, 0, 0, 0, 0, 0, 0⟩ /- ACQ_OLDEST_LO -/,
  ⟨0x2c, 8, 1, 2, 0, 0, 0, 0, 0, 0⟩ /- ACQ_OLDEST_HI -/,
  ⟨0x30, 8, 1, 1, 0, 0, 0, 0, 0, 0⟩ /- ACQ_TRIG_PTR_LO -/,
  ⟨0x34, 8, 1, 2, 0, 0, 0, 0, 0, 0⟩ /- ACQ_TRIG_PTR_HI -/,
  ⟨0x38, 8, 1, 1, 0, 0, 0, 0, 0, 0⟩ /- ACQ_TRIG_FRAME_LO -/,
  ⟨0x3c, 8, 1, 2, 0, 0, 0, 0, 0, 0⟩ /- ACQ_TRIG_FRAME_HI -/,
  ⟨0x40, 8, 1, 1, 0, 0, 0, 0, 0, 0⟩ /- ACQ_CAP_LO -/,
  ⟨0x44, 8, 1, 2, 0, 0, 0, 0, 0, 0⟩ /- ACQ_CAP_HI -/,
  ⟨0x48, 8, 1, 1, 0, 0xffffffff, 0, 0, 0, 0⟩ /- ACQ_RD_PTR_LO -/,
  ⟨0x4c, 8, 1, 2, 0, 0xffffffff, 0, 0, 0, 0⟩ /- ACQ_RD_PTR_HI -/,
  ⟨0x50, 4, 1, 0, 0, 0, 0, 0, 0xffffffff, 0⟩ /- ACQ_LOST -/,
  ⟨0x58, 8, 1, 1, 0, 0xffffffff, 0, 0, 0, 0⟩ /- ACQ_CMP_FRAME_LO -/,
  ⟨0x5c, 8, 1, 2, 0, 0xffffffff, 0, 0, 0, 0⟩ /- ACQ_CMP_FRAME_HI -/,
  ⟨0x60, 4, 1, 0, 0, 0x7fff, 0, 0, 0, 0⟩ /- ACQ_TAP_ADDR -/,
  ⟨0x64, 4, 1, 0, 0, 0xfffffff, 0, 0, 0, 0⟩ /- ACQ_TAP_DATA -/,
  ⟨0x80, 4, 1, 0, 0, 0, 0, 0, 0, 0⟩ /- ACQ_MB_CMD -/,
  ⟨0x84, 4, 1, 0, 0, 0, 0xc00, 0, 0, 0⟩ /- ACQ_MB_STATUS -/,
  ⟨0x88, 4, 1, 0, 0, 0, 0, 0, 0, 0⟩ /- ACQ_MB_RESULT -/,
  ⟨0x90, 8, 1, 1, 0, 0xffffffff, 0, 0, 0, 0⟩ /- ACQ_MB_SRC_LO -/,
  ⟨0x94, 8, 1, 2, 0, 0xffffffff, 0, 0, 0, 0⟩ /- ACQ_MB_SRC_HI -/,
  ⟨0x98, 4, 1, 0, 0, 0xffffffff, 0, 0, 0, 0⟩ /- ACQ_MB_LEN -/,
  ⟨0xa0, 8, 1, 1, 0, 0xffffffff, 0, 0, 0, 0⟩ /- ACQ_MB_DST_LO -/,
  ⟨0xa4, 8, 1, 2, 0, 0xffffffff, 0, 0, 0, 0⟩ /- ACQ_MB_DST_HI -/,
  ⟨0xc0, 4, 1, 0, 0x81, 0xf1, 0, 0, 0, 0⟩ /- ACQ_SKEW_CFG -/,
  ⟨0x100, 8, 0x10, 0, 0, 0xffffffff, 0, 0, 0, 0⟩ /- ACQ_ST_MASK -/,
  ⟨0x104, 8, 0x10, 0, 0, 0x3ff, 0, 0, 0, 0⟩ /- ACQ_ST_CFG -/,
  ⟨0x200, 8, 0x20, 0, 0, 0x1fffff, 0, 0, 0, 0⟩ /- ACQ_CMP_CFG -/,
  ⟨0x204, 8, 0x20, 0, 0, 0xffffffff, 0, 0, 0, 0⟩ /- ACQ_CMP_MV -/,
  ⟨0x300, 8, 4, 0, 0, 0, 0, 0, 0, 0⟩ /- ACQ_CNT -/,
  ⟨0x304, 8, 4, 0, 0, 0xffffffff, 0, 0, 0, 0⟩ /- ACQ_CNT_LIM -/,
  ⟨0x1000, 4, 0x180, 0, 0x20, 0x1ff7f, 0, 0, 0, 0⟩ /- ACQ_PIN_DLY -/]

/-- The registers of the SEQ window (04_frames_and_elasticity): ⟨offset, stride, count, half, reset, RW, W1C, W1S, RC, LK⟩. -/
def seqRegs : List RegDef := [
  ⟨0, 4, 1, 0, 0, 0x1300, 0, 0, 0, 0⟩ /- SEQ_CFG -/,
  ⟨4, 4, 1, 0, 0, 0, 0x10, 0, 0, 0⟩ /- SEQ_STATUS -/,
  ⟨8, 8, 1, 1, 0, 0xffffffff, 0, 0, 0, 0⟩ /- SEQ_FRAME_NO_LO -/,
  ⟨0xc, 8, 1, 2, 0, 0xffffffff, 0, 0, 0, 0⟩ /- SEQ_FRAME_NO_HI -/,
  ⟨0x10, 4, 1, 0, 0x3e8003e8, 0xffffffff, 0, 0, 0, 0⟩ /- SEQ_BTO -/,
  ⟨0x14, 4, 1, 0, 0, 0, 0x80000000, 0, 0, 0⟩ /- SEQ_BTO_INFO -/,
  ⟨0x18, 4, 1, 0, 0, 0, 0, 0, 0xffff0000, 0⟩ /- SEQ_FRAME_TIME -/,
  ⟨0x20, 4, 1, 0, 0, 0, 0, 0, 0xffffffff, 0⟩ /- SEQ_TIMED_CNT -/,
  ⟨0x24, 4, 1, 0, 0, 0, 0, 0, 0xffffffff, 0⟩ /- SEQ_LATE_MAX -/,
  ⟨0x30, 4, 4, 0, 0, 0, 0, 0, 0, 0⟩ /- SEQ_INMASK -/,
  ⟨0x40, 8, 1, 1, 0, 0xffffffff, 0, 0, 0, 0⟩ /- SEQ_TSTART_SEC_LO -/,
  ⟨0x44, 8, 1, 2, 0, 0xffffffff, 0, 0, 0, 0⟩ /- SEQ_TSTART_SEC_HI -/,
  ⟨0x48, 4, 1, 0, 0, 0xbfffffff, 0, 0, 0, 0⟩ /- SEQ_TSTART_NS -/,
  ⟨0x4c, 4, 1, 0, 0, 0x3fffffff, 0, 0, 0, 0⟩ /- SEQ_TPER_NS -/,
  ⟨0x50, 4, 1, 0, 0, 0x3ffff, 0, 0, 0, 0⟩ /- SEQ_TPER_FRAC -/,
  ⟨0x54, 4, 1, 0, 0x3840, 0xffff, 0, 0, 0, 0⟩ /- SEQ_TLEAD -/,
  ⟨0x60, 4, 1, 0, 0, 0xffffffff, 0, 0, 0, 0⟩ /- SEQ_BRK_CTRL -/,
  ⟨0x68, 8, 1, 1, 0, 0xffffffff, 0, 0, 0, 0⟩ /- SEQ_BRK_FRAME_LO -/,
  ⟨0x6c, 8, 1, 2, 0, 0xffffffff, 0, 0, 0, 0⟩ /- SEQ_BRK_FRAME_HI -/,
  ⟨0x70, 4, 1, 0, 0, 0, 0x80000000, 0, 0xff00, 0⟩ /- SEQ_BRK_STATUS -/,
  ⟨0x74, 4, 1, 0, 0, 0, 0, 0, 0, 0⟩ /- SEQ_BRK_WHERE -/,
  ⟨0x80, 4, 1, 0, 0, 0, 0, 0, 0, 0⟩ /- SEQ_STEP_CMD -/,
  ⟨0x84, 4, 1, 0, 0, 0, 0xff, 0, 0, 0⟩ /- SEQ_ERR -/]

/-- The registers of the QUAD window (11_shoris_lanes): ⟨offset, stride, count, half, reset, RW, W1C, W1S, RC, LK⟩. -/
def quadRegs : List RegDef := [
  ⟨0, 4, 1, 0, 0, 0, 0, 0, 0, 0⟩ /- SHR_QSTAT -/,
  ⟨0x100, 4, 1, 0, 0, 0, 0, 0, 0, 0⟩ /- SHR_MB_CMD -/,
  ⟨0x104, 4, 1, 0, 0, 0, 0xc00, 0, 0, 0⟩ /- SHR_MB_STATUS -/,
  ⟨0x108, 4, 2, 0, 0, 0, 0, 0, 0, 0⟩ /- SHR_MB_RESULT -/,
  ⟨0x110, 4, 4, 0, 0, 0xffffffff, 0, 0, 0, 0⟩ /- SHR_MB_ARG -/]

/-- The registers of the LANE window (11_shoris_lanes): ⟨offset, stride, count, half, reset, RW, W1C, W1S, RC, LK⟩. -/
def laneRegs : List RegDef := [
  ⟨0, 4, 1, 0, 0, 0, 0, 0, 0, 0⟩ /- SHR_LCTRL -/,
  ⟨4, 4, 1, 0, 0x64fa306, 0xffffffff, 0, 0, 0, 0⟩ /- SHR_LCFG -/,
  ⟨8, 4, 1, 0, 0, 0, 0, 0, 0, 0⟩ /- SHR_LSTAT -/,
  ⟨0xc, 4, 1, 0, 0, 0, 0, 0, 0, 0⟩ /- SHR_PEER -/,
  ⟨0x10, 4, 7, 0, 0, 0x7fff, 0, 0, 0, 0⟩ /- SHR_TXFFE -/,
  ⟨0x30, 4, 1, 0, 0, 0, 0xff, 0, 0, 0⟩ /- SHR_LERR -/,
  ⟨0x34, 4, 1, 0, 0, 0, 0, 0, 0xffffffff, 0⟩ /- SHR_LCNT -/,
  ⟨0x38, 4, 1, 0, 0, 0, 0, 0, 0xffff, 0⟩ /- SHR_LCNT2 -/,
  ⟨0x3c, 4, 1, 0, 0x8000010, 0xffff00ff, 0, 0, 0, 0⟩ /- SHR_REPLAY_CFG -/,
  ⟨0x40, 4, 1, 0, 0, 0, 0, 0, 0, 0⟩ /- SHR_RTT -/,
  ⟨0x44, 4, 1, 0, 0, 0x3ff, 0, 0, 0, 0⟩ /- SHR_RXBASE -/,
  ⟨0x50, 4, 1, 0, 0, 0x3f, 0, 0, 0, 0⟩ /- SHR_TEST -/,
  ⟨0x54, 4, 1, 0, 0x24, 0x1ff, 0, 0, 0, 0⟩ /- SHR_PRBS_CFG -/,
  ⟨0x58, 4, 1, 0, 0, 0, 0, 0, 0, 0⟩ /- SHR_PRBS_STAT -/,
  ⟨0x60, 8, 1, 1, 0, 0, 0, 0, 0, 0⟩ /- SHR_PRBS_ERR_LO -/,
  ⟨0x64, 8, 1, 2, 0, 0, 0, 0, 0, 0⟩ /- SHR_PRBS_ERR_HI -/,
  ⟨0x68, 8, 1, 1, 0, 0, 0, 0, 0, 0⟩ /- SHR_PRBS_BITS_LO -/,
  ⟨0x6c, 8, 1, 2, 0, 0, 0, 0, 0, 0⟩ /- SHR_PRBS_BITS_HI -/,
  ⟨0x70, 4, 1, 0, 0, 0, 0, 0, 0, 0⟩ /- SHR_EYE -/]

/-- The registers of the HBC window (06_design_memory): ⟨offset, stride, count, half, reset, RW, W1C, W1S, RC, LK⟩. -/
def hbcRegs : List RegDef := [
  ⟨0, 4, 1, 0, 0, 0, 0, 0, 0xffff0000, 0⟩ /- HBC_STAT -/,
  ⟨4, 4, 1, 0, 0xc80, 0xffff, 0, 0, 0, 0⟩ /- HBC_WIN -/,
  ⟨8, 4, 1, 0, 0x701e080, 0x3fffffff, 0, 0, 0, 0⟩ /- HBC_BUDGET -/,
  ⟨0xc, 4, 1, 0, 0xb00000, 0xffffff, 0, 0, 0, 0⟩ /- HBC_ACQ_BASE -/,
  ⟨0x10, 4, 1, 0, 0, 0xffff, 0, 0, 0, 0⟩ /- HBC_WACK -/,
  ⟨0x20, 4, 1, 0, 0, 0, 0xff, 0, 0, 0⟩ /- HBC_ERR -/,
  ⟨0x24, 4, 1, 0, 0, 0, 0x80000000, 0, 0, 0⟩ /- HBC_ERR_INFO -/,
  ⟨0x30, 4, 1, 0, 0, 0, 0, 0, 0xffffffff, 0⟩ /- HBC_MISS -/,
  ⟨0x34, 4, 1, 0, 0, 0, 0, 0, 0xffff, 0⟩ /- HBC_CE_CNT -/,
  ⟨0x40, 4, 1, 0, 0, 0x3ffff, 0, 0, 0, 0⟩ /- HBC_TBL_ADDR -/,
  ⟨0x44, 4, 1, 0, 0, 0xffffffff, 0, 0, 0, 0⟩ /- HBC_TBL_D0 -/,
  ⟨0x48, 4, 1, 0, 0, 0xffffffff, 0, 0, 0, 0⟩ /- HBC_TBL_D1 -/,
  ⟨0x4c, 4, 1, 0, 0, 0, 0, 0, 0, 0⟩ /- HBC_TBL_CMD -/,
  ⟨0x50, 4, 1, 0, 0, 0, 0, 0, 0, 0⟩ /- HBC_TBL_STAT -/,
  ⟨0x80, 4, 1, 0, 0, 0, 0, 0, 0, 0⟩ /- HBC_MB_CMD -/,
  ⟨0x84, 4, 1, 0, 0, 0, 0xc00, 0, 0, 0⟩ /- HBC_MB_STATUS -/,
  ⟨0x88, 4, 1, 0, 0, 0, 0, 0, 0, 0⟩ /- HBC_MB_RESULT -/,
  ⟨0x90, 4, 1, 0, 0, 0x3ff, 0, 0, 0, 0⟩ /- HBC_MB_ARG0 -/,
  ⟨0x94, 4, 1, 0, 0, 0xffffffff, 0, 0, 0, 0⟩ /- HBC_MB_ARG1 -/,
  ⟨0x98, 4, 1, 0, 0, 0xffffffff, 0, 0, 0, 0⟩ /- HBC_MB_ARG2 -/,
  ⟨0x9c, 4, 1, 0, 0, 0xffffffff, 0, 0, 0, 0⟩ /- HBC_MB_ARG3 -/]

/-- The registers of the MLR window (05_millrace_network): ⟨offset, stride, count, half, reset, RW, W1C, W1S, RC, LK⟩. -/
def mlrRegs : List RegDef := [
  ⟨0, 4, 1, 0, 0, 0, 0, 0, 0, 0⟩ /- MLR_GEN_CTRL -/,
  ⟨4, 4, 1, 0, 0, 0, 0x400, 0, 0, 0⟩ /- MLR_GEN_STATUS -/,
  ⟨8, 8, 1, 1, 0, 0xffffffff, 0, 0, 0, 0⟩ /- MLR_GEN_FRAME_LO -/,
  ⟨0xc, 8, 1, 2, 0, 0xffffffff, 0, 0, 0, 0⟩ /- MLR_GEN_FRAME_HI -/,
  ⟨0x10, 4, 1, 0, 0x40001000, 0xffffffff, 0, 0, 0, 0⟩ /- MLR_UTO -/,
  ⟨0x14, 4, 1, 0, 0x4040, 0xffff, 0, 0, 0, 0⟩ /- MLR_UCFG -/,
  ⟨0x20, 4, 1, 0, 0, 0, 0x1f, 0, 0, 0⟩ /- MLR_CFL_ERR -/,
  ⟨0x24, 4, 1, 0, 0, 0, 0x80000000, 0, 0, 0⟩ /- MLR_CFL_INFO -/,
  ⟨0x40, 4, 1, 0, 0, 0x7fffff, 0, 0, 0, 0⟩ /- MLR_TBL_ADDR -/,
  ⟨0x44, 4, 1, 0, 0, 0xffffffff, 0, 0, 0, 0⟩ /- MLR_TBL_D0 -/,
  ⟨0x48, 4, 1, 0, 0, 0xffffffff, 0, 0, 0, 0⟩ /- MLR_TBL_D1 -/,
  ⟨0x4c, 4, 1, 0, 0, 0, 0, 0, 0, 0⟩ /- MLR_TBL_CMD -/,
  ⟨0x50, 4, 1, 0, 0, 0, 0, 0, 0, 0⟩ /- MLR_TBL_STAT -/]

/-- The registers of the STOP window (05_millrace_network): ⟨offset, stride, count, half, reset, RW, W1C, W1S, RC, LK⟩. -/
def stopRegs : List RegDef := [
  ⟨0, 4, 1, 0, 0x4408, 0, 0, 0, 0, 0⟩ /- MLR_STOP_STAT -/,
  ⟨4, 4, 1, 0, 0, 0, 0xff, 0, 0, 0⟩ /- MLR_STOP_ERR -/,
  ⟨8, 4, 1, 0, 0, 0, 0, 0, 0xffffffff, 0⟩ /- MLR_STOP_COLL -/,
  ⟨0xc, 4, 1, 0, 0, 0, 0x80000000, 0, 0, 0⟩ /- MLR_STOP_CINFO -/,
  ⟨0x10, 4, 1, 0, 0, 0, 0, 0, 0xffffffff, 0⟩ /- MLR_STOP_UCNT -/,
  ⟨0x14, 4, 1, 0, 0, 0xffff0007, 0, 0, 0, 0⟩ /- MLR_STOP_LB -/,
  ⟨0x18, 4, 1, 0, 0, 0, 0, 0, 0, 0⟩ /- MLR_STOP_LBSTAT -/]

/-- The registers of the CLU window (02_step_machine, 03_casornol_isa, 06_design_memory, 07_compiler_contract): ⟨offset, stride, count, half, reset, RW, W1C, W1S, RC, LK⟩. -/
def cluRegs : List RegDef := [
  ⟨0, 4, 1, 0, 0, 0, 0, 0, 0, 0⟩ /- CLU_ID -/,
  ⟨4, 4, 1, 0, 0x63, 0xf3, 0, 0, 0, 0⟩ /- CLU_CTRL -/,
  ⟨8, 4, 1, 0, 0, 0, 0, 0, 0, 0⟩ /- CLU_STATUS -/,
  ⟨0xc, 4, 1, 0, 0, 0, 0x3ff, 0, 0, 0⟩ /- CLU_ERR -/,
  ⟨0x10, 4, 1, 0, 0, 0, 0x80000000, 0, 0, 0⟩ /- CLU_ERR_INFO -/,
  ⟨0x14, 4, 1, 0, 0, 0, 0, 0, 0xffff, 0⟩ /- CLU_CE_CNT -/,
  ⟨0x18, 4, 1, 0, 0, 0, 0, 0, 0xffff0000, 0⟩ /- CLU_STALL -/,
  ⟨0x1c, 4, 1, 0, 0x4e2, 0x7ff, 0, 0, 0, 0⟩ /- CLU_TRIM -/,
  ⟨0x20, 4, 1, 0, 0, 0, 0, 0, 0, 0⟩ /- CLU_FREQ -/,
  ⟨0x24, 4, 1, 0, 0, 0, 0, 0, 0, 0⟩ /- CLU_SCRUB -/,
  ⟨0x28, 4, 1, 0, 0, 0, 0, 0, 0, 0⟩ /- CLU_VMAP -/,
  ⟨0x40, 4, 1, 0, 0, 0x371fffff, 0, 0, 0, 0⟩ /- CLU_MA_ADDR -/,
  ⟨0x44, 4, 4, 0, 0, 0xffffffff, 0, 0, 0, 0⟩ /- CLU_MA_D -/,
  ⟨0x54, 4, 1, 0, 0, 0, 0, 0, 0, 0⟩ /- CLU_MA_CMD -/,
  ⟨0x58, 4, 1, 0, 0, 0, 0, 0, 0, 0⟩ /- CLU_MA_STAT -/,
  ⟨0x60, 4, 1, 0, 0, 0, 0x1f, 0, 0, 0⟩ /- CLU_ISA_ERR -/,
  ⟨0x64, 4, 1, 0, 0, 0, 0x80000000, 0, 0, 0⟩ /- CLU_ISA_INFO -/,
  ⟨0x68, 4, 1, 0, 0xffffffff, 0, 0, 0, 0, 0⟩ /- CLU_PLATCH -/,
  ⟨0x70, 4, 1, 0, 0, 0xf1, 0, 0, 0, 0⟩ /- CLU_CHK_CTRL -/,
  ⟨0x74, 4, 1, 0, 0, 0, 0x1f, 0, 0, 0⟩ /- CLU_CHK_ERR -/,
  ⟨0x78, 4, 1, 0, 0, 0, 0x80000000, 0, 0, 0⟩ /- CLU_CHK_INFO -/,
  ⟨0x7c, 4, 1, 0, 0, 0, 0, 0, 0, 0⟩ /- CLU_CHK_ENTRY -/,
  ⟨0x80, 4, 0x10, 0, 0, 0x7fff03ff, 0, 0, 0, 0⟩ /- CLU_MPD -/,
  ⟨0xc0, 4, 1, 0, 0, 0x1fff, 0, 0, 0, 0⟩ /- CLU_MRT_ADDR -/,
  ⟨0xc4, 4, 1, 0, 0, 0x80000fff, 0, 0, 0, 0⟩ /- CLU_MRT_DATA -/,
  ⟨0xc8, 4, 1, 0, 0, 0xffff, 0, 0, 0, 0⟩ /- CLU_SRW_ADDR -/,
  ⟨0xcc, 4, 1, 0, 0, 0x3ffff, 0, 0, 0, 0⟩ /- CLU_SRW_DATA -/,
  ⟨0xd0, 4, 1, 0, 0, 0, 0xf, 0, 0, 0⟩ /- CLU_MEM_ERR -/]

/-- The registers of the OSTC window (15_innkeeper_ostler): ⟨offset, stride, count, half, reset, RW, W1C, W1S, RC, LK⟩. -/
def ostCoreRegs : List RegDef := [
  ⟨0, 4, 1, 0, 0x10, 0x1c, 0, 1, 0, 0⟩ /- OST_CORE_CTRL -/,
  ⟨8, 8, 1, 1, 0, 0xffffffff, 0, 0, 0, 0⟩ /- OST_CORE_VEC_LO -/,
  ⟨0xc, 8, 1, 2, 0, 0xffffffff, 0, 0, 0, 0⟩ /- OST_CORE_VEC_HI -/,
  ⟨0x10, 4, 1, 0, 0, 0, 0, 0, 0, 0⟩ /- OST_CORE_TAKE -/,
  ⟨0x18, 8, 1, 1, 0, 0, 0, 0, 0, 0⟩ /- OST_CORE_WORD_LO -/,
  ⟨0x1c, 8, 1, 2, 0, 0, 0, 0, 0, 0⟩ /- OST_CORE_WORD_HI -/,
  ⟨0x20, 4, 1, 0, 0, 0, 0, 0, 0, 0⟩ /- OST_CORE_STAT -/,
  ⟨0x28, 4, 1, 0, 0x101f4, 0x1ffff, 0, 0, 0xff000000, 0⟩ /- OST_CORE_WDT -/]

/-- The registers of the WKEC window (16_wake_trace): ⟨offset, stride, count, half, reset, RW, W1C, W1S, RC, LK⟩. -/
def wkeCoreRegs : List RegDef := [
  ⟨0, 4, 1, 0, 0, 0xffff0007, 0, 0, 0, 0⟩ /- WKE_CORE_CFG -/,
  ⟨4, 4, 1, 0, 0, 0, 0, 0, 0xffff0000, 0⟩ /- WKE_CORE_STAT -/,
  ⟨0x40, 0x10, 8, 1, 0, 0xffffffff, 0, 0, 0, 0⟩ /- WKE_CMP_ADDR_LO -/,
  ⟨0x44, 0x10, 8, 2, 0, 0xffffffff, 0, 0, 0, 0⟩ /- WKE_CMP_ADDR_HI -/,
  ⟨0x48, 0x10, 8, 0, 0, 7, 0, 0, 0, 0⟩ /- WKE_CMP_CFG -/]

/-- The registers of the PO window (10_tidemark_time): ⟨offset, stride, count, half, reset, RW, W1C, W1S, RC, LK⟩. -/
def pulseRegs : List RegDef := [
  ⟨0, 8, 1, 1, 0, 0xffffffff, 0, 0, 0, 0⟩ /- TMK_PO_START_SEC_LO -/,
  ⟨4, 8, 1, 2, 0, 0xffffffff, 0, 0, 0, 0⟩ /- TMK_PO_START_SEC_HI -/,
  ⟨8, 4, 1, 0, 0, 0x3fffffff, 0, 0, 0, 0⟩ /- TMK_PO_START_NS -/,
  ⟨0xc, 4, 1, 0, 0, 0x3fffffff, 0, 0, 0, 0⟩ /- TMK_PO_PER_NS -/,
  ⟨0x10, 4, 1, 0, 0, 0x3ffff, 0, 0, 0, 0⟩ /- TMK_PO_PER_FRAC -/,
  ⟨0x14, 4, 1, 0, 0, 0x3fffffff, 0, 0, 0, 0⟩ /- TMK_PO_WIDTH -/,
  ⟨0x18, 4, 1, 0, 0, 7, 0, 0, 0, 0⟩ /- TMK_PO_CTRL -/,
  ⟨0x1c, 4, 1, 0, 0, 0, 0, 0, 0xffff, 0⟩ /- TMK_PO_STAT -/]

/-- The registers of the CAP window (10_tidemark_time): ⟨offset, stride, count, half, reset, RW, W1C, W1S, RC, LK⟩. -/
def captureRegs : List RegDef := [
  ⟨0, 4, 1, 0, 0, 3, 0, 0, 0, 0⟩ /- TMK_CAP_CTRL -/,
  ⟨4, 4, 1, 0, 0, 0, 0x20, 0, 0xffff0000, 0⟩ /- TMK_CAP_STAT -/,
  ⟨8, 8, 1, 1, 0, 0, 0, 0, 0, 0⟩ /- TMK_CAP_SEC_LO -/,
  ⟨0xc, 8, 1, 2, 0, 0, 0, 0, 0, 0⟩ /- TMK_CAP_SEC_HI -/,
  ⟨0x10, 4, 1, 0, 0, 0, 0, 0, 0, 0⟩ /- TMK_CAP_NS -/,
  ⟨0x14, 4, 1, 0, 0, 0, 0, 0, 0, 0⟩ /- TMK_CAP_FRAC -/]

end Sys2Proof.Machine
end

