-- ==== Sys2Proof/Machine/RegMap.lean ====
section
/-! DEFINITION. The layout of the device register window (R818 to R821): which register a window offset names, the power
domain of its block, and what it holds at reset. -/

namespace Sys2Proof.Machine

/-- The register of a block at a local offset, with its index in an array. -/
def findReg (l : List RegDef) (o : Nat) : Option (RegDef × Nat) :=
  match l with
  | [] => none
  | d :: ds =>
    if Nat.ble d.off o && (o - d.off) % d.stride == 0 && Nat.blt ((o - d.off) / d.stride) d.count then
      some (d, (o - d.off) / d.stride)
    else findReg ds o

/-- The registers of a 1 MiB hub block, by block number (table of R819), with the local offset. -/
def hubBlock (b o : Nat) : Option (List RegDef × Nat) :=
  match b with
  | 0 => some (devRegs, o)
  | 1 => some (pwrRegs, o)
  | 2 =>
    if 0x800 ≤ o ∧ o < 0x900 then some (pulseRegs, o % 0x20)
    else if 0xA00 ≤ o ∧ o < 0xB20 then some (captureRegs, o % 0x20)
    else some (tmkRegs, o)
  | 3 => some (gbkRegs, o)
  | 4 => if o < 0x1000 then some (ostRegs, o) else if o < 0x2000 then some (ostCoreRegs, o % 0x100) else some ([], o)
  | 5 =>
    if o < 0x1000 then some (wkeRegs, o)
    else if o < 0x2000 then
      if o % 0x100 < 0x40 ∨ o < 0x1200 then some (wkeCoreRegs, o % 0x100) else some ([], o)
    else some ([], o)
  | 6 => some (bltRegs, o)
  | 7 => some (cfgRegs, o)
  | 8 => some (fabRegs, o)
  | 9 => some (mgeRegs, o)
  | 10 => some (frdRegs, o)
  | 11 => some (acqRegs, o)
  | _ => none

/-- The register list and local offset of a window offset; none outside every block (R819, R820). -/
def blockOf (off : Nat) : Option (List RegDef × Nat) :=
  if off < 0x1000000 then hubBlock (off / 0x100000) (off % 0x100000)
  else if off < 0x1200000 then
    let o := off % 0x10000
    if o < 0x1000 then some (quadRegs, o) else if o < 0x2000 then some (laneRegs, o % 0x400) else some ([], o)
  else if off < 0x2000000 then none
  else if off < 0x2400000 then some (hbcRegs, off % 0x100000)
  else if off < 0x3000000 then none
  else if off < 0x4000000 then
    let o := off % 0x400000
    if o < 0x10000 then some (mlrRegs, o)
    else if o < 0x18000 ∧ o % 0x1000 < 0x900 then some (stopRegs, o % 0x40)
    else some ([], o)
  else if off < 0x4100000 then some (seqRegs, off % 0x100000)
  else if off < 0x8000000 then none
  else if off < 0x9100000 then some (cluRegs, off % 0x4000)
  else none

/-- The power domain of the block that holds a window offset (R819); none outside every block. -/
def blockDomain (off : Nat) : Option Nat :=
  if off < 0x1000000 then
    match off / 0x100000 with
    | 0 | 1 | 2 | 3 | 7 | 9 => some 89
    | 4 | 5 | 6 | 10 | 11 => some 90
    | 8 => some 72
    | _ => none
  else if off < 0x1200000 then some (40 + (off - 0x1000000) / 0x10000)
  else if off < 0x2000000 then none
  else if off < 0x2400000 then some (36 + (off - 0x2000000) / 0x100000)
  else if off < 0x3000000 then none
  else if off < 0x4000000 then some (32 + (off - 0x3000000) / 0x400000)
  else if off < 0x4100000 then some 90
  else if off < 0x8000000 then none
  else if off < 0x9100000 then
    let c := (off - 0x8000000) / 0x4000
    some (8 * (c / 272) + c % 272 / 34)
  else none

/-- The register at a window offset, with its index in an array. -/
def regAt (off : Nat) : Option (RegDef × Nat) :=
  match blockOf off with
  | none => none
  | some (l, o) => findReg l o

/-- What the reset value of a register adds for its instance: CLU_ID, MLR_STOP_STAT.KIND, ACQ_PIN_DLY.REF,
SHR_TXFFE, the state of domains 89 and 90 (R775), and the EDGE field of the PPS_IN capture. -/
def resetFix (off : Nat) (i r : Nat) : Nat :=
  if off < 0x1000000 then
    if off / 0x1000 = 0xB01 then r + i * 0x100
    else if off = 0x100100 + 4 * 89 ∨ off = 0x100100 + 4 * 90 then 0
    else if off = 0x200B00 then 1
    else r
  else if off < 0x1200000 then
    let o := off % 0x400
    if off % 0x10000 < 0x1000 ∨ o < 0x10 ∨ 0x2C ≤ o then r
    else
      match i with
      | 0 | 1 | 2 => 0x3F0
      | 3 => 0x2370
      | 4 => 0x3312
      | 5 => 0x42B4
      | _ => 0x4A76
  else if off < 0x3000000 then r
  else if off < 0x4000000 then
    let o := off % 0x400000
    if 0x10000 ≤ o ∧ (o % 0x1000 = 0 ∨ o % 0x1000 = 18 * 0x40) then r + 1 else r
  else if off < 0x8000000 then r
  else if off % 0x4000 = 0 then
    let c := (off - 0x8000000) / 0x4000
    c + c % 34 * 0x10000 + c % 272 / 34 * 0x400000 + c / 272 * 0x2000000
  else r

/-- What the register at a window offset holds at reset; zero where no register is. -/
def resetOf (off : Nat) : Word :=
  match regAt off with
  | none => 0
  | some (d, i) => BitVec.ofNat 32 (resetFix off i d.reset)

end Sys2Proof.Machine
end

