-- ==== Sys2Proof/Machine/State.lean ====
section
/-! DEFINITION. The state of the device: every register, store, queue, counter, mode and pin the spec gives it, as plain
data, and the queue of the commands that wait. -/

namespace Sys2Proof.Machine

/-- Why the block stops. -/
inductive Fault where
  /-- Raised by the management Ethernet rings when a descriptor or buffer address lies outside every region of the
  Innkeeper physical map: R678 names the bus error of the Jucheoz architecture, which this manual does not describe.
  Safe: the device is not claimed to go on. -/
  | busError
  deriving DecidableEq, Repr

/-- Why a command has no meaning. -/
inductive Refusal where
  /-- Raised by an arm of exec whose command has no meaning yet. Safe: nothing is claimed of it. -/
  | notModelled (mnemonic : String)
  deriving DecidableEq, Repr

/-- One access path (R16, R18): its read latch, its held _LO write, and the word its last read returned. -/
structure PathState where
  /-- The window offset of the _LO half that tags the read latch, if the latch is tagged (R15). -/
  latchTag : Option Nat
  /-- The latched _HI half (R15). -/
  latchHi : Word
  /-- The other registers of the value that the read latch holds: NS, FRAC and ID, in order (R499, R522). -/
  latchRest : List Word
  /-- The window offset of the held _LO write, if one is held (R18). -/
  heldTag : Option Nat
  /-- The held low half (R18). -/
  heldLo : Word
  /-- The word the path's last read returned. -/
  answer : Word
  deriving DecidableEq, Repr

/-- One mailbox unit (R20 to R28): the outcome that its running command will write at completion (R24). -/
structure Mailbox where
  /-- The running command's code. -/
  cmd : Nat
  /-- The ERR that completion writes. -/
  err : Nat
  /-- The RESULT0 that completion writes. -/
  res0 : Word
  /-- The RESULT1 that completion writes. -/
  res1 : Word
  /-- RESULT and ERR are written, and DONE and BUSY change in a later hub cycle (R24). -/
  ended : Bool
  deriving DecidableEq, Repr
/-- One word of the ring receive buffer (R105 to R111). -/
structure RxWord where
  /-- The 18 bits. -/
  word : Nat
  /-- The stored parity bit (R124). -/
  parity : Nat
  /-- 0 EMPTY; 1 VALID; 2 OWED. -/
  state : Nat
  /-- Frame, due step and rank of the arrival it holds (R109). -/
  key : Nat × Nat × Nat
  deriving DecidableEq, Repr

/-- An arrival, waiting or expected (R106 to R109). -/
structure Arrival where
  /-- Its place among arrivals of one due step (R109): the receive-table entry; 1024 and 1025 an HBM reply, 1026 and 1027 a
  cluster-SRAM reply, each first the reply of a suppressed read (R180) and then that of the read that proceeds (log entry
  41). -/
  rank : Nat
  /-- The frame that issued it (R217). -/
  issued : Nat
  /-- The frame it is due in. -/
  frame : Nat
  /-- Its due step. -/
  due : Nat
  /-- The RXB word. -/
  rxw : Nat
  /-- The word. -/
  word : Nat
  /-- The parity bit kept with it (R124). -/
  parity : Nat
  deriving DecidableEq, Repr

/-- What an instruction issued by processor k leaves to be done at the end of its step, or written in the next cycle
(R112). -/
inductive Write where
  /-- A net-store write: processor, entry and value. -/
  | net (k e v : Nat)
  /-- A shadow write: processor, state entry and value. -/
  | state (k e v : Nat)
  /-- A transmit word and its content. -/
  | tx (w v : Nat)
  /-- A probe latch. -/
  | probe (k latch v : Nat)
  /-- New windows (R184). -/
  | win (k : Nat) (rwin lwin : Option Nat)
  /-- A memory access: processor, kind of port (0 none, 1 cluster SRAM, 2 HBM), port, four-state mode, WR, the address
  unless it is unknown, the enable, the data and the reply word. -/
  | mem (k kind port : Nat) (m4 wr : Bool) (addr : Option Nat) (en : Bool) (data rxw : Nat)
  /-- A breakpoint number raised. -/
  | brk (k num : Nat)
  /-- A bit of CLU_ISA_ERR raised. -/
  | isa (code k : Nat)
  /-- A read of processor k failed its check: 2 state store, 3 net store, 4 RXB (R126). -/
  | bad (k src : Nat)
  /-- A read corrected a state row: its key and its data (R125). -/
  | fix (row data : Nat)
  /-- A read named a position outside its word (R89). -/
  | rxRange
  /-- A write was suppressed by the bank rule (R93, R97). -/
  | bankViol
  deriving DecidableEq, Repr

/-- One part of an HBM request that waits for its step (R331). -/
structure MemPart where
  /-- The step at whose issue it is built. -/
  at_ : Nat
  /-- MRT.DIR and the phase. -/
  dir : Nat
  /-- MRT.PH. -/
  ph : Nat
  /-- The flit. -/
  flit : Nat
  deriving DecidableEq, Repr

/-- The stores and pipeline of one cluster (02_step_machine). Its registers are in State.regs. -/
structure Cluster where
  /-- Instruction words of 98 bits (R121), by processor × 2,048 + word. -/
  imem : Sparse Nat
  /-- Net-store entries: value in bits 1:0, parity in bit 2 (R124). -/
  net : Sparse Nat
  /-- State-store rows of 72 bits (R122), by half × 1,024 + row. -/
  rows : Sparse Nat
  /-- Select bits, by entry. -/
  sel : Sparse Nat
  /-- Written marks, by entry. -/
  marks : Sparse Nat
  /-- The commit record (R100). -/
  record : List Nat
  /-- The ring receive buffer. -/
  rxb : Sparse RxWord
  /-- The arrival holding queue, oldest first, at most 32 words (R107). -/
  hold : List Arrival
  /-- Replies that the cluster itself supplies: cluster-SRAM replies, and the replies of R175, R180, R182 and R334. -/
  self_ : List Arrival
  /-- The exit buffers of the ring stop: direction and arrival, oldest first, 16 a direction (table of stop
  resources). -/
  exit : List (Nat × Arrival)
  /-- Arrivals whose due step has passed and which have not been written (R108). -/
  owed : List Arrival
  /-- Memory replies expected from HBM (R177). -/
  expect : List Arrival
  /-- Memory replies of abandoned frames, still in flight, which are discarded when they arrive (R216). -/
  ghost : List Arrival
  /-- RWIN by processor. -/
  rwin : Sparse Nat
  /-- LWIN by processor. -/
  lwin : Sparse Nat
  /-- Transmit words (R169). -/
  tx : Sparse Nat
  /-- Results of the step in progress. -/
  fresh : List Write
  /-- Processors that have issued in the step in progress, one bit each. -/
  issued : Nat
  /-- Net-store and RXB reads of the step in progress, for the scoreboard: processor, 0 net or 1 RXB, and index
  (R400). -/
  chk : List (Nat × Nat × Nat)
  /-- Results of the last step issued, not yet written (R112). -/
  wb : List Write
  /-- Net entries that still read as before the last step issued before a halt (R235). -/
  heldNet : List (Nat × Nat)
  /-- Transmit words that still read as before the last step issued before a halt (R235). -/
  heldTx : List (Nat × Nat)
  /-- Steps whose due arrivals have been taken in this frame (R106, R108). -/
  dueTo : Nat
  /-- The last step of the frame has issued. -/
  isOver : Bool
  /-- FRAME_NO of the frame in progress or last committed. -/
  frame : Nat
  /-- The frame has been committed (R105). -/
  committed : Bool
  /-- The end marker has been injected (R259). -/
  marked : Bool
  /-- Stall cycles of this frame. -/
  stalls : Nat
  /-- Steps a STEPS command still lets the cluster issue (R237); none when it is not limited. -/
  budget : Option Nat
  /-- A broadcast halt has reached the cluster (R230). -/
  halt : Bool
  /-- Parts of HBM requests that wait for their step (R331). -/
  parts : List MemPart
  /-- Step rate in force, in MHz, before halving and slowdown (R135). -/
  rate : Nat
  /-- Slowdown level in force (R796). -/
  slow : Nat
  /-- Rate in force since the last measurement or reset, in units of 1/32 MHz; 0 when it has changed since (R850). -/
  rateSeen : Nat
  /-- Sequencer.checks at that measurement or reset. -/
  seenAt : Nat
  /-- Cluster SRAM: 24 bits a word (18 data, 6 check). -/
  sram : Sparse Nat
  /-- The fill in progress: its value (R851). -/
  fill : Option Nat
  /-- The memory route table, by half × 2,048 + step (R331). -/
  mrt : Sparse Nat
  /-- Next instruction word for the scrubber (R128). -/
  scrubI : Nat
  /-- Next state row for the scrubber (R128). -/
  scrubS : Nat
  /-- CHECK scoreboard: latest step, plus one, at which each net entry was written in the frame. -/
  sbNet : Sparse Nat
  /-- CHECK scoreboard: first and latest step, plus one, at which each transmit word was written. -/
  sbTx : Sparse (Nat × Nat)
  /-- CHECK scoreboard: words for which an arrival has fallen due in the frame. -/
  sbRx : Sparse Nat
  deriving DecidableEq, Repr

/-- An end marker that a bridge stop may not yet send on a lane group (R208, R273). -/
structure EndDue where
  /-- The anchor of the group. -/
  lane : Nat
  /-- The frame. -/
  frame : Nat
  /-- The BRT entries whose flit of the frame has not been forwarded: (die × 288 + stop) × 1,024 + entry. -/
  missing : List Nat
  deriving DecidableEq, Repr

/-- The frame sequencer on the hub die (04_frames_and_elasticity). Its registers are in State.regs. -/
structure Sequencer where
  /-- A frame has been released and its barrier has not completed. -/
  inFrame : Bool
  /-- The next release is the first since entry to RUN, TIMED or STEP (R211). -/
  first : Bool
  /-- The barrier timer runs: steered count at which it was last started or resumed (R211, R212). -/
  timer : Option Nat
  /-- What is left of the timer at that moment, in units of 2^-40 ns. -/
  left : Nat
  /-- Steered count of the last release, for SEQ_FRAME_TIME. -/
  lastRel : Option Nat
  /-- The clusters whose end marker of the frame is held by their Confluence. -/
  marks : Sparse Nat
  /-- The dies whose die marker is held by the hub, one bit each. -/
  dies : Nat
  /-- The local barrier condition has been met (R202). -/
  local_ : Bool
  /-- The output port values of the frame have been published. -/
  published : Bool
  /-- The end markers that have arrived and whose barrier has not completed: lane and frame number modulo 65,536
  (R203, R209). -/
  lanesIn : List (Nat × Nat)
  /-- The inbound lanes whose last marker carried HALT_NOTICE = 1. -/
  notices : List Nat
  /-- Write acknowledgements counted, by die × 4 + FTAG (R340). -/
  acks : Sparse Nat
  /-- Acknowledgements complete, by die × 4 + FTAG (R340). -/
  acked : Sparse Nat
  /-- Number k of the instant the device waits for (R221). -/
  waitK : Option Nat
  /-- Number k of the instant whose frame is in progress (R222). -/
  frameK : Option Nat
  /-- The device is halted in STEP mode (R235). -/
  halted : Bool
  /-- The halt lies before step 0 of a frame not yet released. -/
  atEdge : Bool
  /-- A breakpoint of action FRAME has fired in the frame (R229). -/
  brkFrame : Bool
  /-- The step command in progress: 0 none, 1 STEPS, 2 FRAMES (R237, R238). -/
  cmd : Nat
  /-- Steps or barriers the command still has. -/
  cmdLeft : Nat
  /-- Hub cycle of the last record in SEQ_BRK_STATUS, with its cluster, processor and number (R234). -/
  brkKey : Nat × Nat × Nat × Nat
  /-- The release that is due follows a late frame under LATE_POL 1 (R223, R225). -/
  late : Bool
  /-- A halt has been broadcast and the device is not yet halted (R230). -/
  haltSent : Bool
  /-- End markers of frames that outbound lane groups still wait for (R273). -/
  ends : List EndDue
  /-- Changes of CHECK_ACT, each of which changes the rate in force of every cluster (R76, R850). -/
  checks : Nat
  deriving DecidableEq, Repr

/-- A packet held by its source until it completes (R285). -/
structure SendBuf where
  /-- Destination node. -/
  dnode : Nat
  /-- The packet is a response. -/
  resp : Bool
  /-- GEN. -/
  gen : Nat
  /-- GEN_ANY. -/
  genAny : Bool
  /-- Data syllables. -/
  data : List Nat
  /-- 0 RESV sent; 1 waiting to retry; 2 packet sent. -/
  phase : Nat
  /-- NACKs with STATUS = OK received (R283). -/
  nacks : Nat
  /-- Hub cycle from which the wait in progress is measured. -/
  at_ : Nat
  /-- The response buffer that the source keeps for the response it expects (R286). -/
  rbuf : Option Nat
  deriving DecidableEq, Repr

/-- A buffer at a destination (R281, R296). -/
structure RecvBuf where
  /-- Source node. -/
  snode : Nat
  /-- TAG. -/
  tag : Nat
  /-- GEN. -/
  gen : Nat
  /-- GEN_ANY. -/
  genAny : Bool
  /-- Data syllables. -/
  data : List Nat
  /-- 0 free; 1 reserved, its packet arriving; 2 received and held for its generation; 3 delivered, waiting for its unit;
  4 a response buffer kept for the response of node snode (R286). -/
  phase : Nat
  /-- Hub cycle at which it was fully received. -/
  at_ : Nat
  /-- LEN of the head that has arrived. -/
  len : Option Nat
  /-- The cluster has left ON since the GRANT (R300). -/
  off : Bool
  deriving DecidableEq, Repr

/-- A completed packet: source node, tag and status (R308). -/
structure PacketDone where
  /-- The source node. -/
  node : Nat
  /-- The tag. -/
  tag : Nat
  /-- The status code. -/
  status : Nat
  deriving DecidableEq, Repr

/-- The unscheduled protocol of the device (R281 to R308). -/
structure PacketNet where
  /-- Send buffers, by node × 256 + tag. -/
  send : Sparse (Option SendBuf)
  /-- Destination buffers, by (node × 2 + class) × 64 + buffer. -/
  recv : Sparse RecvBuf
  /-- Control flits that have reached their node and have not been taken, oldest first; at most 16 at a cluster stop (table
  of stop resources). -/
  ctl : List Nat
  /-- Packets that have come back to their sources: node × 256 + tag, and status. -/
  ret : List (Nat × Nat)
  /-- What a stream of unscheduled flits is in the middle of, by die × 1,000 + stop × 2 + direction, + 600 + port of a
  Confluence, or + 700 (hub), 701 (HBM controller) and 702 (Confluence register node) of a node: 0 nothing; at an endpoint,
  1 a packet that nothing takes, 2 × buffer key + 2 one for a buffer, and 2 × (16 × (node × 256 + tag) + status) + 3 one that
  comes back; at a bridge stop 1, and at a Confluence port 1 + the direction it has on the ring. -/
  opens : Sparse Nat
  /-- The last packet that completed at its source. -/
  last : Option PacketDone
  deriving DecidableEq, Repr

/-- The test generator and checker of a stop (R309, R310). -/
structure Loopback where
  /-- Flits not yet received. -/
  left : Nat
  /-- Next expected count. -/
  expect : Nat
  /-- Hub cycle at which the last flit was sent. -/
  sentAt : Nat
  /-- COUNT at GO. -/
  count : Nat
  /-- Flits that have not yet entered the ring (RING). -/
  toSend : Nat
  /-- MODE at GO. -/
  mode : Nat
  /-- DIR at GO. -/
  dir : Nat
  deriving DecidableEq, Repr

/-- A flit that waits in the crossbar: its input port and the flit. -/
structure CrossFlit where
  /-- The input port. -/
  from_ : Nat
  /-- The flit. -/
  flit : Nat
  deriving DecidableEq, Repr

/-- An unscheduled packet that a Confluence stores whole before it forwards it (R278). -/
structure Transit where
  /-- The input port. -/
  port : Nat
  /-- The queue it comes from: an exit buffer, or the port's own. -/
  src : Nat
  /-- The flits received. -/
  flits : List Nat
  /-- The last flit has been received. -/
  whole : Bool
  deriving DecidableEq, Repr

/-- Millrace and the Confluence of one die (05_millrace_network). A stop is numbered ring × 36 + position; a direction is
0 CW, 1 CCW. -/
structure Millrace where
  /-- Slot-table entries D0 + 2^32 × D1, by ((stop × 2 + half) × 2 + table) × 1,024 + entry, where table 0 is TXT or BRT
  and 1 is RXT; the CRT of port 16 + i is stop 288 + i. -/
  tbl : Sparse Nat
  /-- The physical half that is active (R289). -/
  half : Nat
  /-- Generation of the active half before the last switch. -/
  prevGen : Nat
  /-- Stops that a switch at a release has not yet reached (R292), 1 each. -/
  behind : Sparse Nat
  /-- Scheduled flits that have reached a stop on a link, by stop × 2 + direction, oldest first. -/
  link : Sparse (List Nat)
  /-- Scheduled flits that their stop refused and that pass it (R271). -/
  again : Sparse (List Nat)
  /-- Injection queues: flit and phase (R256). -/
  inj : Sparse (List (Nat × Nat))
  /-- Through buffers (R265). -/
  through : Sparse (List Nat)
  /-- Markers that wait for injection. -/
  marks : Sparse (List Nat)
  /-- Unscheduled flits that wait for injection. -/
  uinj : Sparse (List Nat)
  /-- The packet that holds a segment (R266): 0 none; 1 one that passes through; 2 one that was injected. -/
  lock : Sparse Nat
  /-- Arrivals matched in the frame, by (stop × 1,024 + entry) × 4 + FTAG (R269). -/
  seen : Sparse Nat
  /-- Flits that bridge stops have forwarded to lanes, by (stop × 1,024 + BRT entry) × 4 + FTAG (R273). -/
  forwarded : Sparse Nat
  /-- Broadcast markers that have reached a stop, which has not yet acted on them, by stop (R280). -/
  came : Sparse (List Nat)
  /-- Flits that wait to enter the Confluence, oldest first: by stop × 2 + direction the exit buffers of the bridge stops, 16
  flits each, and by 576 + port what has reached ports 16 to 18, and the unscheduled flits of the HBM controller at 19. -/
  exits : Sparse (List Nat)
  /-- The transit buffers of the Confluence, oldest first; 4 to an input port (R278). -/
  transit : List Transit
  /-- Frame of the last RELEASE marker acted on, plus one, by stop (R280). -/
  release : Sparse Nat
  /-- Flits waiting at each output port of the crossbar, oldest first (R279). -/
  cross : Sparse (List CrossFlit)
  /-- Scheduled flits that have left a crossbar port and have not been taken: 0 to 15 at a bridge stop, 19 at the HBM
  controller, 20 at the hub. -/
  inbound : Sparse (List CrossFlit)
  /-- Loopback, by stop. -/
  lb : Sparse Loopback
  deriving DecidableEq, Repr

/-- A request assembled from its parts (R336). -/
structure HbcReq where
  /-- A write. -/
  wr : Bool
  /-- WE (R333). -/
  we : Bool
  /-- MID. -/
  mid : Nat
  /-- Latency class. -/
  lc : Nat
  /-- RPORT. -/
  rport : Nat
  /-- RTAG. -/
  rtag : Nat
  /-- GEN of its parts. -/
  gen : Nat
  /-- Step stamp. -/
  stamp : Nat
  /-- Word address. -/
  addr : Nat
  /-- Data of a write. -/
  data : Nat
  /-- Hub cycle at which part 0 arrived. -/
  at_ : Nat
  /-- The read half of a write has been done (R341): the block that was read. -/
  half : Option Nat
  /-- Its read waits for its retry in the next ECC window (R353). -/
  retry : Bool
  deriving DecidableEq, Repr

/-- Parts of a request that is not complete (R336). -/
structure HbcParts where
  /-- Crossbar input port. -/
  port : Nat
  /-- RXTAG of part 0. -/
  tag : Nat
  /-- NP. -/
  np : Nat
  /-- The request as far as it is known. -/
  req : HbcReq
  /-- Parts received, one bit each. -/
  got : Nat
  deriving DecidableEq, Repr

/-- One HBM controller (06_design_memory). -/
structure HbmCtl where
  /-- The memory table: D0 + 2^32 × D1, by MID. -/
  mem : Sparse Nat
  /-- The MQT: D0 + 2^32 × D1, by (half × 32 + port) × 1,024 + tag. -/
  mqt : Sparse Nat
  /-- Requests whose parts are not complete. -/
  parts : List HbcParts
  /-- Parts of a refused crossing: flits that wait for a full queue, with their port (R350). -/
  blocked : List CrossFlit
  /-- The queue of each pseudo-channel, in order of arrival (R350). -/
  queue : Sparse (List HbcReq)
  /-- Window number of each pseudo-channel, modulo 16 (R343). -/
  win : Sparse Nat
  /-- Pseudo-channels on which an operation overruns its window, 1 each (R352). -/
  isOver : Sparse Nat
  /-- Pseudo-channels whose last window acquisition may use and has not used, 1 each (R472). -/
  acqSlot : Sparse Nat
  deriving DecidableEq, Repr


/-- A placed HBM memory (R431 to R434). -/
structure PlacedMem where
  /-- INDEX in the image. -/
  index : Nat
  /-- MID in its stack's memory table. -/
  mid : Nat
  /-- Stack. -/
  stack : Nat
  /-- BASE_PC. -/
  basePc : Nat
  /-- NPC_LOG2. -/
  npcLog2 : Nat
  /-- BLOCK_BASE. -/
  blockBase : Nat
  /-- NWORDS. -/
  nwords : Nat
  /-- The booking map (R381). -/
  book : Nat
  deriving DecidableEq, Repr

/-- One entry of the section table (R388). -/
structure Section where
  /-- Its number. -/
  ix : Nat
  /-- TYPE. -/
  typ : Nat
  /-- LENGTH. -/
  len : Nat
  /-- OFFSET. -/
  off : Nat
  deriving DecidableEq, Repr

/-- A partition (R390). -/
structure Part where
  /-- Offset of its section. -/
  off : Nat
  /-- VC. -/
  vc : Nat
  /-- PHYS. -/
  phys : Nat
  /-- NSTEP. -/
  nstep : Nat
  /-- The 16 port templates. -/
  ports : List Nat
  deriving DecidableEq, Repr

/-- A SLOT record (R393). -/
structure Slot where
  /-- Offset of the record. -/
  off : Nat
  /-- SRC. -/
  src : Nat
  /-- STEP. -/
  step : Nat
  /-- TXW. -/
  txw : Nat
  /-- HINT. -/
  hint : Nat
  /-- DST. -/
  dst : Nat
  /-- RXW. -/
  rxw : Nat
  /-- DUE. -/
  due : Nat
  deriving DecidableEq, Repr

/-- A MEM record (R394). -/
structure MemDecl where
  /-- Offset of the record. -/
  off : Nat
  /-- Offset of the section. -/
  sec : Nat
  /-- INDEX. -/
  index : Nat
  /-- NPC_LOG2. -/
  npcLog2 : Nat
  /-- NWORDS. -/
  nwords : Nat
  /-- STACK. -/
  stack : Nat
  /-- BASE_PC. -/
  basePc : Nat
  /-- BLOCK_BASE. -/
  blockBase : Nat
  /-- BOOK, window B in bit B. -/
  book : Nat
  deriving DecidableEq, Repr

/-- A PROBE entry (R395). -/
structure Tap where
  /-- Offset of the entry. -/
  off : Nat
  /-- VC. -/
  vc : Nat
  /-- KIND. -/
  kind : Nat
  /-- INDEX. -/
  index : Nat
  deriving DecidableEq, Repr

/-- An INIT section (R396). -/
structure Init where
  /-- Offset of the section. -/
  off : Nat
  /-- Number of the section. -/
  ix : Nat
  /-- LENGTH of the section. -/
  len : Nat
  /-- KIND: 0 HBM memory, 1 cluster SRAM. -/
  kind : Nat
  /-- MODE: 0 data follows, 1 fill. -/
  mode : Nat
  /-- TARGET. -/
  target : Nat
  /-- FIRST. -/
  first : Nat
  /-- COUNT. -/
  count : Nat
  /-- VALUE. -/
  value : Nat
  deriving DecidableEq, Repr

/-- A load image as Billet reads it (R385 to R396). -/
structure Image where
  /-- Its address. -/
  addr : Nat
  /-- FLEN. -/
  flen : Nat
  /-- PINNED. -/
  pinned : Bool
  /-- NPART. -/
  npart : Nat
  /-- STEP_MHZ. -/
  stepMhz : Nat
  /-- IMAGE_LEN. -/
  len : Nat
  /-- SYSTEM_ID. -/
  sysId : Nat
  /-- LANES. -/
  lanes : Nat
  /-- INMASK. -/
  inmask : Nat
  /-- CRC. -/
  crc : Nat
  /-- The section table. -/
  secs : List Section
  /-- Partitions, in the order of their offsets. -/
  parts : List Part
  /-- SLOT records in order. -/
  slots : List Slot
  /-- MEM records in order. -/
  mems : List MemDecl
  /-- PROBE entries in order. -/
  taps : List Tap
  /-- INIT sections in the order of the section table. -/
  inits : List Init
  deriving DecidableEq, Repr

/-- A placement as Billet builds it. -/
structure Plan where
  /-- Physical cluster of each virtual cluster of the image. -/
  map : List (Nat × Nat)
  /-- Slot-table entries D0 + 2^32 × D1: die × 2^21 + the key of the stop's table in half 0. -/
  tbl : Sparse Nat
  /-- Entries taken in each slot table: die × 1,024 + stop × 2 + table. -/
  used : Sparse Nat
  /-- Slots booked: segment × 16,384 + σ + 64. -/
  slots : Sparse Nat
  /-- Memory route table entries: cluster × 2,048 + step. -/
  mrt : Sparse Nat
  /-- MQT entries D0 + 2^32 × D1: (die × 32 + port) × 1,024 + tag. -/
  mqt : Sparse Nat
  /-- MQT entries taken: die × 32 + port. -/
  mqtUsed : Sparse Nat
  /-- Write acknowledgements expected by each die (R436). -/
  wack : Sparse Nat
  /-- Input send table (R631). -/
  send : Sparse Nat
  /-- Output tables (R633). -/
  out : Sparse Nat
  /-- Output entries taken by each die. -/
  outUsed : Sparse Nat
  /-- First BRT entry of each lane that receives values, plus one (R552). -/
  rxBase : Sparse Nat
  /-- The placed memories. -/
  mems : List PlacedMem
  deriving DecidableEq, Repr

/-- Billet (08_billet_loading). Its registers are in State.regs. -/
structure Billet where
  /-- Memories of the placed program. -/
  mems : List PlacedMem
  /-- LANES of the placed image (R386). -/
  lanes : Nat
  /-- SYSTEM_ID of the placed image (R448). -/
  sysId : Nat
  /-- BLT_ADDR of the last successful LOAD (R447). -/
  addr : Nat
  /-- BLT_LEN of the last successful LOAD. -/
  len : Nat
  /-- Port templates of each placed partition, by virtual cluster (R448). -/
  ports : Sparse (List Nat)
  /-- Hub cycle at which the running command was accepted (R444). -/
  startAt : Nat
  /-- Clusters placed by the last image, by virtual cluster: physical cluster plus one. -/
  place : Sparse Nat
  /-- Address of the image of the running command. -/
  cmdAddr : Nat
  /-- Length of the image of the running command. -/
  cmdLen : Nat
  /-- PROG_VALID as the running REPLACE found it (R449, R450). -/
  validBefore : Bool
  /-- The last phase of the running command, or the one in which it ends with an error (R413). -/
  last : Nat
  /-- The image of the running command, as phase 1 read it. -/
  image : Option Image
  /-- Its placement, as phases 2 to 4 found it. -/
  plan : Option Plan
  /-- Offset of a byte of the image whose read in phase 5 or 6 meets an uncorrectable error (R405). -/
  eccLate : Option Nat
  /-- A packet of Billet that completes with another status than OK: NODE and status (R412). -/
  packet : Option (BitVec 12 × BitVec 4)
  /-- Clusters to be mapped whose reset waits for their domain (R418). -/
  toReset : List Nat
  deriving DecidableEq, Repr
/-- A PIN record in progress (R466). -/
structure PinRecord where
  /-- Pin group. -/
  group : Nat
  /-- FRAME_NO of its samples. -/
  frame : Nat
  /-- Time value of sample 0. -/
  time : Nat
  /-- Pin step of sample 0. -/
  step : Nat
  /-- The samples, oldest first. -/
  samples : List Nat
  deriving DecidableEq, Repr

/-- The barrier instant of a frame whose frame point has not yet come (R482). -/
structure PointWait where
  /-- The frame. -/
  frame : Nat
  /-- Time value of the local barrier condition. -/
  time : Nat
  /-- Comparators whose pin condition held in the interval, one bit each. -/
  pins : Nat
  /-- The first matching sample of each pin comparator: time value and pin step. -/
  first : Sparse (Nat × Nat)
  /-- Breakpoints raised in the frame, one bit each. -/
  brks : Nat
  deriving DecidableEq, Repr

/-- The acquisition engine (09_acquisition_trigger). Its registers are in State.regs. -/
structure Acquisition where
  /-- The tap table: CLUSTER in bits 10:0, KIND in 12:11, INDEX in 27:13, by tap (R456). -/
  taps : Sparse Nat
  /-- Snapshot values of net-store and probe-latch taps, by tap; X when none was taken (R457). -/
  snap : Sparse Nat
  /-- Clusters in which tap values wait, with the frame plus one (R460). -/
  wait : Sparse Nat
  /-- Frames of which a cluster took no snapshot (R460). -/
  skipped : List Nat
  /-- Collected tap values that await their frame point: frame and values by tap. -/
  collected : List (Nat × List Nat)
  /-- The values of the collection that completed last, by tap: what the probe pins show (R627). -/
  shown : List Nat
  /-- Bytes of the stream that wait in the staging buffer (R469). -/
  stage : List Byte
  /-- Stream offset of the next byte appended. -/
  tail : Nat
  /-- Records held: stream offset and FRAME_NO, oldest first. -/
  starts : List (Nat × Nat)
  /-- The next record carries GAP = 1. -/
  gap : Bool
  /-- PIN records in progress. -/
  pins : List PinRecord
  /-- Steered count at ARM. -/
  armAt : Nat
  /-- FORCE has been written since the last frame point. -/
  force : Bool
  /-- Last evaluation of each comparator: result in bit 0, masked bits above, plus one (R487). -/
  prev : Sparse Nat
  /-- Pin comparators that have matched since the last barrier instant, one bit each. -/
  pinHit : Nat
  /-- Their first matching samples. -/
  pinFirst : Sparse (Nat × Nat)
  /-- Breakpoints raised in the frame in progress, one bit each. -/
  brks : Nat
  /-- The frames whose frame points are awaited, oldest first. -/
  points : List PointWait
  /-- Time value of the last pin sample (R461). -/
  sampledAt : Nat
  /-- The stream offset from which the running COPY reads (R493). -/
  copySrc : Nat
  /-- The address to which the running COPY writes. -/
  copyDst : Nat
  /-- Skew calibration: sum and count of each pin (R490). -/
  skew : Sparse (Int × Nat)
  deriving DecidableEq, Repr


/-- A Tidemark timestamp: seconds, nanoseconds and 2^-18 ns (R496). -/
structure Stamp where
  /-- Seconds. -/
  sec : Nat
  /-- Nanoseconds. -/
  ns : Nat
  /-- Fraction in units of 2^-18 ns. -/
  frac : Nat
  deriving DecidableEq, Repr

/-- One entry of TMK_TXTS (R512). -/
structure TxStamp where
  /-- Transmit time. -/
  stamp : Stamp
  /-- sequenceId. -/
  seqId : Nat
  /-- messageType. -/
  msgType : Nat
  deriving DecidableEq, Repr

/-- One pulse output (R503, R519, R520). -/
structure PulseOut where
  /-- The pin is at its active level. -/
  active : Bool
  /-- Number k of the next instant START + k × period; none when no instant remains. -/
  next : Option Nat
  /-- Steered count at which the pulse in progress ends (R504). -/
  endAt : Nat
  deriving DecidableEq, Repr

/-- A time exchange in progress (R515 to R517). -/
structure Exchange where
  /-- Identifier carried by the request. -/
  id : Nat
  /-- Lane of the request. -/
  lane : Nat
  /-- Time value t1, in units of 2^-40 ns. -/
  t1 : Nat
  /-- Steered count at t1. -/
  at_ : Nat
  /-- Steps taken before t1; a later step makes the measurement void (R502). -/
  steps : Nat
  deriving DecidableEq, Repr

/-- The Tidemark time base (10_tidemark_time). -/
structure Tidemark where
  /-- The time value in units of 2^-40 ns (R496, R497). -/
  time : Nat
  /-- The steered advance since reset, without steps, in units of 2^-40 ns (R504). -/
  steered : Nat
  /-- The servo integral (R508). -/
  integ : Int
  /-- The servo's count of good measurements (R508). -/
  good : Nat
  /-- Steered count at the last measurement or change of SRC (R509, R511). -/
  since : Nat
  /-- Hub cycle of the last step (R502). -/
  stepAt : Option Nat
  /-- Steps taken since power-on, without wrap (R502). -/
  steps : Nat
  /-- TMK_TXTS, oldest first (R512). -/
  txts : List TxStamp
  /-- The capture FIFOs, oldest first, by input; 8 is PPS_IN (R521). -/
  caps : Sparse (List Stamp)
  /-- The pulse outputs (R519). -/
  pulses : Sparse PulseOut
  /-- PPS_OUT is high (R523). -/
  pps : Bool
  /-- Steered count at which PPS_OUT falls (R504). -/
  ppsEnd : Nat
  /-- Hub cycle of the last rise of PPS_OUT, if any. -/
  ppsAt : Option Nat
  /-- The exchange in progress (R515). -/
  exchange : Option Exchange
  /-- Identifier of the next request. -/
  nextId : Nat
  /-- Steered count of the last request (R515). -/
  lastReq : Option Nat
  /-- Steered count of the last REF10M_IN edge taken. -/
  lastRef : Option Nat
  /-- One-step insertion made in the last transmitted PTP message: the transmit time (R513). -/
  oneStep : Option Stamp
  deriving DecidableEq, Repr

/-- One item of a packet (R544). -/
inductive LaneItem where
  /-- VALUES: FTAG, STEP and the value words. -/
  | values (ftag step : Nat) (words : List Nat)
  /-- END: HALT_NOTICE, NOTICE and FRAME. -/
  | endItem (haltNotice notice : Bool) (frame : Nat)
  /-- DATA: CHAN and the bytes. -/
  | data (chan : Nat) (bytes : List Byte)
  deriving DecidableEq, Repr

/-- A control block that waits for the transmitter (R568, R569). -/
inductive LaneCtrl where
  /-- TREQ with its ID. -/
  | treq (id : Nat)
  /-- TRESP with its ID and t2. -/
  | tresp (id : Nat) (t2 : Stamp)
  deriving DecidableEq, Repr

/-- A value word with its lane position (R549, R552). -/
structure LaneWord where
  /-- FTAG of its frame. -/
  ftag : Nat
  /-- Lane position. -/
  pos : Nat
  /-- Step stamp. -/
  step : Nat
  /-- The word. -/
  word : Nat
  deriving DecidableEq, Repr

/-- A packet of the replay buffer (R559, R562). -/
structure LanePacket where
  /-- SEQ. -/
  seq : Nat
  /-- Its items. -/
  items : List LaneItem
  /-- Hub cycle from which its wait is measured. -/
  at_ : Nat
  /-- Replay count. -/
  count : Nat
  deriving DecidableEq, Repr

/-- The link level of a Shoris lane: bring-up, block lock and the test generators (11_shoris_lanes). -/
structure LaneLink where
  /-- SHR_LCFG as the last START found it. -/
  cfg : Word
  /-- The rate before the one being tried (R537). -/
  prev : Nat
  /-- A step timeout has just led back to the previous rate (R537). -/
  fellBack : Bool
  /-- Hub cycle at which the bring-up step, or the RELOCK state, began. -/
  at_ : Nat
  /-- NEXT that this side sends. -/
  next : Nat
  /-- NEXT of the last NEG from the peer, if one has arrived at this rate. -/
  peerNext : Option Nat
  /-- NEG blocks sent with AGREE = 1. -/
  agreed : Nat
  /-- The peer has sent AGREE = 1 with this side's NEXT (R537). -/
  peerAgreed : Bool
  /-- Validity of the last 64 headers, the latest first (R533). -/
  headers : List Bool
  /-- The block boundary, in bits slipped, modulo 290 (R534). -/
  boundary : Nat
  /-- The state of the transmit scrambler, 58 bits (R532). -/
  scramble : Nat
  /-- The state of the receive descrambler, 58 bits (R532). -/
  descramble : Nat
  /-- The last unit sent: header and syllables as they go to the line, scrambled (R531, R532). -/
  line : Nat × List Nat
  /-- The syllables of the last block received, descrambled. -/
  block : List Nat
  /-- DOWN control blocks still to be sent (R567). -/
  downLeft : Nat
  /-- SHR_TEST and SHR_PRBS_CFG as the entry to TEST found them (R573). -/
  test : Nat × Nat
  /-- The state of the PRBS generator. -/
  prbsTx : Nat
  /-- The state of the PRBS checker. -/
  prbsRx : Nat
  /-- Consecutive error-free bits seen by the checker. -/
  prbsRun : Nat
  /-- Bit numbers, within the last 1,024, of the mismatches seen in SYNC, the latest first (R575). -/
  prbsBad : List Nat
  /-- Bits that INJ will invert (R576). -/
  inject : Nat
  /-- The coefficients with which the last unit was sent, as their register holds them (R540). -/
  ffe : Nat
  /-- Those of the unit before it. -/
  ffeOld : Nat
  /-- The last two bits before the last unit, 1 or -1 each; 0 where the line was idle (R539). -/
  before : Int × Int
  deriving DecidableEq, Repr

/-- The packet layer of a Shoris lane (R542 to R567). -/
structure LaneQueue where
  /-- SEQ of the next non-empty packet. -/
  seq : Nat
  /-- The replay buffer, oldest first. -/
  buffer : List LanePacket
  /-- SEQ numbers still to be resent. -/
  resend : List Nat
  /-- Position buffers: words not yet sent (R549). -/
  words : List LaneWord
  /-- FTAG of the frame being sent, once known. -/
  ftag : Option Nat
  /-- Lowest position not yet sent. -/
  next : Nat
  /-- END items that wait: haltNotice, notice and frame. -/
  ends : List (Bool × Bool × Nat)
  /-- Ford DATA bytes that wait, one list per item. -/
  ford : List (List Byte)
  /-- Load-channel DATA bytes that wait, one list per item. -/
  load : List (List Byte)
  /-- Control blocks that wait. -/
  ctrl : List LaneCtrl
  /-- The last unit sent was a control block (R569). -/
  lastCtrl : Bool
  /-- Expected SEQ. -/
  expect : Nat
  /-- A non-empty packet has been accepted. -/
  ackV : Bool
  /-- The next packet carries NAK = 1 (R561). -/
  nak : Bool
  /-- A NAK may be sent: a packet has been accepted since the last one. -/
  nakArmed : Bool
  /-- The receive buffer: words waiting for their frame's release (R552). -/
  rx : List LaneWord
  /-- Next receive position, by FTAG. -/
  rxNext : Sparse Nat
  /-- Frames whose END item has arrived and has not yet been delivered for the group (R556). -/
  endsIn : List Nat
  deriving DecidableEq, Repr

/-- One Shoris lane. Its registers are in State.regs. -/
structure Lane where
  /-- The link level. -/
  link : LaneLink
  /-- The packet layer. -/
  q : LaneQueue
  deriving DecidableEq, Repr

/-- One record pair of the journal: the entry of one frame (R601, R602). -/
structure JournalEntry where
  /-- FRAME_NO. -/
  frame : Nat
  /-- Byte offset of its INPUT in the journal's whole stream. -/
  start : Nat
  /-- Bytes of the INPUT and, once it is written, of the DIGEST. -/
  len : Nat
  deriving DecidableEq, Repr

/-- An INPUT message held (R596, R609). -/
structure FrameInput where
  /-- FRAME_NO. -/
  frame : Nat
  /-- The JOIN flag. -/
  join : Bool
  /-- The frame inputs. -/
  words : List Nat
  deriving DecidableEq, Repr

/-- Ford (12_ford_twin). Its registers are in State.regs. -/
structure Ford where
  /-- Role request pending: 0 none, 1 PRIMARY, 2 SHADOW, 3 CATCHUP (R586, R588). -/
  req : Nat
  /-- Hub cycle at which it was made. -/
  reqAt : Nat
  /-- Hub cycle of the last PAIR sent (R588). -/
  pairAt : Nat
  /-- DETACH waits for the next barrier completion (R600). -/
  detach : Bool
  /-- LEAVE has been received and waits for the next barrier completion (R587). -/
  leave : Bool
  /-- JOIN has been received and waits for the next barrier completion (R611). -/
  join : Bool
  /-- The next INPUT carries JOIN = 1 (R611). -/
  joinNext : Bool
  /-- JOIN has been sent (R611). -/
  joinSent : Bool
  /-- A digest difference holds the device after its next barrier completion (R594). -/
  mismatch : Bool
  /-- Own digests of the last 16 frames, the latest first: frame and digest (R593). -/
  digests : List (Nat × Nat)
  /-- Partner digests of the last 16 frames received, the latest first (R594). -/
  peer : List (Nat × Nat)
  /-- The partner's last DIGEST carried HALTED = 1 (R598). -/
  peerHalted : Bool
  /-- First frame whose release R595 gates by a digest: frames up to this one need none. -/
  gateFrom : Nat
  /-- INPUT messages held, oldest first. -/
  inputs : List FrameInput
  /-- FRAME_NO of the last INPUT received, plus one (R608). -/
  lastIn : Nat
  /-- MODE messages held: frame, target and CHECK (R78, R596). -/
  modes : List (Nat × Nat × Bool)
  /-- The gate wait in progress: the hub cycle from which it is measured, or, while the partner is halted, the hub cycles
  already waited; none when no release waits for Ford (R598). -/
  gate : Option Nat
  /-- A release that is due waits for Ford or for the pacing gap. -/
  due : Bool
  /-- Hub cycle of the barrier completion from which R610 measures its gap, while it runs. -/
  pace : Option Nat
  /-- The partner is in the CATCHUP role. -/
  catchup : Bool
  /-- Bytes written to the journal since it was enabled (R601). -/
  tail : Nat
  /-- Journal entries held, oldest first. -/
  entries : List JournalEntry
  /-- The next frame that the survivor's stream sends to its CATCHUP partner (R608). -/
  stream : Option Nat
  /-- Dirty HBM blocks: memory index × 2^28 + block (R604). -/
  dirtyHbm : Sparse Nat
  /-- Dirty cluster SRAM groups of 28 words: virtual cluster × 2,048 + group (R604). -/
  dirtySram : Sparse Nat
  /-- The checkpoint frame C, once a checkpoint is armed (R603). -/
  ckpt : Option Nat
  /-- The release of frame C + 1 is withheld for FINAL (R605). -/
  final : Bool
  /-- Bytes of the partner's stream not yet a whole message (R589). -/
  rx : List Byte
  /-- A SHADOW whose digest timeout expired under HOLD issues no release (R599). -/
  frozen : Bool
  /-- The first frame that a device just promoted publishes (R599). -/
  pubFrom : Nat
  deriving DecidableEq, Repr
/-- The port interface of the fabric (13_interface_fabric). Its registers are in State.regs. -/
structure Fabric where
  /-- Input send tables: WORD and V, by die × 1,024 + entry (R631). -/
  send : Sparse Nat
  /-- Output tables: WORD and V, by die × 1,024 + entry (R633). -/
  out : Sparse Nat
  /-- Park table, by output word. -/
  park : Sparse Nat
  /-- Word-clock table as written, by direction × 4,096 + word. -/
  clk : Sparse Nat
  /-- Word-clock table in force since the last configuration (R642). -/
  clkNow : Sparse Nat
  /-- Values registered for each input word, the latest first: hub cycle and value (R630). -/
  inputs : Sparse (List (Nat × Nat))
  /-- Input values latched at the last release (R630). -/
  latched : Sparse Nat
  /-- Output arrivals: payload plus one, by (die × 1,024 + entry) × 4 + FTAG (R633). -/
  got : Sparse Nat
  /-- Published values, by output word (R51). -/
  pub : Sparse Nat
  /-- Hub cycle of the last publication or change to park values. -/
  pubAt : Nat
  /-- Values on the fabric nets, by output word. -/
  nets : Sparse Nat
  /-- User clocks whose words have still to take the last change, one bit each (R636). -/
  outPend : Nat
  /-- User clocks that have still to show IN_TAKEN, one bit each (R639). -/
  inPend : Nat
  /-- OUT_TICK, one bit for each user clock. -/
  tick : Nat
  /-- IN_TAKEN, one bit for each user clock. -/
  taken : Nat
  /-- The flip-flops of the cells, by tile × 16 + 2 × cell + number: value plus one, once clocked or set (R614). -/
  flops : Sparse Nat
  /-- User clocks at which global set-reset has been released, one bit each (R666). -/
  live : Nat
  /-- The last driven level of each long line, plus one (R622). -/
  keep : Sparse Nat
  /-- The levels of the user I/O pins, after their delay taps (R461, R624). -/
  pins : Nat
  /-- Output words that serialisers have taken and not yet begun to send, oldest first, by pin (R624, R625). -/
  outWords : Sparse (List (List Bool))
  /-- The bits that each pin sends in the word cycle in progress, in the order of time. -/
  sent : Sparse (List Bool)
  /-- The input word collected in the last word cycle, by pin (R625). -/
  inNext : Sparse (List Bool)
  /-- The input word in the register of each pin's deserialiser. -/
  inWord : Sparse (List Bool)
  deriving DecidableEq, Repr


/-- The configuration controller and the key store (14_boot_configuration). Its registers are in State.regs. -/
structure CfgUnit where
  /-- Fuse rows 0 to 63 (R667). -/
  fuses : Sparse Nat
  /-- The clusters that fuses mark as failed (R421). -/
  failed : List Nat
  /-- The battery-backed key, when its CRC matches (R668). -/
  key : Option Nat
  /-- The configuration memory: syllables of 24 bits (18 data, 6 check), by frame key × 128 + syllable (R649, R671). -/
  frames : Sparse Nat
  /-- What the controller runs: 0 nothing; 1 the power-up load; 2 LOAD_SLOT; 3 LOAD_MEM; 4 the load on the way out of
  STANDBY; 5 VERIFY; 6 CLEAR. -/
  job : Nat
  /-- The slot it reads. -/
  slot : Nat
  /-- The carve-out address it reads (LOAD_MEM). -/
  addr : Nat
  /-- The length given by the command (LOAD_MEM). -/
  len : Nat
  /-- Steered count at which the phase began (R657). -/
  at_ : Nat
  /-- Hub cycle at which the phase began (R665). -/
  hubAt : Nat
  /-- The power-up attempt: 1 the PRIMARY slot, 2 the other (R660). -/
  attempt : Nat
  /-- Firmware data is written: the cores were held when the load began (R651). -/
  held : Bool
  /-- The load was made in BOOT (R659). -/
  inBoot : Bool
  /-- START_CTL.WAIT_DONE of the image (R650). -/
  waitDone : Bool
  /-- The outcome that phase 6 ends with: ERR, RESULT0 and RESULT1 (R658). -/
  fail : Nat × Nat × Nat
  /-- Hub cycle at which every clock was locked, in phase 5 (R666). -/
  lockedAt : Option Nat
  /-- The device drives DONE low (R664). -/
  doneLow : Bool
  /-- The scrubber's frame, in the order of R649 (R671). -/
  scrubFrame : Nat
  /-- The scrubber's syllable. -/
  scrubSyl : Nat
  /-- Hub cycle of the scrubber's last read. -/
  scrubAt : Nat
  /-- Hub cycle at which the scrubber last completed a frame, or started (R675). -/
  frameAt : Nat
  /-- FW_ENTRY of the last power-up load that passed phase 3 (R659, R792). -/
  fwEntry : Option Nat
  /-- Restarts since the last completed pass (R675). -/
  restarts : Nat
  deriving DecidableEq, Repr

/-- One Ostler task descriptor (R683 to R687). -/
structure Task where
  /-- Eligible cores, one bit each. -/
  mask : Nat
  /-- Priority, 7 highest. -/
  pri : Nat
  /-- The 64-bit WORD. -/
  word : Nat
  /-- 0 IDLE; 1 READY; 2 DELAYED; 3 SLOTTED; 4 RUNNING. -/
  state : Nat
  /-- Core, in SLOTTED and RUNNING. -/
  core : Nat
  /-- RERUN (R686). -/
  rerun : Bool
  /-- DRERUN (R686). -/
  drerun : Bool
  /-- Wake tick recorded or waited for. -/
  wake : Nat
  deriving DecidableEq, Repr

/-- One Ostler command: OP, TASK and ARG of OST_CMD. -/
structure OstCmd where
  /-- OP. -/
  op : Nat
  /-- TASK. -/
  task : Nat
  /-- ARG. -/
  arg : Nat
  deriving DecidableEq, Repr

/-- The Ostler dispatcher (15_innkeeper_ostler). -/
structure Ostler where
  /-- Task descriptors. -/
  tasks : Sparse Task
  /-- The ready list of each priority, oldest first (R683). -/
  ready : Sparse (List Nat)
  /-- The delay list: wake tick and task, in order (R684). -/
  delay : List (Nat × Nat)
  /-- The DELAYED tasks that were due at the last tick and have not yet left the delay list, in its order (R685). -/
  due : List Nat
  /-- OST_TICK (R684). -/
  tick : Nat
  /-- Hub cycles since the last tick. -/
  phase : Nat
  /-- The command queue of each path, oldest first (R690). -/
  queue : Sparse (List OstCmd)
  /-- The command each path holds because its queue is full (R690). -/
  waiting : Sparse (Option OstCmd)
  /-- The task of each waiting event command, by event (R691). -/
  events : Sparse (Option Nat)
  /-- The slot of each core. -/
  slot : Sparse (Option Nat)
  /-- Hub cycles counted by each core's watchdog (R696). -/
  wdt : Sparse Nat
  /-- Non-maskable interrupt of each core (R697). -/
  nmi : Sparse Bool
  /-- Held OST_TASK_D0 write (R709). -/
  d0 : Option Word
  /-- Held OST_TASK_D1 write (R709). -/
  d1 : Option Word
  deriving DecidableEq, Repr

/-- One register-access request waiting or executed (R699 to R704). -/
structure RapRequest where
  /-- Source MAC address. -/
  mac : Nat
  /-- Source IPv4 address. -/
  ip : Nat
  /-- Source UDP port. -/
  port : Nat
  /-- UDP payload. -/
  payload : List Byte
  deriving DecidableEq, Repr

/-- The management Ethernet port and the I²C port (15_innkeeper_ostler). -/
structure MgePort where
  /-- Requests waiting, oldest first, at most 4 (R703). -/
  waiting : List RapRequest
  /-- The last executed request (R703). -/
  last : Option RapRequest
  /-- The stored response payload to it (R703). -/
  response : List Byte
  /-- The last frame, or response payload, that the port sent. -/
  sent : List Byte
  /-- Hub cycle until which a received PAUSE holds the transmitter. -/
  pauseUntil : Nat
  /-- The I²C pointer (R706). -/
  i2cPtr : Nat
  /-- Bytes the last I²C read returned (R706). -/
  i2cOut : List Byte
  /-- The time value at which the last Pdelay_Req arrived (R513). -/
  pdelayAt : Int
  deriving DecidableEq, Repr

/-- The trace unit of one core (16_wake_trace). STATE, ASLEEP and DROPS are in State.regs. -/
structure Trace where
  /-- The FIFO: whole packets of 8-byte units, oldest first (R727). -/
  fifo : List (List Nat)
  /-- Packets that wait for room: of a stalled core, or reserved ones (R727, R728). -/
  held : List (List Nat)
  /-- Outcomes that no ATOM has recorded, oldest first (R711). -/
  atoms : List Bool
  /-- Core cycles from the last packet to the last of those outcomes. -/
  atomAt : Nat
  /-- Core cycles since the last packet, saturating (R711, R713). -/
  count : Nat
  /-- The count reached 0xFFFF since the last packet (R713). -/
  isOver : Bool
  /-- A TS precedes the next packet: 0 none, 1 after an OVF, 2 after a DROP (R713, R714). -/
  tsDue : Nat
  /-- Units lost since the last DROP packet (R728). -/
  lost : Nat
  /-- Hub cycle at which the stall in progress began (R728, R729). -/
  stallAt : Option Nat
  /-- A stall ended by R729: the core acts as with STALL = 0. -/
  dropping : Bool
  /-- The core is in the secure state (R723). -/
  secure : Bool
  /-- Core cycles since the SECURE entry packet (R724). -/
  secCount : Nat
  /-- Steered count of the last periodic TS, or of the entry to ACTIVE (R714). -/
  tsAt : Nat
  /-- Steered count of the trigger that put the core into STOPPING (R719). -/
  stopAt : Nat
  /-- A reset of the core stopped its trace, which resumes when the core restarts (R735). -/
  resume : Bool
  deriving DecidableEq, Repr

/-- The merger and the authorisation of Wake. -/
structure Wake where
  /-- The trace units. -/
  cores : Sparse Trace
  /-- Units of the sink line being filled, at most 8 (R730). -/
  line : List Nat
  /-- The core that the merger's round serves next. -/
  next : Nat
  /-- The certificate that the running VERIFY has read (R725). -/
  cert : List Byte
  /-- The nonce's place in the sequence of nonces (R725). -/
  nonce : Nat
  /-- The nonce when VERIFY was written. -/
  given : Nat
  deriving DecidableEq, Repr

/-- One open aggregator of the Guestbook (R740). -/
structure Aggregator where
  /-- The source it gathers. -/
  src : Nat
  /-- Instance of the first occurrence. -/
  inst : Nat
  /-- Steered Tidemark count at t0, in units of 2^-40 ns. -/
  t0 : Nat
  /-- Tidemark seconds at t0. -/
  sec : Nat
  /-- Tidemark nanoseconds at t0. -/
  ns : Nat
  /-- Interval I in ms as it stood at t0. -/
  interval : Nat
  /-- Occurrences. -/
  count : Nat
  /-- FRAME_NO at the first occurrence. -/
  frame : Nat
  /-- The eight bins of the histogram. -/
  hist : List Nat
  /-- Largest VALUE. -/
  vmax : Nat
  /-- Smallest VALUE. -/
  vmin : Nat
  /-- A count or a bin has saturated. -/
  sat : Bool
  /-- More than one instance has contributed. -/
  multi : Bool
  deriving DecidableEq, Repr

/-- One record of the write queue, not yet given its SEQ (R739, R746). -/
structure Record where
  /-- The source. -/
  src : Nat
  /-- Severity at the close. -/
  sev : Nat
  /-- Instance of the first occurrence. -/
  inst : Nat
  /-- Tidemark seconds of the first occurrence. -/
  sec : Nat
  /-- Tidemark nanoseconds of the first occurrence. -/
  ns : Nat
  /-- Occurrences. -/
  count : Nat
  /-- FRAME_NO at the first occurrence. -/
  frame : Nat
  /-- The eight bins of the histogram. -/
  hist : List Nat
  /-- Largest VALUE. -/
  vmax : Nat
  /-- Smallest VALUE. -/
  vmin : Nat
  /-- Interval covered, in ms. -/
  durMs : Nat
  /-- SAT, PARTIAL and MULTI in bits 0 to 2. -/
  flags : Nat
  deriving DecidableEq, Repr

/-- The Guestbook (17_guestbook). Its registers are in State.regs, its log in State.mram. -/
structure Guestbook where
  /-- Severities set by GBK_SEV_DATA, by source; 4 stands for the default of R737. -/
  sev : Sparse Nat
  /-- Open aggregators, in rising order of t0 (R740). -/
  open_ : List Aggregator
  /-- The write queue (R746). -/
  queue : List Record
  /-- Hub cycle from which the next record may be written (R746). -/
  writeAt : Nat
  deriving DecidableEq, Repr

/-- A register access that timed out and that its target may still perform once (R756). -/
structure LateAccess where
  /-- The path. -/
  path : Path
  /-- The window offset. -/
  off : WinOff
  /-- The value written, for a write. -/
  wr : Option Word
  deriving DecidableEq, Repr

/-- The reset sequence and the hub watchdog (18_faults_recovery, 22_package_electrical). -/
structure ResetUnit where
  /-- 0 none; 1 a warm reset accepted and the drain running; 2 internal reset asserted by a warm reset (R765). -/
  stage : Nat
  /-- RESET_N is low and recognised. -/
  resetN : Bool
  /-- Power-on reset holds. -/
  por : Bool
  /-- Crystal cycles counted by the hub watchdog (R758). -/
  hwdt : Nat
  /-- Hub cycles since the last crystal cycle was counted, 0 to 39. -/
  phase : Nat
  /-- Hub cycle at which the stage began. -/
  since : Nat
  /-- Timed-out accesses not yet performed (R756). -/
  late : List LateAccess
  deriving DecidableEq, Repr

/-- The power controller (19_power_thermal). The domain states are in State.regs. -/
structure Power where
  /-- Wake steps still to be done, first the one in progress, by domain (R779, R784). -/
  wake : Sparse (List Nat)
  /-- Hub cycle at which the wake step in progress started, by domain (R781). -/
  since : Sparse Nat
  /-- Domains 0 to 71 voted for by Billet, one bit each (R417). -/
  billet : Nat
  /-- A STANDBY sequence holds the CARVE vote (R790, R792). -/
  carve : Bool
  /-- STANDBY entry step in progress, 1 to 7; 0 when none (R790). -/
  entry : Nat
  /-- STANDBY exit step in progress, 1 to 4; 0 when none (R792). -/
  exit : Nat
  /-- Hub cycle of the end of the evaluation interval in progress (R795). -/
  evalAt : Nat
  /-- A sensor has delivered a reading since PWR_TEMP.MAX was last read. -/
  maxSeen : Sparse Bool
  /-- Each sensor against its class's trip threshold at its last reading: 0 below CRIT − HYST, 1 between, 2 CRIT or above
  (R798). -/
  hot : Sparse Nat
  /-- THERMTRIP_N is driven low (R798). -/
  thermtrip : Bool
  /-- WAKE_N is low (R786). -/
  wakeN : Bool
  /-- A WAKE_N edge waits to be acted on (R786). -/
  wakeEdge : Bool
  deriving DecidableEq, Repr

/-- The TAP (R813 to R816): the controller, registers and latches of IEEE 1149.1. -/
structure TapUnit where
  /-- Controller state: 0 Test-Logic-Reset, 1 Run-Test/Idle, 2 Select-DR, 3 Capture-DR, 4 Shift-DR, 5 Exit1-DR, 6 Pause-DR,
  7 Exit2-DR, 8 Update-DR, and 9 to 15 the same from Select-IR. -/
  st : Nat
  /-- The instruction in force. -/
  ir : Nat
  /-- The instruction shift register. -/
  irShift : Nat
  /-- The selected data shift register. -/
  dr : Nat
  /-- The update latches of the boundary register. -/
  bound : Nat
  /-- The toggle of EXTEST_TRAIN (R816). -/
  train : Bool
  /-- TDO; none when high-impedance. -/
  tdo : Option Bool
  deriving DecidableEq, Repr

/-- The test unit (20_test_loopback) and the supplies of the user I/O banks (R835). -/
structure TestUnit where
  /-- The TAP. -/
  tap : TapUnit
  /-- Hub cycle at which the running BIST command was accepted (R812). -/
  bistAt : Nat
  /-- Clusters that the running command tests. -/
  tested : List Nat
  /-- Those of them that fail. -/
  failed : List Nat
  /-- Banks whose VCCIO is below 0.5 V, one bit each (R835). -/
  vccioLow : Nat
  deriving DecidableEq, Repr

/-- The state of the device. -/
structure State where
  /-- The commands that wait, oldest first. -/
  pending : List Instr
  /-- Every register of the window that is not at its reset value, by window offset. -/
  regs : Sparse Word
  /-- The access paths. -/
  paths : Sparse PathState
  /-- The mailbox units. -/
  mbs : Sparse Mailbox
  /-- Hub cycles since power-on (R6). -/
  hub : Nat
  /-- Free values taken so far: the model's own field. -/
  free : Nat
  /-- The HBM stacks: key stack × 24 GiB + stack byte address. -/
  hbm : List Host.Cell
  /-- The MRAM. -/
  mram : List Host.Cell
  /-- The hub boot memory. -/
  boot : List Host.Cell
  /-- The clusters, by physical ID. -/
  clusters : Sparse Cluster
  /-- The frame sequencer. -/
  seq : Sequencer
  /-- Millrace and the Confluence, by die. -/
  mlr : Sparse Millrace
  /-- The unscheduled protocol. -/
  net : PacketNet
  /-- The HBM controllers, by die. -/
  hbc : Sparse HbmCtl
  /-- The acquisition engine. -/
  acq : Acquisition
  /-- The port interface of the fabric. -/
  fab : Fabric
  /-- Billet. -/
  blt : Billet
  /-- Ford. -/
  frd : Ford
  /-- The configuration controller and the key store. -/
  cfg : CfgUnit
  /-- STEP_MHZ of the loaded image. -/
  stepMhz : Nat
  /-- The Guestbook. -/
  gbk : Guestbook
  /-- The reset sequence and hub watchdog. -/
  rst : ResetUnit
  /-- The power controller. -/
  pwr : Power
  /-- The Ostler dispatcher. -/
  ost : Ostler
  /-- The management and I²C ports. -/
  mge : MgePort
  /-- The Tidemark time base. -/
  tmk : Tidemark
  /-- The Shoris lanes. -/
  lanes : Sparse Lane
  /-- Wake. -/
  wke : Wake
  /-- The test unit. -/
  tst : TestUnit
  deriving DecidableEq, Repr

/-- An access path at reset (R17). -/
def PathState.reset : PathState := ⟨none, 0, [], none, 0, 0⟩

/-- A mailbox unit with no command accepted. -/
def Mailbox.reset : Mailbox := ⟨0, 0, 0, 0, false⟩

/-- The Guestbook after reset: nothing gathered, nothing queued (R752). -/
def Guestbook.reset : Guestbook := ⟨[], [], [], 0⟩

/-- No reset in progress. -/
def ResetUnit.reset : ResetUnit := ⟨0, false, false, 0, 0, 0, []⟩

/-- The power controller after reset (R799). -/
def Power.reset : Power := ⟨[], [], 0, false, 0, 0, 1000000, [], [], false, false, false⟩

/-- A task descriptor at reset. -/
def Task.reset : Task := ⟨0, 0, 0, 0, 0, false, false, 0⟩

/-- Ostler after reset: every task IDLE (R708). -/
def Ostler.reset : Ostler := ⟨[], [], [], [], 0, 0, [], [], [], [], [], [], none, none⟩

/-- The management and I²C ports after reset. -/
def MgePort.reset : MgePort := ⟨[], none, [], [], 0, 0, [], 0⟩

/-- A pulse output at rest. -/
def PulseOut.reset : PulseOut := ⟨false, none, 0⟩

/-- Tidemark after power-on reset (R527). -/
def Tidemark.reset : Tidemark := ⟨0, 0, 0, 0, 0, none, 0, [], [], [], false, 0, none, none, 0, none, none, none⟩

/-- The link level of a lane in OFF. -/
def LaneLink.reset : LaneLink :=
  ⟨0, 0, false, 0, 0, none, 0, false, [], 0, 0, 0, (0, []), [], 0, (0, 0), 0, 0, 0, [], 0, 0, 0, (0, 0)⟩

/-- An empty packet layer (R579). -/
def LaneQueue.reset : LaneQueue :=
  ⟨0, [], [], [], none, 0, [], [], [], [], false, 0, false, false, true, [], [], []⟩

/-- A lane in OFF. -/
def Lane.reset : Lane := ⟨.reset, .reset⟩

/-- A trace unit after reset (R735). -/
def Trace.reset : Trace := ⟨[], [], [], 0, 0, false, 0, 0, none, false, false, 0, 0, 0, false⟩

/-- Wake after reset (R735). -/
def Wake.reset : Wake := ⟨[], [], 0, [], 0, 0⟩

/-- The TAP in Test-Logic-Reset, with IDCODE in force (R813). -/
def TapUnit.reset : TapUnit := ⟨0, 1, 1, 0, 0, false, none⟩

/-- The test unit with no command accepted. -/
def TestUnit.reset : TestUnit := ⟨.reset, 0, [], [], 0⟩

/-- An RXB word at cluster reset: EMPTY (R130). -/
def RxWord.reset : RxWord := ⟨0, 0, 0, (0, 0, 0)⟩

/-- A cluster after cluster reset (R130). -/
def Cluster.reset : Cluster where
  imem := []
  net := []
  rows := []
  sel := []
  marks := []
  record := []
  rxb := []
  hold := []
  self_ := []
  exit := []
  owed := []
  expect := []
  ghost := []
  rwin := []
  lwin := []
  tx := []
  fresh := []
  issued := 0
  chk := []
  wb := []
  heldNet := []
  heldTx := []
  dueTo := 0
  isOver := false
  frame := 0
  committed := false
  marked := false
  stalls := 0
  budget := none
  halt := false
  parts := []
  rate := 1250
  slow := 0
  rateSeen := 40000
  seenAt := 0
  sram := []
  fill := none
  mrt := []
  scrubI := 0
  scrubS := 0
  sbNet := []
  sbTx := []
  sbRx := []

/-- The sequencer with no frame (R242). -/
def Sequencer.reset : Sequencer :=
  ⟨false, true, none, 0, none, [], 0, false, false, [], [], [], [], none, none, false, false, false, 0, 0, (0, 0, 0, 0), false, false, [], 0⟩

/-- A destination buffer that is free. -/
def RecvBuf.reset : RecvBuf := ⟨0, 0, 0, false, [], 0, 0, none, false⟩

/-- The unscheduled protocol with nothing in flight. -/
def PacketNet.reset : PacketNet := ⟨[], [], [], [], [], none⟩

/-- A stop's test generator at rest. -/
def Loopback.reset : Loopback := ⟨0, 0, 0, 0, 0, 0, 0⟩

/-- Millrace with every table entry invalid and nothing in flight (R312). -/
def Millrace.reset : Millrace := ⟨[], 0, 0, [], [], [], [], [], [], [], [], [], [], [], [], [], [], [], [], []⟩

/-- An HBM controller with every table entry invalid (R359). -/
def HbmCtl.reset : HbmCtl := ⟨[], [], [], [], [], [], [], []⟩

/-- The acquisition engine after reset (R495). -/
def Acquisition.reset : Acquisition := ⟨[], [], [], [], [], [], [], 0, [], false, [], 0, false, [], 0, [], 0, [], 0, 0, 0, []⟩

/-- The port interface after reset (R641). -/
def Fabric.reset : Fabric := ⟨[], [], [], [], [], [], [], [], [], 0, [], 0, 0, 0, 0, [], 0, [], 0, [], [], [], []⟩

/-- Billet with nothing placed. -/
def Billet.reset : Billet := ⟨[], 0, 0, 0, 0, [], 0, [], 0, 0, false, 0, none, none, none, none, []⟩

/-- Ford after reset (R613). -/
def Ford.reset : Ford :=
  ⟨0, 0, 0, false, false, false, false, false, false, [], [], false, 0, [], 0, [], none, false, none, false, 0, [], none,
    [], [], none, false, [], false, 0⟩

/-- The configuration controller as shipped with no fuse programmed (log entry 6), at the start of the power-up load
(R660, R676). -/
def CfgUnit.reset : CfgUnit :=
  ⟨[], [], none, [], 1, 0, 0, 0, 0, 0, 1, true, true, false, (0, 0, 0), none, true, 0, 0, 0, 0, none, 0⟩

/-- The machine at the first access after reset is released: DEV_MODE is BOOT, every register is at its Reset value, no
memory is listed and no command waits. -/
def State.reset : State where
  pending := []
  regs := []
  paths := []
  mbs := []
  hub := 0
  free := 0
  hbm := []
  mram := []
  boot := []
  clusters := []
  seq := .reset
  mlr := []
  net := .reset
  hbc := []
  acq := .reset
  fab := .reset
  blt := .reset
  frd := .reset
  cfg := .reset
  stepMhz := 0
  gbk := .reset
  rst := .reset
  pwr := .reset
  ost := .reset
  mge := .reset
  tmk := .reset
  lanes := []
  wke := .reset
  tst := .reset

/-- The outcome of a step of this device. -/
abbrev Result := Host.Outcome State Fault Refusal

end Sys2Proof.Machine
end

