-- ==== Sys2Proof/Machine/Ops.lean ====
section
/-! DEFINITION. The named operations over the register window: one register, one field, one 64-bit value; the
Guestbook's count of an occurrence, an Ostler event, a sticky error bit; time; and the mailbox convention. -/

namespace Sys2Proof.Machine

open Reg

/-! ### Registers -/

/-- The word a register holds. -/
def State.reg (s : State) (off : Nat) : Word := Sparse.get (resetOf off) s.regs off

/-- A register's word replaced. -/
def State.setReg (s : State) (off : Nat) (v : Word) : State :=
  { s with regs := Sparse.put (resetOf off) s.regs off v }

/-- A register's word replaced by the low 32 bits of a number. -/
def State.setNat (s : State) (off n : Nat) : State := s.setReg off (BitVec.ofNat 32 n)

/-- The value of a field. -/
def State.f (s : State) (F : Fld) : Nat := slice (s.reg F.off).toNat F.lo F.w

/-- A field set to a value, taken modulo the field's width. -/
def State.setF (s : State) (F : Fld) (n : Nat) : State :=
  s.setNat F.off (splice (s.reg F.off).toNat F.lo F.w n)

/-- A field is not zero. -/
def State.flag (s : State) (F : Fld) : Bool := s.f F != 0

/-- A field increased, saturating at all ones. -/
def State.bump (s : State) (F : Fld) (k : Nat) : State := s.setF F (satAdd F.w (s.f F) k)

/-- The value of a 64-bit pair. -/
def State.f64 (s : State) (off : Nat) : Nat := (s.reg off).toNat + 0x100000000 * (s.reg (off + 4)).toNat

/-- A 64-bit pair set to a value modulo 2^64. -/
def State.set64 (s : State) (off n : Nat) : State :=
  (s.setNat off n).setNat (off + 4) (n / 0x100000000)

/-- Registers in a range of window offsets returned to their reset values. -/
def State.resetRange (s : State) (lo len : Nat) : State :=
  { s with regs := Sparse.keep (fun k => !(Nat.ble lo k && Nat.blt k (lo + len))) s.regs }

/-- FRAME_NO (R205, R241). -/
def State.frameNo (s : State) : Nat := s.f64 SEQ_FRAME_NO

/-- DEV_MODE.MODE. -/
def State.mode (s : State) : Nat := s.f DEV_MODE_MODE

/-- RESET, mode 0 of the operating modes table. -/
def Mode.reset : Nat := 0
/-- BOOT. -/
def Mode.boot : Nat := 1
/-- STANDBY. -/
def Mode.standby : Nat := 2
/-- IDLE. -/
def Mode.idle : Nat := 3
/-- RUN. -/
def Mode.run : Nat := 4
/-- TIMED. -/
def Mode.timed : Nat := 5
/-- STEP. -/
def Mode.step : Nat := 6
/-- DIAGNOSE. -/
def Mode.diagnose : Nat := 7

/-- Frames run in this mode: RUN, TIMED or STEP. -/
def State.framesMode (s : State) : Bool := Nat.ble 4 s.mode && Nat.ble s.mode 6

/-- A power domain is ON (R788). -/
def State.domainOn (s : State) (i : Nat) : Bool := s.f (PWR_DOM_STATE i) == 0

/-! ### Time -/

/-- One nanosecond of the time value, in units of 2^-40 ns (R497). -/
def nsUnit : Nat := 1099511627776

/-- One second of the time value. -/
def secUnit : Nat := 1000000000 * nsUnit

/-- The point at which the time stops: SEC all ones, NS 999,999,999, FRAC all ones (R498). -/
def timeMax : Nat := 18446744073709551616 * secUnit - 1

/-- The timestamp of a time value (R496). -/
def stampOf (t : Nat) : Stamp := ⟨t / secUnit, t / nsUnit % 1000000000, t / 4194304 % 262144⟩

/-- The time value of a timestamp. -/
def timeOf (t : Stamp) : Nat := t.sec * secUnit + t.ns * nsUnit + t.frac * 4194304

/-- The current Tidemark timestamp. -/
def State.now (s : State) : Stamp := stampOf s.tmk.time

/-- Hub cycles have passed since an earlier hub cycle. -/
def State.elapsed (s : State) (since n : Nat) : Bool := Nat.ble (since + n) s.hub

/-- Ring cycles have passed since an earlier hub cycle: five ring cycles take two hub cycles (table of time units). -/
def State.elapsedRing (s : State) (since n : Nat) : Bool := Nat.ble (2 * n) (5 * (s.hub - since))

/-- A steered duration in ns has passed since an earlier steered count (R504). -/
def State.elapsedSteered (s : State) (since ns : Nat) : Bool := Nat.ble (since + ns * nsUnit) s.tmk.steered

/-! ### Ostler events -/

/-- An event fires (R691): its pending bit is set, and a READY for its bound task waits unless one already waits.
Ostler is off while domain 90 is off. -/
def State.fire (s : State) (e : Nat) : State :=
  if s.domainOn 90 then
    let off := OST_EVT_PEND (e / 32)
    let s1 := s.setNat off (putBit (s.reg off).toNat (e % 32) true)
    if s1.flag (OST_EVT_TASK_EN e) ∧ Sparse.get none s1.ost.events e = none then
      { s1 with ost := { s1.ost with events := Sparse.put none s1.ost.events e (some (s1.f (OST_EVT_TASK_TASK e))) } }
    else s1
  else s

/-! ### Guestbook occurrences -/

/-- The source number of a bit of a block (R736). -/
def srcOf (block reg bit : Nat) : Nat := block * 128 + reg * 32 + bit

/-- The bits of a sticky register that are sources, by block and REG (R736). -/
def srcBits (block reg : Nat) : Nat :=
  match block, reg with
  | 0, 3 => 3
  | 1, 3 => 2
  | 2, 0 => 7
  | 3, 3 => 1
  | 4, 0 => 5
  | 4, 3 => 1
  | 5, 0 => 4
  | 7, 0 => 3
  | 7, 3 => 1
  | 8, 0 => 5
  | 10, 0 => 5
  | 11, 0 => 5
  | 12, 0 => 8
  | 12, 3 => 1
  | 13, 0 => 8
  | 13, 3 => 1
  | 14, 0 => 8
  | 14, 1 => 5
  | 14, 2 => 1
  | 15, 0 => 8
  | 16, 0 => 10
  | 16, 1 => 5
  | 16, 2 => 4
  | 16, 3 => 5
  | _, _ => 0

/-- A number names a source (R736). -/
def isSource (src : Nat) : Bool := Nat.blt (src % 32) (srcBits (src / 128) (src / 32 % 4))

/-- The FATAL sources (R737). -/
def isFatal (src : Nat) : Bool :=
  src == srcOf 15 0 0 || src == srcOf 15 0 1 || src == srcOf 15 0 2 || src == srcOf 15 0 3 || src == srcOf 7 0 2 ||
    src == srcOf 3 3 0

/-- The default severity of a source (R737). -/
def defaultSev (src : Nat) : Nat :=
  if isFatal src then 3
  else if src == srcOf 16 0 0 || src == srcOf 16 0 2 || src == srcOf 16 2 0 then 1
  else if src / 32 % 4 == 3 && (src / 128 == 1 || src / 128 == 7 || src / 128 == 12 || src / 128 == 13) then 1
  else if src / 128 == 0 then 0
  else 2

/-- The severity of a source as it stands (R737, R738). -/
def State.sevOf (s : State) (src : Nat) : Nat :=
  let v := Sparse.get 4 s.gbk.sev src
  if v == 4 then defaultSev src else v

/-- A record is lost for want of room (R746). -/
def State.dropRecord (s : State) : State :=
  (s.bump GBK_DROP_REC 1).setF GBK_ERR_DROP_REC 1

/-- A record enters the write queue: of 32 places, 8 are reserved for FATAL records (R746). -/
def State.enqueueRecord (s : State) (r : Record) : State :=
  let held := (s.gbk.queue.filter fun q => q.sev != 3).length
  if r.sev = 3 then { s with gbk := { s.gbk with queue := s.gbk.queue ++ [r] } }
  else if held < 24 ∧ s.gbk.queue.length < 32 then { s with gbk := { s.gbk with queue := s.gbk.queue ++ [r] } }
  else s.dropRecord

/-- The record an aggregator makes when it closes, after a whole interval or early (R741, R744). -/
def State.recordOf (s : State) (a : Aggregator) (early : Bool) : Record :=
  let durMs := if early then (s.tmk.steered - a.t0) / (1000000 * nsUnit) else a.interval
  ⟨a.src, s.sevOf a.src, a.inst, a.sec, a.ns, a.count, a.frame, a.hist, a.vmax, a.vmin, durMs,
    ofBool a.sat + 2 * ofBool early + 4 * ofBool a.multi⟩

/-- An aggregator closes and its record enters the queue (R741). -/
def State.closeAggregator (s : State) (src : Nat) (early : Bool) : State :=
  match s.gbk.open_.find? fun a => a.src == src with
  | none => s
  | some a =>
    let s1 := { s with gbk := { s.gbk with open_ := s.gbk.open_.filter fun b => b.src != src } }
    s1.enqueueRecord (s.recordOf a early)

/-- The open aggregator that R743 closes: the lowest severity, and the oldest among equals. -/
def State.victim (s : State) : Option Aggregator :=
  s.gbk.open_.foldl (fun best a =>
    match best with
    | none => some a
    | some b => if s.sevOf a.src < s.sevOf b.src then some a else some b) none

/-- One more occurrence in an aggregator (R740): count, histogram bin, extremes and MULTI; in the hub cycle of the first, INST
takes the lowest instance. -/
def gather (a : Aggregator) (steered inst value : Nat) : Aggregator :=
  let bin := (steered - a.t0) * 8 / (a.interval * 1000000 * nsUnit)
  let old := a.hist.getD bin 0
  { a with
    inst := if steered = a.t0 then min a.inst inst else a.inst
    count := satAdd 32 a.count 1
    hist := a.hist.set bin (satAdd 16 old 1)
    vmax := max a.vmax value
    vmin := min a.vmin value
    sat := a.sat || a.count == 0xFFFFFFFF || old == 0xFFFF
    multi := a.multi || inst != a.inst }

/-- An open aggregator after an occurrence of a source. -/
def State.gatherIn (s : State) (a : Aggregator) (src inst value : Nat) : Aggregator :=
  if a.src == src then gather a s.tmk.steered inst value else a

/-- A new aggregator for a first occurrence (R740). -/
def State.openAggregator (s : State) (src inst value : Nat) : State :=
  let t := s.now
  let a : Aggregator := ⟨src, inst, s.tmk.steered, t.sec, t.ns, max 1 (s.f GBK_CFG_INTERVAL_MS), 1, s.frameNo,
    [1, 0, 0, 0, 0, 0, 0, 0], value, value, false, false⟩
  { s with gbk := { s.gbk with open_ := s.gbk.open_ ++ [a] } }

/-- A queued FATAL record of a source and instance (R742). -/
def sameFatal (src inst : Nat) (r : Record) : Bool := r.src == src && r.inst == inst && r.sev == 3

/-- A queued record after a further FATAL occurrence of a source and instance (R742). -/
def bumpFatal (src inst : Nat) (r : Record) : Record :=
  if sameFatal src inst r then
    { r with
      count := satAdd 32 r.count 1
      flags := if r.count == 0xFFFFFFFF then putBit r.flags 0 true else r.flags }
  else r

/-- An occurrence of a FATAL source: a record at once, or a larger COUNT of the record that waits, and GBK_FATAL
(R742). -/
def State.countFatal (s : State) (src inst value : Nat) : State :=
  let s1 :=
    if s.gbk.queue.any (sameFatal src inst) then
      { s with gbk := { s.gbk with queue := s.gbk.queue.map (bumpFatal src inst) } }
    else
      s.enqueueRecord ⟨src, 3, inst, s.now.sec, s.now.ns, 1, s.frameNo, [0, 0, 0, 0, 0, 0, 0, 0], value, value, 0, 0⟩
  s1.fire 27

/-- The Guestbook counts one occurrence of a source (R740 to R745). -/
def State.count (s : State) (src inst value : Nat) : State :=
  if !isSource src then s
  else if isFatal src then s.countFatal src inst value
  else if !s.flag GBK_CFG_EN then s
  else
    let s1 :=
      match s.gbk.open_.find? fun a => a.src == src with
      | some a => if s.elapsedSteered a.t0 (a.interval * 1000000) then s.closeAggregator src false else s
      | none => s
    if s1.gbk.open_.any (fun a => a.src == src) then
      { s1 with gbk := { s1.gbk with open_ := s1.gbk.open_.map fun a => s1.gatherIn a src inst value } }
    else if s1.gbk.open_.length < 64 then s1.openAggregator src inst value
    else
      match s1.victim with
      | none => s1
      | some v =>
        if s1.sevOf v.src ≤ s1.sevOf src then (s1.closeAggregator v.src true).openAggregator src inst value
        else (s1.bump GBK_DROP_OCC 1).setF GBK_ERR_DROP_OCC 1

/-- A sticky error bit is set; when it was clear, the Guestbook counts its source (R736). -/
def State.raise (s : State) (F : Fld) (block reg inst value : Nat) : State :=
  if s.flag F then s else (s.setF F 1).count (srcOf block reg F.lo) inst value

/-! ### The mailbox convention (R20 to R28) -/

/-- The offset of the STATUS register of a mailbox unit: 0 Billet, 1 to 4 the HBC of die u − 1, 5 acquisition copy, 6 to
37 Shoris quad u − 6, 38 fabric, 39 Guestbook, 40 configuration, 41 built-in test. -/
def mbStatus (u : Nat) : Nat :=
  if u = 0 then BLT_STATUS
  else if u ≤ 4 then HBC_MB_STATUS (u - 1)
  else if u = 5 then ACQ_MB_STATUS
  else if u ≤ 37 then SHR_MB_STATUS (u - 6)
  else if u = 38 then FAB_MB_STATUS
  else if u = 39 then GBK_MB_STATUS
  else if u = 40 then CFG_STATUS
  else DEV_BIST_STATUS

/-- The offsets of the RESULT registers of a unit. -/
def mbResults (u : Nat) : List Nat :=
  if u = 0 then [BLT_RESULT 0, BLT_RESULT 1]
  else if u ≤ 4 then [HBC_MB_RESULT (u - 1)]
  else if u = 5 then [ACQ_MB_RESULT]
  else if u ≤ 37 then [SHR_MB_RESULT (u - 6) 0, SHR_MB_RESULT (u - 6) 1]
  else if u = 38 then [FAB_MB_RESULT]
  else if u = 39 then [GBK_MB_RESULT]
  else if u = 40 then [CFG_RESULT 0, CFG_RESULT 1]
  else [DEV_BIST_RESULT 0, DEV_BIST_RESULT 1]

/-- The Ostler event of a unit's completion (table of Ostler events); the built-in test unit has none. -/
def mbEvent (u : Nat) : Option Nat :=
  if u = 0 then some 8
  else if u ≤ 4 then some 10
  else if u = 5 then some 11
  else if u ≤ 37 then some 12
  else if u = 38 then some 13
  else if u = 39 then some 14
  else if u = 40 then some 9
  else none

/-- BUSY of a mailbox unit. -/
def mbBusy (u : Nat) : Fld := ⟨mbStatus u, 0, 1⟩
/-- DONE. -/
def mbDone (u : Nat) : Fld := ⟨mbStatus u, 1, 1⟩
/-- ERR. -/
def mbErr (u : Nat) : Fld := ⟨mbStatus u, 2, 4⟩
/-- TICKET. -/
def mbTicket (u : Nat) : Fld := ⟨mbStatus u, 6, 4⟩
/-- READ_EARLY. -/
def mbReadEarly (u : Nat) : Fld := ⟨mbStatus u, 10, 1⟩
/-- CMD_REJECT. -/
def mbCmdReject (u : Nat) : Fld := ⟨mbStatus u, 11, 1⟩

/-- A mailbox unit runs a command. -/
def State.mbBusyNow (s : State) (u : Nat) : Bool := s.flag (mbBusy u)

/-- A mailbox unit runs a command whose RESULT and ERR are not yet written (R24). -/
def State.mbRuns (s : State) (u : Nat) : Bool := s.mbBusyNow u && !(Sparse.get Mailbox.reset s.mbs u).ended

/-- Billet runs a command other than CHECK, code 2 (R411). -/
def State.billetRuns (s : State) : Bool := s.mbBusyNow 0 && (Sparse.get Mailbox.reset s.mbs 0).cmd != 2

/-- The outcome that the running command of a unit will complete with. -/
def State.mbFinish (s : State) (u err : Nat) (res0 res1 : Nat) : State :=
  let m := Sparse.get Mailbox.reset s.mbs u
  { s with mbs := Sparse.put Mailbox.reset s.mbs u ⟨m.cmd, err, BitVec.ofNat 32 res0, BitVec.ofNat 32 res1, false⟩ }

/-- A CMD write (R22, R23): refused while BUSY, otherwise accepted, and then the command acts. -/
def State.mbCommand (s : State) (u cmd : Nat) (act : State → State) : State :=
  if s.mbBusyNow u then s.setF (mbCmdReject u) 1
  else
    let s1 := (((s.setF (mbBusy u) 1).setF (mbDone u) 0).setF (mbErr u) 0).setF (mbTicket u) (s.f (mbTicket u) + 1)
    let s2 := (mbResults u).foldl (fun s o => s.setReg o 0) s1
    act { s2 with mbs := Sparse.put Mailbox.reset s2.mbs u ⟨cmd, 0, 0, 0, false⟩ }

/-- Completion (R24): RESULT and ERR are written, and DONE and BUSY change in one later hub cycle. -/
def State.mbComplete (s : State) (u : Nat) : State :=
  let m := Sparse.get Mailbox.reset s.mbs u
  let s1 := ((mbResults u).zip [m.res0, m.res1]).foldl (fun s (o, v) => s.setReg o v) s
  let s2 := s1.setF (mbErr u) m.err
  { s2 with mbs := Sparse.put Mailbox.reset s2.mbs u { m with ended := true } }

/-- The later hub cycle of a completion (R24): DONE is set, BUSY is cleared and the completion event fires. -/
def State.mbEnd (s : State) (u : Nat) : State :=
  let s1 := (s.setF (mbDone u) 1).setF (mbBusy u) 0
  let s2 := { s1 with mbs := Sparse.put Mailbox.reset s1.mbs u Mailbox.reset }
  match mbEvent u with
  | none => s2
  | some e => s2.fire e

/-! ### Writes by access code (R11, R18, R19) -/

/-- A word written to a register by its access codes: RW bits take the value, W1C bits written 1 clear, W1S bits written
1 are set, and every other bit stays. -/
def State.writeBits (s : State) (off : Nat) (v : Word) : State :=
  match regAt off with
  | none => s
  | some (d, _) =>
    let rw := BitVec.ofNat 32 d.rw
    let old := s.reg off
    let new := (old &&& ~~~rw) ||| (v &&& rw)
    s.setReg off ((new &&& ~~~(v &&& BitVec.ofNat 32 d.w1c)) ||| (v &&& BitVec.ofNat 32 d.w1s))

/-- Which half of a 64-bit value an offset is: 0 neither, 1 _LO, 2 _HI (R14). -/
def halfOf (off : Nat) : Nat :=
  match regAt off with
  | none => 0
  | some (d, _) => d.half

/-! ### Access paths -/

/-- The state of an access path. -/
def State.path (s : State) (p : Path) : PathState := Sparse.get PathState.reset s.paths p.val

/-- The state of an access path replaced. -/
def State.setPath (s : State) (p : Path) (x : PathState) : State :=
  { s with paths := Sparse.put PathState.reset s.paths p.val x }

/-- A _LO write is held on its path (R18). -/
def State.holdLo (s : State) (p : Path) (off : Nat) (v : Word) : State :=
  s.setPath p { s.path p with heldTag := some off, heldLo := v }

/-- A _HI write commits both halves (R19). -/
def State.commitHi (s : State) (p : Path) (off : Nat) (v : Word) : State :=
  let x := s.path p
  let s1 := if x.heldTag = some (off - 4) then (s.writeBits (off - 4) x.heldLo).setPath p { x with heldTag := none } else s
  s1.writeBits off v

/-- The _LO half of a writable 64-bit value (R18): one with RW bits, or one of the two whose halves are write-only. -/
def writableLo (off : Nat) : Bool :=
  match regAt off with
  | none => false
  | some (d, _) => d.rw != 0 || off == TMK_MEAS || off == OST_CMD

/-- A write of a register by its place in a 64-bit value and its access codes. -/
def State.writeReg (s : State) (p : Path) (off : Nat) (v : Word) : State :=
  match halfOf off with
  | 1 => if writableLo off then s.holdLo p off v else s
  | 2 => s.commitHi p off v
  | _ => s.writeBits off v

/-- The word that a path's read returns. -/
def State.answer (s : State) (p : Path) (v : Word) : State := s.setPath p { s.path p with answer := v }

/-- How the device answers a register access at a window offset. -/
inductive Access where
  /-- The register is reached. -/
  | reached
  /-- The block is off: a read returns 0xDEAD_0FF0 and a write is dropped (R33, R34). -/
  | off
  /-- As off, but PWR_OFFACC does not record it (R766). -/
  | draining
  /-- No block holds the offset: a read returns zero and a write is dropped (R820). -/
  | unmapped
  /-- In RESET no access is answered (R55). -/
  | silent
  deriving DecidableEq, Repr

/-- The die of a cluster (R244). -/
def dieOf (c : Nat) : Nat := c / 272

/-- The ring of a cluster within its die. -/
def ringOf (c : Nat) : Nat := c % 272 / 34

/-- The ring position of a cluster's stop (R244). -/
def posOf (c : Nat) : Nat := if c % 34 < 17 then c % 34 + 1 else c % 34 + 2

/-- Fuses mark a cluster as failed (R421). -/
def State.fuseFailed (s : State) (c : Nat) : Bool := s.cfg.failed.contains c

/-- A window offset lies in the window of a cluster that fuses mark as failed, which acts as one that is off. -/
def State.failedWindow (s : State) (off : Nat) : Bool :=
  Nat.ble 0x8000000 off && Nat.blt off 0x9100000 && s.fuseFailed ((off - 0x8000000) / 0x4000)

/-- How an access at a window offset is answered (R55, R766, R788, R819, R820). -/
def State.access (s : State) (off : Nat) : Access :=
  if s.mode = Mode.reset then .silent
  else if s.rst.stage = 1 then .draining
  else
    match blockDomain off with
    | none => .unmapped
    | some d => if s.domainOn d && !s.failedWindow off then .reached else .off

/-- An access to a block that is off is recorded and counted (R35, R789). -/
def State.recordOff (s : State) (p : Path) (off : Nat) (write : Bool) : State :=
  let s1 :=
    if s.flag PWR_OFFACC_VALID then s
    else
      (((s.setF PWR_OFFACC_OFFSET (off / 4)).setF PWR_OFFACC_PATH p.val).setF PWR_OFFACC_VALID 1).setF
        PWR_OFFACC_CNT_WRITE (ofBool write)
  (s1.bump PWR_OFFACC_CNT_COUNT 1).count (srcOf 1 3 0) 0 0

/-- A write by a path to a register: it acts when the register is reached. -/
def State.onWrite (s : State) (p : Path) (off : Nat) (act : State → State) : State :=
  match s.access off with
  | .reached => act s
  | .off => s.recordOff p off true
  | _ => s

/-- A read that no register answers returns one word, and of a _LO half the latch of the path takes it for the _HI half
(R15, R36, R755). -/
def State.readAs (s : State) (p : Path) (off : Nat) (v : Word) : State :=
  if halfOf off = 1 then s.setPath p { s.path p with latchTag := some off, latchHi := v, latchRest := [v, v, v], answer := v }
  else s.answer p v

/-- A read by a path of a register: when the register is reached, act answers it. -/
def State.onRead (s : State) (p : Path) (off : Nat) (act : State → State) : State :=
  match s.access off with
  | .reached => act s
  | .off => (s.recordOff p off false).readAs p off 0xDEAD0FF0
  | .draining => s.readAs p off 0xDEAD0FF0
  | .unmapped => s.answer p 0
  | .silent => s

/-! ### Memories -/

/-- Bytes read from a memory: a byte that nothing has written reads 0. -/
def readBytes (m : List Host.Cell) (a n : Nat) : List Byte := Sparse.getList 0 m a n

/-- Bytes written to a memory. -/
def writeBytes (m : List Host.Cell) (a : Nat) (bs : List Byte) : List Host.Cell := Sparse.putList 0 m a bs

/-- A little-endian number of n bytes read from a memory. -/
def readNat (m : List Host.Cell) (a n : Nat) : Nat := ofBytesLE (readBytes m a n)

/-- Bytes of one HBM stack: 24 GiB (R40). -/
def stackSize : Nat := 25769803776

/-- The first address of the management carve-out (R678). -/
def carveBase : Nat := 0x1000000000

/-- The HBM key of carve-out byte x (R679). -/
def carveKey (x : Nat) : Nat := x / 2147483648 * stackSize + 23622320128 + x % 2147483648

/-- A range of Innkeeper addresses lies wholly in the carve-out (R42, R678). -/
def inCarve (a n : Nat) : Bool := Nat.ble carveBase a && Nat.ble (a + n) (carveBase + 8589934592)

/-- Bytes of the carve-out from an Innkeeper address. -/
def State.carveRead (s : State) (a : Nat) : Nat → List Byte
  | 0 => []
  | n + 1 => Sparse.get 0 s.hbm (carveKey (a - carveBase)) :: s.carveRead (a + 1) n

/-- Bytes written to the carve-out from an Innkeeper address. -/
def State.carveWrite (s : State) (a : Nat) : List Byte → State
  | [] => s
  | b :: bs => State.carveWrite { s with hbm := Sparse.put 0 s.hbm (carveKey (a - carveBase)) b } (a + 1) bs

/-- A little-endian number of n bytes in the carve-out. -/
def State.carveNat (s : State) (a n : Nat) : Nat := ofBytesLE (s.carveRead a n)

/-! ### Pins -/

/-- DEV_BIST_STATUS.JTAG_PINS: an instruction is in force that gives the pins to the boundary register (R815). -/
def State.jtagPins (s : State) : Bool := [0x00, 0x05, 0x06, 0x07, 0x08].contains s.tst.tap.ir

/-- The levels of the user I/O pins as the device sees them: a bank without VCCIO reads 0 (R835). -/
def State.pinLevels (s : State) (levels : Nat) : Nat :=
  (List.range 24).foldl (fun n g => if bitOf s.tst.vccioLow g then splice n (16 * g) 16 0 else n) levels

/-! ### Free values -/

/-- The next free value is taken: the counter advances. -/
def State.takeFree (s : State) : State := { s with free := s.free + 1 }

end Sys2Proof.Machine
end

