-- ==== Sys2Proof/Machine/Secded.lean ====
section
/-! DEFINITION. The SECDED construction of R121 to R123, shared by the instruction store, the state store and the cluster
SRAM: data bit j lies at codeword position p(j), the (j + 1)-th integer from 3 upward that is no power of two. -/

namespace Sys2Proof.Machine

/-- The XOR of the low 128 bits of a number. -/
def xorBits (n : Nat) : Nat :=
  let a := n ^^^ n >>> 64
  let b := a ^^^ a >>> 32
  let c := b ^^^ b >>> 16
  let d := c ^^^ c >>> 8
  let e := d ^^^ d >>> 4
  let f := e ^^^ e >>> 2
  (f ^^^ f >>> 1) % 2

/-- The data bits, of 90, whose codeword position has bit m set. -/
def secMask : Nat → Nat
  | 0 => 0x2AAAAAAAB55555556AAAD5B
  | 1 => 0xCCCCCCCD9999999B33366D
  | 2 => 0xF0F0F0F1E1E1E1E3C3C78E
  | 3 => 0xFF00FF01FE01FE03FC07F0
  | 4 => 0xFFFF0001FFFE0003FFF800
  | 5 => 0x300000001FFFFFFFC000000
  | 6 => 0x3FFFFFFFE00000000000000
  | _ => 0

/-- Check bits c_0 to c_(w−1) of a data word: c_m is the XOR of the data bits whose position has bit m set. -/
def secPositional (w data : Nat) : Nat :=
  (List.range w).foldl (fun acc m => acc + xorBits (data &&& secMask m) * 2 ^ m) 0

/-- All check bits of a data word: the w positional ones, and the XOR of all data bits and of those above them. -/
def secCheck (w data : Nat) : Nat :=
  let c := secPositional w data
  c + (xorBits data ^^^ xorBits c) * 2 ^ w

/-- The outcome of checking a protected word (R123). -/
inductive SecOutcome where
  /-- No error. -/
  | ok
  /-- One bit was in error and is corrected: the right data. -/
  | corrected (data : Nat)
  /-- An error that cannot be corrected. -/
  | uncorrectable
  deriving DecidableEq, Repr

/-- The check of n data bits with w positional check bits, stored as data then check bits (R123). -/
def secDecode (w n stored : Nat) : SecOutcome :=
  let data := slice stored 0 n
  let check := slice stored n (w + 1)
  let s := secPositional w data ^^^ slice check 0 w
  let p := xorBits data ^^^ xorBits check
  if s = 0 then (if p = 0 then .ok else .corrected data)
  else if p = 0 then .uncorrectable
  else if 2 ^ s.log2 = s then .corrected data
  else if s - 2 - s.log2 < n then .corrected (data ^^^ 2 ^ (s - 2 - s.log2))
  else .uncorrectable

/-- A data word of n bits with its check bits above it. -/
def secEncode (w n data : Nat) : Nat := slice data 0 n + secCheck w (slice data 0 n) * 2 ^ n

end Sys2Proof.Machine
end

