-- ==== Sys2Proof/Machine/Operands.lean ====
section
/-! DEFINITION. The Casornol instruction word and its operand forms (02_step_machine, 03_casornol_isa): what every operand
field reads in each mode, gathers, truth tables, and what one processor's issue reads and writes. -/

namespace Sys2Proof.Machine

open Reg

/-! ### The instruction word (R144, R148, R183) -/

/-- A Casornol instruction: the fields that its class uses. -/
inductive Casornol where
  /-- NOP. -/
  | nop
  /-- EVAL, and EVAL4S when m4. -/
  | eval (m4 : Bool) (dest tt opa opb opc opd : Nat)
  /-- LATCH. -/
  | latch (m4 netw : Bool) (dest tt opa opb opc opd : Nat)
  /-- MUXW. -/
  | muxw (m4 stride : Bool) (dest tt opa opb opc opd : Nat)
  /-- SEND. -/
  | send (m4 : Bool) (dest opa : Nat)
  /-- MEM with WR = 0. -/
  | memRead (m4 : Bool) (dest tt opa : Nat)
  /-- MEM with WR = 1. -/
  | memWrite (m4 : Bool) (tt opa opb opc : Nat)
  /-- SPECIAL WIN. -/
  | win (tt : Nat)
  /-- SPECIAL PROBE. -/
  | probe (dest opa : Nat)
  /-- SPECIAL BREAK. -/
  | brk (tt opa : Nat)
  /-- SPECIAL with a reserved OP. -/
  | reserved
  deriving DecidableEq, Repr

/-- The instruction that a word of 90 bits holds (R144). -/
def Casornol.ofWord (w : Nat) : Casornol :=
  let dest := slice w 72 12
  let tt := slice w 56 16
  let a := slice w 42 14
  let b := slice w 28 14
  let c := slice w 14 14
  let d := slice w 0 14
  let f0 := bitOf w 84
  let f1 := bitOf w 85
  match slice w 87 3 with
  | 0 => .nop
  | 1 => .eval false dest tt a b c d
  | 2 => .eval true dest tt a b c d
  | 3 => .latch f0 f1 dest tt a b c d
  | 4 => .muxw f0 f1 dest tt a b c d
  | 5 => .send f0 dest a
  | 6 => if f1 then .memWrite f0 tt a b c else .memRead f0 dest tt a
  | _ =>
    match slice w 84 3 with
    | 0 => .win tt
    | 1 => .probe dest a
    | 2 => .brk tt a
    | _ => .reserved

/-! ### Stores -/

/-- An entry of the net store with its parity: X with parity 0 when not written since cluster reset (R95). -/
def Cluster.netRaw (cl : Cluster) (e : Nat) : Nat := Sparse.get 3 cl.net e

/-- A net-store entry with the parity of R124. -/
def netEntry (v : Nat) : Nat := v % 4 + 4 * parityOf 2 v

/-- A row of the state store in which every entry is X (R130), with its check bits (R122). -/
def xRow : Nat := 0xFFFFFFFFFFFFFFFFFF

/-- A row of one half of the state store. -/
def Cluster.row (cl : Cluster) (half r : Nat) : Nat := Sparse.get xRow cl.rows (half * 1024 + r)

/-- The select bit of a state entry: the half that holds its committed value. -/
def Cluster.selBit (cl : Cluster) (e : Nat) : Nat := Sparse.get 0 cl.sel e

/-- The written mark of a state entry. -/
def Cluster.mark (cl : Cluster) (e : Nat) : Bool := Sparse.get 0 cl.marks e == 1

/-- A word of the ring receive buffer. -/
def Cluster.rx (cl : Cluster) (w : Nat) : RxWord := Sparse.get RxWord.reset cl.rxb w

/-- A transmit word: 0x3FFFF until a SEND writes it (R172). -/
def Cluster.txWord (cl : Cluster) (w : Nat) : Nat := Sparse.get 0x3FFFF cl.tx w

/-- The 98 bits of an instruction word; zero is a NOP with its check bits (R130). -/
def Cluster.word (cl : Cluster) (k s : Nat) : Nat := Sparse.get 0 cl.imem (k * 2048 + s)

/-- An entry's value in a row of data bits. -/
def rowValue (data e : Nat) : Nat := slice data (2 * (e % 32)) 2

/-- A state entry of one half, corrected where its row can be (R123). -/
def Cluster.stateValue (cl : Cluster) (half e : Nat) : Nat :=
  let r := cl.row half (e / 32)
  match secDecode 7 64 r with
  | .corrected d => rowValue d e
  | _ => rowValue r e

/-! ### Reads -/

/-- What one operand reads: a net entry, a state entry, a position of an RXB word, a whole RXB word, or a constant. -/
inductive ReadRef where
  /-- Net-store entry. -/
  | net (e : Nat)
  /-- State entry, committed value. -/
  | state (e : Nat)
  /-- Position of an RXB word. -/
  | rx (w pos : Nat)
  /-- A whole RXB word, as a gather reads it. -/
  | rxWord (w : Nat)
  /-- A constant. -/
  | const (v : Nat)
  deriving DecidableEq, Repr

/-- The value read at an index of a source, through a read window (R88). -/
def refAt (rwin src i : Nat) : ReadRef :=
  match src with
  | 0 => .net (i % 4096)
  | 1 => .state (rwin * 4096 + i % 4096)
  | 2 => .rx (i % 4096 / 32) (i % 32)
  | _ => .const (i % 4)

/-- The value read through an operand field (R145). -/
def refOf (rwin op : Nat) : ReadRef := refAt rwin (slice op 12 2) (slice op 0 12)

/-- The reads of a gather of n values (R154, R155). -/
def gatherRefs (rwin op n : Nat) : List ReadRef :=
  let i := slice op 0 12
  match slice op 12 2 with
  | 2 => [.rxWord (i / 32)]
  | 3 => [.const (i % 4)]
  | src => (List.range n).map fun j => refAt rwin src (i + j)

/-- The value of a read in four-state mode (R85, R152): the value held back after a halt first (R235). -/
def Cluster.read4 (cl : Cluster) : ReadRef → Nat
  | .net e => ((cl.heldNet.find? fun h => h.1 == e).map (·.2)).getD (cl.netRaw e % 4)
  | .state e => cl.stateValue (cl.selBit e) e
  | .rx w p => let x := cl.rx w; if x.state = 0 ∨ 8 < p then 3 else slice x.word (2 * p) 2
  | .rxWord _ => 0
  | .const v => v % 4

/-- The value of a read in two-state mode (R84, R152). -/
def Cluster.read2 (cl : Cluster) : ReadRef → Nat
  | .rx w p => let x := cl.rx w; if x.state = 0 ∨ 17 < p then 0 else slice x.word p 1
  | r => if cl.read4 r = 1 then 1 else 0

/-- The value of a read in a mode. -/
def Cluster.read (cl : Cluster) (m4 : Bool) (r : ReadRef) : Nat := if m4 then cl.read4 r else cl.read2 r

/-- A read names an OWED word (R153). -/
def Cluster.owes (cl : Cluster) : ReadRef → Bool
  | .rx w _ => (cl.rx w).state == 2
  | .rxWord w => (cl.rx w).state == 2
  | _ => false

/-- A read names a position outside its word (R89). -/
def outside (m4 : Bool) : ReadRef → Bool
  | .rx _ p => if m4 then Nat.blt 8 p else Nat.blt 17 p
  | _ => false

/-- The store whose check a read fails: 3 net store, 4 RXB, 2 state store (R123, R124, R126). -/
def Cluster.badRead (cl : Cluster) : ReadRef → Option Nat
  | .net e => if parityOf 3 (cl.netRaw e) = 1 then some 3 else none
  | .rx w _ => let x := cl.rx w; if x.state = 1 ∧ parityOf 18 x.word ≠ x.parity then some 4 else none
  | .rxWord w => let x := cl.rx w; if x.state = 1 ∧ parityOf 18 x.word ≠ x.parity then some 4 else none
  | .state e => if secDecode 7 64 (cl.row (cl.selBit e) (e / 32)) = .uncorrectable then some 2 else none
  | .const _ => none

/-- The row that a state read corrects, if it does: its key and its corrected data (R125). -/
def Cluster.fixRead (cl : Cluster) : ReadRef → Option (Nat × Nat)
  | .state e =>
    match secDecode 7 64 (cl.row (cl.selBit e) (e / 32)) with
    | .corrected d => some (cl.selBit e * 1024 + e / 32, d)
    | _ => none
  | _ => none

/-- The number whose n-th group of k bits is the n-th value. -/
def packValues (k : Nat) : List Nat → Nat
  | [] => 0
  | v :: vs => v % 2 ^ k + 2 ^ k * packValues k vs

/-- A word gather (R155). -/
def Cluster.gatherWord (cl : Cluster) (m4 : Bool) (rwin op : Nat) : Nat :=
  let n := if m4 then 9 else 18
  let k := if m4 then 2 else 1
  match gatherRefs rwin op n with
  | [.rxWord w] =>
    let x := cl.rx w
    if x.state = 0 then (if m4 then 0x3FFFF else 0) else x.word % 262144
  | [.const v] => packValues k (List.replicate n (cl.read m4 (.const v)))
  | refs => packValues k (refs.map (cl.read m4))

/-- An address gather: one value for each address bit (R155). -/
def Cluster.gatherAddr (cl : Cluster) (m4 : Bool) (rwin op aw : Nat) : List Nat :=
  match gatherRefs rwin op aw with
  | [.rxWord w] =>
    (List.range aw).map fun j =>
      if m4 then (if Nat.ble j 8 then cl.read4 (.rx w j) else 0) else (if Nat.ble j 17 then cl.read2 (.rx w j) else 0)
  | [.const v] => List.replicate aw (cl.read m4 (.const v))
  | refs => refs.map (cl.read m4)

/-- The address that values spell; none when one of them is X or Z (R173, R175). -/
def addrOf (vs : List Nat) : Option Nat := if vs.any (Nat.ble 2) then none else some (packValues 1 vs)

/-! ### Evaluation (R117 to R120) -/

/-- A two-state evaluation: the truth-table bit at the index of the operands (R118). -/
def eval2 (tt : Nat) (vs : List Nat) : Nat := slice tt (packValues 1 vs) 1

/-- Operand j of an index agrees with a value that is known (R119). -/
def agrees (i j v : Nat) : Bool := Nat.ble 2 v || slice i j 1 == v

/-- The indices that agree with every known operand: the set K of R119 and R164. -/
def indexSet (vs : List Nat) : List Nat :=
  (List.range 16).filter fun i => (vs.zipIdx).all fun x => agrees i x.2 x.1

/-- An exact four-state evaluation (R119): 0, 1 or X. -/
def eval4 (tt : Nat) (vs : List Nat) : Nat :=
  let ks := indexSet vs
  if ks.all fun i => slice tt i 1 == 0 then 0 else if ks.all fun i => slice tt i 1 == 1 then 1 else 3

/-- An evaluation in a mode. -/
def evalIn (m4 : Bool) (tt : Nat) (vs : List Nat) : Nat := if m4 then eval4 tt vs else eval2 tt vs

/-- The candidate of MUXW for a select number (R163). R163 gives no stride for a constant source with STRIDE = 1: the model
takes 64, so that every candidate is the base constant (DESIGN CHOICE, log entry 41). -/
def muxRef (rwin : Nat) (stride : Bool) (tt sel : Nat) : ReadRef :=
  let src := slice tt 12 2
  let w := if stride then (if src = 2 then 32 else 64) else 1
  refAt rwin src ((slice tt 0 12 + sel * w) % 4096)

/-- The result of a four-state MUXW (R167). -/
def muxResult : List Nat → Nat
  | [] => 3
  | v :: vs => if v ≠ 3 ∧ vs.all (· == v) then v else 3

/-! ### One processor's issue -/

/-- What one instruction reads, in its mode, and leaves to be done. -/
structure Issue where
  /-- Every read the instruction makes, with its mode. -/
  reads : List (Bool × ReadRef)
  /-- What it leaves to be done or written. -/
  writes : List Write
  /-- Its write is suppressed by the bank rule (R93, R97). -/
  violation : Bool
  deriving DecidableEq, Repr

/-- An issue that reads and does nothing (R151). -/
def Issue.none : Issue := ⟨[], [], false⟩

/-- A net-store write of a result, or its suppression (R92, R93). -/
def netResult (k dest v : Nat) : List Write × Bool :=
  if dest / 64 = k then ([.net k dest v], false) else ([], true)

/-- The kind of a memory port: KIND 3 acts as none (R320). -/
def portKind (kind : Nat) : Nat := if kind = 3 then 0 else kind

/-- The issue of EVAL and EVAL4S (R157 to R159). -/
def Cluster.issueEval (cl : Cluster) (k : Nat) (m4 : Bool) (dest tt a b c d : Nat) : Issue :=
  let refs := [a, b, c, d].map (refOf (Sparse.get 0 cl.rwin k))
  let r := netResult k dest (evalIn m4 tt (refs.map (cl.read m4)))
  ⟨refs.map (m4, ·), r.1, r.2⟩

/-- The issue of LATCH (R160 to R162, R97, R104). -/
def Cluster.issueLatch (cl : Cluster) (k : Nat) (m4 netw : Bool) (dest tt a b c d : Nat) : Issue :=
  let refs := [a, b, c, d].map (refOf (Sparse.get 0 cl.rwin k))
  let v := evalIn m4 tt (refs.map (cl.read m4))
  let e := Sparse.get 0 cl.lwin k * 4096 + dest
  let ws := if dest / 64 = k then Write.state k e v :: (if netw then [Write.net k dest v] else []) else []
  ⟨refs.map (m4, ·), ws, dest / 64 != k⟩

/-- The issue of MUXW (R163 to R168). -/
def Cluster.issueMuxw (cl : Cluster) (k : Nat) (m4 stride : Bool) (dest tt a b c d : Nat) : Issue :=
  let rwin := Sparse.get 0 cl.rwin k
  let sels := [a, b, c, d].map (refOf rwin)
  let cands := (indexSet (sels.map (cl.read m4))).map (muxRef rwin stride tt)
  let vs := cands.map (cl.read m4)
  let r := netResult k dest (if m4 then muxResult vs else vs.headD 0)
  ⟨(sels ++ cands).map (m4, ·), r.1, r.2⟩

/-- The issue of SEND (R169, R170). -/
def Cluster.issueSend (cl : Cluster) (k : Nat) (m4 : Bool) (dest a : Nat) : Issue :=
  let rwin := Sparse.get 0 cl.rwin k
  ⟨(gatherRefs rwin a (if m4 then 9 else 18)).map (m4, ·), [.tx (2 * k + dest % 2) (cl.gatherWord m4 rwin a)], false⟩

/-- The issue of a MEM read through a port (R173 to R176, R182). -/
def Cluster.issueMemRead (cl : Cluster) (k kind aw : Nat) (m4 : Bool) (dest tt a : Nat) : Issue :=
  let rwin := Sparse.get 0 cl.rwin k
  if kind = 0 then ⟨[], [.mem k 0 (tt % 16) m4 false Option.none true 0 (dest % 128), .isa 3 k], false⟩
  else
    ⟨(gatherRefs rwin a aw).map (m4, ·),
      [.mem k kind (tt % 16) m4 false (addrOf (cl.gatherAddr m4 rwin a aw)) true 0 (dest % 128)], false⟩

/-- The issue of a MEM write through a port (R173 to R175, R178, R179, R182). -/
def Cluster.issueMemWrite (cl : Cluster) (k kind aw : Nat) (m4 : Bool) (tt a b c : Nat) : Issue :=
  let rwin := Sparse.get 0 cl.rwin k
  if kind = 0 then ⟨[], [.mem k 0 (tt % 16) m4 true Option.none false 0 0, .isa 3 k], false⟩
  else
    let en := cl.read m4 (refOf rwin c)
    let data := if Nat.ble 2 en then 0x3FFFF else cl.gatherWord m4 rwin b
    ⟨(gatherRefs rwin a aw ++ gatherRefs rwin b (if m4 then 9 else 18) ++ [refOf rwin c]).map (m4, ·),
      [.mem k kind (tt % 16) m4 true (addrOf (cl.gatherAddr m4 rwin a aw)) (en != 0) data 0], false⟩

/-- The issue of WIN (R184). -/
def issueWin (k tt : Nat) : Issue :=
  ⟨[], [.win k (if bitOf tt 3 then some (slice tt 0 3) else Option.none)
    (if bitOf tt 7 then some (slice tt 4 3) else Option.none)], false⟩

/-- The issue of PROBE (R185). -/
def Cluster.issueProbe (cl : Cluster) (k dest a : Nat) : Issue :=
  let r := refOf (Sparse.get 0 cl.rwin k) a
  ⟨[(true, r)], [.probe k (dest % 16) (cl.read4 r)], false⟩

/-- The issue of BREAK (R188). -/
def Cluster.issueBrk (cl : Cluster) (k tt a : Nat) : Issue :=
  let r := refOf (Sparse.get 0 cl.rwin k) a
  let x := bitOf tt 4
  ⟨[(x, r)], if cl.read x r = 0 then [] else [.brk k (tt % 16)], false⟩

/-- The issue of a SPECIAL with a reserved OP (R189). -/
def issueReserved (k : Nat) : Issue := ⟨[], [.isa 0 k], false⟩

/-- The hidden state of a cluster. -/
def State.cl (s : State) (c : Nat) : Cluster := Sparse.get Cluster.reset s.clusters c

/-- The hidden state of a cluster replaced. -/
def State.setCl (s : State) (c : Nat) (x : Cluster) : State :=
  { s with clusters := Sparse.put Cluster.reset s.clusters c x }

/-- The kind of a memory port of a cluster (R320). -/
def State.portKindOf (s : State) (c tt : Nat) : Nat := portKind (s.f (CLU_MPD_KIND c (tt % 16)))

/-- The address width of a memory port of a cluster. For a port whose AW is 0 or above 32, which R173 does not cover, the
model gathers as many bits as the field says (DESIGN CHOICE, log entry 41). -/
def State.portWidth (s : State) (c tt : Nat) : Nat := s.f (CLU_MPD_AW c (tt % 16))

/-- The issue of an instruction by processor k of cluster c. -/
def State.issue (s : State) (c k : Nat) : Casornol → Issue
  | .nop => Issue.none
  | .eval m4 dest tt a b cc d => (s.cl c).issueEval k m4 dest tt a b cc d
  | .latch m4 netw dest tt a b cc d => (s.cl c).issueLatch k m4 netw dest tt a b cc d
  | .muxw m4 stride dest tt a b cc d => (s.cl c).issueMuxw k m4 stride dest tt a b cc d
  | .send m4 dest a => (s.cl c).issueSend k m4 dest a
  | .memRead m4 dest tt a => (s.cl c).issueMemRead k (s.portKindOf c tt) (s.portWidth c tt) m4 dest tt a
  | .memWrite m4 tt a b cc => (s.cl c).issueMemWrite k (s.portKindOf c tt) (s.portWidth c tt) m4 tt a b cc
  | .win tt => issueWin k tt
  | .probe dest a => (s.cl c).issueProbe k dest a
  | .brk tt a => (s.cl c).issueBrk k tt a
  | .reserved => issueReserved k

end Sys2Proof.Machine
end

