-- ==== Sys2Proof/Machine/Flags.lean ====
section
/-! DEFINITION. The flags that commands raise: the event registers of a cluster (R126, R191, R401), of a stop and its
Confluence (R314), of an HBM controller (R362) and of the sequencer. -/

namespace Sys2Proof.Machine

open Reg

/-- A sticky bit of a cluster's event registers is set: the Guestbook counts it when it is new, and CLUSTER_ERR is
raised under ERR_EVT_EN (R191). -/
def State.cluRaise (s : State) (c : Nat) (F : Fld) (reg : Nat) : State :=
  if s.flag F then s
  else
    let s1 := s.raise F 16 reg c 0
    if s1.flag (CLU_CTRL_ERR_EVT_EN c) then s1.fire 1 else s1

/-- A bit of CLU_ERR. -/
def State.cluErr (s : State) (c : Nat) (F : Nat → Fld) : State := s.cluRaise c (F c) 0

/-- The cluster faults (R126): it issues no further step, the bit is set, the first fault is recorded and CLUSTER_ERR is
raised. What the other processors issued in the step in progress is dropped with it, a BREAK, WIN or PROBE included
(DESIGN CHOICE, log entry 41). -/
def State.cluFault (s : State) (c : Nat) (F : Nat → Fld) (step proc src : Nat) : State :=
  let fresh := s.flag (F c)
  let s1 := (s.cluErr c F).setF (CLU_STATUS_STATE c) 6
  let s2 := if fresh ∧ s1.flag (CLU_CTRL_ERR_EVT_EN c) then s1.fire 1 else s1
  let s3 :=
    if s2.flag (CLU_ERR_INFO_VALID c) then s2
    else
      (((s2.setF (CLU_ERR_INFO_STEP c) step).setF (CLU_ERR_INFO_PROC c) proc).setF (CLU_ERR_INFO_SRC c) src).setF
        (CLU_ERR_INFO_VALID c) 1
  s3.setCl c { s3.cl c with fresh := [], issued := 0 }

/-- A corrected instruction or state error (R125). -/
def State.cluCorrected (s : State) (c : Nat) (F : Nat → Fld) : State := (s.bump (CLU_CE_CNT_CE_COUNT c) 1).cluErr c F

/-- The row that a state read corrects is written back (R125). -/
def State.fixRow (s : State) (c : Nat) (x : Nat × Nat) : State :=
  (s.setCl c { s.cl c with rows := Sparse.put xRow (s.cl c).rows x.1 (secEncode 7 64 x.2) }).cluCorrected c CLU_ERR_SS_CE

/-- A cluster has faulted. -/
def State.faulted (s : State) (c : Nat) : Bool := s.f (CLU_STATUS_STATE c) == 6

/-- A state row that is read outside the step pipeline is checked: corrected and written back, or a fault (R123, R125,
R126). -/
def State.readRow (s : State) (c key : Nat) : State :=
  if s.faulted c then s
  else
    match secDecode 7 64 (Sparse.get xRow (s.cl c).rows key) with
    | .ok => s
    | .corrected d => s.fixRow c (key, d)
    | .uncorrectable => s.cluFault c CLU_ERR_SS_UE (s.f (CLU_STATUS_STEP c)) 0 2

/-- The rows of the committed values of state entries are read. -/
def State.readRows (s : State) (c : Nat) (es : List Nat) : State :=
  ((es.map fun e => (s.cl c).selBit e * 1024 + e / 32).eraseDups).foldl (fun t key => t.readRow c key) s

/-- A net-store entry that is read outside the step pipeline is checked (R124, R126). -/
def State.readNet (s : State) (c e : Nat) : State :=
  if s.faulted c ∨ parityOf 3 ((s.cl c).netRaw e) = 0 then s
  else s.cluFault c CLU_ERR_NS_PE (s.f (CLU_STATUS_STEP c)) (e / 64) 3

/-- An instruction event: bit code of CLU_ISA_ERR, recorded when it is the first (R191). -/
def State.isaErr (s : State) (c code step proc : Nat) : State :=
  let s1 := s.cluRaise c ⟨CLU_ISA_ERR c, code, 1⟩ 1
  if s1.flag (CLU_ISA_INFO_VALID c) then s1
  else
    (((s1.setF (CLU_ISA_INFO_STEP c) step).setF (CLU_ISA_INFO_PROC c) proc).setF (CLU_ISA_INFO_CODE c) code).setF
      (CLU_ISA_INFO_VALID c) 1

/-- A bit of CLU_MEM_ERR. -/
def State.memErr (s : State) (c : Nat) (F : Nat → Fld) : State := s.cluRaise c (F c) 2

/-- A scoreboard detection (R401). -/
def State.chkErr (s : State) (c code step proc index : Nat) : State :=
  let s1 := s.cluRaise c ⟨CLU_CHK_ERR c, code, 1⟩ 3
  if s1.flag (CLU_CHK_INFO_VALID c) then s1
  else
    ((((s1.setF (CLU_CHK_INFO_STEP c) step).setF (CLU_CHK_INFO_PROC c) proc).setF (CLU_CHK_INFO_CODE c) code).setF
      (CLU_CHK_INFO_VALID c) 1).setF (CLU_CHK_ENTRY_INDEX c) index

/-- The rate in force, in units of 1/32 MHz (R76, R135, R796). -/
def State.rateInForce (s : State) (c : Nat) : Nat :=
  (s.cl c).rate * (16 - (s.cl c).slow) * (if s.flag DEV_MODE_CHECK_ACT then 1 else 2)

/-- LOCKED falls when the rate in force changes, and the last measurement no longer counts (R850). -/
def State.settleRate (s : State) (c : Nat) : State :=
  if (s.cl c).rateSeen = s.rateInForce c ∨ (s.cl c).rateSeen = 0 then s
  else (s.setCl c { s.cl c with rateSeen := 0 }).setF (CLU_TRIM_LOCKED c) 0

/-- The cluster whose CLU_TRIM an offset is. -/
def trimCluster (off : Nat) : Option Nat :=
  if Nat.ble 0x8000000 off && Nat.blt off 0x9100000 && off % 0x4000 == 0x1C then some ((off - 0x8000000) / 0x4000)
  else none

/-- LOCKED of every cluster follows its rate (R850): one with neither stores nor CLU_TRIM listed reads LOCKED 0, and Sequencer.checks
tells its next measurement of a change. -/
def State.settleRates (s : State) : State :=
  (s.clusters.map (·.1) ++ s.regs.filterMap fun kv => trimCluster kv.1).foldl State.settleRate s

/-- CHECK_ACT takes a value, and every island its rate (R75, R76, R850). -/
def State.setCheckAct (s : State) (v : Nat) : State :=
  if s.f DEV_MODE_CHECK_ACT = v then s
  else
    let s1 := s.setF DEV_MODE_CHECK_ACT v
    { s1 with seq := { s1.seq with checks := s1.seq.checks + 1 } }.settleRates

/-- The node address of a stop (R254). -/
def stopNode (d r p : Nat) : Nat := d * 512 + r * 64 + p

/-- The node address of a die's Confluence (R254). -/
def cflNode (d : Nat) : Nat := 0x800 + d * 512

/-- A bit of MLR_STOP_ERR (R314). -/
def State.stopErr (s : State) (d r p : Nat) (F : Nat → Fld) : State :=
  s.raise (F (stopBase d r p)) 14 0 (stopNode d r p) 0

/-- A flit error of MLR_CFL_ERR, recorded when it is the first (R276, R316). -/
def State.cflErr (s : State) (d : Nat) (F : Nat → Fld) (port tag : Nat) : State :=
  let s1 := s.raise (F d) 14 1 (cflNode d) 0
  if s1.flag (MLR_CFL_INFO_VALID d) then s1
  else
    (((s1.setF (MLR_CFL_INFO_PORT d) port).setF (MLR_CFL_INFO_TAG d) tag).setF (MLR_CFL_INFO_CODE d) (F d).lo).setF
      (MLR_CFL_INFO_VALID d) 1

/-- GEN_ERR of MLR_GEN_STATUS (R291, R314). -/
def State.genErr (s : State) (d : Nat) : State :=
  if s.flag (MLR_GEN_STATUS_GEN_ERR d) then s
  else (s.setF (MLR_GEN_STATUS_GEN_ERR d) 1).count (srcOf 14 2 0) (cflNode d) 0

/-- A bit of HBC_ERR (R362). -/
def State.hbcErr (s : State) (d : Nat) (F : Nat → Fld) : State := s.raise (F d) 13 0 d 0

/-- A memory error of a controller with its record (R325, R353, R354): CODE 0 UE, 1 TAG, 2 RANGE, 3 NO_MID. -/
def State.hbcRecord (s : State) (d : Nat) (F : Nat → Fld) (code pc blk : Nat) : State :=
  let s1 := s.hbcErr d F
  if s1.flag (HBC_ERR_INFO_VALID d) then s1
  else
    (((s1.setF (HBC_ERR_INFO_PCBLK d) blk).setF (HBC_ERR_INFO_PC d) pc).setF (HBC_ERR_INFO_CODE d) code).setF
      (HBC_ERR_INFO_VALID d) 1

/-- A bit of SEQ_ERR. -/
def State.seqErr (s : State) (F : Fld) : State := s.raise F 15 0 0 0

/-- A bit of DEV's sources: 0 mode change, 1 refused request, 2 warm reset, by path (R67). -/
def State.devCount (s : State) (bit path : Nat) : State := s.count (srcOf 0 3 bit) path 0

end Sys2Proof.Machine
end

