-- ==== Sys2Proof/Machine/AcqOps.lean ====
section
/-! DEFINITION. The shared operations of the acquisition engine (09_acquisition_trigger): its records and stream, tap
snapshots, comparators, and the end of a capture. -/

namespace Sys2Proof.Machine

open Reg

/-- A capture runs: WAIT, POST or STREAM. -/
def State.capturing (s : State) : Bool :=
  let st := s.f ACQ_STATUS_STATE
  st == 1 || st == 2 || st == 4

/-- A bit of ACQ_ERR. -/
def State.acqErr (s : State) (F : Fld) : State := s.raise F 11 0 0 0

/-- The pin step of an instant of this hub cycle, some 2^-40 ns after its start (R464): whole steps at the loaded image's
rate since the release. -/
def State.pinStepAt (s : State) (after : Nat) : Nat :=
  match s.seq.lastRel with
  | none => 0
  | some r => min 4095 ((s.tmk.steered + after - r) * s.stepMhz / (1000 * nsUnit))

/-- The pin step of this hub cycle. -/
def State.pinStep (s : State) : Nat := s.pinStepAt 0

/-- The header of a record (R463). -/
def recordHeader (typ flags len step aux frame time topBits : Nat) : List Byte :=
  let t := stampOf time
  bytesLE 1 typ ++ bytesLE 1 flags ++ bytesLE 2 len ++ bytesLE 2 step ++ bytesLE 1 aux ++ bytesLE 1 0 ++ bytesLE 8 frame ++
    bytesLE 8 t.sec ++ bytesLE 4 t.ns ++ bytesLE 4 (t.frac + topBits * 67108864)

/-- Bytes of the staging buffer that TAP and PIN records may take: the rest is held back for the other records (R469). The
spec gives no figure for the rest: that of a TRIGGER, a MARK and a PAD, and a free number more (log entry 77). -/
def stageLimit : Nat := 1048576 - (128 + 32 * Config.acqHeld)

/-- A record is appended to the stream; TAP (1) and PIN (2) records are dropped when the staging buffer has no room
(R469). -/
def State.acqAppend (s : State) (typ step aux frame time topBits : Nat) (payload : List Byte) : State :=
  let size := 32 + payload.length
  if typ ≤ 2 ∧ stageLimit < s.acq.stage.length + size then
    ({ s with acq := { s.acq with gap := true } }.bump ACQ_DROP_RECORDS 1).acqErr ACQ_ERR_DROP
  else
    let hdr := recordHeader typ (ofBool s.acq.gap) (size / 32) step aux frame time topBits
    { s with acq := { s.acq with
        stage := s.acq.stage ++ hdr ++ payload
        tail := s.acq.tail + size
        starts := s.acq.starts ++ [(s.acq.tail, frame)]
        gap := false } }

/-- A MARK record (R464): AUX 1 ARM, 2 END, 3 ABANDON. -/
def State.acqMark (s : State) (aux frame : Nat) : State := s.acqAppend 4 s.pinStep aux frame s.tmk.time 0 []

/-- PAD records up to the block boundary (R478). -/
def State.acqPad (s : State) : State :=
  if s.acq.tail % 64 = 0 then s else s.acqAppend 5 s.pinStep 0 s.frameNo s.tmk.time 0 []

/-- A PIN record is written, whole or cut short (R466). -/
def State.acqPin (s : State) (r : PinRecord) : State :=
  let n := r.samples.length
  let short := n < 48
  let payload := ((r.samples ++ List.replicate (48 - n) 0).map (bytesLE 2)).flatten
  s.acqAppend 2 r.step (r.group + if short then 128 else 0) r.frame r.time (if short then n else 0) payload

/-- The PIN records in progress that pass a test are written, and none stays in progress. -/
def State.acqFlushPins (s : State) (keep : PinRecord → Bool) : State :=
  (s.acq.pins.filter keep).foldl State.acqPin { s with acq := { s.acq with pins := [] } }

/-! ### Storage (R471, R485, R494) -/

/-- HBM key of stream offset o under a capture size (R471). -/
def State.streamKey (s : State) (o : Nat) : Nat :=
  let j := o % max 1 (s.f64 ACQ_CAP) / 64
  let die := j % 128 / 32
  die * stackSize + (s.f (HBC_ACQ_BASE_BASE die) + j / 128) * 2048 + j % 32 * 64 + o % 64

/-- The first record of a frame after the one at ACQ_OLDEST, at or above an offset (R485). -/
def nextFrameRecord (starts : List (Nat × Nat)) (oldest low tail : Nat) : Nat :=
  let old := ((starts.find? fun x => x.1 == oldest).map (·.2)).getD 0
  ((starts.find? fun x => Nat.ble low x.1 && Nat.blt old x.2).map (·.1)).getD tail

/-- What a block write that reaches up to an offset overwrites (R485, R494). -/
def State.overwrite (s : State) (low : Nat) : State :=
  let old := s.f64 ACQ_OLDEST
  let s1 :=
    if low ≤ old then s
    else if s.flag ACQ_STATUS_TRIGGERED then
      (s.set64 ACQ_OLDEST (nextFrameRecord s.acq.starts old low s.acq.tail)).setF ACQ_STATUS_PRE_SHORT 1
    else s.set64 ACQ_OLDEST (((s.acq.starts.find? fun x => Nat.ble low x.1).map (·.1)).getD s.acq.tail)
  let s2 : State := { s1 with acq := { s1.acq with starts := s1.acq.starts.filter fun x => Nat.ble (s1.f64 ACQ_OLDEST) x.1 } }
  if s2.f ACQ_STATUS_STATE = 4 ∧ s2.f64 ACQ_RD_PTR + 64 ≤ low then
    let n := (s2.reg ACQ_LOST).toNat
    (s2.setNat ACQ_LOST (min (n + 1) 0xFFFFFFFF)).acqErr ACQ_ERR_LOST
  else s2

/-- A whole block of 64 bytes leaves the staging buffer for HBM (R471). -/
def State.blockOut (s : State) : State :=
  let o := s.f64 ACQ_WR_PTR
  let s1 := { s with hbm := writeBytes s.hbm (s.streamKey o) (s.acq.stage.take 64) }
  let s2 := { s1 with acq := { s1.acq with stage := s1.acq.stage.drop 64 } }.set64 ACQ_WR_PTR (o + 64)
  let cap := s.f64 ACQ_CAP
  if cap < o + 64 then s2.overwrite (o + 64 - cap) else s2

/-- Some blocks leave the staging buffer. -/
def State.blocksOut : Nat → State → State
  | 0, s => s
  | n + 1, s => State.blocksOut n s.blockOut

/-! ### The end of a capture (R478, R481, R486) -/

/-- The records that have not begun to leave the staging buffer and belong to a frame after a last one: offset and size. -/
def State.laterStaged (s : State) (last : Nat) : List (Nat × Nat) :=
  let ends := (s.acq.starts.map (·.1)).drop 1 ++ [s.acq.tail]
  let base := s.acq.tail - s.acq.stage.length
  (s.acq.starts.zip ends).filterMap fun (x, e) => if base ≤ x.1 ∧ last < x.2 then some (x.1, e - x.1) else none

/-- A stream offset when some records, given by offset and size, have been taken out. -/
def movedTo (gone : List (Nat × Nat)) (o : Nat) : Nat := o - ((gone.filter fun x => Nat.blt x.1 o).map (·.2)).sum

/-- The staged records of frames after the last one of a capture are not written (R486): those that stay close up. -/
def State.dropLater (s : State) (last : Nat) : State :=
  match s.laterStaged last with
  | [] => s
  | gone =>
    let base := s.acq.tail - s.acq.stage.length
    let cut (l : List Byte) (x : Nat × Nat) : List Byte := l.take (x.1 - base) ++ l.drop (x.1 - base + x.2)
    let stays := s.acq.starts.filter fun x => !gone.any fun g => g.1 == x.1
    let s1 : State := { s with acq := { s.acq with
        stage := gone.reverse.foldl cut s.acq.stage
        tail := movedTo gone s.acq.tail
        starts := stays.map fun (x : Nat × Nat) => (movedTo gone x.1, x.2) } }
    (s1.set64 ACQ_TRIG_PTR (movedTo gone (s1.f64 ACQ_TRIG_PTR))).set64 ACQ_OLDEST (movedTo gone (s1.f64 ACQ_OLDEST))

/-- A capture ends at a frame (R478, R481, R486): the staged records of frames up to it, the END mark and the padding are
written, and the state is DONE. The last blocks are written with the end itself (log entry 77). -/
def State.acqEnd (s : State) (cause frame : Nat) : State :=
  if s.capturing then
    let s1 := (s.dropLater frame).acqFlushPins fun r => Nat.ble r.frame frame
    let s2 := (s1.acqMark 2 frame).acqPad
    let s3 := State.blocksOut (s2.acq.stage.length / 64) s2
    ((s3.setF ACQ_STATUS_STATE 3).setF ACQ_STATUS_STOP_CAUSE cause).fire 17
  else s

/-- A frame is abandoned (R480): its PIN records in progress are cut short and a MARK record names it. What waits of
earlier frames stays. -/
def State.acqAbandon (s : State) (frame : Nat) : State :=
  let s1 := if s.capturing then (s.acqFlushPins fun _ => true).acqMark 3 frame else s
  { s1 with acq := { s1.acq with
      wait := s1.acq.wait.filter fun kv => kv.2 != frame + 1
      collected := s1.acq.collected.filter fun x => x.1 != frame
      points := s1.acq.points.filter fun p => p.frame != frame
      skipped := s1.acq.skipped.filter fun n => n != frame
      brks := 0 } }

/-- Taps in force, with their numbers. -/
def State.tapList (s : State) : List (Nat × Nat) :=
  (List.range (s.f ACQ_TAP_NUM_NTAP)).map fun i => (i, Sparse.get 0 s.acq.taps i)

/-- The value of a net-store or probe-latch tap (R457). -/
def State.tapSample (s : State) (c kind index : Nat) : Nat :=
  if kind = 0 then (s.cl c).netRaw index % 4 else slice (s.reg (CLU_PLATCH c)).toNat (2 * (index % 16)) 2

/-- A cluster's taps at its commit of a frame (R457, R460): a snapshot, or none while older values wait in it. -/
def State.tapSnapshot (s : State) (c frame : Nat) : State :=
  let taps := s.tapList.filter fun x => slice x.2 0 11 == c
  if taps = [] then s
  else if Sparse.get 0 s.acq.wait c ≠ 0 then
    let s1 :=
      if s.acq.skipped.contains frame then s
      else { s with acq := { s.acq with skipped := s.acq.skipped ++ [frame] } }.bump ACQ_DROP_TAP 1
    s1.acqErr ACQ_ERR_TAP_SKIP
  else
    let s0 := (taps.filter fun x => slice x.2 11 2 == 0).foldl (fun t x => t.readNet c (slice x.2 13 15)) s
    let vals := (taps.filter fun x => slice x.2 11 2 != 1).map fun x =>
      (x.1, s0.tapSample c (slice x.2 11 2) (slice x.2 13 15))
    { s0 with acq := { s0.acq with
        snap := Sparse.putAll 3 s0.acq.snap vals
        wait := Sparse.put 0 s0.acq.wait c (frame + 1) } }

/-- A tapped cluster is reset: its taps read X (R495). -/
def State.tapForget (s : State) (c : Nat) : State :=
  let mine := (s.tapList.filter fun x => slice x.2 0 11 == c).map (·.1)
  { s with acq := { s.acq with
      snap := mine.foldl (fun m i => Sparse.del m i) s.acq.snap
      wait := Sparse.put 0 s.acq.wait c 0 } }

/-- The local barrier condition of a frame is met (R482): the pin interval ends. -/
def State.acqBarrier (s : State) : State :=
  { s with acq := { s.acq with
      points := s.acq.points ++ [⟨s.frameNo, s.tmk.time, s.acq.pinHit, s.acq.pinFirst, s.acq.brks⟩]
      pinHit := 0
      pinFirst := []
      brks := 0 } }

/-- A breakpoint is raised in the frame, whether or not it is enabled (comparator KIND 4). -/
def State.acqBreak (s : State) (num : Nat) : State :=
  { s with acq := { s.acq with brks := putBit s.acq.brks num true } }

/-- What one evaluation of a comparator gives (R487): the outcome, and what the next evaluation compares with. -/
def compareEdge (ne : Bool) (edge : Nat) (hit : Bool) (masked old : Nat) : Bool × Nat :=
  let r := hit != ne
  let wasTrue := (old - 1) % 2 == 1
  let wasMasked := (old - 1) / 2
  let out :=
    match edge with
    | 0 => r
    | 1 => r && old != 0 && !wasTrue
    | 2 => !r && old != 0 && wasTrue
    | _ => old != 0 && masked != wasMasked
  (out, 1 + ofBool r + 2 * masked)

/-- A masked comparison of 16 bits. -/
def maskedEqual (v value mask : Nat) : Bool := (v ^^^ value) &&& mask == 0

/-- Comparator i on a 16-bit value. -/
def State.compare16 (s : State) (i v : Nat) : Bool × Nat :=
  let mask := s.f (ACQ_CMP_MV_MASK i)
  compareEdge (s.flag (ACQ_CMP_CFG_OP i)) (s.f (ACQ_CMP_CFG_EDGE i)) (maskedEqual v (s.f (ACQ_CMP_MV_VAL i)) mask)
    (v &&& mask) (Sparse.get 0 s.acq.prev i)

/-- Every skew calibration begins again (R490). -/
def State.skewRestart (s : State) : State := { s with acq := { s.acq with skew := [] } }

/-- Bytes of the stream from an offset. -/
def State.streamRead (s : State) (o : Nat) : Nat → List Byte
  | 0 => []
  | n + 1 => Sparse.get 0 s.hbm (s.streamKey o) :: s.streamRead (o + 1) n

end Sys2Proof.Machine
end

