-- ==== Sys2Proof/Machine/LaneOps.lean ====
section
/-! DEFINITION. The shared operations of a Shoris lane (11_shoris_lanes): its states, entry to UP, DOWN and OFF, its
groups, the words and items that wait for its transmitter, and the check code and scrambler of its blocks. -/

namespace Sys2Proof.Machine

open Reg

/-- OFF. -/
def LaneSt.off : Nat := 0
/-- RESET. -/
def LaneSt.reset : Nat := 1
/-- ACQUIRE. -/
def LaneSt.acquire : Nat := 2
/-- NEGOTIATE. -/
def LaneSt.negotiate : Nat := 3
/-- UP. -/
def LaneSt.up : Nat := 4
/-- RELOCK. -/
def LaneSt.relock : Nat := 5
/-- DOWN. -/
def LaneSt.down : Nat := 6
/-- TEST. -/
def LaneSt.test : Nat := 7

/-- The hidden state of a lane. -/
def State.lane (s : State) (l : Nat) : Lane := Sparse.get Lane.reset s.lanes l

/-- The hidden state of a lane replaced. -/
def State.setLane (s : State) (l : Nat) (x : Lane) : State :=
  { s with lanes := Sparse.put Lane.reset s.lanes l x }

/-- The link level of a lane replaced. -/
def State.setLink (s : State) (l : Nat) (x : LaneLink) : State := s.setLane l { s.lane l with link := x }

/-- The packet layer of a lane replaced. -/
def State.setQueue (s : State) (l : Nat) (x : LaneQueue) : State := s.setLane l { s.lane l with q := x }

/-- SHR_LSTAT.STATE. -/
def State.laneState (s : State) (l : Nat) : Nat := s.f (SHR_LSTAT_STATE l)

/-- A lane is UP. -/
def State.laneUp (s : State) (l : Nat) : Bool := s.laneState l == LaneSt.up

/-- BOND_LOG2 in force on a lane: 5 to 7 act as 0; it takes effect at START. -/
def State.bond (s : State) (l : Nat) : Nat :=
  let w := slice (s.lane l).link.cfg.toNat 3 3
  if w ≤ 4 then w else 0

/-- The anchor of a lane's group (R554). -/
def State.anchor (s : State) (l : Nat) : Nat := l / 2 ^ s.bond l * 2 ^ s.bond l

/-- The members of a lane's group, in rising order (R554). -/
def State.group (s : State) (l : Nat) : List Nat := (List.range (2 ^ s.bond l)).map (s.anchor l + ·)

/-- A group is up while every member is UP (R557). -/
def State.groupUp (s : State) (l : Nat) : Bool := (s.group l).all s.laneUp

/-- GROUP_UP of every member follows the group (R557). -/
def State.setGroupUp (s : State) (l : Nat) : State :=
  (s.group l).foldl (fun t m => t.setF (SHR_LSTAT_GROUP_UP m) (ofBool (s.groupUp l))) s

/-- A sticky bit of SHR_LERR is set. -/
def State.laneErr (s : State) (F : Fld) (l : Nat) : State := s.raise F 12 0 l 0

/-- Everything a lane holds is discarded (R536, R567): packets, words, items, control blocks and an exchange on the
lane (R517). -/
def State.laneDiscard (s : State) (l : Nat) : State :=
  let s1 := s.setQueue l LaneQueue.reset
  match s1.tmk.exchange with
  | some x =>
    if x.lane = l then ({ s1 with tmk := { s1.tmk with exchange := none } }).bump TMK_SHX_STAT_LOST 1 else s1
  | none => s1

/-- A lane enters OFF (R536, R573). -/
def State.laneOff (s : State) (l : Nat) : State :=
  let s1 := s.setLane l { Lane.reset with link := { LaneLink.reset with cfg := (s.lane l).link.cfg } }
  let s2 := { s1 with tmk := (s.laneDiscard l).tmk, regs := (s.laneDiscard l).regs }
  ((((s2.setF (SHR_LSTAT_STATE l) LaneSt.off).setF (SHR_LSTAT_LOCK l) 0).setF (SHR_LSTAT_HDR_OK l) 0).setF
    (SHR_PRBS_STAT_SYNC l) 0).setF (SHR_LSTAT_GROUP_UP l) 0

/-- One lane enters DOWN with a cause (R567): its items are discarded, 8 DOWN blocks are due, LANE_DOWN fires and the
Guestbook counts it. -/
def State.laneDownOne (s : State) (l cause : Nat) : State :=
  let s1 := s.laneDiscard l
  let s2 := s1.setLink l { (s1.lane l).link with downLeft := 8 }
  let s3 := (s2.setF (SHR_LSTAT_STATE l) LaneSt.down).setF (SHR_LSTAT_DOWN_CAUSE l) cause
  ((s3.laneErr (SHR_LERR_DOWN l) l).count (srcOf 12 3 0) l 0).fire 5

/-- A lane enters DOWN, and every other member of its group follows with cause GROUP (R557). -/
def State.laneDown (s : State) (l cause : Nat) : State :=
  let s1 := s.laneDownOne l cause
  let others := (s.group l).filter fun m =>
    m != l && (s.laneState m != LaneSt.off && s.laneState m != LaneSt.down && s.laneState m != LaneSt.test)
  (others.foldl (fun t m => t.laneDownOne m 4) s1).setGroupUp l

/-- The packet layer of a lane takes what it is to send: the lane is UP or in RELOCK. -/
def State.laneTakes (s : State) (l : Nat) : Bool := s.laneUp l || s.laneState l == LaneSt.relock

/-- A value word takes its place in a lane's position buffer (R549); a position beyond the buffer is discarded (R553). -/
def State.laneSend (s : State) (l ftag pos step word : Nat) : State :=
  let q := (s.lane l).q
  if !s.laneTakes l then s
  else if 1024 ≤ pos then s.laneErr (SHR_LERR_POS l) l
  else s.setQueue l { q with
    words := q.words ++ [⟨ftag, pos, step, word⟩]
    ftag := if q.ftag = none then some ftag else q.ftag }

/-- An END item waits on a lane (R550, R551). -/
def State.laneEnd (s : State) (l : Nat) (haltNotice notice : Bool) (frame : Nat) : State :=
  let q := (s.lane l).q
  if !s.laneTakes l then s
  else s.setQueue l { q with
    ends := q.ends ++ [(haltNotice, notice, frame % 65536)]
    ftag := if q.ftag = none ∧ !notice then some (frame % 4) else q.ftag }

/-- Ford bytes wait on a lane, one list per DATA item of up to 64 bytes (R558). -/
def State.laneFord (s : State) (l : Nat) (bytes : List Byte) : State :=
  let q := (s.lane l).q
  if !s.laneTakes l then s
  else s.setQueue l { q with ford := q.ford ++ [bytes] }

/-- Load-channel bytes wait on a lane. -/
def State.laneLoad (s : State) (l : Nat) (bytes : List Byte) : State :=
  let q := (s.lane l).q
  if !s.laneTakes l then s
  else s.setQueue l { q with load := q.load ++ [bytes] }

/-- A control block waits on a lane. -/
def State.laneCtrl (s : State) (l : Nat) (c : LaneCtrl) : State :=
  let q := (s.lane l).q
  if !s.laneTakes l then s
  else s.setQueue l { q with ctrl := q.ctrl ++ [c] }

/-- The bits of syllables in transmission order (R531). -/
def sylBits (syls : List Nat) : List Bool := (syls.map fun w => bitsLSB 18 w).flatten

/-- The syllables of a bit sequence. -/
def bitsSyls : Nat → List Bool → List Nat
  | 0, _ => []
  | n + 1, bs => ofBitsLSB (bs.take 18) :: bitsSyls n (bs.drop 18)

/-- The CRC-16 of syllables, in transmission order (R543). -/
def crc16 (syls : List Nat) : Nat := (sylBits syls).foldl (crcBit 16 0x1021) 0xFFFF

/-- The self-synchronous scrambler 1 + x^39 + x^58 (R532): the state holds the last 58 line bits, the latest in bit 0. -/
def scrambleBits : Nat → List Bool → Nat × List Bool
  | st, [] => (st, [])
  | st, b :: bs =>
    let o := b ^^ (bitOf st 38 ^^ bitOf st 57)
    let r := scrambleBits ((st * 2 + ofBool o) % 2 ^ 58) bs
    (r.1, o :: r.2)

/-- The descrambler. -/
def descrambleBits : Nat → List Bool → Nat × List Bool
  | st, [] => (st, [])
  | st, b :: bs =>
    let r := descrambleBits ((st * 2 + ofBool b) % 2 ^ 58) bs
    (r.1, (b ^^ (bitOf st 38 ^^ bitOf st 57)) :: r.2)

/-- The bits of a unit as they go out: each block of 16 syllables after its header (R531). -/
def unitBits (hdr : Nat) : Nat → List Nat → List Bool
  | 0, _ => []
  | n + 1, syls => bitsLSB 2 hdr ++ sylBits (syls.take 16) ++ unitBits hdr n (syls.drop 16)

/-- A line bit as a level: 1 or -1. -/
def bitLevel (b : Bool) : Int := if b then 1 else -1

/-- The levels of the last unit sent. -/
def LaneLink.levels (k : LaneLink) : List Int := (unitBits k.line.1 (k.line.2.length / 16) k.line.2).map bitLevel

/-- The last two levels of the line, after the last unit. -/
def LaneLink.lastTwo (k : LaneLink) : Int × Int :=
  match k.levels.reverse with
  | b :: a :: _ => (a, b)
  | _ => k.before

/-- The output of the three-tap filter in units of 1/63 of full swing, for every bit between two others (R539): MAIN, PRE
and POST as SHR_TXFFE holds them. -/
def threeTap (ffe : Nat) : List Int → List Int
  | a :: b :: c :: rest =>
    ((slice ffe 4 6 : Int) * b - (slice ffe 0 4 : Int) * c - (slice ffe 10 5 : Int) * a) :: threeTap ffe (b :: c :: rest)
  | _ => []

/-- What the last unit settles of the output at the pins (R539, R540): the last bit before it, with the coefficients in
force then, and its own bits but the last, which waits for its successor. -/
def LaneLink.wave (k : LaneLink) : List Int :=
  threeTap k.ffeOld (k.before.1 :: k.before.2 :: k.levels.take 1) ++ threeTap k.ffe (k.before.2 :: k.levels)

/-- The coefficients in force on a lane: those of the register of its rate (R540). -/
def State.ffeNow (s : State) (l : Nat) : Nat := (s.reg (SHR_TXFFE l (s.f (SHR_LSTAT_RATE l)))).toNat

/-- A unit, as it stands on the line, is sent with the coefficients of the rate in use (R540). -/
def State.putLine (s : State) (l hdr : Nat) (syls : List Nat) : State :=
  let k := (s.lane l).link
  s.setLink l { k with line := (hdr, syls), ffeOld := k.ffe, ffe := s.ffeNow l, before := k.lastTwo }

/-- A unit goes to the line: its header, and its syllables scrambled, inverted under TX_INV (R530, R532). -/
def State.laneLine (s : State) (l hdr : Nat) (syls : List Nat) : State :=
  let k := (s.lane l).link
  let r := scrambleBits k.scramble (sylBits syls)
  let inv := bitOf k.cfg.toNat 6
  let bits := if inv then r.2.map (!·) else r.2
  (s.setLink l { k with scramble := r.1 }).putLine l (if inv then 3 - hdr else hdr) (bitsSyls syls.length bits)

end Sys2Proof.Machine
end

