-- ==== Sys2Proof/Machine/MlrOps.lean ====
section
/-! DEFINITION. The shared operations of Millrace (05_millrace_network): stops and their tables, generations, flits, the
queues a flit can stand in, and the markers. -/

namespace Sys2Proof.Machine

open Reg

/-- Millrace and the Confluence of a die. -/
def State.die (s : State) (d : Nat) : Millrace := Sparse.get Millrace.reset s.mlr d

/-- Millrace of a die replaced. -/
def State.setDie (s : State) (d : Nat) (x : Millrace) : State := { s with mlr := Sparse.put Millrace.reset s.mlr d x }

/-- The number of a stop within its die. -/
def stopIx (r p : Nat) : Nat := r * 36 + p

/-- A position of a bridge stop (R244). -/
def isBridge (p : Nat) : Bool := p == 0 || p == 18

/-- The cluster of a cluster stop (R244). -/
def clusterAt (d r p : Nat) : Nat := 272 * d + 34 * r + (if p < 18 then p - 1 else p - 2)

/-- The lane of output i of bridge stop k of ring r (R247). -/
def bridgeLane (d r k i : Nat) : Nat := 32 * d + 4 * r + 2 * k + i

/-! ### Flits (R249 to R253) -/

/-- TYPE. -/
def flitType (f : Nat) : Nat := slice f 51 3
/-- GEN. -/
def flitGen (f : Nat) : Nat := slice f 47 4
/-- DST. -/
def flitDst (f : Nat) : Nat := slice f 41 6
/-- RXTAG. -/
def flitTag (f : Nat) : Nat := slice f 31 10
/-- The step stamp: FTAG and STEP. -/
def flitStamp (f : Nat) : Nat := slice f 18 13
/-- FTAG. -/
def flitFtag (f : Nat) : Nat := slice f 29 2
/-- STEP. -/
def flitStep (f : Nat) : Nat := slice f 18 11
/-- PAYLOAD. -/
def flitWord (f : Nat) : Nat := slice f 0 18

/-- A flit of the scheduled layout (R250, R251, R332). -/
def mkFlit (typ gen dst tag stamp word : Nat) : Nat :=
  typ * 2 ^ 51 + gen % 16 * 2 ^ 47 + dst % 64 * 2 ^ 41 + tag % 1024 * 2 ^ 31 + stamp % 8192 * 2 ^ 18 + word % 262144

/-- A MARK flit (R252). -/
def mkMark (gen dst kind src frame : Nat) (sw : Bool) : Nat :=
  4 * 2 ^ 51 + gen % 16 * 2 ^ 47 + dst % 64 * 2 ^ 41 + kind * 2 ^ 38 + src * 2 ^ 32 + frame % 65536 * 2 ^ 16 +
    ofBool sw * 2 ^ 15

/-- A scheduled flit: SCHED, MREQ or MREP. -/
def isScheduled (f : Nat) : Bool := flitType f == 1 || flitType f == 2 || flitType f == 3

/-- DNODE of an unscheduled flit (R253). -/
def flitNode (f : Nat) : Nat := slice f 30 12
/-- SNODE. -/
def flitFrom (f : Nat) : Nat := slice f 18 12
/-- TAG of an unscheduled flit. -/
def flitPacket (f : Nat) : Nat := slice f 10 8
/-- LEN of a UHEAD. -/
def flitLen (f : Nat) : Nat := slice f 4 6

/-- The flit ends its packet: a UHEAD with no data, or the UBODY with LAST (R255). -/
def endsPacket (f : Nat) : Bool := (flitType f == 6 && flitLen f == 0) || (flitType f == 7 && bitOf f 50)

/-- A control flit that carries RESV. -/
def isResv (f : Nat) : Bool := flitType f == 5 && slice f 43 3 == 0

/-- The class of a flit in arbitration: 0 scheduled, 1 marker, 2 unscheduled (R265, R279). -/
def flitClass (f : Nat) : Nat := if isScheduled f then 0 else if flitType f = 4 then 1 else 2

/-! ### Tables and generations (R289 to R292) -/

/-- The table of a stop: 0 TXT or BRT (or CRT), 1 RXT. -/
def tblKey (stop half table entry : Nat) : Nat := ((stop * 2 + half) * 2 + table) * 1024 + entry

/-- An entry of a slot table: D0 + 2^32 × D1. -/
def State.tblEntry (s : State) (d stop half table entry : Nat) : Nat :=
  Sparse.get 0 (s.die d).tbl (tblKey stop half table entry)

/-- An entry of a table replaced. -/
def State.setTblEntry (s : State) (d stop half table entry v : Nat) : State :=
  s.setDie d { s.die d with tbl := Sparse.put 0 (s.die d).tbl (tblKey stop half table entry) v }

/-- V of an entry. -/
def entryValid (e : Nat) : Bool := bitOf e 63
/-- RXTAG of an entry of a slot table. -/
def entryTag (e : Nat) : Nat := slice e 32 10

/-- A stop has not yet acted on the last switch (R292). -/
def State.stopBehind (s : State) (d stop : Nat) : Bool := Sparse.get 0 (s.die d).behind stop == 1

/-- The physical half that is active at a stop. -/
def State.stopHalf (s : State) (d stop : Nat) : Nat :=
  if s.stopBehind d stop then 1 - (s.die d).half else (s.die d).half

/-- The active generation at a stop. -/
def State.stopGen (s : State) (d stop : Nat) : Nat :=
  if s.stopBehind d stop then (s.die d).prevGen else s.f (MLR_GEN_STATUS_ACTIVE_GEN d)

/-- The half of a stop whose generation is that of a flit (R268, R276), if there is one. -/
def State.halfFor (s : State) (d stop gen : Nat) : Option Nat :=
  let a := s.stopHalf d stop
  if s.stopGen d stop = gen then some a
  else if s.stopBehind d stop then
    (if s.f (MLR_GEN_STATUS_ACTIVE_GEN d) = gen then some (1 - a) else none)
  else if s.flag (MLR_GEN_STATUS_PEND_VALID d) ∧ s.f (MLR_GEN_STATUS_PEND_GEN d) = gen then some (1 - a)
  else none

/-- The half of the die's own tables (CRT, MQT) whose generation is that of a flit (R276, R335). -/
def State.dieHalfFor (s : State) (d gen : Nat) : Option Nat :=
  if s.f (MLR_GEN_STATUS_ACTIVE_GEN d) = gen then some (s.die d).half
  else if s.flag (MLR_GEN_STATUS_PEND_VALID d) ∧ s.f (MLR_GEN_STATUS_PEND_GEN d) = gen then some (1 - (s.die d).half)
  else none

/-- Valid entries of one table half of a stop: entry number and content. -/
def State.validEntries (s : State) (d stop half table : Nat) : List (Nat × Nat) :=
  let base := tblKey stop half table 0
  ((s.die d).tbl.filter fun kv => Nat.ble base kv.1 && Nat.blt kv.1 (base + 1024) && entryValid kv.2).map fun kv =>
    (kv.1 - base, kv.2)

/-! ### Queues -/

/-- The list without its first item that passes a test. -/
def removeFirst {α : Type} (p : α → Bool) : List α → List α
  | [] => []
  | x :: xs => if p x then xs else x :: removeFirst p xs

/-- Flits that stand at a port and have not been taken. -/
def State.inboundAt (s : State) (d port : Nat) : List CrossFlit := Sparse.get [] (s.die d).inbound port

/-- A flit reaches the far side of a port. -/
def State.pushInbound (s : State) (d port from_ f : Nat) : State :=
  s.setDie d { s.die d with inbound := Sparse.put [] (s.die d).inbound port (s.inboundAt d port ++ [⟨from_, f⟩]) }

/-- A flit that stands at a port is taken. -/
def State.takeInbound (s : State) (d port f : Nat) : State :=
  s.setDie d { s.die d with
    inbound := Sparse.put [] (s.die d).inbound port (removeFirst (fun x => x.flit == f) (s.inboundAt d port)) }

/-- A flit enters the crossbar toward an output port. -/
def State.pushCross (s : State) (d from_ port f : Nat) : State :=
  s.setDie d { s.die d with
    cross := Sparse.put [] (s.die d).cross port (Sparse.get [] (s.die d).cross port ++ [⟨from_, f⟩]) }

/-- The flits that have reached a stop on a link. -/
def State.linkAt (s : State) (d stop dir : Nat) : List Nat := Sparse.get [] (s.die d).link (stop * 2 + dir)

/-- The flits on a link replaced. -/
def State.setLinkAt (s : State) (d stop dir : Nat) (q : List Nat) : State :=
  s.setDie d { s.die d with link := Sparse.put [] (s.die d).link (stop * 2 + dir) q }

/-- The scheduled flits that a stop refused and that pass it. -/
def State.againAt (s : State) (d stop dir : Nat) : List Nat := Sparse.get [] (s.die d).again (stop * 2 + dir)

/-- Those flits replaced. -/
def State.setAgain (s : State) (d stop dir : Nat) (q : List Nat) : State :=
  s.setDie d { s.die d with again := Sparse.put [] (s.die d).again (stop * 2 + dir) q }

/-- The through buffer of a stop and direction. -/
def State.throughAt (s : State) (d stop dir : Nat) : List Nat := Sparse.get [] (s.die d).through (stop * 2 + dir)

/-- The through buffer replaced. -/
def State.setThrough (s : State) (d stop dir : Nat) (q : List Nat) : State :=
  s.setDie d { s.die d with through := Sparse.put [] (s.die d).through (stop * 2 + dir) q }

/-- The markers that wait for injection. -/
def State.marksAt (s : State) (d stop dir : Nat) : List Nat := Sparse.get [] (s.die d).marks (stop * 2 + dir)

/-- The unscheduled flits that wait for injection. -/
def State.uinjAt (s : State) (d stop dir : Nat) : List Nat := Sparse.get [] (s.die d).uinj (stop * 2 + dir)

/-- The unscheduled flits that wait for injection replaced. -/
def State.setUinj (s : State) (d stop dir : Nat) (q : List Nat) : State :=
  s.setDie d { s.die d with uinj := Sparse.put [] (s.die d).uinj (stop * 2 + dir) q }

/-- The flits that wait in a queue into the Confluence. -/
def State.exitsAt (s : State) (d key : Nat) : List Nat := Sparse.get [] (s.die d).exits key

/-- A queue into the Confluence replaced. -/
def State.setExits (s : State) (d key : Nat) (q : List Nat) : State :=
  s.setDie d { s.die d with exits := Sparse.put [] (s.die d).exits key q }

/-- The broadcast markers that a stop has not yet acted on. -/
def State.cameAt (s : State) (d stop : Nat) : List Nat := Sparse.get [] (s.die d).came stop

/-- A broadcast marker reaches a stop. -/
def State.pushCame (s : State) (d stop f : Nat) : State :=
  s.setDie d { s.die d with came := Sparse.put [] (s.die d).came stop (s.cameAt d stop ++ [f]) }

/-- A stop acts on a broadcast marker. -/
def State.takeCame (s : State) (d stop f : Nat) : State :=
  s.setDie d { s.die d with came := Sparse.put [] (s.die d).came stop (removeFirst (· == f) (s.cameAt d stop)) }

/-- The position that follows in a direction: 0 CW, 1 CCW (R245). -/
def nextPos (p dir : Nat) : Nat := if dir = 0 then (p + 1) % 36 else (p + 35) % 36

/-- Hops from one position to another in a direction; 36 to itself (R257). -/
def hops (p q dir : Nat) : Nat :=
  let n := if dir = 0 then (q + 36 - p) % 36 else (p + 36 - q) % 36
  if n = 0 then 36 else n

/-- The bridge position that a flit from position p reaches first in a direction (R429). -/
def firstBridge (p dir : Nat) : Nat := if p < 18 then (if dir = 1 then 0 else 18) else if dir = 1 then 18 else 0

/-- The direction of the nearer bridge stop (R259). -/
def bridgeDir (p : Nat) : Nat := if (1 ≤ p ∧ p ≤ 8) ∨ (19 ≤ p ∧ p ≤ 26) then 1 else 0

/-- The injection queue of a stop and direction. -/
def State.injQueue (s : State) (d stop dir : Nat) : List (Nat × Nat) := Sparse.get [] (s.die d).inj (stop * 2 + dir)

/-- The injection queue replaced. -/
def State.setInj (s : State) (d stop dir : Nat) (q : List (Nat × Nat)) : State :=
  s.setDie d { s.die d with inj := Sparse.put [] (s.die d).inj (stop * 2 + dir) q }

/-- A flit that a cluster stop built joins an injection queue of 32, or is discarded (R256, R258). -/
def State.injectFlit (s : State) (d r p dir flit ph : Nat) : State :=
  let q := s.injQueue d (stopIx r p) dir
  if q.length < 32 then s.setInj d (stopIx r p) dir (q ++ [(flit, ph)])
  else s.stopErr d r p MLR_STOP_ERR_TXQ_OVF

/-! ### Outbound lane groups (R202, R208, R273) -/

/-- The valid entries of the active BRT halves that send to lanes: the anchor of the lane's group, and the entry's number
(die × 288 + stop) × 1,024 + entry. -/
def State.laneEntries (s : State) : List (Nat × Nat) :=
  ((List.range 4).map fun d =>
    ((List.range 8).map fun r =>
      ([0, 1].map fun k =>
        let stop := stopIx r (18 * k)
        ((s.validEntries d stop (s.stopHalf d stop) 0).filterMap fun e =>
          let out := slice e.2 0 3
          if out = 3 ∨ out = 4 then some (s.anchor (bridgeLane d r k (out - 3)), (d * 288 + stop) * 1024 + e.1)
          else none)).flatten).flatten).flatten

/-- The outbound lane groups of the program, by anchor (R202, R272). -/
def State.outLanes (s : State) : List Nat := (s.laneEntries.map (·.1)).eraseDups

/-- The end marker of a frame goes out on every member of a lane group (R550, R556). -/
def State.groupEnd (s : State) (l n : Nat) : State := (s.group l).foldl (fun t m => t.laneEnd m false false n) s

/-- A bridge stop has forwarded the flit of a frame, named by its FTAG, for a BRT entry that sends to a lane. -/
def State.isForwarded (s : State) (entry ftag : Nat) : Bool :=
  Sparse.get 0 (s.die (entry / 1024 / 288)).forwarded (entry % 294912 * 4 + ftag) == 1

/-- The end marker of frame n is due on a lane group: it goes at once, or after the flits that are still missing (R208,
R273). -/
def State.endDue (s : State) (n l : Nat) : State :=
  let missing := (s.laneEntries.filter fun e => e.1 == l && !s.isForwarded e.2 (n % 4)).map (·.2)
  if missing = [] then s.groupEnd l n else { s with seq := { s.seq with ends := s.seq.ends ++ [⟨l, n, missing⟩] } }

/-- A bridge stop has forwarded the flit of a frame for a BRT entry that sends to a lane: the end markers that waited for
nothing else go out (R273). -/
def State.forward (s : State) (d stop entry ftag : Nat) : State :=
  let e := (d * 288 + stop) * 1024 + entry
  let m := s.die d
  let s1 := s.setDie d { m with forwarded := Sparse.put 0 m.forwarded ((stop * 1024 + entry) * 4 + ftag) 1 }
  let left := s1.seq.ends.map fun x => if x.frame % 4 = ftag then { x with missing := x.missing.filter (· != e) } else x
  (left.filter fun x => x.missing.isEmpty).foldl (fun t x => t.groupEnd x.lane x.frame)
    { s1 with seq := { s1.seq with ends := left.filter fun x => !x.missing.isEmpty } }

/-! ### Broadcast markers (R252, R280) -/

/-- KIND of a MARK flit. -/
def markKind (f : Nat) : Nat := slice f 38 3

/-- A marker of a kind leaves both bridge stops of every ring of a die in both directions, and the bridge stops act on it
themselves (R280). -/
def State.broadcastDie (s : State) (d kind frame : Nat) (sw : Bool) : State :=
  let m := s.die d
  let mark (stop p : Nat) : Nat := mkMark (s.stopGen d stop) 0x3F kind p frame sw
  let stops := ((List.range 8).map fun r => [(stopIx r 0, 0), (stopIx r 18, 18)]).flatten
  s.setDie d { m with
    marks := stops.foldl (fun q x => [0, 1].foldl (fun q dir =>
      Sparse.put [] q (x.1 * 2 + dir) (Sparse.get [] q (x.1 * 2 + dir) ++ [mark x.1 x.2])) q) m.marks
    came := stops.foldl (fun q x => Sparse.put [] q x.1 (Sparse.get [] q x.1 ++ [mark x.1 x.2])) m.came }

/-- A marker is broadcast on every die whose ring and Confluence domain is ON (R280). -/
def State.broadcast (s : State) (kind frame : Nat) : State :=
  [0, 1, 2, 3].foldl (fun t d => if t.domainOn (32 + d) then t.broadcastDie d kind frame false else t) s

end Sys2Proof.Machine
end

