-- ==== Sys2Proof/Machine/NetOps.lean ====
section
/-! DEFINITION. The shared operations of the unscheduled packets (05_millrace_network R254, R274 to R308): nodes and their
buffers, the Confluence and its transit buffers, returns and completions; and the switch of a die's generations (R292). -/

namespace Sys2Proof.Machine

open Reg

/-! ### Nodes (R254) -/

/-- The node address of a cluster's stop. -/
def cluNode (c : Nat) : Nat := stopNode (dieOf c) (ringOf c) (posOf c)

/-- A node address names a stop. -/
def isStopNode (n : Nat) : Bool := Nat.blt n 0x800

/-- The stop of a node: its window offset. -/
def nodeStop (n : Nat) : Nat := stopBase (n / 512) (n / 64 % 8) (n % 64)

/-- A node address names a node. -/
def isNode (n : Nat) : Bool := n == 0xFFF || (if isStopNode n then Nat.blt (n % 64) 36 else Nat.blt (n % 512) 2)

/-- The die of a node; the hub takes the die of the node at the other end. -/
def nodeDie (n other : Nat) : Nat := if n = 0xFFF then (if other = 0xFFF then 0 else other / 512 % 4) else n / 512 % 4

/-- A node is the stop of a cluster. -/
def isCluNode (n : Nat) : Bool := isStopNode n && !isBridge (n % 64)

/-- The cluster of a cluster stop's node. -/
def nodeClu (n : Nat) : Nat := clusterAt (n / 512) (n / 64 % 8) (n % 64)

/-- Buffers of one class, or send buffers, of a node (table of unscheduled endpoints). -/
def bufCount (n : Nat) : Nat := if n = 0xFFF then 64 else if isStopNode n then (if isBridge (n % 64) then 0 else 4) else 16

/-- A node address names no node, or a cluster that fuses mark as failed (table of status codes). -/
def State.noNode (s : State) (n : Nat) : Bool := !isNode n || (isCluNode n && s.fuseFailed (nodeClu n))

/-! ### Buffers -/

/-- The packet layer replaced. -/
def State.setNet (s : State) (x : PacketNet) : State := { s with net := x }

/-- The key of a destination buffer. -/
def recvKey (node : Nat) (resp : Bool) (buf : Nat) : Nat := (node * 2 + ofBool resp) * 64 + buf

/-- A destination buffer. -/
def State.recvBuf (s : State) (node : Nat) (resp : Bool) (buf : Nat) : RecvBuf :=
  Sparse.get RecvBuf.reset s.net.recv (recvKey node resp buf)

/-- A destination buffer replaced. -/
def State.setRecv (s : State) (node : Nat) (resp : Bool) (buf : Nat) (x : RecvBuf) : State :=
  s.setNet { s.net with recv := Sparse.put RecvBuf.reset s.net.recv (recvKey node resp buf) x }

/-- A send buffer. -/
def State.sendBuf (s : State) (node tag : Nat) : Option SendBuf := Sparse.get none s.net.send (node * 256 + tag)

/-- A send buffer replaced, or freed. -/
def State.setSend (s : State) (node tag : Nat) (x : Option SendBuf) : State :=
  s.setNet { s.net with send := Sparse.put none s.net.send (node * 256 + tag) x }

/-- The buffer that the GRANT for a source's tag reserved, whose packet is arriving. -/
def State.granted (s : State) (node : Nat) (resp : Bool) (snode tag buf : Nat) : Option Nat :=
  (List.range (bufCount node)).find? fun b =>
    b % 4 == buf && (s.recvBuf node resp b).phase == 1 && (s.recvBuf node resp b).snode == snode &&
      (s.recvBuf node resp b).tag == tag && (s.recvBuf node resp b).len == none

/-! ### Arrival at a node -/

/-- What a stream is in the middle of. -/
def State.stream (s : State) (key : Nat) : Nat := Sparse.get 0 s.net.opens key

/-- The same replaced. -/
def State.setStream (s : State) (key v : Nat) : State := s.setNet { s.net with opens := Sparse.put 0 s.net.opens key v }

/-- The data syllables of a UBODY (R253). -/
def bodySyls (f : Nat) : List Nat := [slice f 18 18, slice f 0 18]

/-- A buffer that takes a body flit: an odd length leaves out the pad of the last (R255). -/
def RecvBuf.take (b : RecvBuf) (f : Nat) : RecvBuf := { b with data := (b.data ++ bodySyls f).take (b.len.getD 0) }

/-- A packet has come back whole to the source that holds it (R285). -/
def State.comeBack (s : State) (x : Nat) : State := s.setNet { s.net with ret := s.net.ret ++ [(x / 16, x % 16)] }

/-- A head reaches its node. -/
def State.takeHead (s : State) (stream node f : Nat) : State :=
  if bitOf f 45 then
    let x := 16 * (node * 256 + flitPacket f) + slice f 0 4
    if endsPacket f then s.comeBack x else s.setStream stream (2 * x + 3)
  else
    match s.granted node (bitOf f 44) (flitFrom f) (flitPacket f) (slice f 42 2) with
    | none => if endsPacket f then s else s.setStream stream 1
    | some b =>
      let s1 := s.setRecv node (bitOf f 44) b { s.recvBuf node (bitOf f 44) b with len := some (flitLen f) }
      if endsPacket f then s1 else s1.setStream stream (2 * recvKey node (bitOf f 44) b + 2)

/-- A body flit reaches the node of its stream. -/
def State.takeBody (s : State) (stream f : Nat) : State :=
  let x := s.stream stream
  let s1 := if endsPacket f then s.setStream stream 0 else s
  if x ≤ 1 then s1
  else if x % 2 = 0 then
    let key := (x - 2) / 2
    s1.setNet { s1.net with
      recv := Sparse.put RecvBuf.reset s1.net.recv key ((Sparse.get RecvBuf.reset s1.net.recv key).take f) }
  else if endsPacket f then s1.comeBack ((x - 3) / 2)
  else s1

/-- An unscheduled flit reaches its node: a control flit waits to be taken, a head and its bodies fill the buffer that the
GRANT named, and a packet that comes back finds its send buffer (R282, R285). -/
def State.nodeTake (s : State) (stream node f : Nat) : State :=
  match flitType f with
  | 5 => s.setNet { s.net with ctl := s.net.ctl ++ [f] }
  | 6 => s.takeHead stream node f
  | 7 => s.takeBody stream f
  | _ => s

/-- A node takes a flit: only the control queue of a cluster stop, of 16 flits, can be full (R271, R288). -/
def State.nodeRoom (s : State) (node f : Nat) : Bool :=
  flitType f != 5 || !isCluNode node || Nat.blt (s.net.ctl.filter fun x => flitNode x == node).length 16

/-! ### The Confluence (R274 to R279) -/

/-- Where a Confluence sends an unscheduled flit for a node: a port; 21 is its own register node, or a bridge stop, which
has no buffers (R274, R277). -/
def State.cflOut (s : State) (d n : Nat) : Nat :=
  if n = 0xFFF then 18
  else
    let ahead := (n / 512 % 4 + 4 - d) % 4
    if ahead = 0 then
      (if isStopNode n then
        (if isBridge (n % 64) then 21 else 2 * (n / 64 % 8) + (if n % 64 ≤ 9 ∨ 27 ≤ n % 64 then 0 else 1))
      else if n % 512 = 1 then 19 else 21)
    else if ahead = 1 then 16
    else if ahead = 3 then 17
    else if s.domainOn (32 + (d + 1) % 4) then 16
    else 17

/-- Whole packets, and control flits, go to the output port for their node. -/
def State.cflForward (s : State) (d port : Nat) (flits : List Nat) : State :=
  let n := flitNode (flits.headD 0)
  let out := s.cflOut d n
  if out = 21 then flits.foldl (fun t f => t.nodeTake (d * 1000 + 702) n f) s
  else
    let m := s.die d
    s.setDie d { m with
      cross := Sparse.put [] m.cross out (Sparse.get [] m.cross out ++ flits.map fun f => ⟨port, f⟩) }

/-- A UCTL flit (R253). -/
def mkCtl (op gen : Nat) (genAny resp : Bool) (dnode snode tag status buf : Nat) : Nat :=
  5 * 2 ^ 51 + gen * 2 ^ 47 + ofBool genAny * 2 ^ 46 + op * 2 ^ 43 + ofBool resp * 2 ^ 42 + dnode * 2 ^ 30 +
    snode * 2 ^ 18 + tag * 2 ^ 10 + status * 2 ^ 6 + buf % 4 * 2 ^ 4

/-- The NACK that refuses a RESV for good. -/
def nackOf (f status : Nat) : Nat :=
  mkCtl 2 (slice f 47 4) (bitOf f 46) (bitOf f 42) (flitFrom f) (flitNode f) (flitPacket f) status 0

/-- The input port that a record names; what the register node itself sends is recorded as the hub's (DESIGN CHOICE, log
entry 76). -/
def recordPort (port : Nat) : Nat := if port = 21 then 18 else port

/-- A whole packet or a control flit is routed: a RESV that names no node is refused (NO_NODE). -/
def State.cflRoute (s : State) (d port : Nat) (flits : List Nat) : State :=
  let f := flits.headD 0
  if isResv f && s.noNode (flitNode f) then
    (s.cflErr d MLR_CFL_ERR_NO_NODE (recordPort port) (flitNode f % 1024)).cflForward d port [nackOf f 5]
  else s.cflForward d port flits

/-- The input port of a queue into the Confluence (R247, R274). -/
def queuePort (key : Nat) : Nat := if key < 576 then 2 * (key / 72) + (if key / 2 % 36 = 0 then 0 else 1) else key - 576

/-- A packet is whole: its transit buffer gives it up to the crossbar (R278). -/
def State.transitDone (s : State) (d key : Nat) (flits : List Nat) : State :=
  let n := flitNode (flits.headD 0)
  let s1 := s.cflRoute d (queuePort key) flits
  if s.cflOut d n = 21 then s1
  else s1.setDie d { s1.die d with transit := (s1.die d).transit ++ [⟨queuePort key, key, flits, true⟩] }

/-- The packet of a queue that is still being stored. -/
def storing (key : Nat) (x : Transit) : Bool := x.src == key && !x.whole

/-- A Confluence holds the end marker of a cluster for the frame in progress (R201). -/
def State.takeEndMark (s : State) (d r f : Nat) : State :=
  let c := clusterAt d r (slice f 32 6)
  if s.seq.inFrame ∧ slice f 16 16 = s.frameNo % 65536 then
    { s with seq := { s.seq with marks := Sparse.put 0 s.seq.marks c 1 } }
  else s

/-- A Confluence takes the flit at the head of one of its queues, when it is no scheduled one: a head needs one of the 4
transit buffers of its port (R278). -/
def State.cflTake (s : State) (d key f : Nat) : Option State :=
  let m := s.die d
  match flitType f with
  | 4 => some (if markKind f = 0 ∧ key < 576 then s.takeEndMark d (key / 72) f else s)
  | 5 => some (s.cflRoute d (queuePort key) [f])
  | 6 =>
    if (m.transit.filter fun x => x.port == queuePort key).length < 4 then
      some (if endsPacket f then s.transitDone d key [f]
        else s.setDie d { m with transit := m.transit ++ [⟨queuePort key, key, [f], false⟩] })
    else none
  | 7 =>
    match m.transit.find? (storing key) with
    | none => some s
    | some x =>
      let rest := removeFirst (storing key) m.transit
      some (if endsPacket f then (s.setDie d { m with transit := rest }).transitDone d key (x.flits ++ [f])
        else s.setDie d { m with transit := rest ++ [{ x with flits := x.flits ++ [f] }] })
  | _ => some s

/-- A Confluence takes markers and unscheduled flits from a queue until a scheduled flit heads it, or a packet for which
there is no transit buffer. -/
def State.drainQueue (s : State) (d key : Nat) : Nat → State
  | 0 => s
  | n + 1 =>
    match s.exitsAt d key with
    | [] => s
    | f :: rest =>
      if isScheduled f then s
      else
        match (s.setExits d key rest).cflTake d key f with
        | some t => State.drainQueue t d key n
        | none => s

/-- A flit joins a queue into the Confluence. -/
def State.pushExit (s : State) (d key f : Nat) : State :=
  let q := s.exitsAt d key ++ [f]
  (s.setExits d key q).drainQueue d key q.length

/-- The queues of an input port. -/
def portQueues (port : Nat) : List Nat :=
  if port < 16 then
    let stop := stopIx (port / 2) (18 * (port % 2))
    [stop * 2, stop * 2 + 1]
  else [576 + port]

/-- A transit buffer of a port is free again: its queues go on. -/
def State.drainSources (s : State) (d port : Nat) : State :=
  (portQueues port).foldl (fun t key => t.drainQueue d key (t.exitsAt d key).length) s

/-! ### Sending -/

/-- The direction in which a stop sends unscheduled flits for a node: the shorter one on its own ring, otherwise to the
nearer bridge (DESIGN CHOICE, log entry 76). -/
def State.sendDir (s : State) (d r p n : Nat) : Nat :=
  if n / 64 = d * 8 + r ∧ !s.noNode n then (if hops p (n % 64) 0 ≤ 18 then 0 else 1) else bridgeDir p

/-- Flits wait at a stop for injection as unscheduled traffic. -/
def State.pushUinj (s : State) (d stop dir : Nat) (flits : List Nat) : State :=
  s.setUinj d stop dir (s.uinjAt d stop dir ++ flits)

/-- A RESV toward a die, or a unit, whose domain is off is refused where its way ends (R303); what else is on it is
discarded. -/
def State.refuseOff (s : State) (d from_ f : Nat) : State :=
  if isResv f then s.cflForward d from_ [nackOf f 1] else s.cflErr d MLR_CFL_ERR_PORT_OFF (recordPort from_) (flitTag f)

/-- A node sends the flits of one packet, or a control flit: a cluster stop into its ring, the hub and an HBM controller into
the Confluence, the Confluence register node through the crossbar (R274). -/
def State.netSend (s : State) (node : Nat) (flits : List Nat) : State :=
  let f := flits.headD 0
  let goal := flitNode f
  if node = 0xFFF then
    let e := goal / 512 % 4
    if goal = 0xFFF then flits.foldl (fun t x => t.nodeTake 2800 goal x) s
    else if s.domainOn (32 + e) then flits.foldl (fun t x => t.pushExit e 594 x) s
    else if isResv f then s.nodeTake 2800 node (nackOf f 1)
    else s
  else
    let d := node / 512 % 4
    if isCluNode node then
      let r := node / 64 % 8
      s.pushUinj d (stopIx r (node % 64)) (s.sendDir d r (node % 64) goal) flits
    else if !isStopNode node ∧ node % 512 = 1 then flits.foldl (fun t x => t.pushExit d 595 x) s
    else s.cflRoute d 21 flits

/-! ### Completion and return -/

/-- A packet completes at its source with a status (R308); one that ends without a delivery gives up the response buffer it
kept (R286). -/
def State.complete (s : State) (node tag status : Nat) : State :=
  let kept := (s.sendBuf node tag).bind (·.rbuf)
  let s1 := s.setSend node tag none
  let s2 := s1.setNet { s1.net with last := some ⟨node, tag, status⟩ }
  match kept with
  | some b => if status ≠ 0 ∧ (s2.recvBuf node true b).phase = 4 then s2.setRecv node true b RecvBuf.reset else s2
  | none => s2

/-- A UHEAD (R253). -/
def mkHead (gen : Nat) (genAny ret resp : Bool) (buf dnode snode tag len status : Nat) : Nat :=
  6 * 2 ^ 51 + gen * 2 ^ 47 + ofBool genAny * 2 ^ 46 + ofBool ret * 2 ^ 45 + ofBool resp * 2 ^ 44 + buf % 4 * 2 ^ 42 +
    dnode * 2 ^ 30 + snode * 2 ^ 18 + tag * 2 ^ 10 + len % 64 * 2 ^ 4 + status

/-- The body flits of a packet's data syllables (R253, R255). -/
def bodyFlits (data : List Nat) : List Nat :=
  let n := (data.length + 1) / 2
  (List.range n).map fun i =>
    7 * 2 ^ 51 + ofBool (i + 1 == n) * 2 ^ 50 + data.getD (2 * i) 0 * 2 ^ 18 + data.getD (2 * i + 1) 0

/-- A destination returns a packet to its source and frees the buffer (R285). -/
def State.returnPacket (s : State) (node : Nat) (resp : Bool) (buf status : Nat) : State :=
  let b := s.recvBuf node resp buf
  let s1 := (s.setRecv node resp buf RecvBuf.reset).netSend node
    (mkHead b.gen b.genAny true resp 0 b.snode node b.tag b.data.length status :: bodyFlits b.data)
  if isStopNode node then s1.bump (MLR_STOP_UCNT_RET (nodeStop node)) 1 else s1

/-- The buffers of a node in a phase: class and buffer. -/
def State.bufsIn (s : State) (node : Nat) (phase : Nat → Bool) : List (Bool × Nat) :=
  (s.net.recv.filter fun kv => kv.1 / 128 == node && phase kv.2.phase).map fun kv => (kv.1 / 64 % 2 == 1, kv.1 % 64)

/-- The buffers of a node that hold a received packet: class and buffer. -/
def State.heldPackets (s : State) (node : Nat) : List (Bool × Nat) := s.bufsIn node fun p => p == 2 || p == 3

/-- A cluster leaves ON: the packets its stop holds for it are returned, and those that are still arriving will be
(R300). -/
def State.stopDrain (s : State) (c : Nat) : State :=
  let n := cluNode c
  let s1 := (s.heldPackets n).foldl (fun t x => t.returnPacket n x.1 x.2 1) s
  (s1.bufsIn n (· == 1)).foldl (fun t x => t.setRecv n x.1 x.2 { t.recvBuf n x.1 x.2 with off := true }) s1

/-- A cluster is reset: the packets its stop holds are returned, its outstanding packets complete with DOMAIN_OFF, and the
response buffers they kept are free (R300, R312). -/
def State.stopReset (s : State) (c : Nat) : State :=
  let n := cluNode c
  let s1 := s.stopDrain c
  let tags := (s1.net.send.filter fun kv => kv.1 / 256 == n).map fun kv => kv.1 % 256
  let s2 := tags.foldl (fun t g => t.complete n g 1) s1
  (s2.bufsIn n (· == 4)).foldl (fun t x => t.setRecv n x.1 x.2 RecvBuf.reset) s2

/-- A stop holds no packet for its cluster and no unsent flit or packet from it (R302). -/
def State.stopDrained (s : State) (d r pos : Nat) : Bool :=
  let m := s.die d
  let ix := stopIx r pos
  let n := stopNode d r pos
  (s.heldPackets n).isEmpty &&
    s.net.recv.all (fun kv => kv.1 / 128 != n || kv.2.phase != 1 || kv.2.len == none) &&
    s.net.send.all (fun kv => kv.1 / 256 != n || (kv.2.map (·.phase)).getD 2 == 2) &&
    [ix * 2, ix * 2 + 1].all fun k => (Sparse.get [] m.inj k).isEmpty && (Sparse.get [] m.marks k).isEmpty &&
      (Sparse.get [] m.uinj k).isEmpty

/-! ### Generations (R292, R296) -/

/-- A buffer whose packet waits for a generation that has come is delivered to its unit (R296). -/
def deliverHeld (d gen : Nat) (kv : Nat × RecvBuf) : Nat × RecvBuf :=
  if nodeDie (kv.1 / 128) kv.2.snode = d ∧ kv.2.phase = 2 ∧ kv.2.gen = gen then (kv.1, { kv.2 with phase := 3 }) else kv

/-- The packets of a die that waited for a generation are delivered (R296). -/
def State.deliverGen (s : State) (d gen : Nat) : State :=
  s.setNet { s.net with recv := s.net.recv.map (deliverHeld d gen) }

/-- The swap of a die's generations (R292): ACTIVE_GEN takes PEND_GEN, the tables of the die swap, HBC_WACK.ACT takes
PEND. The stops named still have to act. -/
def State.swapTables (s : State) (d : Nat) (behind : Bool) : State :=
  let m := s.die d
  let old := s.f (MLR_GEN_STATUS_ACTIVE_GEN d)
  let s1 := s.setDie d { m with
    half := 1 - m.half
    prevGen := old
    behind := if behind then (List.range 288).map (·, 1) else [] }
  let s2 := ((s1.setF (MLR_GEN_STATUS_ACTIVE_GEN d) (s.f (MLR_GEN_STATUS_PEND_GEN d))).setF
    (MLR_GEN_STATUS_PEND_VALID d) 0).setF (MLR_GEN_STATUS_ARMED d) 0
  (s2.setF (HBC_WACK_ACT d) (s2.f (HBC_WACK_PEND d))).deliverGen d (s2.f (MLR_GEN_STATUS_ACTIVE_GEN d))

end Sys2Proof.Machine
end

