-- ==== Sys2Proof/Machine/WakeOps.lean ====
section
/-! DEFINITION. The packets of Wake Trace and the trace of one core (R710 to R724, R727 to R729, R735). -/

namespace Sys2Proof.Machine

open Reg

/-- OFF, state 0 of a core's trace (table of trace states). -/
def TraceSt.off : Nat := 0
/-- ARMED. -/
def TraceSt.armed : Nat := 1
/-- ACTIVE. -/
def TraceSt.active : Nat := 2
/-- STOPPING. -/
def TraceSt.stopping : Nat := 3
/-- STOPPED. -/
def TraceSt.stopped : Nat := 4

/-- Wake replaced. -/
def State.setWke (s : State) (x : Wake) : State := { s with wke := x }

/-- The trace unit of a core. -/
def State.tr (s : State) (c : Nat) : Trace := Sparse.get Trace.reset s.wke.cores c

/-- The trace unit of a core replaced. -/
def State.setTr (s : State) (c : Nat) (t : Trace) : State :=
  s.setWke { s.wke with cores := Sparse.put Trace.reset s.wke.cores c t }

/-- The trace state of a core. -/
def State.trState (s : State) (c : Nat) : Nat := s.f (WKE_CORE_STAT_STATE c)

/-- A core's trace emits packets: ACTIVE or STOPPING. -/
def State.tracing (s : State) (c : Nat) : Bool :=
  s.trState c == TraceSt.active || s.trState c == TraceSt.stopping

/-- The core holds authorisation (R725). -/
def State.authorised (s : State) (c : Nat) : Bool := bitOf (s.f WKE_AUTH_STAT_CORES) c

/-- The core runs secure code without authorisation (R724). -/
def State.traceQuiet (s : State) (c : Nat) : Bool := (s.tr c).secure && !s.authorised c

/-- Units that a FIFO holds. -/
def Trace.level (t : Trace) : Nat := (t.fifo.map List.length).sum

/-- The first unit of a packet (R710). -/
def traceUnit (ty c cyc payload : Nat) : Nat :=
  payload % 2 ^ 40 + min cyc 0xFFFF * 2 ^ 40 + c * 2 ^ 56 + ty * 2 ^ 60

/-! ### The FIFO (R727, R728) -/

/-- Packets of n units fit the room that is not reserved, or that is when they may use it. -/
def Trace.fits (t : Trace) (n : Nat) (res : Bool) : Bool :=
  t.held.isEmpty && Nat.ble (t.level + n) (if res then 512 else 500)

/-- A packet without room is not lost: it is one of the reserved kinds, or its core stalls. -/
def State.traceKeeps (s : State) (c : Nat) (res : Bool) : Bool :=
  res || (s.flag (WKE_CORE_CFG_STALL c) && !(s.tr c).dropping)

/-- A packet enters the FIFO, waits for room, or is lost (R727, R728). -/
def State.traceIn (s : State) (c : Nat) (pkt : List Nat) (res : Bool) : State :=
  let t := s.tr c
  if t.fits pkt.length res then s.setTr c { t with fifo := t.fifo ++ [pkt] }
  else if s.traceKeeps c res then
    s.setTr c { t with
      held := t.held ++ [pkt], stallAt := if res then t.stallAt else some (t.stallAt.getD s.tmk.steered) }
  else
    ((s.setTr c { t with lost := t.lost + pkt.length }).bump (WKE_CORE_STAT_DROPS c) pkt.length).raise WKE_ERR_DROP 5 0
      0 0

/-- A packet of given CYC; the count of cycles becomes rest unless the packet is lost. -/
def State.traceSend (s : State) (c ty cyc rest payload : Nat) (more : List Nat) (res : Bool) : State :=
  let t := s.tr c
  let pkt := traceUnit ty c cyc payload :: more
  if t.fits pkt.length res || s.traceKeeps c res then
    (s.setTr c { t with count := rest, isOver := false }).traceIn c pkt res
  else s.traceIn c pkt res

/-- Outcomes as an ATOM's payload: the oldest in bit 0. -/
def atomBits : List Bool → Nat
  | [] => 0
  | b :: bs => ofBool b + 2 * atomBits bs

/-- The ATOM of the outcomes a core holds (R711). -/
def State.traceAtoms (s : State) (c : Nat) : State :=
  let t := s.tr c
  if t.atoms.isEmpty then s
  else
    let s1 := s.setTr c { t with atoms := [], atomAt := 0 }
    s1.traceSend c 1 t.atomAt (t.count - t.atomAt) (atomBits t.atoms + (t.atoms.length - 1) * 2 ^ 32) [] false

/-- A TS packet (R712). -/
def State.traceTs (s : State) (c : Nat) : State :=
  let t := s.tr c
  let s1 := s.setTr c { t with tsDue := 0 }
  s1.traceSend c 3 t.count 0 s.now.ns [s.now.sec, s.now.frac] (t.tsDue == 2)

/-- A DROP packet once room has returned (R728). -/
def State.traceDrop (s : State) (c : Nat) : State :=
  let t := s.tr c
  if 0 < t.lost ∧ t.fits 1 false then
    let s1 := s.traceAtoms c
    let t1 := s1.tr c
    let s2 := s1.setTr c { t1 with lost := 0, tsDue := 2 }
    s2.traceSend c 7 t1.count 0 (min t1.lost 0xFFFFFFFF) [] true
  else s

/-- What precedes a packet of a core: its ATOM, the DROP, and a TS that is due (R711, R713, R714, R728). -/
def State.traceLead (s : State) (c : Nat) : State :=
  let s1 := (s.traceAtoms c).traceDrop c
  if (s1.tr c).tsDue = 0 then s1 else s1.traceTs c

/-- A packet other than ATOM and TS, with what precedes it. -/
def State.tracePacket (s : State) (c ty payload : Nat) (more : List Nat) (res : Bool) : State :=
  let s1 := s.traceLead c
  s1.traceSend c ty (s1.tr c).count 0 payload more res

/-! ### The count of core cycles (R711, R713, R720, R724) -/

/-- Core cycles pass: the count saturates at 0xFFFF and does not run during sleep. -/
def State.traceCycles (s : State) (c n : Nat) : State :=
  let t := s.tr c
  if s.flag (WKE_CORE_STAT_ASLEEP c) || s.f (OST_CORE_STAT_STATE c) == 2 then s
  else s.setTr c { t with count := min (t.count + n) 0xFFFF, secCount := min (t.secCount + n) 0xFFFF }

/-- Core cycles pass up to an event that comes from outside the core: their number is a free value (log entry 3). -/
def State.traceOutside (s : State) (c : Nat) : State :=
  (s.traceCycles c ((Config.freeWord s.free).toNat % 65536)).takeFree

/-! ### The states of a trace (R715 to R719, R735) -/

/-- A STOP packet with its cause, and the state that follows it (R716). -/
def State.traceStop (s : State) (c cause next : Nat) : State :=
  (s.tracePacket c 9 cause [] true).setF (WKE_CORE_STAT_STATE c) next

/-- Entry to ACTIVE (R715): a TS, and an ADDR of KIND 3 with the address of the next instruction to retire, which is the
core's own and a free value here (log entry 3). -/
def State.traceActivate (s : State) (c : Nat) : State :=
  let s1 := (s.traceOutside c).setF (WKE_CORE_STAT_STATE c) TraceSt.active
  let s2 := (s1.setTr c { s1.tr c with atoms := [], atomAt := 0, tsAt := s1.tmk.steered }).traceDrop c
  let s3 := s2.traceTs c
  if s3.traceQuiet c then s3
  else
    let a := (Config.freeWord s3.free).toNat + (Config.freeWord (s3.free + 1)).toNat * 2 ^ 32
    (s3.takeFree.takeFree).traceSend c 2 0 0 3 [a] false

/-- Comparator k of a core is the second of a range, so that its ACT is ignored (R717). -/
def State.cmpTaken (s : State) (c k : Nat) : Bool := k % 2 == 1 && s.flag (WKE_CMP_CFG_RANGE c (k - 1))

/-- Core 0 or 1 has a comparator whose ACT is START. -/
def State.hasStart (s : State) (c : Nat) : Bool :=
  Nat.blt c 2 && (List.range 8).any fun k => s.f (WKE_CMP_CFG_ACT c k) == 1 && !s.cmpTaken c k

/-- A core leaves OFF or STOPPED (R715). A full sink lets none leave. -/
def State.traceStart (s : State) (c : Nat) : State :=
  let st := s.trState c
  if (st == TraceSt.off || st == TraceSt.stopped) && s.flag WKE_CTRL_EN && s.flag (WKE_CORE_CFG_EN c) &&
      !s.flag WKE_STAT_SINK_FULL then
    (if s.hasStart c then s.setF (WKE_CORE_STAT_STATE c) TraceSt.armed else s.traceActivate c)
  else s

/-- A core's trace stops for a cause from outside the core, unless it is STOPPED. -/
def State.traceHalt (s : State) (c cause : Nat) : State :=
  if s.trState c = TraceSt.stopped then s
  else
    let s1 := s.traceOutside c
    (s1.setTr c { s1.tr c with resume := false }).traceStop c cause TraceSt.stopped

/-- The TRIG packet of one core, and STOPPING or STOPPED with STOP_DLY_EN (R718, R719). -/
def State.traceTrig (src : Nat) (s : State) (c : Nat) : State :=
  if s.trState c = TraceSt.active then
    let s1 := (s.traceOutside c).tracePacket c 8 src [] false
    if s1.flag (WKE_CORE_CFG_STOP_DLY_EN c) then
      (if s1.f (WKE_CORE_CFG_STOP_DLY_US c) = 0 then s1.traceStop c 1 TraceSt.stopped
      else (s1.setTr c { s1.tr c with stopAt := s1.tmk.steered }).setF (WKE_CORE_STAT_STATE c) TraceSt.stopping)
    else s1
  else s

/-- A Wake trigger (R718): only the first after EN is set takes effect. -/
def State.wakeTrigger (s : State) (src : Nat) : State :=
  if s.flag WKE_CTRL_EN && !s.flag WKE_STAT_TRIGGERED then
    (List.range 16).foldl (State.traceTrig src) (s.setF WKE_STAT_TRIGGERED 1)
  else s

/-- A source of Wake triggers is enabled: source i is bit 15 + i of WKE_CTRL, and the software trigger needs no bit. -/
def State.trigEnabled (s : State) (src : Nat) : Bool := src == 0 || bitOf (s.f WKE_CTRL_TRIG_SRC) (src - 1)

/-- A reset or recovery of a core stops its trace (R735). -/
def State.traceReset (s : State) (c : Nat) : State :=
  let st := s.trState c
  if st = TraceSt.armed ∨ st = TraceSt.active ∨ st = TraceSt.stopping then
    let s1 := (s.traceHalt c 4).setF (WKE_CORE_STAT_ASLEEP c) 0
    s1.setTr c { s1.tr c with resume := true }
  else s

/-- The trace of a core resumes when the core restarts (R735). -/
def State.traceResume (s : State) (c : Nat) : State :=
  if (s.tr c).resume then (s.setTr c { s.tr c with resume := false }).traceStart c else s

/-- Wake after a reset of the whole device, and on leaving STANDBY (R735): a new nonce, and everything else at its reset
value. -/
def State.wakeReset (s : State) : State :=
  let s1 := s.resetRange 0x500000 0x100000
  s1.setWke { Wake.reset with nonce := s1.wke.nonce + 1 }

end Sys2Proof.Machine
end

