-- ==== Sys2Proof/Machine/Modes.lean ====
section
/-! DEFINITION. The resets of the units (R130, R133, R312, R359, R579, R708, R787), the votes and sequences of the power
domains (R774 to R791), and the change of DEV_MODE with what every change brings (R57, R67, R72 to R75). -/

namespace Sys2Proof.Machine

open Reg

/-! ### Resets of units -/

/-- The first bytes of a cluster window that cluster reset leaves alone: CLU_CTRL, CLU_TRIM, CLU_FREQ, CLU_CHK_CTRL. -/
def keptByClusterReset (o : Nat) : Bool := o == 0x04 || o == 0x1C || o == 0x20 || o == 0x70

/-- The registers of a cluster that cluster reset returns to their reset values (R133, R192, R359, R403). -/
def State.resetCluRegs (s : State) (c : Nat) : State :=
  { s with regs := Sparse.keep (fun k =>
      !(Nat.ble (cluBase c) k && Nat.blt k (cluBase c + 0x4000)) || keptByClusterReset (k - cluBase c)) s.regs }

/-- A fill that a reset ends (R851): the words already written hold the fill value; how many were is open. -/
def State.endFill (s : State) (c : Nat) : State :=
  match (s.cl c).fill with
  | none => s
  | some v =>
    let n := (Config.freeCount s.free).toNat
    let cl := s.cl c
    (s.setCl c { cl with sram := Sparse.putList 0 cl.sram 0 (List.replicate n (secEncode 5 18 v)), fill := none }).takeFree

/-- Cluster reset (R130, R131, R133): STATE reads RESET until it completes. -/
def State.clusterReset (s : State) (c : Nat) : State :=
  let s0 := (s.endFill c).stopReset c
  let cl := s0.cl c
  let s1 := s0.setCl c { Cluster.reset with rate := cl.rate, slow := cl.slow, rateSeen := cl.rateSeen, seenAt := cl.seenAt, sram := cl.sram }
  (s1.resetCluRegs c).tapForget c

/-- Reset of a compute domain for one cluster (R133, R359): as cluster reset, with every register at its reset value and
the cluster SRAM undefined. -/
def State.clusterDomainReset (s : State) (c : Nat) : State :=
  let s1 := (s.stopReset c).setCl c { Cluster.reset with slow := (s.cl c).slow }
  ((s1.setCl c { s1.cl c with rateSeen := s1.rateInForce c, seenAt := s1.seq.checks }).resetRange (cluBase c) 0x4000).tapForget c

/-- The physical clusters of ring r of die d, taken as one number 8d + r. -/
def ringClusters (i : Nat) : List Nat := (List.range 34).map (34 * i + ·)

/-- The node lies on a die. -/
def nodeOnDie (d n : Nat) : Bool := n != 0xFFF && n / 512 % 4 == d

/-- A cluster with empty exit buffers at its stop. -/
def dropExit (d : Nat) (kv : Nat × Cluster) : Nat × Cluster :=
  if dieOf kv.1 = d then (kv.1, { kv.2 with exit := [] }) else kv

/-- Reset of a die's ring and Confluence domain (R312). -/
def State.millraceReset (s : State) (d : Nat) : State :=
  let s1 := s.resetRange (mlrBase d) 0x400000
  { s1 with
    mlr := Sparse.del s1.mlr d
    clusters := (s1.clusters.map (dropExit d)).filter fun kv => !decide (kv.2 = Cluster.reset)
    seq := { s1.seq with ends := s1.seq.ends.filter fun x => x.missing.all fun e => e / 294912 != d }
    net := { s1.net with
      send := Sparse.keep (fun k => !nodeOnDie d (k / 256)) s1.net.send
      recv := Sparse.keep (fun k => !nodeOnDie d (k / 128)) s1.net.recv
      ctl := s1.net.ctl.filter fun f => !nodeOnDie d (flitNode f) && !nodeOnDie d (flitFrom f)
      ret := s1.net.ret.filter fun r => !nodeOnDie d (r.1 / 256)
      opens := Sparse.keep (fun k => k / 1000 != d) s1.net.opens } }

/-- A stack enters self-refresh, where it stays until firmware retrains it (R854). -/
def State.selfRefresh (s : State) (d : Nat) : State := (s.setF (HBC_STAT_SELF_REF d) 1).setF (HBC_STAT_TRAINED d) 0

/-- Reset of an HBM PHY domain (R359, R854): a stack in self-refresh stays there with its contents. -/
def State.hbmReset (s : State) (d : Nat) : State :=
  let s1 := s.resetRange (hbcBase d) 0x100000
  { s1 with hbc := Sparse.del s1.hbc d }.setF (HBC_STAT_SELF_REF d) (s.f (HBC_STAT_SELF_REF d))

/-- Reset of a quad's domain (R579). -/
def State.quadReset (s : State) (q : Nat) : State :=
  let s1 := (List.range 4).foldl (fun t i => (t.laneOff (4 * q + i)).setLane (4 * q + i) Lane.reset) s
  s1.resetRange (quadBase q) 0x10000

/-- Reset of a core's domain (R708): its registers other than OST_CORE_CTRL and OST_CORE_VEC; a core whose RUN is set
restarts, and its trace with it (R735). -/
def State.coreReset (s : State) (c : Nat) : State :=
  let cur := slice (s.reg (OST_CORE_STAT c)).toNat 2 15
  let s1 := s.resetRange (ostCoreBase c + 0x10) 0xF0
  let s2 := { s1 with ost := { s1.ost with
    wdt := Sparse.put 0 s1.ost.wdt c 0, nmi := Sparse.put false s1.ost.nmi c false } }
  let s3 := ((s2.setNat (OST_CORE_STAT c) (cur * 4)).setF (OST_CORE_STAT_STATE c) (s.f (OST_CORE_CTRL_RUN c))).traceReset c
  if s3.f (OST_CORE_STAT_STATE c) = 1 then s3.traceResume c else s3

/-- Reset of the fabric domain (R641): every FAB register, the tables and the published values, and the fabric is left
unconfigured. -/
def State.fabricReset (s : State) : State :=
  let s1 := s.resetRange 0x800000 0x100000
  let s2 := { s1 with fab := Fabric.reset, cfg := { s1.cfg with frames := [] } }
  ((s2.setF CFG_STATE_CONFIGURED 0).setF CFG_STATE_GSR 1).skewRestart

/-- Reset of the hub switched domain on leaving STANDBY (R792): SEQ, BLT, ACQ, FRD, OST and WKE. -/
def State.hubReset (s : State) : State :=
  let s1 := ((s.resetRange 0x400000 0x100000).resetRange 0x600000 0x100000).resetRange 0xA00000 0x200000
  let s2 := (s1.resetRange 0x4000000 0x100000).wakeReset
  { s2 with seq := .reset, blt := .reset, acq := .reset, frd := .reset, ost := .reset }

/-- The reset of a power domain (R780, R787). -/
def State.resetDomain (s : State) (i : Nat) : State :=
  if i < 32 then (ringClusters i).foldl State.clusterDomainReset s
  else if i < 36 then s.millraceReset (i - 32)
  else if i < 40 then s.hbmReset (i - 36)
  else if i < 72 then s.quadReset (i - 40)
  else if i = 72 then s.fabricReset
  else if i < 89 then s.coreReset (i - 73)
  else if i = 90 then s.hubReset
  else s

/-! ### Power -/

/-- The parent of a domain (R774); 89 has none. -/
def domainParent (i : Nat) : Nat :=
  if i < 32 then 32 + i / 8
  else if i < 36 then 90
  else if i < 40 then 32 + (i - 36)
  else if i < 72 then 32 + (i - 40) / 8
  else if i < 89 then 90
  else 89

/-- The children of a domain. -/
def domainChildren (i : Nat) : List Nat := (List.range 89).filter fun j => domainParent j == i

/-- Some core reads other than HELD (R776). -/
def State.anyCore (s : State) : Bool := (List.range 16).any fun c => s.f (OST_CORE_STAT_STATE c) != 0

/-- A lane of a quad is not OFF. -/
def State.quadUsed (s : State) (q : Nat) : Bool := (List.range 4).any fun i => s.laneState (4 * q + i) != LaneSt.off

/-- The votes of a domain, one bit for each client (R776). -/
def State.votes (s : State) (i : Nat) : Nat :=
  if 88 < i then 0
  else
    let sw := bitOf (s.reg (PWR_VOTE_SW (i / 32))).toNat (i % 32)
    let boot := s.mode == Mode.boot
    let mode := Nat.blt i 72 && (s.framesMode || s.mode == Mode.diagnose)
    let billet := bitOf s.pwr.billet i
    let carve := Nat.ble 32 i && Nat.ble i 39 && (s.anyCore || s.pwr.carve)
    let lane := Nat.ble 40 i && Nat.ble i 71 && s.quadUsed (i - 40)
    let core := Nat.ble 73 i && s.flag (OST_CORE_CTRL_RUN (i - 73))
    let cfg := i == 72 && (s.flag CFG_STATE_CONFIGURED || (s.cfg.job != 0 && Nat.ble s.cfg.job 4))
    ofBool sw + 2 * ofBool boot + 4 * ofBool mode + 8 * ofBool billet + 16 * ofBool carve + 32 * ofBool lane +
      64 * ofBool core + 128 * ofBool cfg

/-- A leaf, an inner domain or an outer one is wanted: it holds a vote, or a domain whose parent it is is wanted. -/
def State.wanted (s : State) (i : Nat) : Bool :=
  s.votes i != 0 ||
    (Nat.ble 32 i && Nat.ble i 35 &&
      ((List.range 8).any (fun r => s.votes (8 * (i - 32) + r) != 0 || s.votes (40 + 8 * (i - 32) + r) != 0) ||
        s.votes (36 + (i - 32)) != 0))

/-- The wake steps of a domain still to be done, the one in progress first. -/
def State.wakeSteps (s : State) (i : Nat) : List Nat := Sparse.get [] s.pwr.wake i

/-- A wake step of a domain starts now, with those after it. -/
def State.startWake (s : State) (i : Nat) (steps : List Nat) : State :=
  let s1 := { s with pwr := { s.pwr with
    wake := Sparse.put [] s.pwr.wake i steps, since := Sparse.put 0 s.pwr.since i s.tmk.steered } }
  (s1.setF (PWR_DOM_STATE i) 3).setF (PWR_DOM_PD_STEP i) 0

/-- A domain starts its power-down (R777, R783): a stack enters self-refresh (R854). -/
def State.startDown (s : State) (i : Nat) : State :=
  let s1 := (s.setF (PWR_DOM_STATE i) 1).setF (PWR_DOM_PD_STEP i) 1
  if i < 32 then (ringClusters i).foldl State.stopDrain s1
  else if 36 ≤ i ∧ i < 40 then s1.selfRefresh (i - 36)
  else s1

/-- One domain follows its votes (R777, R781). -/
def State.settleDomain (s : State) (i : Nat) : State :=
  let st := s.f (PWR_DOM_STATE i)
  if st = 2 then
    if s.wanted i ∧ !s.flag (PWR_DOM_FAIL i) ∧ s.domainOn (domainParent i) then s.startWake i [1, 2, 3, 4] else s
  else if st = 0 then
    if !s.wanted i && (domainChildren i).all (fun j => s.f (PWR_DOM_STATE j) == 2) then s.startDown i else s
  else s

/-- Every domain follows its votes (R777). -/
def State.settlePower (s : State) : State := (List.range 89).foldl State.settleDomain s

/-! ### Mode changes -/

/-- No mode request is pending: TARGET reads 0 (DEV_MODE). -/
def State.noPending (s : State) : State := (s.setF DEV_MODE_PENDING 0).setF DEV_MODE_TARGET 0

/-- A mode request waits. -/
def State.setPending (s : State) (m : Nat) : State := (s.setF DEV_MODE_PENDING 1).setF DEV_MODE_TARGET m

/-- A register of the window with MODE cleared where it is MLR_STOP_LB. -/
def clearStopLb (kv : Nat × Word) : Nat × Word :=
  if Nat.ble 0x3010000 kv.1 && Nat.blt kv.1 0x4000000 && kv.1 % 0x40 == 0x14 then (kv.1, kv.2 &&& 0xFFFFFFFC) else kv

/-- A register that is not at its reset value. -/
def notReset (kv : Nat × Word) : Bool := !decide (kv.2 = resetOf kv.1)

/-- Loopback settings end with DIAGNOSE (R801 and the chapters of the units). -/
def State.endLoopback (s : State) : State :=
  let s1 := ((s.setNat MGE_LB 0).setNat FAB_IO_LB 0).setNat TMK_LB 0
  let s2 := { s1 with regs := (s1.regs.map clearStopLb).filter notReset }
  (List.range 128).foldl (fun t l => if t.laneState l = LaneSt.test then t.laneOff l else t) s2

/-- What leaving a mode brings: R73, the battery-backed key registers of BOOT, and the loopback paths of DIAGNOSE. -/
def State.leaveMode (s : State) (old : Nat) : State :=
  if old = Mode.diagnose then (s.setF DEV_MODE_PROG_VALID 0).endLoopback
  else if old = Mode.standby then s.setF DEV_MODE_PROG_VALID 0
  else if old = Mode.boot then (List.range 8).foldl (fun t i => t.setReg (CFG_BBKEY i) 0) s
  else s

/-- What entering a mode brings: IDLE clears HOLD and its cause (R72); STANDBY and DIAGNOSE end a capture (R481); modes
other than RUN and STEP end the CHECK option (R75). -/
def State.enterMode (s : State) (m : Nat) : State :=
  let s1 := if m = Mode.run ∨ m = Mode.step then s else s.setCheckAct 0
  if m = Mode.idle then (s1.setF DEV_MODE_HOLD 0).setF SEQ_STATUS_HOLD_CAUSE 0
  else if m = Mode.standby ∨ m = Mode.diagnose then s1.acqEnd 4 s1.frameNo
  else s1

/-- DEV_MODE.MODE changes (R67): MODE_CHANGE fires and the Guestbook counts the change for a path. -/
def State.setMode (s : State) (m path : Nat) : State :=
  let s1 := ((s.leaveMode s.mode).setF DEV_MODE_MODE m).enterMode m
  ((s1.devCount 0 path).fire 0).settlePower

end Sys2Proof.Machine
end

