-- ==== Sys2Proof/Machine/Ostler.lean ====
section
/-! DEFINITION. The Ostler dispatcher (15_innkeeper_ostler): tasks and their lists, commands, events, placement, the cores
and their watchdogs. -/

namespace Sys2Proof.Machine

open Reg

/-! ### Tasks and lists (R683, R684) -/

/-- Ostler replaced. -/
def State.setOst (s : State) (x : Ostler) : State := { s with ost := x }

/-- Ostler is on while domain 90 is. -/
def State.ostOn (s : State) : Bool := s.domainOn 90

/-- A task descriptor. -/
def State.task (s : State) (n : Nat) : Task := Sparse.get Task.reset s.ost.tasks n

/-- A task descriptor replaced. -/
def State.setTask (s : State) (n : Nat) (t : Task) : State :=
  s.setOst { s.ost with tasks := Sparse.put Task.reset s.ost.tasks n t }

/-- The ready list of a priority. -/
def State.readyList (s : State) (pri : Nat) : List Nat := Sparse.get [] s.ost.ready pri

/-- The ready list of a priority replaced. -/
def State.setReady (s : State) (pri : Nat) (l : List Nat) : State :=
  s.setOst { s.ost with ready := Sparse.put [] s.ost.ready pri l }

/-- A task enters READY, at the head or the tail of its list. -/
def State.enterReady (s : State) (n : Nat) (head : Bool) : State :=
  let t := s.task n
  let l := s.readyList t.pri
  (s.setTask n { t with state := 1, core := 0 }).setReady t.pri (if head then n :: l else l ++ [n])

/-- A task leaves its ready list. -/
def State.leaveReady (s : State) (n : Nat) : State :=
  let p := (s.task n).pri
  s.setReady p ((s.readyList p).filter (· != n))

/-- The delay list replaced: OST_DLY_CNT follows. -/
def State.setDelay (s : State) (l : List (Nat × Nat)) : State :=
  let s1 := (s.setOst { s.ost with delay := l }).setF OST_DLY_CNT_NOW l.length
  s1.setF OST_DLY_CNT_MAX (max l.length (s.f OST_DLY_CNT_MAX))

/-- A place in the delay list: after the tasks with no later wake tick. -/
def delayInsert (x : Nat × Nat) : List (Nat × Nat) → List (Nat × Nat)
  | [] => [x]
  | y :: ys => if Nat.blt x.1 y.1 then x :: y :: ys else y :: delayInsert x ys

/-- A task enters DELAYED. -/
def State.enterDelayed (s : State) (n wake : Nat) : State :=
  (s.setTask n { s.task n with state := 2, core := 0, wake := wake }).setDelay (delayInsert (wake, n) s.ost.delay)

/-- A task leaves the delay list. -/
def State.leaveDelayed (s : State) (n : Nat) : State := s.setDelay (s.ost.delay.filter fun x => x.2 != n)

/-- The slot of a core. -/
def State.slot (s : State) (c : Nat) : Option Nat := Sparse.get none s.ost.slot c

/-- The slot of a core replaced. -/
def State.setSlot (s : State) (c : Nat) (n : Option Nat) : State :=
  s.setOst { s.ost with slot := Sparse.put none s.ost.slot c n }

/-- The RUNNING task of a core. -/
def State.running (s : State) (c : Nat) : Option Nat :=
  if s.flag (OST_CORE_STAT_CUR_V c) then some (s.f (OST_CORE_STAT_CUR c)) else none

/-- The RUNNING task of a core replaced. -/
def State.setRunning (s : State) (c : Nat) (n : Option Nat) : State :=
  match n with
  | some n => (s.setF (OST_CORE_STAT_CUR c) n).setF (OST_CORE_STAT_CUR_V c) 1
  | none => s.setF (OST_CORE_STAT_CUR_V c) 0

/-- A core is INTERRUPT-style. -/
def State.interrupts (s : State) (c : Nat) : Bool := !s.flag (OST_CORE_CTRL_STYLE c)

/-- The external interrupt of a core (R693). -/
def State.irq (s : State) (c : Nat) : Bool :=
  match s.slot c, s.running c with
  | some _, none => true
  | some a, some b => s.interrupts c && Nat.blt (s.task b).pri (s.task a).pri
  | none, _ => false

/-- OST_CORE_STAT.IRQ of a core follows R693. -/
def State.settleIrq (s : State) (c : Nat) : State := s.setF (OST_CORE_STAT_IRQ c) (ofBool (s.irq c))

/-- OST_CORE_STAT.IRQ of every core follows R693. -/
def State.settleIrqs (s : State) : State := (List.range 16).foldl State.settleIrq s

/-! ### Commands (R686 to R690) -/

/-- READY. -/
def State.taskReady (s : State) (n : Nat) : State :=
  let t := s.task n
  match t.state with
  | 0 => s.enterReady n false
  | 2 => (s.leaveDelayed n).enterReady n false
  | 4 => s.setTask n { t with rerun := true }
  | _ => s

/-- A delay list with no entry free (R684, R689). -/
def State.delayFull (s : State) : Bool := Nat.ble 4096 s.ost.delay.length

/-- DELAY with its wake tick; none when it waits for an entry of the delay list (R689). -/
def State.taskDelay (s : State) (n wake : Nat) : Option State :=
  let t := s.task n
  match t.state with
  | 2 => some ((s.leaveDelayed n).enterDelayed n wake)
  | 4 => some (s.setTask n { t with drerun := true, wake := wake })
  | 0 => if s.delayFull then none else some (s.enterDelayed n wake)
  | 1 => if s.delayFull then none else some ((s.leaveReady n).enterDelayed n wake)
  | _ => if s.delayFull then none else some ((s.setSlot t.core none).enterDelayed n wake)

/-- CANCEL. -/
def State.taskCancel (s : State) (n : Nat) : State :=
  let t := s.task n
  let idle : Task := { t with state := 0, core := 0 }
  match t.state with
  | 1 => (s.leaveReady n).setTask n idle
  | 2 => (s.leaveDelayed n).setTask n idle
  | 3 => (s.setSlot t.core none).setTask n idle
  | 4 => s.setTask n { t with rerun := false, drerun := false }
  | _ => s

/-- DONE of a core (R687, R688); none when it waits for an entry of the delay list. -/
def State.taskDone (s : State) (c : Nat) : Option State :=
  match s.running c with
  | none => some (s.raise OST_ERR_BAD_OP 4 0 0 0)
  | some n =>
    let t := s.task n
    let s1 := (s.setRunning c none).setTask n { t with rerun := false, drerun := false, state := 0, core := 0 }
    if t.drerun then (if s.delayFull then none else some (s1.enterDelayed n t.wake))
    else if t.rerun then some (s1.enterReady n false)
    else some s1

/-- The command queue of a path. -/
def State.ostQueue (s : State) (p : Nat) : List OstCmd := Sparse.get [] s.ost.queue p

/-- The command at the head of a path's queue leaves it: a command that the path holds for want of room enters it
(R690). -/
def State.popQueue (s : State) (p : Nat) : State :=
  let q := (s.ostQueue p).drop 1
  match Sparse.get none s.ost.waiting p with
  | some c => s.setOst { s.ost with
      queue := Sparse.put [] s.ost.queue p (q ++ [c]), waiting := Sparse.put none s.ost.waiting p none }
  | none => s.setOst { s.ost with queue := Sparse.put [] s.ost.queue p q }

/-- What a queued command does; none when it stays at the head of its queue. -/
def State.ostExec (s : State) (p : Nat) (c : OstCmd) : Option State :=
  match c.op with
  | 1 => some (s.taskReady c.task)
  | 2 => if c.arg = 0 then some (s.taskReady c.task) else s.taskDelay c.task (s.ost.tick + c.arg)
  | 3 => some (s.taskCancel c.task)
  | _ => s.taskDone p

/-- The command at the head of a path's queue stays there (R689). -/
def State.ostBlocked (s : State) (p : Nat) : Bool :=
  match (s.ostQueue p).head? with
  | none => true
  | some c => (s.ostExec p c).isNone

/-- It is the turn of a path: no path before it in the order of R65 has a command that Ostler can execute. -/
def State.ostTurn (s : State) (p : Nat) : Bool := (List.range p).all s.ostBlocked

/-- Ostler executes the command at the head of a path's queue, when it has an operation code, no event command waits and
no path comes before it (R65, R690, R691). -/
def State.ostStep (s : State) (p op : Nat) : State :=
  if !s.ostOn || !s.ost.events.isEmpty || !s.ostTurn p then s
  else
    match (s.ostQueue p).head? with
    | none => s
    | some c =>
      if c.op ≠ op then s
      else
        match s.ostExec p c with
        | some t => (t.popQueue p).settleIrqs
        | none => s.raise OST_ERR_DLY_FULL 4 0 0 0

/-- READY (R686). -/
def execReady (p : Path) (s : State) : Result := .next (s.ostStep p 1)

/-- DELAY (R686, R689). -/
def execDelay (p : Path) (s : State) : Result := .next (s.ostStep p 2)

/-- OST_CANCEL (R686). -/
def execOstCancel (p : Path) (s : State) : Result := .next (s.ostStep p 3)

/-- OST_DONE (R687, R688). -/
def execOstDone (p : Path) (s : State) : Result := .next (s.ostStep p 4)

/-- A command that waits on its path is dropped at the register-access timeout (R690). -/
def State.ostDrop (s : State) (p : Nat) : State :=
  (s.setOst { s.ost with waiting := Sparse.put none s.ost.waiting p none }).raise OST_ERR_CMD_DROP 4 0 0 0

/-- A write of OST_CMD_HI: the pair enters its path's queue, waits when the queue is full, or is refused (R688, R690). A
path that writes again has had its waiting write time out. -/
def State.ostCommit (s : State) (p : Nat) (lo hi : Word) : State :=
  let c : OstCmd := ⟨slice lo.toNat 16 3, slice lo.toNat 0 14, hi.toNat⟩
  if c.op = 0 ∨ 4 < c.op ∨ (c.op = 4 ∧ 16 ≤ p) then s.raise OST_ERR_BAD_OP 4 0 0 0
  else if (s.ostQueue p).length < 32 then
    s.setOst { s.ost with queue := Sparse.put [] s.ost.queue p (s.ostQueue p ++ [c]) }
  else
    let s1 := if Sparse.get none s.ost.waiting p = none then s else s.ostDrop p
    s1.setOst { s1.ost with waiting := Sparse.put none s1.ost.waiting p (some c) }

/-- The first of the tasks that were due at the last tick and still wait leaves the delay list and enters READY: one task
in a hub cycle (R685). -/
def State.wakeDue (s : State) : List Nat → State
  | [] => s.setOst { s.ost with due := [] }
  | n :: rest =>
    if (s.task n).state == 2 && Nat.ble (s.task n).wake s.ost.tick then
      ((s.setOst { s.ost with due := rest }).leaveDelayed n).enterReady n false
    else s.wakeDue rest

/-- OSTLER_TICK (R685). -/
def execOstlerTick (s : State) : Result := if s.ostOn then .next (s.wakeDue s.ost.due) else .next s

/-- EVENT_COMMAND (R691): the lowest event number first. -/
def execEventCommand (s : State) : Result :=
  match s.ost.events with
  | (e, some n) :: _ =>
    if s.ostOn then
      .next ((s.setOst { s.ost with events := Sparse.put none s.ost.events e none }).taskReady n).settleIrqs
    else .next s
  | _ => .next s

/-! ### Placement and delivery (R692 to R695) -/

/-- A core is eligible for a task. -/
def State.eligible (s : State) (t : Task) (c : Nat) : Bool :=
  let st := s.f (OST_CORE_STAT_STATE c)
  bitOf t.mask c && s.flag (OST_CORE_CTRL_DISPATCH c) && (st == 1 || st == 2)

/-- The core with the lowest key, the lowest number among equals. -/
def lowestBy (key : Nat → Nat) : List Nat → Option Nat
  | [] => none
  | c :: cs =>
    match lowestBy key cs with
    | none => some c
    | some b => if key b < key c then some b else some c

/-- The priority of the task that a core runs. -/
def State.runPri (s : State) (c : Nat) : Nat := ((s.running c).map fun n => (s.task n).pri).getD 0

/-- The priority of the task in a core's slot. -/
def State.slotPri (s : State) (c : Nat) : Nat := ((s.slot c).map fun n => (s.task n).pri).getD 0

/-- The first core that qualifies for a task (R692). -/
def State.coreFor (s : State) (t : Task) : Option Nat :=
  let cs := (List.range 16).filter (s.eligible t)
  let empty := cs.filter fun c => (s.slot c).isNone
  match empty.find? fun c => (s.running c).isNone with
  | some c => some c
  | none =>
    match lowestBy s.runPri (empty.filter fun c => s.interrupts c && Nat.blt (s.runPri c) t.pri) with
    | some c => some c
    | none =>
      match empty.find? fun c => !s.interrupts c with
      | some c => some c
      | none => lowestBy s.slotPri (cs.filter fun c => (s.slot c).isSome && Nat.blt (s.slotPri c) t.pri)

/-- The task that is placed, with its core: the oldest of the highest priority that some core can receive. -/
def State.placement (s : State) : Option (Nat × Nat) :=
  [7, 6, 5, 4, 3, 2, 1, 0].findSome? fun p =>
    (s.readyList p).findSome? fun n => (s.coreFor (s.task n)).map fun c => (n, c)

/-- TASK_PLACE (R692). -/
def execTaskPlace (s : State) : Result :=
  if !s.ostOn then .next s
  else
    match s.placement with
    | none => .next s
    | some (n, c) =>
      let s1 := s.leaveReady n
      let s2 := match s1.slot c with
        | some old => s1.enterReady old true
        | none => s1
      .next ((s2.setTask n { s2.task n with state := 3, core := c }).setSlot c (some n)).settleIrqs

/-- A core's watchdog count restarts (R696, R697). -/
def State.wdtRestart (s : State) (c : Nat) : State :=
  s.setOst { s.ost with wdt := Sparse.put 0 s.ost.wdt c 0, nmi := Sparse.put false s.ost.nmi c false }

/-- A core takes its slot task (R694, R695). -/
def State.take (s : State) (c n : Nat) : State :=
  let s1 := match s.running c with
    | some r => if s.interrupts c then s.enterReady r true else s
    | none => s
  let s2 := (s1.setTask n { s1.task n with state := 4, core := c }).setSlot c none
  (((s2.setRunning c (some n)).set64 (OST_CORE_WORD c) (s2.task n).word).wdtRestart c).settleIrqs

/-- CORE_TAKE (R694). -/
def execCoreTake (p : Path) (core : Fin 16) (s : State) : Result :=
  .next (s.onRead p (OST_CORE_TAKE core) fun s =>
    match (if p.val = core.val then s.slot core else none) with
    | some n => (s.take core n).answer p (BitVec.ofNat 32 (n + 2147483648))
    | none => s.answer p 0)

/-! ### Cores (R681, R698) -/

/-- The tasks of a core return to the heads of their ready lists, with their marks kept (R698). -/
def State.returnTasks (s : State) (c : Nat) : State :=
  let s1 := match s.slot c with
    | some n => (s.setSlot c none).enterReady n true
    | none => s
  match s1.running c with
  | some n => ((s1.setRunning c none).enterReady n true)
  | none => s1

/-- A core is released: it starts at OST_CORE_VEC once its domain is ON. -/
def State.coreRelease (s : State) (c : Nat) : State :=
  let s1 := s.setF (OST_CORE_CTRL_RUN c) 1
  let s2 := if s1.f (OST_CORE_STAT_STATE c) = 0 ∧ s1.domainOn (73 + c) then
      ((s1.setF (OST_CORE_STAT_STATE c) 1).wdtRestart c).traceResume c
    else s1
  s2.settlePower

/-- A core is held in reset, and RUN clears. -/
def State.coreHeld (s : State) (c : Nat) : State :=
  let s1 := ((s.returnTasks c).setF (OST_CORE_CTRL_RUN c) 0).coreReset c
  ((s1.setF (OST_CORE_STAT_STATE c) 0).settleIrqs).settlePower

/-- A write of OST_CORE_CTRL (R681): HOLD overrides RUN. -/
def State.coreCtrl (s : State) (c : Nat) (v : Word) : State :=
  let run := s.f (OST_CORE_CTRL_RUN c)
  let s1 := (s.writeBits (OST_CORE_CTRL c) v).setF (OST_CORE_CTRL_RUN c) run
  if bitOf v.toNat 1 then s1.coreHeld c
  else if bitOf v.toNat 0 then (s1.coreRelease c).settleIrqs
  else s1.settleIrqs

/-- CORE_RUN (R681). -/
def execCoreRun (p : Path) (core : Fin 16) (v : Word) (s : State) : Result :=
  .next (s.onWrite p (OST_CORE_CTRL core) fun s => s.coreCtrl core v)

/-- CORE_HOLD (R681). -/
def execCoreHold (p : Path) (core : Fin 16) (v : Word) (s : State) : Result :=
  .next (s.onWrite p (OST_CORE_CTRL core) fun s => s.coreCtrl core v)

/-! ### Descriptors and the doorbell (R709, R691) -/

/-- TASK increments under AUTOINC. -/
def State.taskStep (s : State) : State :=
  if s.flag OST_TASK_ADDR_AUTOINC then s.setF OST_TASK_ADDR_TASK (s.f OST_TASK_ADDR_TASK + 1) else s

/-- The held words of a descriptor are stored with the write of D2 (R709). -/
def State.storeTask (s : State) (v : Word) : State :=
  let n := s.f OST_TASK_ADDR_TASK
  let t := s.task n
  let mask := (s.ost.d0.map fun w => slice w.toNat 0 16).getD t.mask
  let pri := (s.ost.d0.map fun w => slice w.toNat 16 3).getD t.pri
  let lo := (s.ost.d1.map (·.toNat)).getD (t.word % 4294967296)
  let s1 := s.setTask n { t with mask := mask, pri := pri, word := lo + v.toNat * 4294967296 }
  s1.setOst { s1.ost with d0 := none, d1 := none }

/-- A write of a descriptor word (R709). -/
def State.taskWrite (s : State) (i : Nat) (v : Word) : State :=
  if (s.task (s.f OST_TASK_ADDR_TASK)).state ≠ 0 then s.raise OST_ERR_TASK_BUSY 4 0 0 0
  else if i = 0 then s.setOst { s.ost with d0 := some v }
  else if i = 1 then s.setOst { s.ost with d1 := some v }
  else (s.storeTask v).taskStep

/-- TASK_DESCRIPTOR_WRITE (R709). -/
def execTaskDescriptorWrite (p : Path) (i : Fin 3) (v : Word) (s : State) : Result :=
  .next (s.onWrite p (OST_TASK_D0 + 4 * i) fun s => s.taskWrite i v)

/-- The word that OST_TASK_D0 reads for a descriptor (table of task descriptor access). -/
def taskWord (t : Task) : Nat :=
  t.mask + t.pri * 65536 + t.state * 1048576 + t.core * 16777216 + ofBool t.rerun * 268435456 +
    ofBool t.drerun * 536870912

/-- TASK_DESCRIPTOR_READ (R709): a read of D0 loads D1 and D2. -/
def execTaskDescriptorRead (p : Path) (i : Fin 3) (s : State) : Result :=
  .next (s.onRead p (OST_TASK_D0 + 4 * i) fun s =>
    let t := s.task (s.f OST_TASK_ADDR_TASK)
    if i.val = 0 then
      ((s.setNat OST_TASK_D1 t.word).setNat OST_TASK_D2 (t.word / 4294967296)).answer p (BitVec.ofNat 32 (taskWord t))
    else if i.val = 1 then s.answer p (s.reg OST_TASK_D1)
    else (s.answer p (s.reg OST_TASK_D2)).taskStep)

/-- DOORBELL (R691). -/
def execDoorbell (p : Path) (v : Word) (s : State) : Result :=
  .next (s.onWrite p OST_DOORBELL fun s => (s.writeBits OST_DOORBELL v).fire 23)

/-! ### Core watchdogs (R696 to R698) -/

/-- TIMEOUT_MS of a core's watchdog as a steered duration (R6); 0 acts as 1. -/
def State.wdtLimit (s : State) (c : Nat) : Nat := max 1 (s.f (OST_CORE_WDT_TIMEOUT_MS c)) * 1000000 * nsUnit

/-- The watchdog of a core counts (R696). -/
def State.wdtCounts (s : State) (c : Nat) : Bool :=
  match s.f (OST_CORE_STAT_STATE c) with
  | 1 => true
  | 2 => (s.running c).isSome
  | _ => false

/-- KICK (R696): a write of OST_CORE_WDT. -/
def execKick (p : Path) (core : Fin 16) (v : Word) (s : State) : Result :=
  .next (s.onWrite p (OST_CORE_WDT core) fun s =>
    let s1 := s.writeBits (OST_CORE_WDT core) v
    if bitOf v.toNat 17 then s1.wdtRestart core else s1)

/-- CORE_WDT_NMI (R697). -/
def execCoreWdtNmi (core : Fin 16) (s : State) : Result :=
  if s.ostOn && s.wdtCounts core && Nat.ble (s.wdtLimit core) (2 * Sparse.get 0 s.ost.wdt core) then
    .next (s.setOst { s.ost with nmi := Sparse.put false s.ost.nmi core true })
  else .next s

/-- Recovery of a core (R698). -/
def State.coreRecover (s : State) (c : Nat) : State :=
  let n := s.f (OST_CORE_WDT_RECOV c)
  let s0 := (s.returnTasks c).setF (OST_CORE_CTRL_RUN c) (s.f (OST_CORE_CTRL_AUTO_RESTART c))
  let s1 := (s0.coreReset c).setF (OST_CORE_WDT_RECOV c) n
  let s2 := ((s1.bump (OST_CORE_WDT_RECOV c) 1).count (srcOf 4 3 0) c 0).fire 25
  (s2.settleIrqs).settlePower

/-- CORE_WDT_EXPIRY (R698). -/
def execCoreWdtExpiry (core : Fin 16) (s : State) : Result :=
  if s.ostOn && s.wdtCounts core && s.flag (OST_CORE_WDT_EN core) &&
      Nat.ble (s.wdtLimit core) (Sparse.get 0 s.ost.wdt core) then
    .next (s.coreRecover core)
  else .next s

end Sys2Proof.Machine
end

