-- ==== Sys2Proof/Machine/FordMsg.lean ====
section
/-! DEFINITION. The messages of Ford (R581, R589, R598): their bytes, and the lane items that carry them. -/

namespace Sys2Proof.Machine

open Reg

/-- DEV_MODE.ROLE: 0 SOLO, 1 PRIMARY, 2 SHADOW, 3 CATCHUP. -/
def State.role (s : State) : Nat := s.f DEV_MODE_ROLE

/-- The bytes cut into items of up to n. -/
def chunks {α : Type} (n : Nat) : Nat → List α → List (List α)
  | 0, _ => []
  | fuel + 1, bs => if bs.isEmpty then [] else bs.take n :: chunks n fuel (bs.drop n)

/-- Bytes leave on the Ford link, as DATA items of its anchor lane (R558, R581). -/
def State.fordSend (s : State) (bytes : List Byte) : State :=
  (chunks 64 bytes.length bytes).foldl (fun t b => t.laneFord (t.f FRD_CFG_LANE) b) s

/-- A Ford message (R589). -/
def fordMessage (typ flags frame : Nat) (body : List Byte) : List Byte :=
  bytesLE 1 typ ++ bytesLE 1 flags ++ bytesLE 2 body.length ++ bytesLE 4 0 ++ bytesLE 8 frame ++ body

/-- Words packed 28 to a block of 64 bytes, with the tag byte zero (R326, table of Ford messages). -/
def packBlocks (words : List Nat) : List Byte :=
  ((chunks 28 words.length words).map fun ws => bytesLE 64 (packValues 18 ws)).flatten

/-- An INPUT message. -/
def inputMessage (frame : Nat) (join : Bool) (words : List Nat) : List Byte :=
  fordMessage 1 (ofBool join) frame (packBlocks words)

/-- A DIGEST message. -/
def digestMessage (frame : Nat) (halted : Bool) (dig ssig : Nat) : List Byte :=
  fordMessage 2 (ofBool halted) frame (bytesLE 8 dig ++ bytesLE 8 ssig)

/-- The last committed frame: the one before the frame in progress, until that is folded (R202, R591). -/
def State.foldedFrame (s : State) : Nat := if s.seq.inFrame && !s.seq.local_ then s.frameNo - 1 else s.frameNo

/-- A halted twin sends the DIGEST of its last committed frame with HALTED = 1, and with HALTED = 0 when it resumes
(R598). -/
def State.haltDigest (s : State) (halted : Bool) : State :=
  if s.role = 1 ∨ s.role = 2 then s.fordSend (digestMessage s.foldedFrame halted (s.f64 FRD_DIG) (s.f64 FRD_SSIG)) else s

/-- A mode change of a PRIMARY is carried to its shadow (R78). -/
def State.sendMode (s : State) (target : Nat) (check : Bool) : State :=
  if s.role = 1 then s.fordSend (fordMessage 3 0 s.frameNo (bytesLE 16 (target + 8 * ofBool check))) else s

end Sys2Proof.Machine
end

