-- ==== Sys2Proof/Machine/SeqOps.lean ====
section
/-! DEFINITION. The shared operations of the frame sequencer (04_frames_and_elasticity): mapped clusters, the barrier timer,
holds, halts and breakpoints. -/

namespace Sys2Proof.Machine

open Reg

/-- SEQ_STATUS.PHASE STOPPED. -/
def Phase.stopped : Nat := 0
/-- EVALUATING. -/
def Phase.evaluating : Nat := 1
/-- GATHERING. -/
def Phase.gathering : Nat := 2
/-- WAIT_TIME. -/
def Phase.waitTime : Nat := 3
/-- HALTED. -/
def Phase.halted : Nat := 4
/-- HELD. -/
def Phase.held : Nat := 5

/-- CLU_STATUS.STATE READY. -/
def Clu.ready : Nat := 1
/-- RUNNING. -/
def Clu.running : Nat := 2
/-- STALLED. -/
def Clu.stalled : Nat := 3
/-- BARRIER. -/
def Clu.barrier : Nat := 4
/-- HALTED. -/
def Clu.halted : Nat := 5
/-- FAULT. -/
def Clu.fault : Nat := 6

/-- CLU_STATUS.STATE of a cluster. -/
def State.cluState (s : State) (c : Nat) : Nat := s.f (CLU_STATUS_STATE c)

/-- The frame length L in steps (R193). -/
def State.frameLen (s : State) : Nat := 64 * s.f SEQ_CFG_FLEN

/-- A cluster is mapped (R194). -/
def State.isMapped (s : State) (c : Nat) : Bool := s.flag (CLU_VMAP_MAPPED c)

/-- The cluster whose window holds an offset, when the offset is that of its CLU_VMAP. -/
def vmapCluster (off : Nat) : Option Nat :=
  if Nat.ble 0x8000000 off && Nat.blt off 0x9100000 && off % 0x4000 == 0x28 then some ((off - 0x8000000) / 0x4000)
  else none

/-- The mapped clusters, in rising order (R194). -/
def State.mapped (s : State) : List Nat :=
  s.regs.filterMap fun kv =>
    match vmapCluster kv.1 with
    | some c => if bitOf kv.2.toNat 16 then some c else none
    | none => none

/-- The dies that hold a mapped cluster. -/
def State.mappedDies (s : State) : List Nat :=
  let m := s.mapped
  (List.range 4).filter fun d => m.any fun c => dieOf c == d

/-- The sequencer's state replaced. -/
def State.setSeq (s : State) (x : Sequencer) : State := { s with seq := x }

/-- A count of acknowledgements equals HBC_WACK.ACT: it clears, and those of the frame are complete (R340). -/
def State.ackFull (s : State) (d ftag : Nat) : State :=
  let key := d * 4 + ftag
  s.setSeq { s.seq with acks := Sparse.put 0 s.seq.acks key 0, acked := Sparse.put 0 s.seq.acked key 1 }

/-! ### The barrier timer (R211, R212) -/

/-- The barrier timer starts at a release, suspended while a neighbour is halted (R212). Its length is that of SEQ_BTO at
the release: a later write of SEQ_BTO does not move it (DESIGN CHOICE, log entry 45). -/
def State.timerStart (s : State) : State :=
  let ns := if s.seq.first then s.f SEQ_BTO_FIRST_MS * 1000000 else s.f SEQ_BTO_TIMEOUT_US * 1000
  s.setSeq { s.seq with
    timer := if s.seq.notices = [] then some s.tmk.steered else none, left := ns * nsUnit, first := false }

/-- The barrier timer stops. -/
def State.timerStop (s : State) : State := s.setSeq { s.seq with timer := none, left := 0 }

/-- The barrier timer is suspended. -/
def State.timerPause (s : State) : State :=
  match s.seq.timer with
  | none => s
  | some t => s.setSeq { s.seq with timer := none, left := s.seq.left - (s.tmk.steered - t) }

/-- The barrier timer goes on, unless HALT_NOTICE suspends it (R212). -/
def State.timerGo (s : State) : State :=
  if s.seq.timer = none ∧ s.seq.left ≠ 0 ∧ s.seq.notices = [] then s.setSeq { s.seq with timer := some s.tmk.steered }
  else s

/-- The barrier timer has run out. -/
def State.timerOver (s : State) : Bool :=
  match s.seq.timer with
  | none => false
  | some t => Nat.ble (t + s.seq.left) s.tmk.steered

/-! ### Holds and halts -/

/-- A step command ends (R239): the counts that a STEPS command left are discarded. -/
def State.stepEnd (s : State) : State :=
  let s1 := if s.seq.cmd = 1 then s.mapped.foldl (fun t c => t.setCl c { t.cl c with budget := none }) s else s
  (s1.setSeq { s1.seq with cmd := 0, cmdLeft := 0 }).setF SEQ_STATUS_STEP_BUSY 0

/-- Frames are held (R214, R223, R240): HOLD with its cause, and SEQ_HALT. A device that is held already keeps its first
cause (DESIGN CHOICE, log entry 45). -/
def State.hold (s : State) (cause : Nat) : State :=
  if s.flag DEV_MODE_HOLD then s
  else
    let s1 := (s.timerStop).stepEnd
    let s2 := s1.setSeq { s1.seq with waitK := none }
    (((s2.setF DEV_MODE_HOLD 1).setF SEQ_STATUS_HOLD_CAUSE cause).setF SEQ_STATUS_PHASE Phase.held).fire 15

/-- Every outbound lane group learns whether the device is halted (R213). -/
def State.haltNotice (s : State) (on : Bool) : State :=
  s.outLanes.foldl (fun t l => t.laneEnd l on true s.frameNo) s

/-- The device is halted (R235): the phase, the timer, the notice to its neighbours. -/
def State.setHalted (s : State) : State :=
  let s1 := (s.timerPause).setF SEQ_STATUS_PHASE Phase.halted
  ((s1.setSeq { s1.seq with halted := true, haltSent := false }).haltNotice true).haltDigest true

/-- A halt from RUN, or a frame-breakpoint halt from TIMED, changes DEV_MODE to STEP (R233). -/
def State.haltToStep (s : State) : State :=
  if s.mode = Mode.run ∨ s.mode = Mode.timed then
    let s1 := (s.setMode Mode.step 0).sendMode Mode.step (s.flag DEV_MODE_CHECK_ACT)
    s1.setSeq { s1.seq with first := true }
  else s

/-- A breakpoint is recorded (R234): HITS counts each; the first is kept, and in one hub cycle the lowest. -/
def State.brkRecord (s : State) (kind num step proc cluster : Nat) : State :=
  let s1 := s.bump SEQ_BRK_STATUS_HITS 1
  let key := (s.hub, cluster, proc, num)
  let old := s1.seq.brkKey
  let earlier := s1.flag SEQ_BRK_STATUS_VALID &&
    (old.1 != s.hub || Nat.blt old.2.1 cluster || (old.2.1 == cluster && (Nat.blt old.2.2.1 proc ||
      (old.2.2.1 == proc && Nat.ble old.2.2.2 num))))
  if earlier then s1
  else
    let s2 := ((s1.setF SEQ_BRK_STATUS_NUM num).setF SEQ_BRK_STATUS_KIND kind).setF SEQ_BRK_STATUS_VALID 1
    let s3 := ((s2.setF SEQ_BRK_WHERE_STEP step).setF SEQ_BRK_WHERE_PROC proc).setF SEQ_BRK_WHERE_CLUSTER cluster
    s3.setSeq { s3.seq with brkKey := key }

/-- The device halts before step 0 of the next frame (R229, R232, R237, R238). -/
def State.haltAtEdge (s : State) (broke : Bool) : State :=
  let s1 := (s.stepEnd).haltToStep
  let s2 := (s1.setSeq { s1.seq with atEdge := true, brkFrame := false }).setHalted
  if broke then s2.fire 15 else s2

/-- A numbered breakpoint is raised by processor proc of a cluster at a step (R188, R227 to R231, R402). Its first
component says that it acts as STEP, and the raising cluster halts. A mode request that waits for the barrier stays
pending over such a halt, and applies at the barrier of the frame once it is resumed (DEDUCED from R60, log entry 45). -/
def State.raiseBreak (s : State) (c proc step num : Nat) : Bool × State :=
  let s0 := s.acqBreak num
  if !bitOf (s0.f SEQ_BRK_CTRL_EN) num then (false, s0)
  else if s0.mode = Mode.timed then (false, (s0.brkRecord 1 num step proc c).seqErr SEQ_ERR_BRK_TIMED)
  else if s0.mode = Mode.run ∨ s0.mode = Mode.step then
    let s1 := s0.brkRecord 1 num step proc c
    let twin := s1.f DEV_MODE_ROLE == 1 || s1.f DEV_MODE_ROLE == 2
    if bitOf (s1.f SEQ_BRK_CTRL_ACT) num && !twin then
      let s2 := (s1.stepEnd).haltToStep
      let s3 := if s2.seq.haltSent then s2 else s2.broadcast 2 s2.frameNo
      (true, (s3.setSeq { s3.seq with haltSent := true }).fire 15)
    else (false, s1.setSeq { s1.seq with brkFrame := true })
  else (false, s0)

/-- Halted clusters resume: within a frame a RESUME marker is broadcast (R213, R280, R598). -/
def State.resume (s : State) : State :=
  let s1 := (s.setSeq { s.seq with halted := false, atEdge := false, haltSent := false }).setF SEQ_STATUS_PHASE
    Phase.evaluating
  let s2 := if s1.seq.inFrame then s1.broadcast 3 s1.frameNo else s1
  ((s2.haltNotice false).haltDigest false).timerGo

/-- After a broadcast halt or under a STEPS command, once every mapped cluster is HALTED or in BARRIER and one is HALTED,
the device is halted (R230, R235); a STEPS command in progress ends (R237). A cluster that still awaits its RESUME marker
halts nothing. -/
def State.checkHalted (s : State) : State :=
  let m := s.mapped
  let stopped (c : Nat) : Bool :=
    s.cluState c == Clu.fault ||
      (((s.cluState c == Clu.halted && (s.seq.cmd != 1 || (s.cl c).budget == none)) || s.cluState c == Clu.barrier) &&
        (s.cl c).frame == s.frameNo)
  if s.seq.halted || !(s.seq.haltSent || s.seq.cmd == 1) then s
  else if m.all stopped && m.any (fun c => s.cluState c == Clu.halted) then
    (if s.seq.cmd = 1 then s.stepEnd else s).setHalted
  else s

end Sys2Proof.Machine
end

