-- ==== Sys2Proof/Machine/CluOps.lean ====
section
/-! DEFINITION. The shared operations of a cluster (02_step_machine, 03_casornol_isa): arrivals and due steps, what one
processor's issue does, the end of a step, and the end of a frame. -/

namespace Sys2Proof.Machine

open Reg

/-! ### Arrivals (R106 to R111) -/

/-- The frame that an FTAG names, no earlier than frame n (R197, R198). -/
def frameOfTag (n ftag : Nat) : Nat := n + (ftag % 4 + 4 - n % 4) % 4

/-- The frame that issued a memory reply, no later than frame n (R177, R196). -/
def issueOfTag (n ftag : Nat) : Nat := n - (n % 4 + 4 - ftag % 4) % 4

/-- The frame that FTAGs arriving at a cluster are compared with (R198): the one in progress or last committed there,
unless FRAME_NO has moved further since (R205, R241). -/
def State.cluFrame (s : State) (c : Nat) : Nat :=
  let n := (s.cl c).frame
  if n ≤ s.frameNo ∧ s.frameNo ≤ n + 1 then n else s.frameNo

/-- The order of R109: the later due step, then the later rank, within one frame. -/
def laterKey (new old : Nat × Nat × Nat) : Bool :=
  new.1 != old.1 || Nat.blt old.2.1 new.2.1 || (new.2.1 == old.2.1 && Nat.ble old.2.2 new.2.2)

/-- An arrival is written to its word (R108, R109): the word stays OWED while another arrival for it is owed. -/
def Cluster.writeRx (cl : Cluster) (a : Arrival) : Cluster :=
  let x := cl.rx a.rxw
  let key := (a.frame, a.due, a.rank)
  let st := if cl.owed.any fun o => o.rxw == a.rxw then 2 else 1
  let y : RxWord := if laterKey key x.key ∨ x.state = 0 then ⟨a.word, a.parity, st, key⟩ else { x with state := st }
  { cl with rxb := Sparse.put RxWord.reset cl.rxb a.rxw y }

/-- Two arrivals answer one expectation. -/
def sameArrival (a b : Arrival) : Bool := a.rank == b.rank && a.rxw == b.rxw && a.due == b.due && a.frame == b.frame

/-- An owed arrival that has come is written at once (R108). -/
def Cluster.payOwed (cl : Cluster) (a : Arrival) : Cluster :=
  let cl1 := { cl with owed := removeFirst (sameArrival a) cl.owed, expect := removeFirst (sameArrival a) cl.expect }
  cl1.writeRx a

/-- An arrival is owed. -/
def Cluster.owing (cl : Cluster) (a : Arrival) : Bool := cl.owed.any (sameArrival a)

/-- An arrival at the stop: its due step has passed in its frame, so it is written at once; otherwise it waits. A second
arrival for an entry already written is written after the first (R269). -/
def Cluster.takeIn (cl : Cluster) (a : Arrival) : Cluster :=
  if cl.owing a then cl.payOwed a
  else if a.frame = cl.frame ∧ a.due < cl.dueTo then cl.writeRx a
  else { cl with hold := cl.hold ++ [a] }

/-- An arrival can be taken in: it is written at once, or the holding queue of 32 words has room (R107). -/
def Cluster.room (cl : Cluster) (a : Arrival) : Bool :=
  cl.owing a || (a.frame == cl.frame && Nat.blt a.due cl.dueTo) || Nat.blt cl.hold.length 32

/-- The exit buffers are emptied in order while their heads can be taken in (R47). -/
def Cluster.drainExit (cl : Cluster) : Nat → Cluster
  | 0 => cl
  | n + 1 =>
    let head (dir : Nat) := cl.exit.find? fun x => x.1 == dir
    match (([head 0, head 1].filterMap id).find? fun x => cl.room x.2) with
    | none => cl
    | some x => Cluster.drainExit ({ cl with exit := removeFirst (· == x) cl.exit }.takeIn x.2) n

/-- The outcome of an arrival at a ring stop. -/
inductive Taken where
  /-- It was taken, or waits in an exit buffer. -/
  | taken
  /-- It was refused: the exit buffer of its direction is full. -/
  | refused
  deriving DecidableEq, Repr

/-- A reply of an abandoned frame is discarded when it arrives, and counted when a committed frame issued it (R216, R217). -/
def State.dropGhost (s : State) (c : Nat) (a : Arrival) : State :=
  let cl := s.cl c
  let lost : Nat := ((cl.ghost.find? (sameArrival a)).map (·.word)).getD 0
  let s1 := s.setCl c { cl with ghost := removeFirst (sameArrival a) cl.ghost }
  if lost = 1 then s1.setF SEQ_STATUS_XFRAME_LOST 1 else s1

/-- An arrival reaches the ring stop of cluster c on a direction: written, held for its due step, or left in the exit
buffer of 16 flits (R107, R108, R47). A cluster in reset takes nothing, and a memory reply is taken only for a read that
still awaits it (R216). -/
def State.arrive (s : State) (c dir : Nat) (a : Arrival) : Taken × State :=
  let cl := s.cl c
  let issued := ((cl.expect.find? (sameArrival a)).map (·.issued)).getD a.issued
  let b := { a with issued := issued }
  if s.cluState c = 0 then (.taken, s)
  else if a.rank = 1025 ∧ cl.ghost.any (sameArrival a) then (.taken, s.dropGhost c a)
  else if a.rank = 1025 ∧ !cl.expect.any (sameArrival a) then (.taken, s)
  else if cl.exit.all (fun x => x.1 != dir) && cl.room b then (.taken, s.setCl c (cl.takeIn b))
  else
    let s1 := s.cluErr c CLU_ERR_QUEUE_FULL
    if (cl.exit.filter fun x => x.1 == dir).length < 16 then
      (.taken, s1.setCl c { s1.cl c with exit := cl.exit ++ [(dir, b)] })
    else (.refused, s1)

/-- A word that an arrival carries, with the parity kept beside it (R124). -/
def mkArrival (rank issued frame due rxw word : Nat) : Arrival := ⟨rank, issued, frame, due, rxw, word, parityOf 18 word⟩

/-- An HBM reply for a cluster, from its step stamp (R177, R338). -/
def State.replyArrival (s : State) (c ftag step rxw word : Nat) : Arrival :=
  let issue := issueOfTag (s.cluFrame c) ftag
  let l := max 1 s.frameLen
  mkArrival 1025 issue (issue + (step + 192) / l) ((step + 192) % l) rxw word

/-- The arrivals that the receive table of a cluster's stop expects at a due step of a frame (R269). -/
def State.expected (s : State) (c step : Nat) : List Arrival :=
  let d := dieOf c
  let stop := stopIx (ringOf c) (posOf c)
  ((s.validEntries d stop (s.stopHalf d stop) 1).filter fun e => slice e.2 8 11 == step).map fun e =>
    ⟨e.1, (s.cl c).frame, (s.cl c).frame, step, slice e.2 0 7, 0, 0⟩

/-- A word becomes OWED (R108). -/
def Cluster.owe (cl : Cluster) (a : Arrival) : Cluster :=
  let x := cl.rx a.rxw
  { cl with owed := cl.owed ++ [a], rxb := Sparse.put RxWord.reset cl.rxb a.rxw { x with state := 2 } }

/-- An arrival is marked as fallen due in the frame (R400). -/
def Cluster.markDue (cl : Cluster) (a : Arrival) : Cluster := { cl with sbRx := Sparse.put 0 cl.sbRx a.rxw 1 }

/-- The arrivals of a due step are taken (R106 to R109): what waits is written, what is missing is owed. The 0x3FFFF of a
suppressed read answers no expected reply: its rank is lower (R180). -/
def State.dueStep (s : State) (c step : Nat) : State :=
  let cl := s.cl c
  if step < cl.dueTo then s
  else
    let due (a : Arrival) : Bool := a.frame == cl.frame && a.due == step
    let here := (cl.hold ++ cl.self_).filter due
    let missing := (s.expected c step ++ cl.expect.filter due).filter fun a => !here.any (sameArrival a)
    let cl1 := { cl with
      hold := cl.hold.filter fun a => !due a
      self_ := cl.self_.filter fun a => !due a
      expect := cl.expect.filter fun a => !(due a && here.any (sameArrival a))
      dueTo := step + 1 }
    let cl2 := missing.foldl Cluster.owe cl1
    let cl3 := here.foldl Cluster.writeRx cl2
    let cl4 := (here ++ missing).foldl Cluster.markDue cl3
    let s1 := s.setCl c (cl4.drainExit 33)
    if here.any fun a => parityOf 18 a.word != a.parity then s1.cluFault c CLU_ERR_RX_PE step 0 5 else s1

/-! ### Writing results (R112) -/

/-- One state entry of a row. -/
def rowPut (data e v : Nat) : Nat := splice data (2 * (e % 32)) 2 v

/-- A state entry of a half is written by read-modify-write of its row (R849): the first component says that the row held
an uncorrectable error, and nothing was written. -/
def State.writeState (s : State) (c half e v : Nat) : Bool × State :=
  let cl := s.cl c
  let old := cl.row half (e / 32)
  let put (data : Nat) : State :=
    s.setCl c { cl with rows := Sparse.put xRow cl.rows (half * 1024 + e / 32) (secEncode 7 64 (rowPut data e v)) }
  match secDecode 7 64 old with
  | .ok => (false, put (slice old 0 64))
  | .corrected d => (false, (put d).cluCorrected c CLU_ERR_SS_CE)
  | .uncorrectable => (true, s)

/-- The shadow value of an entry is written and its mark set (R99). -/
def State.writeShadow (s : State) (c e v : Nat) : Bool × State :=
  let r := s.writeState c (1 - (s.cl c).selBit e) e v
  if r.1 then r
  else (false, r.2.setCl c { r.2.cl c with marks := Sparse.put 0 (r.2.cl c).marks e 1 })

/-- One result is written (R112 to R114, R161, R171, R185); step is the cycle's step. -/
def State.writeResult (s : State) (c step : Nat) : Write → State
  | .net _ e v => s.setCl c { s.cl c with net := Sparse.put 3 (s.cl c).net e (netEntry v) }
  | .state _ e v =>
    let r := s.writeShadow c e v
    if r.1 then r.2.cluFault c CLU_ERR_SS_UE step 0 2 else r.2
  | .tx w v => s.setCl c { s.cl c with tx := Sparse.put 0x3FFFF (s.cl c).tx w v }
  | .probe _ latch v => s.setF ⟨CLU_PLATCH c, 2 * (latch % 16), 2⟩ v
  | _ => s

/-- The results of the last step issued are written. -/
def State.writeBack (s : State) (c step : Nat) : State :=
  let cl := s.cl c
  cl.wb.foldl (fun t w => t.writeResult c step w) (s.setCl c { cl with wb := [] })

/-- What net entries and transmit words held before the results of the last step issued (R235). -/
def Cluster.heldOf (cl : Cluster) (ws : List Write) : Cluster :=
  { cl with
    heldNet := ws.filterMap fun w => match w with | .net _ e _ => some (e, cl.netRaw e % 4) | _ => none
    heldTx := ws.filterMap fun w => match w with | .tx t _ => some (t, cl.txWord t) | _ => none }

/-- The cluster halts before the step it would next issue: the results of every step it has issued are written, and read
as new only from the second step on (R230, R235); a second halt before a step issues keeps what the first held. -/
def State.haltCluster (s : State) (c : Nat) : State :=
  let cl := s.cl c
  let kept := if cl.wb = [] then cl else cl.heldOf cl.wb
  let s1 := s.setCl c { kept with halt := false, budget := none, fresh := [], issued := 0, chk := [] }
  let s2 := s1.writeBack c (s.f (CLU_STATUS_STEP c))
  if s2.faulted c then s2 else (s2.setF (CLU_STATUS_STATE c) Clu.halted).checkHalted

/-! ### One processor's issue -/

/-- The net-store and RXB reads that the scoreboard checks (R400). -/
def chkReads (k : Nat) (i : Issue) : List (Nat × Nat × Nat) :=
  i.reads.filterMap fun r =>
    match r.2 with
    | .net e => some (k, 0, e)
    | .rx w _ => some (k, 1, w)
    | .rxWord w => some (k, 1, w)
    | _ => none

/-- The cycle is a stall cycle (R115). -/
def State.stall (s : State) (c : Nat) : State :=
  let cl := s.cl c
  (s.setCl c { cl with stalls := cl.stalls + 1, fresh := [], issued := 0, chk := [] }).setF (CLU_STATUS_STATE c)
    Clu.stalled

/-- An instruction names an OWED word (R115). -/
def Cluster.stalls? (cl : Cluster) (i : Issue) : Bool := i.reads.any fun r => cl.owes r.2

/-- What an issue's reads find: a check that fails, or rows corrected, positions outside their words and a write that the
bank rule suppresses (R89, R93, R97, R125, R126). -/
def Cluster.findings (cl : Cluster) (k : Nat) (i : Issue) : List Write :=
  match i.reads.findSome? fun r => cl.badRead r.2 with
  | some src => [.bad k src]
  | none =>
    ((i.reads.filterMap fun r => cl.fixRead r.2).eraseDups.map fun x => Write.fix x.1 x.2) ++
      (if i.reads.any fun r => outside r.1 r.2 then [.rxRange] else []) ++ (if i.violation then [.bankViol] else [])

/-- What an issue leaves to be done once every processor has issued: nothing of it acts in a stall cycle (R115, R153). -/
def State.commitIssue (s : State) (c k : Nat) (i : Issue) : State :=
  let cl := s.cl c
  s.setCl c { cl with
    fresh := cl.fresh ++ cl.findings k i ++ i.writes
    issued := putBit cl.issued k true
    chk := cl.chk ++ chkReads k i }

/-- What the reads of a step found acts in the cycle in which the step issues: corrections and flags, and then the fault
of the first processor whose read failed its check. -/
def State.actFindings (s : State) (c step : Nat) : State :=
  let ws := (s.cl c).fresh
  let s1 := (ws.filterMap fun w => match w with | .fix r d => some (r, d) | _ => none).eraseDups.foldl (fun t x => t.fixRow c x) s
  let s2 := if ws.contains .rxRange then s1.cluErr c CLU_ERR_RX_RANGE else s1
  let s3 := if ws.contains .bankViol then s2.cluErr c CLU_ERR_BANK_VIOL else s2
  match ws.findSome? fun w => match w with | .bad k src => some (k, src) | _ => none with
  | some (k, 3) => s3.cluFault c CLU_ERR_NS_PE step k 3
  | some (_, 4) => s3.cluFault c CLU_ERR_RX_PE step 0 4
  | some _ => s3.cluFault c CLU_ERR_SS_UE step 0 2
  | none => s3

/-- A cluster can issue a step: it is RUNNING or STALLED, its frame is not over and no halt has reached it. -/
def State.canIssue (s : State) (c : Nat) : Bool :=
  (s.cluState c == Clu.running || s.cluState c == Clu.stalled) && !(s.cl c).isOver && !(s.cl c).halt

/-- Processor k of cluster c issues an instruction in the step in progress. -/
def State.processor (s : State) (c k : Nat) (x : Casornol) : State :=
  if s.canIssue c && !bitOf (s.cl c).issued k then
    let step := s.f (CLU_STATUS_STEP c)
    let s1 := s.dueStep c step
    if s1.faulted c then s1
    else
      let i := s1.issue c k x
      if (s1.cl c).stalls? i then s1.stall c else s1.commitIssue c k i
  else s

/-- The instruction words of one step, by processor. -/
def Cluster.stepWords (cl : Cluster) (step : Nat) : List (Nat × Nat) :=
  (cl.imem.filter fun kv => kv.1 % 2048 == step).map fun kv => (kv.1 / 2048, kv.2)

/-- The data bits of an instruction word, corrected where it can be (R123, R125). -/
def wordData (w : Nat) : Nat :=
  match secDecode 7 90 w with
  | .corrected d => d
  | _ => slice w 0 90

/-- A fetched or scrubbed instruction word is checked (R112, R123, R125, R126). -/
def State.checkWord (s : State) (c step src : Nat) (x : Nat × Nat) : State :=
  if s.faulted c then s
  else
    match secDecode 7 90 x.2 with
    | .ok => s
    | .corrected d =>
      (s.setCl c { s.cl c with imem := Sparse.put 0 (s.cl c).imem (x.1 * 2048 + step) (secEncode 7 90 d) }).cluCorrected c
        CLU_ERR_IS_CE
    | .uncorrectable => s.cluFault c CLU_ERR_IS_UE step x.1 src

/-- The words of a step are fetched (R112). An error found here is recorded with the step of the word, which is one more
than the step that issues in the cycle (DESIGN CHOICE, log entry 41). -/
def State.fetchStep (s : State) (c step : Nat) : State :=
  ((s.cl c).stepWords step).foldl (fun t x => t.checkWord c step 1 x) s

/-! ### The end of a step -/

/-- A reply that the cluster itself supplies (R175, R180, R182, R328, R334), for a read that proceeds or for a suppressed
one. -/
def State.selfReply (s : State) (c step lat rxw word : Nat) (proceeds : Bool) : State :=
  let cl := s.cl c
  let l := max 1 s.frameLen
  let a := mkArrival ((if lat = 8 then 1026 else 1024) + ofBool proceeds) cl.frame (cl.frame + (step + lat) / l) ((step + lat) % l) rxw word
  s.setCl c { cl with self_ := cl.self_ ++ [a] }

/-- A cluster SRAM word is read (R328, R329); an uncorrectable one delivers 0x3FFFF. -/
def State.sramRead (s : State) (c a : Nat) : Nat × State :=
  let w := Sparse.get 0 (s.cl c).sram a
  match secDecode 5 18 w with
  | .ok => (slice w 0 18, s)
  | .corrected d =>
    (d, (s.setCl c { s.cl c with sram := Sparse.put 0 (s.cl c).sram a (secEncode 5 18 d) }).memErr c CLU_MEM_ERR_SR_CE)
  | .uncorrectable => (0x3FFFF, s.memErr c CLU_MEM_ERR_SR_UE)

/-- A design write to a cluster SRAM word marks its group of 28 words dirty while a checkpoint is armed (R604). -/
def State.dirtyGroup (s : State) (c a : Nat) : State :=
  if s.frd.ckpt.isSome then
    { s with frd := { s.frd with
      dirtySram := Sparse.put 0 s.frd.dirtySram (s.f (CLU_VMAP_VIRT_ID c) * 2048 + a / 28) 1 } }
  else s

/-- A cluster SRAM word is written with its check bits. -/
def State.sramWrite (s : State) (c a v : Nat) : State :=
  s.setCl c { s.cl c with sram := Sparse.put 0 (s.cl c).sram a (secEncode 5 18 v) }

/-- The cluster's entry of the memory route table for a step (R331, R335). -/
def State.mrtEntry (s : State) (c half step : Nat) : Nat := Sparse.get 0 (s.cl c).mrt (half * 2048 + step)

/-- The parts of an HBM request are queued for the issue of step + 2 (R331 to R333). -/
def State.sendParts (s : State) (c step ent : Nat) (words : List Nat) : State :=
  let cl := s.cl c
  let d := dieOf c
  let dir := slice ent 11 1
  let gen := s.stopGen d (stopIx (ringOf c) (posOf c))
  let dst := firstBridge (posOf c) dir
  let parts := words.zipIdx.map fun x =>
    (⟨step + 2, dir, slice ent 10 1, mkFlit 2 gen dst (slice ent 0 10 + x.2) (cl.frame % 4 * 2048 + step) x.1⟩ : MemPart)
  s.setCl c { cl with parts := cl.parts ++ parts }

/-- A MEM that proceeds through a cluster-SRAM port or a port of kind none (R173 to R179, R182, R321). -/
def State.memLocal (s : State) (c step : Nat) (kind port : Nat) (wr : Bool) (addr : Option Nat) (en : Bool)
    (data rxw : Nat) : State :=
  if kind = 0 then (if wr then s else s.selfReply c step 8 rxw 0x3FFFF true)
  else
    match addr with
    | none => if wr then s else s.selfReply c step 8 rxw 0x3FFFF true
    | some a =>
      let a1 := (s.f (CLU_MPD_TARGET c port) + a) % 32768
      if wr then (if en then (s.sramWrite c a1 data).dirtyGroup c a1 else s)
      else
        let r := s.sramRead c a1
        r.2.selfReply c step 8 rxw r.1 true

/-- A MEM that proceeds through an HBM port (R331 to R334). -/
def State.memHbm (s : State) (c step port : Nat) (wr : Bool) (addr : Option Nat) (en : Bool) (data rxw : Nat) : State :=
  let d := dieOf c
  let ent := s.mrtEntry c (s.stopHalf d (stopIx (ringOf c) (posOf c))) step
  let l := max 1 s.frameLen
  if !bitOf ent 31 then
    let s1 := s.memErr c CLU_MEM_ERR_MRT_MISS
    if wr then s1 else s1.selfReply c step 192 rxw 0x3FFFF true
  else if wr then
    let we := en && addr.isSome
    let s1 := if addr.isSome then s else s.takeFree
    let a := addr.getD (Config.freeWord s.free).toNat
    s1.sendParts c step ent [slice a 0 18, ofBool we * 16384 + slice a 18 14, if we then data else 0]
  else
    match addr with
    | none => s.selfReply c step 192 rxw 0x3FFFF true
    | some a =>
      let cl := s.cl c
      let s1 := s.setCl c { cl with
        expect := cl.expect ++ [⟨1025, cl.frame, cl.frame + (step + 192) / l, (step + 192) % l, rxw, 0, 0⟩] }
      s1.sendParts c step ent (if s.f (CLU_MPD_AW c port) ≤ 18 then [slice a 0 18] else [slice a 0 18, slice a 18 14])

/-- The processor of a memory access, if it is one of the kinds that a limit of R180 counts together. -/
def memProc (hbm : Bool) : Write → Option Nat
  | .mem k kind _ _ _ _ _ _ _ => if (kind == 2) == hbm then some k else none
  | _ => none

/-- The lowest processor of a list. -/
def lowest : List Nat → Option Nat
  | [] => none
  | k :: ks => some (ks.foldl min k)

/-- One memory access of a step takes effect; first is the lowest processor with one of its kind (R180, R181). -/
def State.memAccess (s : State) (c step : Nat) (first : Bool → Option Nat) : Write → State
  | .mem k kind port _ wr addr en data rxw =>
    if first (kind == 2) = some k then
      (if kind = 2 then s.memHbm c step port wr addr en data rxw else s.memLocal c step kind port wr addr en data rxw)
    else if wr then s
    else s.selfReply c step (if kind = 2 then 192 else 8) rxw 0x3FFFF false
  | _ => s

/-- A PROBE write that a lower processor's write to the same latch displaces (R186). -/
def probeLost (ws : List Write) : Write → Bool
  | .probe k l _ => ws.any fun w => match w with | .probe j m _ => m == l && Nat.blt j k | _ => false
  | _ => false

/-- The lowest processor with an instruction event of a code in a step's results (R180, R175, R182, R186, R189). The
field table names the lowest for the two CONFLICT codes alone; the model takes the lowest for every code (DESIGN CHOICE,
log entry 41). -/
def isaProc (ws : List Write) (first : Bool → Option Nat) (code : Nat) : Option Nat :=
  lowest (ws.filterMap fun w =>
    match w with
    | .isa n k => if n = code then some k else none
    | .mem k kind _ _ wr addr _ _ _ =>
      if code = 1 then (if first (kind == 2) = some k then none else some k)
      else if code = 2 then
        (if wr ∧ addr = none ∧ kind ≠ 0 then some k else none)
      else none
    | .probe k _ _ => if code = 4 ∧ probeLost ws w then some k else none
    | _ => none)

/-- The instruction events of a step, in rising order of code (R191). -/
def State.isaEvents (s : State) (c step : Nat) (ws : List Write) (first : Bool → Option Nat) : State :=
  [0, 1, 2, 3, 4].foldl (fun t code =>
    match isaProc ws first code with
    | none => t
    | some k => t.isaErr c code step k) s

/-- The windows that the WIN instructions of a step set (R103, R184). -/
def Cluster.setWindows (cl : Cluster) : Write → Cluster
  | .win k r l =>
    let cl1 := match r with
      | some v => { cl with rwin := Sparse.put 0 cl.rwin k v }
      | none => cl
    match l with
    | some v => { cl1 with lwin := Sparse.put 0 cl1.lwin k v }
    | none => cl1
  | _ => cl

/-- The scoreboard after the writes of a step (R400). -/
def Cluster.score (cl : Cluster) (step : Nat) : Write → Cluster
  | .net _ e _ => { cl with sbNet := Sparse.put 0 cl.sbNet e (step + 1) }
  | .tx w _ =>
    let old := Sparse.get (0, 0) cl.sbTx w
    { cl with sbTx := Sparse.put (0, 0) cl.sbTx w (if old.1 = 0 then step + 1 else old.1, step + 1) }
  | _ => cl

/-- The scoreboard detections of the reads of a step: processor, code and index (R400). -/
def Cluster.detectReads (old new : Cluster) (step : Nat) : List (Nat × Nat × Nat) :=
  new.chk.filterMap fun r =>
    let e := r.2.2
    if r.2.1 = 0 then
      let latest := Sparse.get 0 new.sbNet e
      if latest ≠ 0 ∧ step ≤ latest then some (r.1, 0, e)
      else if Sparse.get 0 old.sbNet e = 0 then some (r.1, 1, e)
      else none
    else if Sparse.get 0 new.sbRx e = 0 then some (r.1, 2, e) else none

/-- The scoreboard detections of the transmit words that a step sends (R400). -/
def Cluster.detectSends (new : Cluster) (step : Nat) (words : List Nat) : List (Nat × Nat × Nat) :=
  (words.map fun w =>
    let x := Sparse.get (0, 0) new.sbTx w
    (if x.1 = 0 ∨ step ≤ x.1 then [(w / 2, 3, w)] else []) ++ (if x.2 ≠ 0 ∧ step ≤ x.2 then [(w / 2, 4, w)] else [])).flatten

/-- Detections in the order of R401: the lowest processor, then the lowest bit number. -/
def orderDetections (l : List (Nat × Nat × Nat)) : List (Nat × Nat × Nat) :=
  ((List.range 64).map fun k => ((List.range 5).map fun b => l.filter fun x => x.1 == k && x.2.1 == b).flatten).flatten

/-- The entries of the transmit table that a step uses (R256). -/
def State.txEntries (s : State) (c step : Nat) : List (Nat × Nat) :=
  let d := dieOf c
  let stop := stopIx (ringOf c) (posOf c)
  (s.validEntries d stop (s.stopHalf d stop) 0).filter fun e => slice e.2 0 11 == step

/-- The SCHED flit of a transmit-table entry joins its queue (R171, R256, R258). -/
def State.sendEntry (s : State) (c step : Nat) (e : Nat) : State :=
  let cl := s.cl c
  let d := dieOf c
  let w := slice e 11 7
  let v := ((cl.heldTx.find? fun h => h.1 == w).map (·.2)).getD (cl.txWord w)
  let flit := mkFlit 1 (s.stopGen d (stopIx (ringOf c) (posOf c))) (slice e 20 6) (entryTag e)
    (cl.frame % 4 * 2048 + step) v
  s.injectFlit d (ringOf c) (posOf c) (slice e 18 1) flit (slice e 19 1)

/-- The memory parts that a test names join their queues (R331). -/
def State.sendMemParts (s : State) (c : Nat) (now : MemPart → Bool) : State :=
  let cl := s.cl c
  (cl.parts.filter now).foldl (fun t p => t.injectFlit (dieOf c) (ringOf c) (posOf c) p.dir p.flit p.ph)
    (s.setCl c { cl with parts := cl.parts.filter fun p => !now p })

/-- Numbered breakpoints raised in a step; the first component says that one acts as STEP (R188, R230, R402). -/
def State.raiseAll (s : State) (c step : Nat) (l : List (Nat × Nat)) : Bool × State :=
  l.foldl (fun r x => let t := r.2.raiseBreak c x.1 step x.2; (r.1 || t.1, t.2)) (false, s)

/-- Results that are written at the end of the next cycle. -/
def isResult : Write → Bool
  | .net .. | .state .. | .tx .. | .probe .. => true
  | _ => false

/-- The step counter passes a step, or the frame is over (R90). -/
def State.advance (s : State) (c step : Nat) : State :=
  let cl := s.cl c
  if step + 1 < s.frameLen then
    (s.setF (CLU_STATUS_STEP c) (step + 1)).setCl c { cl with
      budget := cl.budget.map (· - 1)
      halt := cl.halt || cl.budget == some 1 }
  else s.setCl c { cl with isOver := true }

/-- What a step does once every processor has issued: flits, memory, events, scoreboard, breakpoints, the results of the
step before, windows, the fetch of the next step. -/
def State.endStep (s : State) (c step : Nat) : State :=
  let ws := (s.cl c).fresh
  let ents := s.txEntries c step
  let s1 := ents.foldl (fun t e => t.sendEntry c step e.2) s
  let s2 := s1.sendMemParts c fun p => p.at_ == step
  let first := fun hbm => lowest (ws.filterMap (memProc hbm))
  let s3 := ws.foldl (fun t w => t.memAccess c step first w) s2
  let s4 := s3.isaEvents c step ws first
  let old := s4.cl c
  let new := ws.foldl (fun cl w => cl.score step w) old
  let found := if s4.flag DEV_MODE_CHECK_ACT then
      orderDetections (old.detectReads new step ++ new.detectSends step (ents.map fun e => slice e.2 11 7)) else []
  let s5 := found.foldl (fun t x => t.chkErr c x.2.1 step x.1 x.2.2) s4
  let brks := ws.filterMap fun w => match w with | .brk k n => some (k, n) | _ => none
  let chks := if s5.flag (CLU_CHK_CTRL_BRK_EN c) then found.map fun x => (x.1, s5.f (CLU_CHK_CTRL_BRK_NUM c)) else []
  let r := s5.raiseAll c step (brks ++ chks)
  let s6 := r.2.writeBack c step
  if s6.faulted c then s6
  else
    let kept := if s6.flag DEV_MODE_CHECK_ACT then ws.foldl (fun cl w => cl.score step w) (s6.cl c) else s6.cl c
    let win := ws.foldl Cluster.setWindows kept
    let s7 := (s6.setCl c { win with
      fresh := []
      issued := 0
      chk := []
      heldNet := []
      heldTx := []
      wb := (ws.filter isResult).filter fun w => !probeLost ws w }).setF (CLU_STATUS_STATE c) Clu.running
    let s8 := if step + 1 < s7.frameLen then s7.fetchStep c (step + 1) else s7
    if s8.faulted c then s8
    else
      let s9 := s8.advance c step
      if r.1 ∧ step + 1 < s9.frameLen then s9.haltCluster c else s9

/-- The cycle after the last step (R114): its results are written and the cluster waits in BARRIER. -/
def State.finishFrame (s : State) (c : Nat) : State :=
  let s1 := s.sendMemParts c fun _ => true
  let s2 := s1.writeBack c (s.f (CLU_STATUS_STEP c))
  if s2.faulted c then s2
  else
    let s3 := s2.setCl c { s2.cl c with halt := false, budget := none }
    (s3.setF (CLU_STATUS_STATE c) Clu.barrier).checkHalted

/-- Processors that have not issued issue the words of the step (R90), unless one of them stalls the cluster. -/
def State.issueStep (s : State) (c step : Nat) : State :=
  let cl := s.cl c
  let todo := ((cl.stepWords step).filter fun x => !bitOf cl.issued x.1).map fun x =>
    (x.1, s.issue c x.1 (Casornol.ofWord (wordData x.2)))
  if todo.any fun x => cl.stalls? x.2 then s.stall c
  else
    let s1 := (todo.foldl (fun t x => t.commitIssue c x.1 x.2) s).actFindings c step
    if s1.faulted c then s1 else s1.endStep c step

/-- One cycle of a cluster's step clock (R90, R112 to R115). -/
def State.cycle (s : State) (c : Nat) : State :=
  let cl := s.cl c
  if s.cluState c ≠ Clu.running ∧ s.cluState c ≠ Clu.stalled then s
  else if cl.isOver then s.finishFrame c
  else if cl.halt then s.haltCluster c
  else
    let step := s.f (CLU_STATUS_STEP c)
    let s1 := s.dueStep c step
    if s1.faulted c then s1 else s1.issueStep c step

end Sys2Proof.Machine
end

