-- ==== Sys2Proof/Machine/FabOps.lean ====
section
/-! DEFINITION. The shared operations of the port interface of the fabric (13_interface_fabric): the tables of the hub,
publication, and the latching and sending of input words. -/

namespace Sys2Proof.Machine

open Reg

/-- The port interface replaced. -/
def State.setFab (s : State) (x : Fabric) : State := { s with fab := x }

/-- Valid entries of the output tables, by die × 1,024 + entry, with their word (R633). -/
def State.outEntries (s : State) : List (Nat × Nat) :=
  (s.fab.out.filter fun kv => bitOf kv.2 31).map fun kv => (kv.1, slice kv.2 0 12)

/-- The lowest valid output entry that holds no arrival of a frame (R634). -/
def State.outMissing (s : State) (frame : Nat) : Option Nat :=
  (s.outEntries.find? fun e => Sparse.get 0 s.fab.got (e.1 * 4 + frame % 4) == 0).map (·.1)

/-- The output port words as the publication of a frame leaves them (R592, R633, R634): an entry of a higher die and
number overrides a lower one. -/
def State.formWords (s : State) (frame : Nat) : Sparse Nat :=
  s.outEntries.foldl (fun m e =>
    match Sparse.get 0 s.fab.got (e.1 * 4 + frame % 4) with
    | 0 => m
    | v + 1 => Sparse.put 0 m e.2 v) s.fab.pub

/-- The staged values of a frame are discarded (R638) or have been published. -/
def State.dropStaged (s : State) (frame : Nat) : State :=
  s.setFab { s.fab with got := Sparse.keep (fun k => k % 4 != frame % 4) s.fab.got }

/-- Publication of a frame (R51, R583, R634, R636, R637): in the SOLO and PRIMARY roles the words leave their park
values. -/
def State.publish (s : State) (frame : Nat) : State :=
  let s1 := (s.setFab { s.fab with pub := s.formWords frame }).dropStaged frame
  if s.f DEV_MODE_ROLE ≤ 1 ∧ s.frd.pubFrom ≤ frame then
    ((s1.setFab { s1.fab with pubAt := s1.hub, outPend := 0xFFFF }).setF FAB_STATUS_PARKED 0).set64 FAB_PUB frame
  else s1

/-- Every output word takes its park value at the next edge of its clock (R637). -/
def State.parkOutputs (s : State) : State :=
  (s.setFab { s.fab with pubAt := s.hub, outPend := 0xFFFF }).setF FAB_STATUS_PARKED 1

/-- The value of an input word registered at the last edge at least 3 hub cycles ago (R630). -/
def registered (hub : Nat) (l : List (Nat × Nat)) : Nat := ((l.find? fun x => Nat.ble (x.1 + 3) hub).map (·.2)).getD 0

/-- The input port words that the placed program reads, in rising order: the WORD of every valid entry of the input send
tables (R631). -/
def State.inputWords (s : State) : List Nat :=
  ((s.fab.send.filter fun kv => bitOf kv.2 31).foldl (fun m kv => Sparse.put 0 m (slice kv.2 0 12) 1)
    ([] : Sparse Nat)).map (·.1)

/-- The input words are latched at a release (R205, R630): the fabric's own, or those that Ford supplies. -/
def State.latchInputs (s : State) (own : Option (List Nat)) : State :=
  let words : Sparse Nat :=
    match own with
    | some ws => Sparse.putAll 0 [] (s.inputWords.zip ws)
    | none => s.fab.inputs.foldl (fun m kv => Sparse.put 0 m kv.1 (registered s.hub kv.2)) []
  s.setFab { s.fab with latched := words, inPend := 0xFFFF }

/-- The frame inputs, as an INPUT message carries them (R583, R597). -/
def State.frameInputs (s : State) : List Nat :=
  (List.range (s.f FRD_NIN_NIN)).map fun i =>
    match s.inputWords[i]? with
    | some w => Sparse.get 0 s.fab.latched w
    | none => 0

/-- From a release, the hub sends the input words of a die into port 18 (R631). -/
def State.sendInputs (s : State) (frame d : Nat) : State :=
  if s.domainOn (32 + d) then
    ((s.fab.send.filter fun kv => bitOf kv.2 31 && kv.1 / 1024 == d)).foldl (fun t kv =>
      t.pushExit d 594 (mkFlit 1 (t.f (MLR_GEN_STATUS_ACTIVE_GEN d)) 0 (kv.1 % 1024) (frame % 4 * 2048)
        (Sparse.get 0 t.fab.latched (slice kv.2 0 12)))) s
  else s

end Sys2Proof.Machine
end

