-- ==== Sys2Proof/Machine/FordOps.lean ====
section
/-! DEFINITION. The shared operations of Ford (12_ford_twin): roles, digests, the gate of a release, and the journal. -/

namespace Sys2Proof.Machine

open Reg

/-- Ford replaced. -/
def State.setFrd (s : State) (x : Ford) : State := { s with frd := x }

/-- A bit of FRD_ERR. -/
def State.frdErr (s : State) (F : Fld) : State :=
  let new := !s.flag F && (F == FRD_ERR_MISMATCH || F == FRD_ERR_DTO)
  let s1 := s.raise F 10 0 0 0
  if new then s1.fire 24 else s1

/-- The role changes, and DEV_MODE.ROLE mirrors it; a device that drives no outputs parks them (R583, R637). -/
def State.setRole (s : State) (r : Nat) : State :=
  let s1 := (s.setF DEV_MODE_ROLE r).setF FRD_STATUS_ROLE r
  let s2 := if 2 ≤ r ∧ s.role ≤ 1 then s1.parkOutputs else s1
  if r = s.role then s2 else s2.fire 24

/-- FRD_STATUS.CKPT changes: FORD fires (table of Ostler events). -/
def State.setCkpt (s : State) (n : Nat) : State :=
  if s.f FRD_STATUS_CKPT = n then s else (s.setF FRD_STATUS_CKPT n).fire 24

/-! ### Digests (R590 to R594) -/

/-- A 64-bit number rotated left. -/
def rotl64 (n k : Nat) : Nat := n * 2 ^ k % 2 ^ 64 + n % 2 ^ 64 / 2 ^ (64 - k)

/-- The function H of R590. -/
def mix64 (x : Nat) : Nat :=
  let a := x ^^^ x / 2 ^ 33
  let b := a * 0xFF51AFD7ED558CCD % 2 ^ 64
  let c := b ^^^ b / 2 ^ 33
  let d := c * 0xC4CEB9FE1A85EC53 % 2 ^ 64
  d ^^^ d / 2 ^ 33

/-- The contribution of a cluster at its last commit (R590). -/
def State.contribution (s : State) (c : Nat) : Nat :=
  let cl := s.cl c
  let v := s.f (CLU_VMAP_VIRT_ID c)
  cl.record.foldl (fun acc e => acc ^^^ mix64 (v * 131072 + e * 4 + cl.stateValue (cl.selBit e) e)) 0

/-- The CRC-64 over every output port word, as 3 bytes each, little-endian (R592). -/
def crcWords (pub : Sparse Nat) : Nat :=
  let bits := (List.range 4096).map fun w =>
    let v := Sparse.get 0 pub w
    bitsMSB 8 (v % 256) ++ bitsMSB 8 (v / 256 % 256) ++ bitsMSB 8 (v / 65536 % 256)
  (bits.flatten.foldl (crcBit 64 0x42F0E1EBA9EA3693) (2 ^ 64 - 1)) ^^^ (2 ^ 64 - 1)

/-- The digests of both devices are forgotten: FRAME_NO is set anew, and frame numbers no longer name the frames they were
of. -/
def State.forgetDigests (s : State) : State := s.setFrd { s.frd with digests := [], peer := [] }

/-- The digest of a frame that a list holds. -/
def digestOf (l : List (Nat × Nat)) (frame : Nat) : Option Nat := (l.find? fun x => x.1 == frame).map (·.2)

/-- A digest difference (R594). -/
def State.digestMismatch (s : State) (frame : Nat) : State :=
  let s1 := if s.flag FRD_ERR_MISMATCH then s else s.set64 FRD_MIS_FRAME frame
  (s1.frdErr FRD_ERR_MISMATCH).setFrd { (s1.frdErr FRD_ERR_MISMATCH).frd with mismatch := true }

/-- Both digests of a frame are compared when both are held: the first component says that they differ (R594). -/
def State.digestsDiffer (s : State) (frame : Nat) : Bool :=
  match digestOf s.frd.digests frame, digestOf s.frd.peer frame with
  | some a, some b => a != b
  | _, _ => false

/-! ### The journal (R601, R602) -/

/-- Bytes written round a ring of len bytes in the carve-out, from a stream offset. -/
def State.ringWrite (s : State) (base len : Nat) : Nat → List Byte → State
  | _, [] => s
  | o, b :: bs => State.ringWrite (s.carveWrite (base + o % len) [b]) base len (o + 1) bs

/-- Bytes read round the ring. -/
def State.ringRead (s : State) (base len o : Nat) : Nat → List Byte
  | 0 => []
  | n + 1 => s.carveRead (base + o % len) 1 ++ s.ringRead base len (o + 1) n

/-- The first frame whose records must not be overwritten: one that the partner has not consumed, after the checkpoint
(R602). -/
def State.journalGuard (s : State) : Option Nat :=
  match s.frd.stream, s.frd.ckpt with
  | some n, _ => some (n / 2)
  | none, some c => some (c + 1)
  | none, none => none

/-- Bytes are appended to the journal (R601, R602): the first component says that they would overwrite a record that the
partner has still to consume, and nothing is written. -/
def State.journalWrite (s : State) (bytes : List Byte) : Bool × State :=
  let len := s.f64 FRD_JNL_LEN
  if len = 0 then (false, s)
  else
    let tail := s.frd.tail + bytes.length
    let lost := s.frd.entries.filter fun e => Nat.blt (e.start + len) tail
    let guarded := match s.journalGuard with
      | none => false
      | some n => lost.any fun e => Nat.ble n e.frame
    if guarded then (true, s)
    else
      let kept := s.frd.entries.filter fun e => !Nat.blt (e.start + len) tail
      let s1 := (s.ringWrite (s.f64 FRD_JNL_BASE) len s.frd.tail bytes).setFrd { s.frd with tail := tail, entries := kept }
      let s2 := if lost ≠ [] then s1.setF FRD_STATUS_JNL_WRAP 1 else s1
      (false, match kept with
        | [] => s2
        | e :: _ => s2.set64 FRD_JNL_OLD e.frame)

/-- A journal entry of a frame begins with its INPUT. -/
def State.journalInput (s : State) (frame : Nat) : Bool × State :=
  let bytes := inputMessage frame s.frd.joinNext s.frameInputs
  let r := s.journalWrite bytes
  if r.1 then r
  else
    let e : JournalEntry := ⟨frame, s.frd.tail, bytes.length⟩
    (false, (r.2.setFrd { r.2.frd with entries := r.2.frd.entries ++ [e] }).set64 FRD_JNL_OLD
      ((r.2.frd.entries.head?.map (·.frame)).getD frame))

/-- The DIGEST of a frame ends its journal entry. -/
def State.journalDigest (s : State) (frame dig ssig : Nat) : Bool × State :=
  let bytes := digestMessage frame false dig ssig
  let r := s.journalWrite bytes
  if r.1 then r
  else
    (false, r.2.setFrd { r.2.frd with
      entries := r.2.frd.entries.map fun e => if e.frame = frame then { e with len := e.len + bytes.length } else e })

/-- The roles that journal (table of role duties, R601): a PRIMARY always, a SOLO device while JNL_EN = 1. -/
def State.journals (s : State) : Bool := s.role == 1 || (s.role == 0 && s.flag FRD_CFG_JNL_EN)

/-- The survivor's stream sends what it holds of the journal, in FRAME_NO order (R608): an INPUT, then its DIGEST. -/
def State.streamFeed (s : State) : Nat → State
  | 0 => s
  | fuel + 1 =>
    match s.frd.stream with
    | none => s
    | some n =>
      match s.frd.entries.find? fun e => e.frame == n / 2 with
      | none => s
      | some e =>
        let inLen := (inputMessage e.frame false s.frameInputs).length
        let part := if n % 2 = 0 then s.ringRead (s.f64 FRD_JNL_BASE) (max 1 (s.f64 FRD_JNL_LEN)) e.start inLen
          else s.ringRead (s.f64 FRD_JNL_BASE) (max 1 (s.f64 FRD_JNL_LEN)) (e.start + inLen) 32
        if n % 2 = 0 ∨ inLen < e.len then
          State.streamFeed ((s.fordSend part).setFrd { (s.fordSend part).frd with stream := some (n + 1) }) fuel
        else s

/-! ### The fold (R591 to R593) -/

/-- SSIG, OUT and DIGEST of a frame, over the words as its publication leaves them. -/
def State.foldFrame (s : State) (frame : Nat) : State :=
  let f := s.mapped.foldl (fun acc c => acc ^^^ s.contribution c) 0
  let ssig := rotl64 (s.f64 FRD_SSIG) 1 ^^^ f
  let dig := crcWords (s.formWords frame) ^^^ rotl64 ssig 32
  let s1 := ((s.set64 FRD_SSIG ssig).set64 FRD_DIG dig).set64 FRD_PDIG ((digestOf s.frd.peer frame).getD 0)
  s1.setFrd { s1.frd with digests := ((frame, dig) :: s1.frd.digests).take 16 }

/-! ### The gate of a release (R595, R596, R609) -/

/-- Ford lets the release of frame n go. -/
def State.gateOpen (s : State) (n : Nat) : Bool :=
  match s.role with
  | 0 => true
  | 1 =>
    let w := s.f FRD_CFG_WINDOW
    Nat.ble n (s.frd.gateFrom + w + 1) || (digestOf s.frd.peer (n - w - 1)).isSome
  | _ => s.frd.inputs.any fun i => i.frame == n

end Sys2Proof.Machine
end

