-- ==== Sys2Proof/Machine/FrameOps.lean ====
section
/-! DEFINITION. The release of a frame, its abandonment, the change between the modes that run frames, and what follows a
barrier completion (04_frames_and_elasticity, 01_architecture R70 to R81, 12_ford_twin). -/

namespace Sys2Proof.Machine

open Reg

/-! ### The schedule of TIMED (R218 to R225) -/

/-- TSTART in units of 2^-40 ns. -/
def State.schedStart (s : State) : Nat := s.f64 SEQ_TSTART_SEC * secUnit + s.f SEQ_TSTART_NS_NS * nsUnit

/-- The period P in units of 2^-40 ns. -/
def State.schedPeriod (s : State) : Nat := (s.f SEQ_TPER_NS_NS * 262144 + s.f SEQ_TPER_FRAC_FRAC) * 4194304

/-- A schedule is set (R219). -/
def State.schedSet (s : State) : Bool := s.flag SEQ_TSTART_NS_SET && s.schedPeriod != 0

/-- The time at which the release for T_k is issued, T_k − TLEAD, in units of 2^-40 ps (R221). -/
def State.releaseAt (s : State) (k : Nat) : Int :=
  ((s.schedStart + k * s.schedPeriod) * 1000 : Nat) - (s.f SEQ_TLEAD_LEAD_PS * nsUnit : Nat)

/-- The time value in units of 2^-40 ps. -/
def State.psNow (s : State) : Int := (s.tmk.time * 1000 : Nat)

/-- The first k, no less than k0, with T_k − TLEAD later than now (R220, R223). -/
def State.nextInstant (s : State) (k0 : Nat) : Nat :=
  let d := s.psNow - s.releaseAt k0
  if d < 0 then k0 else k0 + (d / (max 1 s.schedPeriod * 1000 : Nat)).toNat + 1

/-! ### Abandonment (R71, R101, R216, R217, R638) -/

/-- An OWED word becomes EMPTY. -/
def keepRx (kv : Nat × RxWord) : Bool := kv.2.state != 2

/-- A cluster's part of an abandoned frame is undone. -/
def Cluster.abandon (cl : Cluster) (frame : Nat) : Cluster :=
  let back := if cl.committed ∧ cl.frame = frame then cl.record else []
  { cl with
    marks := [], record := [], sel := back.foldl (fun m e => Sparse.put 0 m e (1 - cl.selBit e)) cl.sel
    hold := [], self_ := [], exit := [], owed := [], expect := [], ghost := cl.ghost ++ cl.expect.map fun a => { a with word := ofBool (Nat.blt a.issued frame) }
    rxb := cl.rxb.filter keepRx
    fresh := [], issued := 0, chk := [], wb := [], heldNet := [], heldTx := [], dueTo := 0, isOver := false
    frame := frame - 1, committed := true, marked := true, budget := none, halt := false, parts := [] }

/-- An arrival that is discarded was issued by a committed frame (R217); a reply still in flight is judged when it
arrives. -/
def Cluster.loses (cl : Cluster) (frame : Nat) : Bool :=
  (cl.hold ++ cl.self_ ++ cl.exit.map (·.2) ++ cl.owed).any fun a => Nat.blt a.issued frame

/-- A cluster leaves the frame: READY, unless it has faulted or is in reset. -/
def State.leaveFrame (s : State) (c : Nat) : State :=
  if s.cluState c = 0 ∨ s.cluState c = Clu.fault then s else s.setF (CLU_STATUS_STATE c) Clu.ready

/-- A flit that its cluster would discard (R216): a value or a memory reply. -/
def isReply (f : Nat) : Bool := flitType f == 1 || flitType f == 3

/-- Values and replies in flight in a die are discarded when they reach their cluster (R216). -/
def Millrace.dropReplies (m : Millrace) : Millrace :=
  { m with
    link := (m.link.map fun kv => (kv.1, kv.2.filter fun f => !isReply f)).filter fun kv => !kv.2.isEmpty
    inj := (m.inj.map fun kv => (kv.1, kv.2.filter fun f => !isReply f.1)).filter fun kv => !kv.2.isEmpty
    cross := (m.cross.map fun kv => (kv.1, kv.2.filter fun f => !isReply f.flit)).filter fun kv => !kv.2.isEmpty
    inbound := (m.inbound.map fun kv => (kv.1, kv.2.filter fun f => !isReply f.flit)).filter fun kv => !kv.2.isEmpty
    exits := (m.exits.map fun kv => (kv.1, kv.2.filter fun f => !isReply f)).filter fun kv => !kv.2.isEmpty
    again := (m.again.map fun kv => (kv.1, kv.2.filter fun f => !isReply f)).filter fun kv => !kv.2.isEmpty
    seen := [], forwarded := [] }

/-- The same in every die. -/
def dropAllReplies (m : Sparse Millrace) : Sparse Millrace :=
  (m.map fun kv => (kv.1, kv.2.dropReplies)).filter fun kv => !decide (kv.2 = Millrace.reset)

/-- Values received on a lane that wait for a release are discarded with the frame (R216). -/
def dropRx (kv : Nat × Lane) : Nat × Lane := (kv.1, { kv.2 with q := { kv.2.q with rx := [] } })

/-- The frame in progress is abandoned (R71): FRAME_NO is again that of the last committed frame. -/
def State.abandon (s : State) : State :=
  let n := s.frameNo
  let cs := s.mapped
  let lost := cs.any fun c => (s.cl c).loses n
  let s1 := cs.foldl (fun t c => t.setCl c ((t.cl c).abandon n)) s
  let s2 := { s1 with
    mlr := dropAllReplies s1.mlr, lanes := (s1.lanes.map dropRx).filter fun kv => !decide (kv.2 = Lane.reset) }
  let s3 := ((s2.set64 SEQ_FRAME_NO (n - 1)).dropStaged n).acqAbandon n
  let s4 := s3.setSeq { s3.seq with inFrame := false, lanesIn := [], ends := s3.seq.ends.filter fun x => x.frame != n }
  if lost then s4.setF SEQ_STATUS_XFRAME_LOST 1 else s4

/-- The device leaves the modes that run frames (R70, R71, R72): a frame in progress is abandoned. -/
def State.toIdle (s : State) (path : Nat) : State :=
  let s1 := if s.seq.inFrame then s.abandon else s
  let s2 := (s1.mapped.foldl State.leaveFrame s1).timerStop
  let s3 := s2.stepEnd
  let s4 := s3.setSeq { s3.seq with
    inFrame := false, first := true, waitK := none, frameK := none, halted := false, atEdge := false, brkFrame := false
    marks := [], dies := 0, haltSent := false, late := false }
  let s5 := s4.setFrd { s4.frd with due := false, gate := none, pace := none, mismatch := false }
  ((s5.setF SEQ_STATUS_PHASE Phase.stopped).noPending).setMode Mode.idle path

/-! ### Mode changes of frames -/

/-- Clusters that are READY stand halted before step 0 (transition table, IDLE to STEP). -/
def State.haltReady (s : State) : State :=
  s.mapped.foldl (fun t c => if t.cluState c = Clu.ready then t.setF (CLU_STATUS_STATE c) Clu.halted else t) s

/-- CHECK_ACT takes a value of CHECK on a request to enter RUN or STEP (R75). -/
def State.setCheck (s : State) (m : Nat) (check : Bool) : State :=
  if m = Mode.run ∨ m = Mode.step then s.setCheckAct (ofBool check) else s

/-! ### Release (R205, R280, R292, R597, R601) -/

/-- The armed generation switch of a die takes place at the first release at or after its frame (R292). -/
def State.switchAt (s : State) (n d : Nat) : State :=
  if s.flag (MLR_GEN_STATUS_ARMED d) ∧ s.f64 (MLR_GEN_FRAME d) ≤ n then s.swapTables d true else s

/-- SEQ_FRAME_TIME at a release (R205). -/
def State.countPeriod (s : State) : State :=
  match s.seq.first, s.seq.lastRel with
  | false, some t =>
    let ns := min ((s.tmk.steered - t) / nsUnit) 65535
    (s.setF SEQ_FRAME_TIME_LAST_NS ns).setF SEQ_FRAME_TIME_MAX_NS (max ns (s.f SEQ_FRAME_TIME_MAX_NS))
  | _, _ => s

/-- A catch-up fails on the survivor (R612): it stays SOLO and overwrites its journal again. -/
def State.survivorFail (s : State) : State :=
  (s.setFrd { s.frd with catchup := false, stream := none, ckpt := none, final := false, dirtyHbm := [], dirtySram := [] }).setCkpt 4

/-- Ford's part of a release of frame n (R597, R601, R611). -/
def State.fordRelease (s : State) (n : Nat) : State :=
  let s1 := s.setFrd { s.frd with
    gate := none, due := false, pace := none, inputs := s.frd.inputs.filter fun i => i.frame != n }
  let s2 :=
    if s1.journals then
      let r := s1.journalInput n
      if r.1 then s1.survivorFail else r.2.streamFeed 2
    else s1
  if s.role = 1 then (s2.fordSend (inputMessage n s.frd.joinNext s2.frameInputs)).setFrd
      { (s2.fordSend (inputMessage n s.frd.joinNext s2.frameInputs)).frd with joinNext := false }
  else s2

/-- A mode change that the primary carries to its shadow (R78, R596). -/
def State.followMode (s : State) (target : Nat) (check : Bool) : State :=
  if target = s.mode then s.setCheck target check
  else if target = Mode.idle then s.toIdle 0
  else
    let s1 := if s.mode = Mode.idle ∧ target = Mode.step then s.haltReady else s
    let s2 := (s1.setMode target 0).setCheck target check
    let s3 := s2.setSeq { s2.seq with first := true }
    if s3.seq.halted ∧ target ≠ Mode.step then s3.resume else s3

/-- A CATCHUP device takes the SHADOW role at the release of a frame whose INPUT carries JOIN, and follows the mode its
primary is in from that frame (R81, R611). -/
def State.joinShadow (s : State) (n : Nat) : State :=
  if s.role = 3 ∧ s.frd.inputs.any (fun i => i.frame == n && i.join) then
    let s1 := s.setRole 2
    let s2 := s1.setFrd { s1.frd with modes := s1.frd.modes.filter fun m => Nat.ble n m.1 }
    (s.frd.modes.filter fun m => Nat.blt m.1 n).foldl (fun t m => t.followMode m.2.1 m.2.2) s2
  else s

/-- The lateness of a release that follows a late frame (R225). -/
def State.countLate (s : State) : State :=
  match s.seq.late, s.seq.waitK with
  | true, some k =>
    let late := min ((s.psNow - s.releaseAt k).toNat / nsUnit) 0xFFFFFFFF
    s.setNat SEQ_LATE_MAX (max late (s.reg SEQ_LATE_MAX).toNat)
  | _, _ => s

/-- The release of frame n reaches a die: the armed switch takes place, the RELEASE markers leave the bridge stops with SW when
it does, and the acknowledgements of the frame are still to come (R280, R292, R340). -/
def State.releaseDie (s : State) (n d : Nat) : State :=
  let sw := s.flag (MLR_GEN_STATUS_ARMED d) && Nat.ble (s.f64 (MLR_GEN_FRAME d)) n
  let s1 := s.switchAt n d
  let s2 := { s1.setDie d { s1.die d with release := [] } with
    seq := { s1.seq with acked := Sparse.put 0 s1.seq.acked (d * 4 + n % 4) 0 } }
  if s2.domainOn (32 + d) then s2.broadcastDie d 1 n sw else s2

/-- The release of the next frame is issued (R205): its markers then travel to the stops. -/
def State.releaseNow (s : State) : State :=
  let n := s.frameNo + 1
  let own := if 2 ≤ s.role then (s.frd.inputs.find? fun i => i.frame == n).map (·.words) else none
  let s1 := ((s.countPeriod).set64 SEQ_FRAME_NO n).latchInputs own
  let s2 := s1.timerStart
  let s3 := (s2.setSeq { s2.seq with
    inFrame := true, lastRel := some s.tmk.steered, marks := [], dies := 0, local_ := false, published := false,
    frameK := s.seq.waitK, waitK := none, halted := false, atEdge := false,
    brkFrame := false, haltSent := false, late := false }).setF SEQ_STATUS_PHASE Phase.evaluating
  let s4 := [0, 1, 2, 3].foldl (fun t d => t.releaseDie n d) s3
  ([0, 1, 2, 3].foldl (fun t d => t.sendInputs n d) s4).fordRelease n

/-- The release of the next frame: a halted shadow resumes, and one that has caught up takes its role first. -/
def State.release (s : State) : State :=
  let s1 := if s.seq.halted then s.resume else s
  ((s1.joinShadow (s.frameNo + 1)).countLate).releaseNow

/-- A release that is due is issued unless Ford, the checkpoint or the pacing gap holds it back (R595, R596, R605,
R610). -/
def State.tryRelease (s : State) : State :=
  if !s.frd.due || s.frd.final || s.frd.frozen || s.frd.pace.isSome then s
  else if s.gateOpen (s.frameNo + 1) then s.release
  else if s.frd.gate.isSome then s
  else s.setFrd { s.frd with gate := some (if s.frd.peerHalted then 0 else s.tmk.steered) }

/-- A release is due (R204): a survivor that paces its CATCHUP partner in RUN waits for the gap (R610). -/
def State.dueRelease (s : State) : State :=
  let pace := s.role == 0 && s.frd.catchup && s.mode == Mode.run
  (s.setFrd { s.frd with due := true, pace := if pace then some s.tmk.steered else none }).tryRelease

/-! ### Starting a cluster's frame (R102, R135, R200, R205) -/

/-- The slowdown level of a cluster's ring (R795). -/
def State.ringLevel (s : State) (c : Nat) : Nat :=
  let i := dieOf c * 8 + ringOf c
  slice (s.reg (PWR_SLOW (i / 8))).toNat (4 * (i % 8)) 4

/-- A word of the receive buffer at a release: keys compare only within one frame. -/
def freshKey (kv : Nat × RxWord) : Nat × RxWord := (kv.1, { kv.2 with key := (0, 0, 0) })

/-- A RELEASE marker reaches a mapped cluster: its frame starts at step 0, with word 0 checked (R102, R112, R135,
R206). -/
def State.startFrame (s : State) (c : Nat) : State :=
  let cl := s.cl c
  let s1 := s.setCl c { cl with
    rwin := [], lwin := [], fresh := [], issued := 0, chk := [], wb := [], heldNet := [], heldTx := [], dueTo := 0
    isOver := false, frame := s.frameNo, committed := false, marked := false, record := [], stalls := 0
    budget := if s.seq.cmd = 1 then some s.seq.cmdLeft else none
    halt := false, parts := [], rate := s.f (CLU_TRIM_TARGET c), slow := s.ringLevel c
    rxb := cl.rxb.map freshKey, sbNet := [], sbTx := [], sbRx := [] }
  let s2 := ((s1.setF (CLU_STATUS_STATE c) Clu.running).setF (CLU_STATUS_STEP c) 0).setF (CLU_STATUS_FPAR c) s.frameNo
  (s2.settleRate c).fetchStep c 0

/-! ### Modes that run frames -/

/-- The first release in TIMED (R220). -/
def State.timedFirst (s : State) : State :=
  (s.setSeq { s.seq with first := true, waitK := some (s.nextInstant 0), frameK := none }).setF SEQ_STATUS_PHASE
    Phase.waitTime

/-- A change into RUN, TIMED or STEP takes place (transition table of R67): a step command in progress ends, and a halted
device resumes on entry to RUN (R239). -/
def State.enterFrames (s : State) (m path : Nat) : State :=
  let s1 := (((s.sendMode m (s.flag DEV_MODE_CHECK_ACT)).setMode m path).noPending).stepEnd
  let s2 := s1.setSeq { s1.seq with first := true }
  if m = Mode.run then
    let s3 := if s2.seq.halted ∨ s2.seq.haltSent then s2.resume else s2
    if s3.seq.inFrame then s3 else s3.dueRelease
  else if m = Mode.timed then s2.timedFirst
  else
    let s3 := if s.mode = Mode.idle then s2.haltReady else s2
    (s3.setSeq { s3.seq with atEdge := true }).setHalted

/-! ### Ford at a barrier -/

/-- The device separates from its partner and runs on alone, with a journal or without (R587, R599, R600): a PRIMARY goes
on with the journal it keeps, any other role begins one. -/
def State.separate (s : State) (cause : Nat) (journal : Bool) : State :=
  let s1 := (s.setRole 0).setF FRD_STATUS_SEP_CAUSE cause
  let s2 := if journal then s1.setF FRD_CFG_JNL_EN 1 else s1
  let anew := journal && s.role != 1
  s2.setFrd { s2.frd with
    detach := false, leave := false, join := false, joinNext := false, gate := none, inputs := [], modes := []
    peerHalted := false, frozen := false, tail := if anew then 0 else s2.frd.tail, entries := if anew then [] else s2.frd.entries }

/-- A catch-up fails on the CATCHUP device (R612): it enters IDLE in the SOLO role with PROG_VALID cleared. -/
def State.catchupFail (s : State) : State :=
  let s1 := (s.separate 5 false).frdErr FRD_ERR_CKPT_FAIL
  let s2 := s1.setCkpt 4
  (if s2.framesMode then s2.toIdle 0 else s2).setF DEV_MODE_PROG_VALID 0

/-- DETACH and JOIN at the completion of the barrier of frame n (R600, R611). -/
def State.fordBarrier (s : State) (n : Nat) : State :=
  if s.frd.detach then (s.fordSend (fordMessage 6 0 n [])).separate 1 true
  else if s.frd.join ∧ s.role = 0 then
    let s0 := (s.streamFeed (2 * s.frd.entries.length)).setRole 1
    let s1 := s0.sendMode s0.mode (s0.flag DEV_MODE_CHECK_ACT)
    s1.setFrd { s1.frd with join := false, joinNext := true, gateFrom := n, catchup := false, stream := none, ckpt := none,
                            dirtyHbm := [], dirtySram := [], peer := [] }
  else if s.role = 3 ∧ !s.frd.joinSent ∧ s.frd.lastIn ≤ n + s.f FRD_CFG_WINDOW + 1 then
    (s.fordSend (fordMessage 5 0 n [])).setFrd { (s.fordSend (fordMessage 5 0 n [])).frd with joinSent := true }
  else s

/-- The barrier of the checkpoint frame has completed: the release after it is withheld (R605). -/
def State.ckptBarrier (s : State) (n : Nat) : State :=
  if s.role = 0 ∧ s.frd.ckpt = some n then (s.setFrd { s.frd with final := true }).setCkpt 2 else s

/-- A shadow waits for its next INPUT (R596): in STEP it is halted meanwhile (R213, R231, R235). -/
def State.followWait (s : State) : State :=
  let s1 := s.dueRelease
  if s1.mode = Mode.step ∧ !s1.seq.inFrame ∧ !s1.seq.halted then (s1.setSeq { s1.seq with atEdge := true }).setHalted
  else s1

/-- A shadow at the completion of the barrier of frame n follows the MODE messages of that frame, in order, and then waits
for its inputs (R78, R596). -/
def State.followBarrier (s : State) (n : Nat) : State :=
  let s1 := s.setFrd { s.frd with modes := s.frd.modes.filter fun x => x.1 != n }
  let s2 := (s.frd.modes.filter fun x => x.1 == n).foldl (fun t m => t.followMode m.2.1 m.2.2) s1
  if s2.framesMode then s2.followWait else s2

/-! ### What follows a barrier (R204, R223, R229, R232, R237, R238, R240, R594) -/

/-- A request to IDLE that waits is applied to a device that holds or halts at a barrier completion; any other is dropped
(log entry 45). -/
def State.pendingIdle (s : State) : State :=
  if s.flag DEV_MODE_PENDING then
    (if s.f DEV_MODE_TARGET = Mode.idle then (s.sendMode Mode.idle false).toIdle 0 else s.noPending)
  else s

/-- The frame breakpoint (R232). -/
def State.frameBreak (s : State) (n : Nat) : Bool := s.flag SEQ_CFG_FRAME_EN && s.f64 SEQ_BRK_FRAME == n + 1

/-- The frame after one of TIMED (R222, R223). -/
def State.timedNext (s : State) : State :=
  let k := s.seq.frameK.getD 0
  if s.psNow ≤ s.releaseAt (k + 1) then
    (s.setSeq { s.seq with waitK := some (k + 1) }).setF SEQ_STATUS_PHASE Phase.waitTime
  else
    match s.f SEQ_CFG_LATE_POL with
    | 0 =>
      let j := s.nextInstant (k + 1)
      ((s.setSeq { s.seq with waitK := some j }).setF SEQ_STATUS_PHASE Phase.waitTime).bump SEQ_TIMED_CNT_SKIP (j - (k + 1))
    | 1 =>
      let s1 := s.bump SEQ_TIMED_CNT_LATE 1
      (s1.setSeq { s1.seq with waitK := some (k + 1), late := true }).dueRelease
    | _ => ((s.seqErr SEQ_ERR_LATE_HALT).hold 4).pendingIdle

/-- The frame after one of STEP (R237 to R239). -/
def State.stepNext (s : State) : State :=
  if s.seq.cmd = 2 ∧ 1 < s.seq.cmdLeft then (s.setSeq { s.seq with cmdLeft := s.seq.cmdLeft - 1 }).dueRelease
  else s.haltAtEdge false

/-- What follows the completion of the barrier of frame n. -/
def State.afterBarrier (s : State) : State :=
  let n := s.frameNo
  let s0 := (s.timerStop).setSeq { (s.timerStop).seq with
    inFrame := false, lanesIn := s.seq.lanesIn.filter fun x => x.2 != n % 65536 }
  let s1 := (s0.fordBarrier n).ckptBarrier n
  if n = 18446744073709551615 then ((s1.seqErr SEQ_ERR_FRAME_MAX).hold 3).pendingIdle
  else if s1.frd.mismatch then (s1.hold 5).pendingIdle
  else if s1.frd.leave then ((s1.separate 2 false).setF FRD_STATUS_EVICTED 1).toIdle 0
  else if s1.role = 2 then s1.followBarrier n
  else if s1.seq.brkFrame || s1.frameBreak n then
    let s2 := if s1.frameBreak n then s1.brkRecord 2 0 0 0 0 else s1
    (s2.haltAtEdge true).pendingIdle
  else if s1.flag DEV_MODE_PENDING then
    let t := s1.f DEV_MODE_TARGET
    if t = Mode.idle then (s1.sendMode t false).toIdle 0 else s1.enterFrames t 0
  else if s1.mode = Mode.step then s1.stepNext
  else if s1.mode = Mode.timed then s1.timedNext
  else s1.dueRelease

end Sys2Proof.Machine
end

