-- ==== Sys2Proof/Machine/Frames.lean ====
section
/-! DEFINITION. The commands of the frame sequencer (04_frames_and_elasticity): markers, barriers, releases, halts, step
commands and its register writes. -/

namespace Sys2Proof.Machine

open Reg

/-- The write acknowledgements of the frame in progress are complete on a die (R201, R340). -/
def State.ackDone (s : State) (d : Nat) : Bool :=
  let key := d * 4 + s.frameNo % 4
  Sparse.get 0 s.seq.acked key == 1 || Sparse.get 0 s.seq.acks key == s.f (HBC_WACK_ACT d)

/-- A mapped cluster of a die whose end marker is missing. -/
def State.unmarked (s : State) (d : Nat) : Option Nat :=
  s.mapped.find? fun c => dieOf c == d && Sparse.get 0 s.seq.marks c == 0

/-- DIE_MARKER (R201, R340): the count of acknowledgements that equals HBC_WACK.ACT clears. -/
def execDieMarker (d : Fin 4) (s : State) : Result :=
  if s.seq.inFrame && s.mappedDies.contains d.val && (s.unmarked d).isNone && s.ackDone d then
    let ftag := s.frameNo % 4
    let s1 := if Sparse.get 0 s.seq.acked (d * 4 + ftag) = 1 then s else s.ackFull d ftag
    .next (s1.setSeq { s1.seq with dies := putBit s1.seq.dies d true })
  else .next s

/-- The digest of the frame just folded goes where the role sends it (R593, R594, R609). -/
def State.sendDigest (s : State) (n : Nat) : State :=
  let dig := s.f64 FRD_DIG
  let ssig := s.f64 FRD_SSIG
  let s0 := if s.role = 1 ∨ s.role = 2 then s.fordSend (digestMessage n false dig ssig) else s
  let s1 :=
    if s0.journals then
      let r := s0.journalDigest n dig ssig
      if r.1 then s0.survivorFail else r.2.streamFeed 2
    else s0
  if s1.digestsDiffer n then (if s1.role = 3 then s1.catchupFail else s1.digestMismatch n) else s1

/-- LOCAL_BARRIER (R202, R273, R591 to R594, R634, R482). -/
def execLocalBarrier (s : State) : Result :=
  let n := s.frameNo
  if s.seq.inFrame && !s.seq.local_ && s.mappedDies.all (fun d => bitOf s.seq.dies d) && (s.outMissing n).isNone then
    let s1 := ((s.foldFrame n).publish n).acqBarrier
    let s2 := (s1.setSeq { s1.seq with local_ := true, published := true }).setF SEQ_STATUS_PHASE Phase.gathering
    let s3 := s2.outLanes.foldl (fun t l => t.endDue n l) s2
    .next (s3.sendDigest n)
  else .next s

/-- A lane delivers an end marker that gates the barrier (R207). -/
def State.inMask (s : State) (l : Nat) : Bool := bitOf (s.reg (SEQ_INMASK (l / 32))).toNat (l % 32)

/-- The lanes of SEQ_INMASK whose end marker of the frame is missing. -/
def State.lanesMissing (s : State) : List Nat :=
  (List.range 128).filter fun l => s.inMask l && !s.seq.lanesIn.contains (l, s.frameNo % 65536)

/-- The HALT_NOTICE of the last marker of a lane (R212). -/
def State.noteHalt (s : State) (l : Nat) (on : Bool) : State :=
  let others := s.seq.notices.filter (· != l)
  if on then let s1 := s.timerPause; s1.setSeq { s1.seq with notices := others ++ [l] }
  else
    let s1 := s.setSeq { s.seq with notices := others }
    if s1.seq.inFrame ∧ !s1.seq.halted then s1.timerGo else s1

/-- An end marker reaches the frame sequencer on a lane (R209, R212, R213): a marker of the next frame is kept while no
frame runs. -/
def State.endMarker (s : State) (l frame : Nat) (haltNotice notice : Bool) : State :=
  if !s.inMask l then s
  else
    let s1 := s.noteHalt l haltNotice
    if notice then s1
    else
      let due := if s1.seq.inFrame then s1.frameNo else s1.frameNo + 1
      if frame = due % 65536 then s1.setSeq { s1.seq with lanesIn := s1.seq.lanesIn ++ [(l, frame)] }
      else if s1.framesMode then (s1.seqErr SEQ_ERR_FRAME_SKEW).hold 2
      else s1

/-- END_MARKER_RECEIVE (R209, R212, R213). -/
def execEndMarkerReceive (l : LaneId) (frame : BitVec 16) (haltNotice notice : Bool) (s : State) : Result :=
  .next (s.endMarker l frame.toNat haltNotice notice)

/-- BARRIER_COMPLETE (R203, R204). -/
def execBarrierComplete (s : State) : Result :=
  if s.seq.inFrame && s.seq.local_ && s.lanesMissing.isEmpty && !s.flag DEV_MODE_HOLD then .next s.afterBarrier
  else .next s

/-- TIMED_RELEASE (R221, R525). -/
def execTimedRelease (s : State) : Result :=
  match s.seq.waitK with
  | some k =>
    if s.mode = Mode.timed ∧ !s.seq.inFrame ∧ !s.flag DEV_MODE_HOLD ∧ s.releaseAt k ≤ s.psNow then .next s.dueRelease
    else .next s
  | none => .next s

/-- A stop acts on the first copy of a RELEASE marker: it swaps its halves under SW, forgets what it matched and forwarded
two frames ago, and starts its cluster's frame (R205, R280, R292). -/
def State.actRelease (s : State) (d r pos : Nat) (sw : Bool) : State :=
  let stop := stopIx r pos
  let m := s.die d
  let old (k : Nat) : Bool := k / 4096 == stop && k % 4 == (s.frameNo + 2) % 4
  let s1 := s.setDie d { m with
    release := Sparse.put 0 m.release stop (s.frameNo + 1)
    behind := if sw then Sparse.put 0 m.behind stop 0 else m.behind
    seen := Sparse.keep (fun k => !old k) m.seen
    forwarded := Sparse.keep (fun k => !old k) m.forwarded }
  let c := clusterAt d r pos
  if isBridge pos || !s1.isMapped c || s1.cluState c == 0 || s1.cluState c == Clu.fault then s1 else s1.startFrame c

/-- The broadcast marker of a kind that a stop acts on next. -/
def State.cameMark (s : State) (d stop kind : Nat) : Option Nat := (s.cameAt d stop).find? fun f => markKind f == kind

/-- RELEASE_MARKER_ARRIVAL (R280, R292): a RELEASE marker has reached the stop, which acts on the first copy. -/
def execReleaseMarkerArrival (d : Fin 4) (r : Fin 8) (pos : Fin 36) (frame : BitVec 16) (sw : Bool) (s : State) :
    Result :=
  let stop := stopIx r pos
  let is (f : Nat) : Bool := markKind f == 1 && slice f 16 16 == frame.toNat && bitOf f 15 == sw
  match (s.cameAt d stop).find? is with
  | none => .next s
  | some f =>
    let s1 := s.takeCame d stop f
    if s1.seq.inFrame ∧ frame.toNat = s1.frameNo % 65536 ∧ Sparse.get 0 (s1.die d).release stop ≠ s1.frameNo + 1 then
      .next (s1.actRelease d r pos sw)
    else .next s1

/-- HALT_MARKER_ARRIVAL (R230, R280): a HALT marker has reached the stop of a cluster, which halts at the step it would
next issue. -/
def execHaltMarkerArrival (c : ClusterId) (s : State) : Result :=
  let stop := stopIx (ringOf c) (posOf c)
  match s.cameMark (dieOf c) stop 2 with
  | none => .next s
  | some f =>
    let s1 := s.takeCame (dieOf c) stop f
    if s1.seq.haltSent && s1.isMapped c && s1.canIssue c then .next (s1.haltCluster c) else .next s1

/-- RESUME_MARKER_ARRIVAL (R280): a RESUME marker has reached the stop of a cluster, which issues again from its halt
point; under STEPS only while it has steps to issue (R237). -/
def execResumeMarkerArrival (c : ClusterId) (s : State) : Result :=
  let stop := stopIx (ringOf c) (posOf c)
  match s.cameMark (dieOf c) stop 3 with
  | none => .next s
  | some f =>
    let s1 := s.takeCame (dieOf c) stop f
    if s1.cluState c = Clu.halted ∧ s1.isMapped c ∧ s1.seq.inFrame ∧ !s1.seq.halted ∧ !s1.seq.haltSent ∧
        (s1.cl c).frame = s1.frameNo ∧ !(s1.seq.cmd = 1 ∧ (s1.cl c).budget = none) then
      .next (s1.setF (CLU_STATUS_STATE c) Clu.running)
    else .next s1

/-- The first missing source of a barrier that times out: SRC and INDEX (R215). -/
def State.missingSource (s : State) : Nat × Nat :=
  let m := s.mapped
  match m.find? fun c => s.cluState c == Clu.fault with
  | some c => (1, c)
  | none =>
    match m.find? fun c => Sparse.get 0 s.seq.marks c == 0 with
    | some c => (2, c)
    | none =>
      match s.mappedDies.find? fun d => !s.ackDone d with
      | some d => (3, d)
      | none =>
        match s.outMissing s.frameNo with
        | some e => (if s.seq.local_ then (4, s.lanesMissing.headD 0) else (5, e / 1024))
        | none => (4, s.lanesMissing.headD 0)

/-- A barrier that times out while publication waits records the missing output arrival (R635). -/
def State.outMiss (s : State) : State :=
  match s.outMissing s.frameNo with
  | some e =>
    if s.seq.local_ then s
    else
      let s1 := s.raise FAB_ERR_OUT_MISS 8 0 0 0
      if s1.flag FAB_OUT_INFO_VALID then s1
      else ((s1.setF FAB_OUT_INFO_ENTRY e).setF FAB_OUT_INFO_DIE (e / 1024)).setF FAB_OUT_INFO_VALID 1
  | none => s

/-- BARRIER_TIMEOUT (R211, R214, R215, R635). A request to IDLE that was pending stays pending: software repeats it, and
under HOLD it then acts at once (DESIGN CHOICE, log entry 45; the same after FRAME_SKEW). -/
def execBarrierTimeout (s : State) : Result :=
  if s.seq.inFrame && s.timerOver && !s.flag DEV_MODE_HOLD then
    let src := s.missingSource
    let s1 := (s.seqErr SEQ_ERR_BTO).outMiss
    let s2 := if s1.flag SEQ_BTO_INFO_VALID then s1
      else ((s1.setF SEQ_BTO_INFO_SRC src.1).setF SEQ_BTO_INFO_INDEX src.2).setF SEQ_BTO_INFO_VALID 1
    .next ((s2.fire 2).hold 1)
  else .next s

/-- A halted cluster may issue up to COUNT more steps once its RESUME marker has arrived (R237). -/
def State.grantSteps (s : State) (count c : Nat) : State :=
  if s.cluState c = Clu.halted then s.setCl c { s.cl c with budget := some count } else s

/-- A step command is accepted (R236 to R239): 1 STEPS, 2 FRAMES. -/
def State.stepCommand (s : State) (op count : Nat) : State :=
  if s.mode ≠ Mode.step ∨ !s.seq.halted ∨ s.flag DEV_MODE_HOLD ∨ s.flag SEQ_STATUS_STEP_BUSY ∨ op = 3 then
    s.seqErr SEQ_ERR_CMD_REJECT
  else if count = 0 then s
  else
    let s1 := (s.resume).setF SEQ_STATUS_STEP_BUSY 1
    let s2 := s1.setSeq { s1.seq with cmd := op, cmdLeft := count }
    if !s2.seq.inFrame then s2.dueRelease
    else if op = 1 then s2.mapped.foldl (fun t c => t.grantSteps count c) s2
    else s2

/-- STEPS (R236, R237, R239). -/
def execSteps (p : Path) (count : BitVec 16) (s : State) : Result :=
  .next (s.onWrite p SEQ_STEP_CMD fun s => s.stepCommand 1 count.toNat)

/-- FRAMES (R236, R238, R239). -/
def execFrames (p : Path) (count : BitVec 16) (s : State) : Result :=
  .next (s.onWrite p SEQ_STEP_CMD fun s => s.stepCommand 2 count.toNat)

/-- FRAME_NO_WRITE (R241): one half of the pair. -/
def execFrameNoWrite (p : Path) (hi : Bool) (v : Word) (s : State) : Result :=
  let off := if hi then SEQ_FRAME_NO + 4 else SEQ_FRAME_NO
  .next (s.onWrite p off fun s =>
    if s.mode = Mode.idle then
      if hi then
        let x := s.path p
        let lo := if x.heldTag = some SEQ_FRAME_NO then x.heldLo else s.reg SEQ_FRAME_NO
        ((s.forgetDigests.setReg SEQ_FRAME_NO lo).setReg (SEQ_FRAME_NO + 4) v).setPath p
          { x with heldTag := if x.heldTag = some SEQ_FRAME_NO then none else x.heldTag }
      else s.holdLo p off v
    else s.seqErr SEQ_ERR_WR_STATE)

/-- The schedule registers of R226. -/
def isSchedule (off : Nat) : Bool :=
  off == SEQ_TSTART_SEC || off == SEQ_TSTART_SEC + 4 || off == SEQ_TSTART_NS || off == SEQ_TPER_NS ||
    off == SEQ_TPER_FRAC || off == SEQ_TLEAD

/-- TIMED_SCHEDULE_WRITE (R226). -/
def execTimedScheduleWrite (p : Path) (off : WinOff) (v : Word) (s : State) : Result :=
  .next (s.onWrite p off.toNat fun s =>
    if s.mode = Mode.timed then s.seqErr SEQ_ERR_WR_STATE else s.writeReg p off.toNat v)

/-- BTO_WRITE (R243). -/
def execBtoWrite (p : Path) (v : Word) (s : State) : Result :=
  .next (s.onWrite p SEQ_BTO fun s =>
    let t := slice v.toNat 0 20
    let f := slice v.toNat 20 12
    let s1 := if t = 0 then s else s.setF SEQ_BTO_TIMEOUT_US t
    let s2 := if f = 0 then s1 else s1.setF SEQ_BTO_FIRST_MS f
    if t = 0 ∨ f = 0 then s2.seqErr SEQ_ERR_ARG else s2)

end Sys2Proof.Machine
end

