-- ==== Sys2Proof/Machine/Guestbook.lean ====
section
/-! DEFINITION. The Guestbook commands (17_guestbook): closing an aggregator, writing a record to the log, the scan after
a reset, EXPORT, ERASE, FLUSH and the severity table. -/

namespace Sys2Proof.Machine

open Reg

/-- MRAM offset of a slot of the Guestbook partition (R643). -/
def slotAddr (slot : Nat) : Nat := 0x6100000 + 64 * slot

/-- The bytes of a slot. -/
def State.logSlot (s : State) (slot : Nat) : List Byte := readBytes s.mram (slotAddr slot) 64

/-- A slot holds a record: its CRC checks (R739). -/
def slotValid (bs : List Byte) : Bool := crc32 (bs.take 60) == ofBytesLE (bs.drop 60)

/-- The severity of the record in a slot. -/
def slotSev (bs : List Byte) : Nat := slice (ofBytesLE ((bs.drop 4).take 2)) 12 2

/-- The SEQ of the record in a slot. -/
def slotSeq (bs : List Byte) : Nat := ofBytesLE (bs.take 4)

/-- The 64 bytes of a record (table of R739). -/
def recordBytes (r : Record) (seq : Nat) : List Byte :=
  let body := bytesLE 4 seq ++ bytesLE 2 (r.src % 4096 + r.sev % 4 * 4096) ++ bytesLE 2 r.inst ++ bytesLE 8 r.sec ++
    bytesLE 4 r.ns ++ bytesLE 4 r.count ++ bytesLE 8 r.frame ++ ((List.range 8).map fun b => bytesLE 2 (r.hist.getD b 0)).flatten ++
    bytesLE 4 r.vmax ++ bytesLE 4 r.vmin ++ bytesLE 2 r.durMs ++ bytesLE 2 r.flags
  body ++ bytesLE 4 (crc32 body)

/-- The slot at which a record of a severity is written (R747): the first of up to 16 slots from HEAD that is empty or
holds a record of no greater severity. -/
def State.findSlot (s : State) (sev : Nat) : Nat → Nat → Option Nat
  | 0, _ => none
  | n + 1, slot =>
    let bs := s.logSlot slot
    if slotValid bs ∧ sev < slotSev bs then s.findSlot sev n ((slot + 1) % 65536) else some slot

/-- A record is written to the log (R746, R747), or lost after 16 protected slots. -/
def State.writeRecord (s : State) (r : Record) : State :=
  match s.findSlot r.sev 16 (s.f GBK_STAT_HEAD) with
  | none => s.dropRecord
  | some slot =>
    let seq := (s.reg GBK_SEQ).toNat
    let s1 := { s with mram := writeBytes s.mram (slotAddr slot) (recordBytes r seq) }
    (s1.setF GBK_STAT_HEAD (slot + 1)).setNat GBK_SEQ (seq + 1)

/-- EXPORT or ERASE runs (R751). -/
def State.gbkCommandRuns (s : State) : Bool :=
  s.mbBusyNow 39 && (let c := (Sparse.get Mailbox.reset s.mbs 39).cmd; c == 1 || c == 2)

/-- The queue's next record: the first, or the first FATAL one while EXPORT or ERASE runs (R751). -/
def State.nextRecord (s : State) : Option Record :=
  if s.gbkCommandRuns then s.gbk.queue.find? (fun r => r.sev == 3) else s.gbk.queue.head?

/-- The queue without its next record. -/
def removeRecord (r : Record) : List Record → List Record
  | [] => []
  | q :: qs => if q = r then qs else q :: removeRecord r qs

/-- AGGREGATOR_CLOSE (R741): at t0 + I the aggregator closes. -/
def execAggregatorClose (src : BitVec 12) (s : State) : Result :=
  match s.gbk.open_.find? fun a => a.src == src.toNat with
  | none => .next s
  | some a =>
    if s.elapsedSteered a.t0 (a.interval * 1000000) then .next (s.closeAggregator src.toNat false) else .next s

/-- GBK_RECORD_WRITE (R746, R747, R748, R751). -/
def execGbkRecordWrite (s : State) : Result :=
  if s.flag GBK_STAT_SCAN_DONE ∧ s.gbk.writeAt ≤ s.tmk.steered ∧ s.mode ≠ Mode.reset then
    match s.nextRecord with
    | none => .next s
    | some r =>
      let s1 := { s with gbk := { s.gbk with queue := removeRecord r s.gbk.queue, writeAt := s.tmk.steered + 2000 * nsUnit } }
      .next (s1.writeRecord r)
  else .next s

/-- The slots of the log that hold a byte other than zero, in rising order. -/
def usedSlots (m : List Host.Cell) : List Nat :=
  (m.foldl (fun (acc : List Nat) (c : Host.Cell) =>
    if Nat.ble 0x6100000 c.1 && Nat.blt c.1 0x6500000 then
      let slot := (c.1 - 0x6100000) / 64
      if acc.head? == some slot then acc else slot :: acc
    else acc) []).reverse

/-- The later of two records by SEQ, taken modulo 2^32 (R748). -/
def laterSlot (a b : Nat × Nat) : Nat × Nat :=
  let d := (b.2 + 4294967296 - a.2) % 4294967296
  if d ≠ 0 ∧ d < 2147483648 then b else a

/-- The scan of the log after a reset (R748). -/
def State.scanLog (s : State) : State :=
  let used := usedSlots s.mram
  let good := (used.filter fun k => slotValid (s.logSlot k)).map fun k => (k, slotSeq (s.logSlot k))
  let bad := (used.filter fun k => !slotValid (s.logSlot k)).length
  let s1 :=
    match good with
    | [] => (s.setF GBK_STAT_HEAD 0).setNat GBK_SEQ 0
    | g :: gs =>
      let best := gs.foldl laterSlot g
      (s.setF GBK_STAT_HEAD (best.1 + 1)).setNat GBK_SEQ (best.2 + 1)
  (s1.setF GBK_BAD_SLOTS bad).setF GBK_STAT_SCAN_DONE 1

/-- GBK_SCAN_DONE (R748). -/
def execGbkScanDone (s : State) : Result :=
  if s.flag GBK_STAT_SCAN_DONE ∨ s.mode = Mode.reset then .next s else .next s.scanLog

/-- The slots of a log copied to the carve-out (R749). -/
def State.exportSlots (s : State) (first addr : Nat) : Nat → State
  | 0 => s
  | n + 1 => State.exportSlots (s.carveWrite addr (s.logSlot (first % 65536))) (first + 1) (addr + 64) n

/-- EXPORT (R749). -/
def execExportLog (p : Path) (s : State) : Result :=
  .next (s.onWrite p GBK_MB_CMD fun s => s.mbCommand 39 1 fun s =>
    let first := (s.reg (GBK_MB_ARG 0)).toNat
    let addr := s.f64 (GBK_MB_ARG 1)
    let n := (s.reg (GBK_MB_ARG 3)).toNat
    if n = 0 then s.mbFinish 39 0 0 0
    else if s.mode = Mode.standby then s.mbFinish 39 3 0 0
    else if 65536 < first + n then s.mbFinish 39 1 0 0
    else if addr % 64 ≠ 0 ∨ !inCarve addr (64 * n) then s.mbFinish 39 2 0 0
    else (s.exportSlots first addr n).mbFinish 39 0 n 0)

/-- The slots that an ERASE clears (R750). -/
def State.erasable (s : State) (sev : Nat) : List Nat :=
  (usedSlots s.mram).filter fun k => slotValid (s.logSlot k) && Nat.ble (slotSev (s.logSlot k)) sev

/-- GBK ERASE (R750). -/
def execGbkErase (p : Path) (s : State) : Result :=
  .next (s.onWrite p GBK_MB_CMD fun s => s.mbCommand 39 2 fun s =>
    let slots := s.erasable (slice (s.reg (GBK_MB_ARG 0)).toNat 0 2)
    let m := slots.foldl (fun m k => writeBytes m (slotAddr k) (List.replicate 64 0)) s.mram
    { s with mram := m }.mbFinish 39 0 slots.length 0)

/-- Every open aggregator closes as PARTIAL (R743, R750, R752). -/
def State.flushAggregators (s : State) : State :=
  s.gbk.open_.foldl (fun s a => s.closeAggregator a.src true) s

/-- FLUSH (R750). -/
def execFlush (p : Path) (s : State) : Result :=
  .next (s.onWrite p GBK_MB_CMD fun s => s.mbCommand 39 3 fun s =>
    let t := s.flushAggregators
    t.mbFinish 39 0 (t.gbk.queue.length - s.gbk.queue.length) 0)

/-- SEV_DATA_WRITE (R738). -/
def execSevDataWrite (p : Path) (v : Word) (s : State) : Result :=
  .next (s.onWrite p GBK_SEV_DATA fun s =>
    let src := s.f GBK_SEV_ADDR_SRC
    let sev := slice v.toNat 0 2
    if isFatal src ∨ sev = 3 then s.setF GBK_ERR_SEV_REJ 1
    else if isSource src then { s with gbk := { s.gbk with sev := Sparse.put 4 s.gbk.sev src sev } }
    else s)

end Sys2Proof.Machine
end

