-- ==== Sys2Proof/Machine/Rings.lean ====
section
/-! DEFINITION. The movement of flits in a die (05_millrace_network): ring segments, bridge and Confluence routing, and the
crossbar. -/

namespace Sys2Proof.Machine

open Reg

/-! ### Ring segments (R245, R246, R265 to R267) -/

/-- What holds a segment for a packet (R266): 0 none, 1 a packet that passes through, 2 one that was injected. -/
def State.lockAt (s : State) (d stop dir : Nat) : Nat := Sparse.get 0 (s.die d).lock (stop * 2 + dir)

/-- An unscheduled flit of a source (0 through, 1 injection) may take a segment (R266). -/
def mayFollow (lock src f : Nat) : Bool :=
  match flitType f with
  | 5 => true
  | 6 => lock == 0
  | 7 => lock == src + 1
  | _ => false

/-- The holder of a segment after it has forwarded an unscheduled flit (R266). -/
def lockAfter (lock src f : Nat) : Nat :=
  if endsPacket f then 0 else if flitType f = 6 then src + 1 else lock

/-- An unscheduled flit for a node leaves ring r of die d at a position: at the node's own stop, or else at a bridge stop. -/
def State.leavesAt (s : State) (d r p n : Nat) : Bool :=
  if n / 64 = d * 8 + r ∧ !s.noNode n then n % 64 == p else isBridge p

/-- What becomes of a marker or an unscheduled flit that takes a segment. -/
inductive Onward where
  /-- The next stop has no room for it: the segment cannot take it (R265). -/
  | held
  /-- It leaves the ring at the next stop. -/
  | leaves
  /-- It enters the through buffer of the next stop. -/
  | through
  /-- It finds the exit of its destination full and passes through (R271). -/
  | passes
  deriving DecidableEq, Repr

/-- The through buffer of 4 takes a flit. -/
def State.throughRoom (s : State) (d stop dir : Nat) : Bool := Nat.blt (s.throughAt d stop dir).length 4

/-- A flit that can leave at the next stop, or passes it when it is refused there. -/
def State.orPass (s : State) (d stop dir : Nat) (room : Bool) : Onward :=
  if room then .leaves else if s.throughRoom d stop dir then .passes else .held

/-- A flit that goes through the next stop. -/
def State.orHold (s : State) (d stop dir : Nat) : Onward := if s.throughRoom d stop dir then .through else .held

/-- What becomes of a marker or an unscheduled flit that takes the segment from position p (R265, R271, R280). The body of a
packet leaves where its head left, and waits upstream while the exit buffer there is full (DESIGN CHOICE, log entry 76). -/
def State.onward (s : State) (d r p dir f : Nat) : Onward :=
  let np := nextPos p dir
  let stop := stopIx r np
  let exitRoom := Nat.blt (s.exitsAt d (stop * 2 + dir)).length 16
  match flitType f with
  | 4 =>
    if flitDst f = 0x3F then (if hops (slice f 32 6) np dir = 9 then .leaves else s.orHold d stop dir)
    else if flitDst f = np then s.orPass d stop dir exitRoom
    else s.orHold d stop dir
  | 7 =>
    if s.stream (d * 1000 + stop * 2 + dir) = 0 then s.orHold d stop dir
    else if isBridge np ∧ !exitRoom then .held
    else .leaves
  | _ =>
    if s.leavesAt d r np (flitNode f) then
      s.orPass d stop dir (if isBridge np then exitRoom else s.nodeRoom (flitNode f) f)
    else s.orHold d stop dir

/-- A flit leaves the ring at a bridge stop: the bodies of a packet will follow its head. -/
def State.exitBridge (s : State) (d stop dir f : Nat) : State :=
  let key := d * 1000 + stop * 2 + dir
  let s1 := if flitType f = 6 ∧ !endsPacket f then s.setStream key 1
    else if flitType f = 7 ∧ endsPacket f then s.setStream key 0
    else s
  s1.pushExit d (stop * 2 + dir) f

/-- A marker or an unscheduled flit leaves the ring at a stop; a broadcast marker is absorbed there. -/
def State.leaveRing (s : State) (d r p dir f : Nat) : State :=
  let stop := stopIx r p
  if flitType f = 4 ∧ flitDst f = 0x3F then s
  else if isBridge p then s.exitBridge d stop dir f
  else s.nodeTake (d * 1000 + stop * 2 + dir) (stopNode d r p) f

/-- A flit that a stop refuses is counted (R271). -/
def State.countPass (s : State) (d r p : Nat) : State := s.bump (MLR_STOP_COLL_RECIRC (stopBase d r p)) 1

/-- A scheduled flit takes the segment from position p: it stands at the next stop, or enters the exit buffer of its bridge
stop, or passes there when that is full (R271). -/
def State.sendSched (s : State) (d r p dir f : Nat) : State :=
  let np := nextPos p dir
  let stop := stopIx r np
  if isBridge np ∧ flitDst f = np then
    if (s.exitsAt d (stop * 2 + dir)).length < 16 then s.pushExit d (stop * 2 + dir) f
    else (s.countPass d r np).setAgain d stop dir (s.againAt d stop dir ++ [f])
  else s.setLinkAt d stop dir (s.linkAt d stop dir ++ [f])

/-- A flit takes an outgoing segment. -/
def State.sendOn (s : State) (d r p dir f : Nat) : State :=
  let np := nextPos p dir
  let stop := stopIx r np
  if isScheduled f then s.sendSched d r p dir f
  else
    let s1 := if flitType f = 4 ∧ flitDst f = 0x3F then s.pushCame d stop f else s
    match s.onward d r p dir f with
    | .held => s
    | .leaves => s1.leaveRing d r np dir f
    | .through => s1.setThrough d stop dir (s1.throughAt d stop dir ++ [f])
    | .passes => (s1.countPass d r np).setThrough d stop dir (s1.throughAt d stop dir ++ [f])

/-- A collision: the head of the injection queue is refused by a through flit (R267). -/
def State.collide (s : State) (d r p dir : Nat) (head : Nat × Nat) : State :=
  let b := stopBase d r p
  let s1 := s.bump (MLR_STOP_COLL_COLL b) 1
  if s1.flag (MLR_STOP_CINFO_VALID b) then s1
  else
    (((s1.setF (MLR_STOP_CINFO_STEP b) (flitStep head.1)).setF (MLR_STOP_CINFO_DIR b) dir).setF (MLR_STOP_CINFO_PH b)
      head.2).setF (MLR_STOP_CINFO_VALID b) 1

/-- A scheduled flit that passes through a stop. -/
def passes (p f : Nat) : Bool := isScheduled f && flitDst f != p

/-- The next test flit that a stop's generator injects in a direction (R309, R310). -/
def State.testFlit (s : State) (d r p dir : Nat) : Option Nat :=
  let x := Sparse.get Loopback.reset (s.die d).lb (stopIx r p)
  if x.mode = 2 ∧ x.dir = dir ∧ x.toSend ≠ 0 then
    some (mkFlit 1 (s.stopGen d (stopIx r p)) p 0 0 (x.count - x.toSend))
  else none

/-- The candidate that a segment grants (R265): its class, from 1 to 6, and the flit; 0 is a test flit, which yields to the
injection queue. -/
def State.candidate (s : State) (d r p dir : Nat) : Option (Nat × Nat) :=
  let stop := stopIx r p
  let lock := s.lockAt d stop dir
  let goes (f : Nat) : Bool := s.onward d r p dir f != .held
  ([(s.againAt d stop dir ++ (s.linkAt d stop dir).filter (passes p)).head?.map (1, ·),
    (s.injQueue d stop dir).head?.map fun x => (2, x.1),
    (s.testFlit d r p dir).map (0, ·),
    ((s.throughAt d stop dir).find? fun f => flitType f == 4 && goes f).map (3, ·),
    ((s.marksAt d stop dir).head?.filter goes).map (4, ·),
    ((s.throughAt d stop dir).find? fun f => mayFollow lock 0 f && goes f).map (5, ·),
    ((s.uinjAt d stop dir).find? fun f => mayFollow lock 1 f && goes f).map (6, ·)] : List (Option (Nat × Nat))).findSome? id

/-- The granted candidate leaves where it stood. -/
def State.takeCandidate (s : State) (d stop dir : Nat) (x : Nat × Nat) : State :=
  match x.1 with
  | 0 =>
    let m := s.die d
    let g := Sparse.get Loopback.reset m.lb stop
    s.setDie d { m with lb := Sparse.put Loopback.reset m.lb stop { g with toSend := g.toSend - 1, sentAt := s.hub } }
  | 1 =>
    if (s.againAt d stop dir).contains x.2 then s.setAgain d stop dir (removeFirst (· == x.2) (s.againAt d stop dir))
    else s.setLinkAt d stop dir (removeFirst (· == x.2) (s.linkAt d stop dir))
  | 2 => s.setInj d stop dir (s.injQueue d stop dir).tail
  | 4 => s.setDie d { s.die d with marks := Sparse.put [] (s.die d).marks (stop * 2 + dir) (s.marksAt d stop dir).tail }
  | 6 => s.setUinj d stop dir (removeFirst (· == x.2) (s.uinjAt d stop dir))
  | _ => s.setThrough d stop dir (removeFirst (· == x.2) (s.throughAt d stop dir))

/-- One segment in one ring cycle (R265 to R267). -/
def State.grantSegment (s : State) (d r p dir : Nat) : State :=
  let stop := stopIx r p
  match s.candidate d r p dir with
  | none => s
  | some x =>
    let s1 :=
      match x.1, (s.injQueue d stop dir).head? with
      | 1, some h => s.collide d r p dir h
      | _, _ => s
    let lock := s.lockAt d stop dir
    let lock1 := if x.1 = 5 ∨ x.1 = 6 then lockAfter lock (x.1 - 5) x.2 else lock
    let s2 := s1.takeCandidate d stop dir x
    let s3 := s2.setDie d { s2.die d with lock := Sparse.put 0 (s2.die d).lock (stop * 2 + dir) lock1 }
    s3.sendOn d r p dir x.2

/-! ### The exits of a cluster stop (R268 to R271, R301) -/

/-- A cluster is ON for its stop: its compute domain is ON and it is not in cluster reset (R298). -/
def State.clusterOn (s : State) (c : Nat) : Bool := s.domainOn (c / 34) && s.cluState c != 0

/-- A flit leaves the link on which it reached a stop. -/
def State.leaveLink (s : State) (d stop dir f : Nat) : State :=
  s.setLinkAt d stop dir (removeFirst (· == f) (s.linkAt d stop dir))

/-- An arrival at a cluster stop is taken, or its flit finds the exit buffer of its direction full and passes the stop
(R271). -/
def State.offer (s : State) (d r p dir f : Nat) (a : Arrival) : Taken × State :=
  let t := s.arrive (clusterAt d r p) dir a
  let stop := stopIx r p
  match t.1 with
  | .taken => t
  | .refused => (.refused, (t.2.countPass d r p).setAgain d stop dir (t.2.againAt d stop dir ++ [f]))

/-- An entry has been matched in the frame; a second match sets DUP_TAG (R269). -/
def State.matched (s : State) (d r p tag ftag : Nat) : State :=
  let key := (stopIx r p * 1024 + tag) * 4 + ftag
  let s1 := if Sparse.get 0 (s.die d).seen key = 1 then s.stopErr d r p MLR_STOP_ERR_DUP_TAG else s
  s1.setDie d { s1.die d with seen := Sparse.put 0 (s1.die d).seen key 1 }

/-- A SCHED flit at its cluster stop (R268 to R270, R301). -/
def State.exitSched (s : State) (d r p dir f : Nat) : State :=
  let stop := stopIx r p
  let c := clusterAt d r p
  if !s.clusterOn c then s.stopErr d r p MLR_STOP_ERR_OFF_DROP
  else
    match s.halfFor d stop (flitGen f) with
    | none => s.stopErr d r p MLR_STOP_ERR_GEN_MISS
    | some h =>
      let e := s.tblEntry d stop h 1 (flitTag f)
      if !entryValid e then s.stopErr d r p MLR_STOP_ERR_NO_ENTRY
      else
        let n := frameOfTag (s.cluFrame c) (flitFtag f)
        let t := s.offer d r p dir f (mkArrival (flitTag f) n n (slice e 8 11) (slice e 0 7) (flitWord f))
        if t.1 = .taken then t.2.matched d r p (flitTag f) (flitFtag f) else t.2

/-- A scheduled flit leaves the ring at a cluster stop (R251, R268, R301, R859). -/
def State.exitCluster (s : State) (d r p dir f : Nat) : State :=
  match flitType f with
  | 1 => s.exitSched d r p dir f
  | 2 => s.stopErr d r p MLR_STOP_ERR_NO_ENTRY
  | 3 =>
    let c := clusterAt d r p
    if s.clusterOn c then
      (s.offer d r p dir f (s.replyArrival c (flitFtag f) (flitStep f) (slice (flitTag f) 0 7) (flitWord f))).2
    else s.stopErr d r p MLR_STOP_ERR_OFF_DROP
  | _ => s

/-! ### The Confluence (R276, R279, R340, R853) -/

/-- A Confluence absorbs a write acknowledgement (R340). -/
def State.absorbAck (s : State) (d ftag : Nat) : State :=
  let key := d * 4 + ftag
  let n := Sparse.get 0 s.seq.acks key + 1
  if n = s.f (HBC_WACK_ACT d) then s.ackFull d ftag else s.setSeq { s.seq with acks := Sparse.put 0 s.seq.acks key n }

/-- A flit goes to a Confluence port with its tag replaced: from the input port on which it reached the crossbar (R276,
R340, R853); tag0 is the RXTAG it reached the crossbar with. -/
def State.cflSend (s : State) (d from_ cport tag0 f : Nat) : State :=
  if cport ≤ 19 then s.pushCross d from_ cport f
  else if cport = 31 ∧ flitType f = 3 then s.absorbAck d (flitFtag f)
  else s.cflErr d MLR_CFL_ERR_ROUTE_MISS from_ tag0

/-- A flit with its RXTAG replaced. -/
def withTag (f tag : Nat) : Nat := splice f 31 10 tag

/-- A flit with its DST replaced. -/
def withDst (f dst : Nat) : Nat := splice f 41 6 dst

/-- A word takes its place on the lane, or the group member, that a BRT entry names (R272, R554). -/
def State.sendLane (s : State) (l pos f : Nat) : State :=
  let w := 2 ^ s.bond l
  s.laneSend (s.anchor l + pos % w) (flitFtag f) (pos / w) (flitStep f) (flitWord f)

/-- A flit or word is routed by a bridge stop (R272); none when it waits for room in the injection queue (R852). -/
def State.routeBrt (s : State) (d r k f : Nat) : Option State :=
  let p := 18 * k
  let stop := stopIx r p
  match s.halfFor d stop (flitGen f) with
  | none => some (s.stopErr d r p MLR_STOP_ERR_GEN_MISS)
  | some h =>
    let e := s.tblEntry d stop h 0 (flitTag f)
    let tag := entryTag e
    let out := slice e 0 3
    if !entryValid e ∨ 5 ≤ out then some (s.stopErr d r p MLR_STOP_ERR_NO_ENTRY)
    else if out = 0 then some (s.cflSend d (2 * r + k) (slice e 3 5) tag (withTag f tag))
    else if out ≤ 2 then
      let q := s.injQueue d stop (out - 1)
      if q.length < 32 then some (s.setInj d stop (out - 1) (q ++ [(withDst (withTag f tag) (slice e 8 6), slice e 14 1)]))
      else none
    else some ((s.sendLane (bridgeLane d r k (out - 3)) tag f).forward d stop (flitTag f) (flitFtag f))

/-- The head of a queue into the Confluence leaves it, and the markers and unscheduled flits behind it go on. -/
def State.popExit (s : State) (d key : Nat) : State :=
  let q := (s.exitsAt d key).tail
  (s.setExits d key q).drainQueue d key q.length

/-- The stop's test flits travel the ring, and its own checker takes them (R309). -/
def State.testsRing (s : State) (d stop : Nat) : Bool :=
  let x := Sparse.get Loopback.reset (s.die d).lb stop
  x.mode == 2 && x.left != 0

/-- A bridge stop takes the flit that it routes: the head of an exit buffer, or of what the Confluence port holds (R272,
R852). -/
def State.leaveBridge (s : State) (d r k f : Nat) : Option State :=
  let stop := stopIx r (18 * k)
  if s.testsRing d stop then none
  else if (s.exitsAt d (stop * 2)).head? = some f then some (s.popExit d (stop * 2))
  else if (s.exitsAt d (stop * 2 + 1)).head? = some f then some (s.popExit d (stop * 2 + 1))
  else if ((s.inboundAt d (2 * r + k)).head?.map (·.flit)) = some f then some (s.takeInbound d (2 * r + k) f)
  else none

/-- A flit that arrives on port 16, 17 or 18 is routed through the CRT (R276). -/
def State.routeCrt (s : State) (d i f : Nat) : State :=
  match s.dieHalfFor d (flitGen f) with
  | none => s.cflErr d MLR_CFL_ERR_GEN_MISS (16 + i) (flitTag f)
  | some h =>
    let e := s.tblEntry d (288 + i) h 0 (flitTag f)
    if entryValid e then s.cflSend d (16 + i) (slice e 0 5) (flitTag f) (withTag f (entryTag e))
    else s.cflErr d MLR_CFL_ERR_ROUTE_MISS (16 + i) (flitTag f)

/-- The first item of the lowest class (R279). -/
def bestCross (l : List CrossFlit) : Option CrossFlit :=
  [0, 1, 2].findSome? fun k => l.find? fun x => flitClass x.flit == k

/-- The domain on the far side of a crossbar port (R274). -/
def farDomain (d port : Nat) : Nat :=
  if port < 16 then 32 + d
  else if port = 16 then 32 + (d + 1) % 4
  else if port = 17 then 32 + (d + 3) % 4
  else if port = 18 then 90
  else 36 + d

/-- The die on the far side of a neighbour-die port, and the queue into its Confluence. -/
def farQueue (d port : Nat) : Nat × Nat := if port = 16 then ((d + 1) % 4, 593) else ((d + 3) % 4, 592)

/-- The list of State.inbound in which a scheduled flit stands on the far side of a port. -/
def farList (port : Nat) : Nat := if port = 18 then 20 else port

/-- The far side of a port has room for a flit, or is off (R46, R47, R275, R852); unscheduled flits always find room at an
endpoint (R285, R288). -/
def State.crossRoom (s : State) (d port f : Nat) : Bool :=
  if !s.domainOn (farDomain d port) then true
  else if port = 16 ∨ port = 17 then
    let q := farQueue d port
    Nat.ble (s.exitsAt q.1 q.2).length Config.crossDepth
  else !isScheduled f || Nat.ble (s.inboundAt d (farList port)).length Config.crossDepth

/-- An unscheduled flit reaches a bridge stop from the Confluence: it waits there for injection toward its stop, and the
bodies of a packet follow its head. -/
def State.enterRing (s : State) (d port f : Nat) : State :=
  let p := 18 * (port % 2)
  let key := d * 1000 + 600 + port
  let dir := if flitType f = 7 then s.stream key - 1 else s.sendDir d (port / 2) p (flitNode f)
  let s1 := if flitType f = 5 then s else s.setStream key (if endsPacket f then 0 else dir + 1)
  s1.pushUinj d (stopIx (port / 2) p) dir [f]

/-- A flit that the crossbar grants reaches the far side of its port. -/
def State.crossTo (s : State) (d port : Nat) (x : CrossFlit) : State :=
  if !s.domainOn (farDomain d port) then
    (if isScheduled x.flit then s.cflErr d MLR_CFL_ERR_PORT_OFF x.from_ (flitTag x.flit)
    else s.refuseOff d x.from_ x.flit)
  else if port = 16 ∨ port = 17 then s.pushExit (farQueue d port).1 (farQueue d port).2 x.flit
  else if isScheduled x.flit then s.pushInbound d (farList port) x.from_ x.flit
  else if port < 16 then s.enterRing d port x.flit
  else if port = 18 then s.nodeTake (d * 1000 + 700) 0xFFF x.flit
  else s.nodeTake (d * 1000 + 701) (cflNode d + 1) x.flit

/-- The transit buffer of a packet is free once its last flit has left (R278). -/
def State.freeTransit (s : State) (d : Nat) (x : CrossFlit) : State :=
  if endsPacket x.flit then
    let m := s.die d
    let mine (t : Transit) : Bool := t.port == x.from_ && t.whole && t.flits.getLast? == some x.flit
    (s.setDie d { m with transit := removeFirst mine m.transit }).drainSources d x.from_
  else s

/-- One crossbar output port in one ring cycle (R275, R279): it waits while its far side is full. -/
def State.grantCross (s : State) (d port : Nat) : State :=
  let q := Sparse.get [] (s.die d).cross port
  match bestCross q with
  | none => s
  | some x =>
    if s.crossRoom d port x.flit then
      let s1 := s.setDie d { s.die d with cross := Sparse.put [] (s.die d).cross port (removeFirst (· == x) q) }
      (s1.crossTo d port x).freeTransit d x
    else s

end Sys2Proof.Machine
end

