-- ==== Sys2Proof/Machine/HbmOps.lean ====
section
/-! DEFINITION. The shared operations of an HBM controller (06_design_memory): placement of blocks, requests and their
parts, replies, and windows. -/

namespace Sys2Proof.Machine

open Reg

/-- The controller of a die. -/
def State.ctl (s : State) (d : Nat) : HbmCtl := Sparse.get HbmCtl.reset s.hbc d

/-- The controller of a die replaced. -/
def State.setCtl (s : State) (d : Nat) (x : HbmCtl) : State := { s with hbc := Sparse.put HbmCtl.reset s.hbc d x }

/-! ### Placement (R322 to R327) -/

/-- A memory-table entry. -/
def State.memEntry (s : State) (d mid : Nat) : Nat := Sparse.get 0 (s.ctl d).mem mid

/-- BASE_PC. -/
def memBasePc (e : Nat) : Nat := slice e 0 5
/-- NPC_LOG2. -/
def memNpcLog2 (e : Nat) : Nat := slice e 5 3
/-- BLOCK_BASE. -/
def memBlockBase (e : Nat) : Nat := slice e 8 24
/-- NBLK. -/
def memNblk (e : Nat) : Nat := slice e 32 28

/-- The pseudo-channel and PC-block of a memory block (R323). -/
def placeBlock (e b : Nat) : Nat × Nat :=
  (memBasePc e + b % 2 ^ memNpcLog2 e, memBlockBase e + b / 2 ^ memNpcLog2 e)

/-- The first PC-block beyond a memory (R363). -/
def memEnd (e : Nat) : Nat := memBlockBase e + (memNblk e + 2 ^ memNpcLog2 e - 1) / 2 ^ memNpcLog2 e

/-- The key of a block in the HBM store: stack, pseudo-channel and PC-block (R324). -/
def blockKey (d pc k : Nat) : Nat := d * stackSize + k * 2048 + pc * 64

/-- The tag of memory block b (R327). -/
def blockTag (b mid : Nat) : Nat := b % 256 ^^^ mid % 256

/-- A block as a number of 512 bits (R326). -/
def State.readBlock (s : State) (d pc k : Nat) : Nat := readNat s.hbm (blockKey d pc k) 64

/-- A block written with a tag. -/
def State.writeBlock (s : State) (d pc k blk tag : Nat) : State :=
  { s with hbm := writeBytes s.hbm (blockKey d pc k) (bytesLE 64 (splice blk 504 8 tag)) }

/-- Word position w of a block (R326). -/
def blockWord (blk w : Nat) : Nat := slice blk (18 * w) 18

/-- A block with a word replaced. -/
def putWord (blk w v : Nat) : Nat := splice blk (18 * w) 18 v

/-- A block's tag is right. -/
def tagOk (blk b mid : Nat) : Bool := slice blk 504 8 == blockTag b mid

/-- A design write to an HBM block marks it dirty while a checkpoint is armed (R604). -/
def State.dirtyBlock (s : State) (d mid b : Nat) : State :=
  match s.frd.ckpt, s.blt.mems.find? fun m => m.stack == d && m.mid == mid with
  | some _, some m =>
    { s with frd := { s.frd with dirtyHbm := Sparse.put 0 s.frd.dirtyHbm (m.index * 268435456 + b) 1 } }
  | _, _ => s

/-! ### Replies (R338, R339, R345, R349) -/

/-- The budget of a latency class in ns (R345). -/
def State.budget (s : State) (d lc : Nat) : Nat :=
  match lc with
  | 0 => s.f (HBC_BUDGET_LC0 d)
  | 1 => s.f (HBC_BUDGET_LC1 d)
  | _ => s.f (HBC_BUDGET_LC2 d)

/-- The deadline of a request: the hub cycle, of 1 ns each, by which its reply is to leave (R345). -/
def State.deadline (s : State) (d : Nat) (q : HbcReq) : Nat := q.at_ + s.budget d q.lc

/-- A reply or acknowledgement that leaves after its deadline is counted (R349). -/
def State.countMiss (s : State) (d : Nat) (q : HbcReq) : State :=
  let late := s.hub - s.deadline d q
  if late = 0 then s
  else
    let s1 := (s.bump (HBC_MISS_COUNT d) 1).setF (HBC_MISS_MAX_NS d) (max (min late 65535) (s.f (HBC_MISS_MAX_NS d)))
    s1.count (srcOf 13 3 0) d late

/-- The MREP of a request leaves through its port (R338, R339). -/
def State.sendReply (s : State) (d : Nat) (q : HbcReq) (word : Nat) : State :=
  s.cflSend d 19 q.rport q.rtag (mkFlit 3 q.gen 0 q.rtag q.stamp word)

/-- The MREP of a request that a window has served leaves (R345, R349). -/
def State.reply (s : State) (d : Nat) (q : HbcReq) (word : Nat) : State := (s.countMiss d q).sendReply d q word

/-! ### Requests and their parts (R325, R335 to R337, R350) -/

/-- A request that performs no access answers at once, and always meets its deadline (R325). -/
def State.refuseAccess (s : State) (d : Nat) (q : HbcReq) : State := s.sendReply d q (if q.wr then 0 else 0x3FFFF)

/-- The pseudo-channel that a request goes to, when it performs an access (R325). -/
def State.target (s : State) (d : Nat) (q : HbcReq) : Option Nat :=
  let e := s.memEntry d q.mid
  if entryValid e ∧ q.addr / 28 < memNblk e then some (placeBlock e (q.addr / 28)).1 else none

/-- A queue has room for a request (R350). -/
def State.queueRoom (s : State) (d : Nat) (q : HbcReq) : Bool :=
  match s.target d q with
  | none => true
  | some pc => Nat.blt (Sparse.get [] (s.ctl d).queue pc).length 64

/-- A request whose last part has arrived (R325, R336). -/
def State.enterQueue (s : State) (d : Nat) (q : HbcReq) : State :=
  let e := s.memEntry d q.mid
  match s.target d q with
  | some pc =>
    let c := s.ctl d
    s.setCtl d { c with queue := Sparse.put [] c.queue pc (Sparse.get [] c.queue pc ++ [q]) }
  | none =>
    if entryValid e then
      let pl := placeBlock e (q.addr / 28)
      (s.hbcRecord d HBC_ERR_RANGE 2 pl.1 pl.2).refuseAccess d q
    else
      let w := (Config.freeWord s.free).toNat
      ((s.hbcRecord d HBC_ERR_NO_MID 3 (slice w 24 5) (slice w 0 24)).takeFree).refuseAccess d q

/-- The MQT entry that a part names, in the half of its generation (R335). -/
def State.mqtEntry (s : State) (d port f : Nat) : Option Nat :=
  match s.dieHalfFor d (flitGen f) with
  | none => none
  | some h =>
    let e := Sparse.get 0 (s.ctl d).mqt ((h * 32 + port) * 1024 + flitTag f)
    if entryValid e then some e else none

/-- The request that part 0 opens (R336). -/
def State.openReq (s : State) (port f e : Nat) : HbcParts :=
  ⟨port, flitTag f, slice e 2 2,
    ⟨bitOf e 4, false, slice e 5 10, slice e 15 2, slice e 17 5, slice e 32 10, flitGen f, flitStamp f, flitWord f, 0,
      s.hub, none, false⟩, 1⟩

/-- A part j joins a request (R332). -/
def joinPart (x : HbcParts) (j f : Nat) : HbcParts :=
  let w := flitWord f
  let req := if j = 1 then { x.req with we := bitOf w 14, addr := x.req.addr + slice w 0 14 * 262144 }
    else { x.req with data := w }
  { x with req := req, got := putBit x.got j true }

/-- A request that waits for part j with this port, tag and stamp (R336). -/
def waitsFor (port j f : Nat) (x : HbcParts) : Bool :=
  x.port == port && x.tag + j == flitTag f && x.req.stamp == flitStamp f && x.req.gen == flitGen f && !bitOf x.got j

/-- Every part of a request has arrived. -/
def allParts (x : HbcParts) : Bool := (List.range x.np).all (bitOf x.got)

/-- What a part leads to: a request with its parts so far, or a discard. -/
def State.matchPart (s : State) (d port f e : Nat) : Option HbcParts :=
  let j := slice e 0 2
  if j = 0 then some (s.openReq port f e)
  else if j = 3 then none
  else ((s.ctl d).parts.find? (waitsFor port j f)).map fun x => joinPart x j f

/-- The pending requests without the one that part f has joined. -/
def State.dropPart (s : State) (d port f e : Nat) : State :=
  let c := s.ctl d
  s.setCtl d { c with parts := removeFirst (waitsFor port (slice e 0 2) f) c.parts }

/-- A part reaches the controller (R335 to R337): none when the memory port refuses it (R350). -/
def State.takePart (s : State) (d port f : Nat) : Option State :=
  match s.mqtEntry d port f with
  | none => some (s.hbcErr d HBC_ERR_MQT_MISS)
  | some e =>
    match s.matchPart d port f e with
    | none => some (s.hbcErr d HBC_ERR_PARTIAL)
    | some x =>
      let s1 := if slice e 0 2 = 0 then s else s.dropPart d port f e
      if !allParts x then
        let c := s1.ctl d
        some (s1.setCtl d { c with parts := c.parts ++ [x] })
      else if s.queueRoom d x.req then some (s1.enterQueue d x.req)
      else none

/-- The parts that wait at the memory port are taken in order until one finds its queue full (R350); first is the one that
has already been refused. -/
def State.drainPort (s : State) (d : Nat) (first : Bool) : Nat → State
  | 0 => s
  | n + 1 =>
    match (s.ctl d).blocked with
    | [] => s
    | x :: xs =>
      match s.takePart d x.from_ x.flit with
      | none => if first then s else s.hbcErr d HBC_ERR_QFULL
      | some t => State.drainPort (t.setCtl d { t.ctl d with blocked := xs }) d false n

/-! ### Windows (R341 to R344, R348, R351 to R354) -/

/-- The kind of a window (R343): 0 design, 1 acquisition, 2 refresh, 3 ECC. -/
def windowKind (w : Nat) : Nat :=
  match w % 16 with
  | 3 | 11 => 1
  | 7 => 2
  | 15 => 3
  | _ => 0

/-- Two requests name one memory block. -/
def sameBlock (a b : HbcReq) : Bool := a.mid == b.mid && a.addr / 28 == b.addr / 28

/-- The request of a queue that is first for its block, in order of arrival (R342). -/
def firstOfBlock (l : List HbcReq) (q : HbcReq) : HbcReq := (l.find? (sameBlock q)).getD q

/-- The request with the earliest deadline, the oldest among equals. -/
def State.earliest (s : State) (d : Nat) (l : List HbcReq) : Option HbcReq :=
  l.foldl (fun best q =>
    match best with
    | none => some q
    | some b => if s.deadline d q < s.deadline d b then some q else some b) none

/-- The request that a design window serves (R342, R344): one that does not wait behind a retry. -/
def State.pick (s : State) (d pc : Nat) : Option HbcReq :=
  let l := Sparse.get [] (s.ctl d).queue pc
  (s.earliest d (l.filter fun q => !(firstOfBlock l q).retry)).map (firstOfBlock l)

/-- A queue with its first copy of a request replaced, or removed. -/
def replaceReq (old : HbcReq) (new : Option HbcReq) : List HbcReq → List HbcReq
  | [] => []
  | q :: l => if q = old then (match new with | some x => x :: l | none => l) else q :: replaceReq old new l

/-- A request of a queue changes, or leaves it; what waits at the port may then enter. -/
def State.setReq (s : State) (d pc : Nat) (old : HbcReq) (new : Option HbcReq) : State :=
  let c := s.ctl d
  s.setCtl d { c with queue := Sparse.put [] c.queue pc (replaceReq old new (Sparse.get [] c.queue pc)) }

/-- A request leaves the queue with its answer. -/
def State.finishReq (s : State) (d pc : Nat) (q : HbcReq) (word : Nat) : State :=
  let s1 := (s.setReq d pc q none).reply d q word
  s1.drainPort d true (s1.ctl d).blocked.length

/-- The outcome of a request's read of its block (R341, R353, R354): its tag decides, once the block is read. -/
def State.useBlock (s : State) (d pc : Nat) (q : HbcReq) : State :=
  let b := q.addr / 28
  let e := s.memEntry d q.mid
  let pl := placeBlock e b
  let blk := s.readBlock d pl.1 pl.2
  if !tagOk blk b q.mid then
    (s.hbcRecord d HBC_ERR_TAG 1 pl.1 pl.2).finishReq d pc q (if q.wr then 0 else 0x3FFFF)
  else if q.wr then s.setReq d pc q (some { q with half := some blk, retry := false })
  else s.finishReq d pc q (blockWord blk (q.addr % 28))

/-- A read of a block that fails twice (R341, R353). -/
def State.failRead (s : State) (d pc : Nat) (q : HbcReq) : State :=
  let pl := placeBlock (s.memEntry d q.mid) (q.addr / 28)
  ((s.hbcRecord d HBC_ERR_UE 0 pl.1 pl.2).fire 3).finishReq d pc q (if q.wr then 0 else 0x3FFFF)

/-- The write half of a write (R341). -/
def State.writeHalf (s : State) (d pc : Nat) (q : HbcReq) (blk : Nat) : State :=
  let b := q.addr / 28
  let pl := placeBlock (s.memEntry d q.mid) b
  let s1 :=
    if q.we then (s.writeBlock d pl.1 pl.2 (putWord blk (q.addr % 28) q.data) (blockTag b q.mid)).dirtyBlock d q.mid b
    else s
  s1.finishReq d pc q 0

/-- One access of a request in a window, with what on-die ECC reports: 0 nothing, 1 corrected, 2 uncorrected. -/
def State.serve (s : State) (d pc ecc : Nat) (q : HbcReq) : State :=
  match q.half with
  | some blk => s.writeHalf d pc q blk
  | none =>
    if ecc = 2 then (if q.retry then s.failRead d pc q else s.setReq d pc q (some { q with retry := true }))
    else (if ecc = 1 then s.bump (HBC_CE_CNT_CE d) 1 else s).useBlock d pc q

/-- The first request of a queue that waits for its retry. -/
def State.retryOf (s : State) (d pc : Nat) : Option HbcReq :=
  s.earliest d ((Sparse.get [] (s.ctl d).queue pc).filter (·.retry))

/-- What a window of a pseudo-channel is used for (R343, R344, R352, R353): a retry, its owner, or the design request with
the earliest deadline; none of them leaves it to the carve-out and to acquisition. The flag says that acquisition may
use it (R472): its own window, or one that is left over. -/
def State.useWindow (s : State) (d pc kind : Nat) (ownerUses overrun : Bool) (ecc : Nat) : Bool × State :=
  match if kind = 3 then s.retryOf d pc else none with
  | some q => (false, s.serve d pc ecc q)
  | none =>
    if kind == 0 && overrun then (false, s)
    else if kind != 0 && ownerUses then (kind == 1, s)
    else
      match s.pick d pc with
      | some q => (false, s.serve d pc ecc q)
      | none => (true, s)

/-- One window of a pseudo-channel (R343, R344, R352, R353). -/
def State.window (s : State) (d pc : Nat) (ownerUses overrun : Bool) (ecc : Nat) : State :=
  let c := s.ctl d
  let w := Sparse.get 0 c.win pc
  let was := Sparse.get 0 c.isOver pc == 1
  let s1 := s.setCtl d { c with win := Sparse.put 0 c.win pc ((w + 1) % 16), isOver := Sparse.put 0 c.isOver pc (ofBool overrun) }
  let s2 := if overrun && !was then s1.bump (HBC_STAT_OVR_CNT d) 1 else s1
  let r := s2.useWindow d pc (windowKind w) ownerUses overrun ecc
  let c2 := r.2.ctl d
  r.2.setCtl d { c2 with acqSlot := Sparse.put 0 c2.acqSlot pc (ofBool r.1) }

end Sys2Proof.Machine
end

