-- ==== Sys2Proof/Machine/Millrace.lean ====
section
/-! DEFINITION. The commands of the rings and the Confluence (05_millrace_network): flits, generations, slot tables and
loopback. -/

namespace Sys2Proof.Machine

open Reg

/-- The die's ring and Confluence domain is ON. -/
def State.dieOn (s : State) (d : Nat) : Bool := s.domainOn (32 + d)

/-- SEGMENT_GRANT (R265 to R267). -/
def execSegmentGrant (d : Fin 4) (r : Fin 8) (pos : Fin 36) (ccw : Bool) (s : State) : Result :=
  if s.dieOn d then .next (s.grantSegment d r pos (ofBool ccw)) else .next s

/-- FLIT_EXIT (R246, R268 to R271, R301): a scheduled flit that has reached the cluster stop its DST names leaves the ring. -/
def execFlitExit (d : Fin 4) (r : Fin 8) (pos : Fin 36) (ccw : Bool) (flit : BitVec 54) (s : State) : Result :=
  let f := flit.toNat
  let stop := stopIx r pos
  if s.dieOn d && !isBridge pos && isScheduled f && flitDst f == pos.val && (s.linkAt d stop (ofBool ccw)).contains f &&
      !s.testsRing d stop then
    .next ((s.leaveLink d stop (ofBool ccw) f).exitCluster d r pos (ofBool ccw) f)
  else .next s

/-- BRT_ROUTE (R272, R852): the flit heads an exit buffer of the bridge stop, or its Confluence port; it stays there while
its injection queue is full. -/
def execBrtRoute (d : Fin 4) (r : Fin 8) (k : Fin 2) (flit : BitVec 54) (s : State) : Result :=
  if s.dieOn d && isScheduled flit.toNat then
    match (s.leaveBridge d r k flit.toNat).bind fun t => t.routeBrt d r k flit.toNat with
    | some t => .next t
    | none => .next s
  else .next s

/-- CRT_ROUTE (R276): the flit heads what has reached the port. -/
def execCrtRoute (d : Fin 4) (port : Fin 3) (flit : BitVec 54) (s : State) : Result :=
  if s.dieOn d && isScheduled flit.toNat && (s.exitsAt d (592 + port)).head? == some flit.toNat then
    .next ((s.routeCrt d port flit.toNat).popExit d (592 + port))
  else .next s

/-- CROSSBAR_GRANT (R279). -/
def execCrossbarGrant (d : Fin 4) (port : Fin 20) (s : State) : Result :=
  if s.dieOn d then .next (s.grantCross d port) else .next s

/-- WRITE_ACK_ABSORB (R340). -/
def execWriteAckAbsorb (d : Fin 4) (ftag : BitVec 2) (s : State) : Result :=
  if s.dieOn d then .next (s.absorbAck d ftag.toNat) else .next s

/-! ### Generations (R289 to R294, R315) -/

/-- ARM (R293). -/
def State.armSwitch (s : State) (d : Nat) : State :=
  if !s.flag (MLR_GEN_STATUS_PEND_VALID d) ∨ s.f64 (MLR_GEN_FRAME d) ≤ s.frameNo then s.genErr d
  else s.setF (MLR_GEN_STATUS_ARMED d) 1

/-- NOW (R294). -/
def State.switchNow (s : State) (d : Nat) : State :=
  if s.framesMode ∨ !s.flag (MLR_GEN_STATUS_PEND_VALID d) then s.genErr d else s.swapTables d false

/-- CANCEL. -/
def State.cancelSwitch (s : State) (d : Nat) : State :=
  (s.setF (MLR_GEN_STATUS_ARMED d) 0).setF (MLR_GEN_STATUS_PEND_VALID d) 0

/-- A write of MLR_GEN_CTRL (R291, R315): one whose NEXT_GEN is not ahead is dropped. -/
def State.genCtrl (s : State) (d v : Nat) : State :=
  let next := slice v 0 4
  let dist := (next + 16 - s.f (MLR_GEN_STATUS_ACTIVE_GEN d)) % 16
  if bitOf v 7 ∧ (dist = 0 ∨ 8 ≤ dist) then s.genErr d
  else
    let s1 := if bitOf v 7 then (s.setF (MLR_GEN_STATUS_PEND_GEN d) next).setF (MLR_GEN_STATUS_PEND_VALID d) 1 else s
    let s2 := if bitOf v 4 then s1.armSwitch d else s1
    let s3 := if bitOf v 5 then s2.switchNow d else s2
    if bitOf v 6 then s3.cancelSwitch d else s3

/-- SET_GEN (R291, R315). -/
def execSetGen (p : Path) (d : Fin 4) (v : Word) (s : State) : Result :=
  .next (s.onWrite p (MLR_GEN_CTRL d) fun s => s.genCtrl d v.toNat)

/-- ARM (R292, R293, R315). -/
def execArm (p : Path) (d : Fin 4) (v : Word) (s : State) : Result :=
  .next (s.onWrite p (MLR_GEN_CTRL d) fun s => s.genCtrl d v.toNat)

/-- NOW (R294, R315). -/
def execNow (p : Path) (d : Fin 4) (v : Word) (s : State) : Result :=
  .next (s.onWrite p (MLR_GEN_CTRL d) fun s => s.genCtrl d v.toNat)

/-- CANCEL (R315). -/
def execCancel (p : Path) (d : Fin 4) (v : Word) (s : State) : Result :=
  .next (s.onWrite p (MLR_GEN_CTRL d) fun s => s.genCtrl d v.toNat)

/-- UTO_WRITE (R316). -/
def execUtoWrite (p : Path) (d : Fin 4) (v : Word) (s : State) : Result :=
  .next (s.onWrite p (MLR_UTO d) fun s =>
    let hold := slice v.toNat 0 16
    let src := slice v.toNat 16 16
    let s1 := if hold = 0 then s else s.setF (MLR_UTO_HOLD d) hold
    let s2 := if src = 0 then s1 else s1.setF (MLR_UTO_SRC d) src
    if hold = 0 ∨ src = 0 then s2.raise (MLR_CFL_ERR_ARG d) 14 1 (cflNode d) 0 else s2)

/-! ### Table commands (R317 to R319) -/

/-- The bits of a table's entries that exist: D0 and D1 (table of entry layouts). -/
def tblMask (table : Nat) : Nat × Nat :=
  match table with
  | 0 => (0x3FFFFFF, 0x800003FF)
  | 1 => (0x7FF7F, 0x80000000)
  | 2 => (0x7FFF, 0x800003FF)
  | _ => (0x1F, 0x800003FF)

/-- The DST of an entry of TXT or BRT. -/
def tblDst (table d0 : Nat) : Nat := if table = 0 then slice d0 20 6 else if table = 2 then slice d0 8 6 else 0

/-- The argument check of a table command (R318). -/
def tblBad (cmd table pos d0 : Nat) : Bool :=
  let bridge := isBridge pos
  Nat.blt 1 (popcount 3 cmd) || (table != 3 && Nat.blt 35 pos) || (Nat.ble table 1 && bridge) ||
    (table == 2 && !bridge) || (table == 3 && (Nat.blt pos 16 || Nat.blt 18 pos)) ||
    (bitOf cmd 1 && Nat.blt 35 (tblDst table d0))

/-- The refusal of a table command (R319): 0 none, 1 STATE, 2 ARG. -/
def State.tblRefusal (s : State) (d cmd : Nat) : Nat :=
  if s.billetRuns then 1
  else if tblBad cmd (s.f (MLR_TBL_ADDR_TABLE d)) (s.f (MLR_TBL_ADDR_POS d)) (s.reg (MLR_TBL_D0 d)).toNat then 2
  else if !bitOf cmd 0 ∧ s.flag (MLR_TBL_ADDR_HALF d) ∧ s.framesMode then 1
  else 0

/-- The stop that MLR_TBL_ADDR names; the CRT of a port stands beside the stops. -/
def State.tblStop (s : State) (d : Nat) : Nat :=
  let pos := s.f (MLR_TBL_ADDR_POS d)
  if s.f (MLR_TBL_ADDR_TABLE d) = 3 then 288 + (pos - 16) else stopIx (s.f (MLR_TBL_ADDR_RING d)) pos

/-- The physical half that MLR_TBL_ADDR names. -/
def State.tblHalf (s : State) (d : Nat) : Nat :=
  let stop := s.tblStop d
  let act := if 288 ≤ stop then (s.die d).half else s.stopHalf d stop
  if s.flag (MLR_TBL_ADDR_HALF d) then act else 1 - act

/-- The table of a stop: 0 TXT, BRT or CRT, 1 RXT. -/
def State.tblTable (s : State) (d : Nat) : Nat := if s.f (MLR_TBL_ADDR_TABLE d) = 1 then 1 else 0

/-- ENTRY increments under AUTOINC. -/
def State.tblNext (s : State) (d : Nat) : State :=
  if s.flag (MLR_TBL_ADDR_AUTOINC d) then s.setF (MLR_TBL_ADDR_ENTRY d) (s.f (MLR_TBL_ADDR_ENTRY d) + 1) else s

/-- READ of a table entry. -/
def State.tblRead (s : State) (d : Nat) : State :=
  let e := s.tblEntry d (s.tblStop d) (s.tblHalf d) (s.tblTable d) (s.f (MLR_TBL_ADDR_ENTRY d))
  ((s.setNat (MLR_TBL_D0 d) e).setNat (MLR_TBL_D1 d) (e / 4294967296)).tblNext d

/-- WRITE of a table entry. -/
def State.tblWrite (s : State) (d : Nat) : State :=
  let m := tblMask (s.f (MLR_TBL_ADDR_TABLE d))
  let e := ((s.reg (MLR_TBL_D0 d)).toNat &&& m.1) + ((s.reg (MLR_TBL_D1 d)).toNat &&& m.2) * 4294967296
  (s.setTblEntry d (s.tblStop d) (s.tblHalf d) (s.tblTable d) (s.f (MLR_TBL_ADDR_ENTRY d)) e).tblNext d

/-- An entry of one table half with V cleared. -/
def clearValid (base : Nat) (kv : Nat × Nat) : Nat × Nat :=
  if Nat.ble base kv.1 && Nat.blt kv.1 (base + 1024) then (kv.1, kv.2 % 9223372036854775808) else kv

/-- Entries of a table half with V = 0 that hold nothing leave the store. -/
def clearHalf (tbl : Sparse Nat) (base : Nat) : Sparse Nat := (tbl.map (clearValid base)).filter fun kv => kv.2 != 0

/-- CLEAR of a table half. -/
def State.tblClear (s : State) (d : Nat) : State :=
  let base := tblKey (s.tblStop d) (s.tblHalf d) (s.tblTable d) 0
  s.setDie d { s.die d with tbl := clearHalf (s.die d).tbl base }

/-- A table command (R317 to R319). -/
def State.tblCommand (s : State) (d v : Nat) : State :=
  let cmd := slice v 0 3
  let e := s.tblRefusal d cmd
  if cmd = 0 then s
  else if e ≠ 0 then s.setF (MLR_TBL_STAT_ERR d) e
  else
    let s1 := s.setF (MLR_TBL_STAT_ERR d) 0
    if cmd = 1 then s1.tblRead d else if cmd = 2 then s1.tblWrite d else s1.tblClear d

/-- MLR_TBL_READ (R317 to R319). -/
def execMlrTblRead (p : Path) (d : Fin 4) (v : Word) (s : State) : Result :=
  .next (s.onWrite p (MLR_TBL_CMD d) fun s => s.tblCommand d v.toNat)

/-- MLR_TBL_WRITE (R317 to R319). -/
def execMlrTblWrite (p : Path) (d : Fin 4) (v : Word) (s : State) : Result :=
  .next (s.onWrite p (MLR_TBL_CMD d) fun s => s.tblCommand d v.toNat)

/-- MLR_TBL_CLEAR (R317 to R319). -/
def execMlrTblClear (p : Path) (d : Fin 4) (v : Word) (s : State) : Result :=
  .next (s.onWrite p (MLR_TBL_CMD d) fun s => s.tblCommand d v.toNat)

/-! ### Loopback (R309 to R311) -/

/-- The test generator of a stop. -/
def State.loopback (s : State) (d stop : Nat) : Loopback := Sparse.get Loopback.reset (s.die d).lb stop

/-- The test generator of a stop replaced. -/
def State.setLoopback (s : State) (d stop : Nat) (x : Loopback) : State :=
  s.setDie d { s.die d with lb := Sparse.put Loopback.reset (s.die d).lb stop x }

/-- GO with a count (R309, R310): one test flit leaves in each ring cycle; those of RING as its segment takes them. -/
def State.loopbackStart (s : State) (d r p count : Nat) : State :=
  if count = 0 then s
  else
    let b := stopBase d r p
    let mode := s.f (MLR_STOP_LB_MODE b)
    let s1 := ((s.setF (MLR_STOP_LBSTAT_RCVD b) 0).setF (MLR_STOP_LBSTAT_ERRS b) 0).setF (MLR_STOP_LBSTAT_BUSY b) 1
    s1.setLoopback d (stopIx r p) ⟨count, 0, s.hub + 2 * (count - 1) / 5, count, count, mode, s.f (MLR_STOP_LB_DIR b)⟩

/-- A write of MLR_STOP_LB (R310, R311). -/
def State.loopbackWrite (s : State) (d r p : Nat) (v : Word) : State :=
  let go := bitOf v.toNat 3
  if s.mode ≠ Mode.diagnose ∧ (slice v.toNat 0 2 ≠ 0 ∨ go) then s.stopErr d r p MLR_STOP_ERR_LB_STATE
  else
    let s1 := s.writeBits (MLR_STOP_LB (stopBase d r p)) v
    if go then s1.loopbackStart d r p (slice v.toNat 16 16) else s1

/-- LOOPBACK_MODE_WRITE (R311). -/
def execLoopbackModeWrite (p : Path) (d : Fin 4) (r : Fin 8) (pos : Fin 36) (v : Word) (s : State) : Result :=
  .next (s.onWrite p (MLR_STOP_LB (stopBase d r pos)) fun s => s.loopbackWrite d r pos v)

/-- LOOPBACK_GO (R310). -/
def execLoopbackGo (p : Path) (d : Fin 4) (r : Fin 8) (pos : Fin 36) (v : Word) (s : State) : Result :=
  .next (s.onWrite p (MLR_STOP_LB (stopBase d r pos)) fun s => s.loopbackWrite d r pos v)

/-- A test flit reaches the exit side of its stop (R309): at once by STOP, and at a bridge stop by CONFLUENCE; after its way
round by RING, from the link or the exit buffer on which it stands; never otherwise. -/
def State.testArrives (s : State) (d r p : Nat) (x : Loopback) : Option State :=
  let stop := stopIx r p
  if x.mode = 1 ∨ (x.mode = 3 ∧ isBridge p) then some s
  else if x.mode ≠ 2 then none
  else if isBridge p then (if s.exitsAt d (stop * 2 + x.dir) = [] then none else some (s.popExit d (stop * 2 + x.dir)))
  else
    match (s.linkAt d stop x.dir).find? fun f => flitDst f == p with
    | some f => some (s.leaveLink d stop x.dir f)
    | none => none

/-- LOOPBACK_RECEIVE (R309, R310): payload is what the checker reads of the flit. -/
def execLoopbackReceive (d : Fin 4) (r : Fin 8) (pos : Fin 36) (payload : Syl) (s : State) : Result :=
  let b := stopBase d r pos
  let stop := stopIx r pos
  let x := s.loopback d stop
  if x.left = 0 ∨ !s.dieOn d then .next s
  else
    match s.testArrives d r pos x with
    | none => .next s
    | some s0 =>
      let x0 := s0.loopback d stop
      let s1 := (s0.bump (MLR_STOP_LBSTAT_RCVD b) 1).setLoopback d stop { x0 with left := x0.left - 1, expect := x0.expect + 1 }
      let s2 :=
        if payload.toNat = x.expect % 262144 then s1
        else (s1.bump (MLR_STOP_LBSTAT_ERRS b) 1).stopErr d r pos MLR_STOP_ERR_LB_MISMATCH
      .next (if x.left = 1 then s2.setF (MLR_STOP_LBSTAT_BUSY b) 0 else s2)

/-- LOOPBACK_BUSY_TIMEOUT (R310). -/
def execLoopbackBusyTimeout (d : Fin 4) (r : Fin 8) (pos : Fin 36) (s : State) : Result :=
  let b := stopBase d r pos
  let x := s.loopback d (stopIx r pos)
  if s.flag (MLR_STOP_LBSTAT_BUSY b) ∧ x.sentAt ≤ s.hub ∧ !(x.mode = 2 ∧ x.toSend ≠ 0) ∧ s.elapsedRing x.sentAt 4096 then
    .next ((s.setLoopback d (stopIx r pos) { x with left := 0 }).setF (MLR_STOP_LBSTAT_BUSY b) 0)
  else .next s

end Sys2Proof.Machine
end

