-- ==== Sys2Proof/Machine/DesignMemory.lean ====
section
/-! DEFINITION. The commands of design memory (06_design_memory): request parts, windows, the HBC command unit, its tables
and registers, memory ports, route tables and cluster SRAM. -/

namespace Sys2Proof.Machine

open Reg

/-- The HBM PHY domain of a die is ON. -/
def State.hbmOn (s : State) (d : Nat) : Bool := s.domainOn (36 + d)

/-- MREQ_PART_ARRIVAL (R335 to R337, R350): a part behind one that waits at the port waits too. -/
def execMreqPartArrival (d : Fin 4) (port : Fin 18) (flit : BitVec 54) (s : State) : Result :=
  if s.hbmOn d && flitType flit.toNat == 2 then
    let s1 := s.takeInbound d 19 flit.toNat
    let c := s1.ctl d
    let wait (t : State) : State := t.setCtl d { t.ctl d with blocked := c.blocked ++ [⟨port, flit.toNat⟩] }
    if c.blocked = [] then
      match s1.takePart d port flit.toNat with
      | some t => .next t
      | none => .next (wait (s1.hbcErr d HBC_ERR_QFULL))
    else .next (wait s1)
  else .next s

/-- PARTIAL_TIMEOUT (R337). -/
def execPartialTimeout (d : Fin 4) (port : Fin 18) (tag : BitVec 10) (s : State) : Result :=
  let c := s.ctl d
  let due (x : HbcParts) : Bool := x.port == port.val && x.tag == tag.toNat && s.elapsedRing x.req.at_ 64
  if c.parts.any due then
    .next ((s.setCtl d { c with parts := removeFirst due c.parts }).hbcErr d HBC_ERR_PARTIAL)
  else .next s

/-- HBM_WINDOW (R343, R344, R352 to R354). -/
def execHbmWindow (d : Fin 4) (pc : Fin 32) (ownerUses overrun : Bool) (ecc : Fin 3) (s : State) : Result :=
  if s.hbmOn d then .next (s.window d pc ownerUses overrun ecc) else .next s

/-! ### The HBC command unit (R355 to R358) -/

/-- The carve-out byte x of a stack. -/
def stackCarve (d x : Nat) : Nat := d * stackSize + 23622320128 + x

/-- Block i of a range of words: what of it the range covers (R357). -/
def blockPart (first len i : Nat) : Nat → Bool :=
  fun w => Nat.ble first (28 * (first / 28 + i) + w) && Nat.blt (28 * (first / 28 + i) + w) (first + len)

/-- The blocks that a range of words touches. -/
def blockSpan (first len : Nat) : Nat := (first + len + 27) / 28 - first / 28

/-- Block i of a range is written, whole or by R341; the first component counts the words written. An uncorrectable error
in its read (ue), or a tag that differs, writes nothing (R341, R357). -/
def State.writePart (s : State) (d mid first len : Nat) (value : Nat → Nat) (ue : Bool) (i : Nat) : Nat × State :=
  let b := first / 28 + i
  let pl := placeBlock (s.memEntry d mid) b
  let inside := blockPart first len i
  let words := (List.range 28).filter inside
  let whole := words.length == 28
  let old := s.readBlock d pl.1 pl.2
  if !whole && ue then (0, s.hbcRecord d HBC_ERR_UE 0 pl.1 pl.2)
  else if !whole && !tagOk old b mid then (0, s.hbcRecord d HBC_ERR_TAG 1 pl.1 pl.2)
  else
    let blk := words.foldl (fun k w => putWord k w (value (28 * b + w - first))) (if whole then 0 else old)
    (words.length, s.writeBlock d pl.1 pl.2 blk (blockTag b mid))

/-- Words written to consecutive addresses of a memory, block by block, with the number of words written (R341, R357); the
reads of its first and of its last block find an uncorrectable error under ue. -/
def State.writeWords (s : State) (d mid first : Nat) (value : Nat → Nat) (len : Nat) (ue : Bool × Bool) : Nat × State :=
  let n := blockSpan first len
  (List.range n).foldl (fun t i =>
    let r := t.2.writePart d mid first len value ((i == 0 && ue.1) || (i + 1 == n && ue.2)) i
    (t.1 + r.1, r.2)) (0, s)

/-- The refusal of an HBC command, or its no-op (R356): none when it runs; otherwise its ERR. -/
def State.hbcRefusal (s : State) (d cmd : Nat) : Option Nat :=
  let mid := s.f (HBC_MB_ARG0_MID d)
  let first := (s.reg (HBC_MB_ARG1 d)).toNat
  let len := (s.reg (HBC_MB_ARG2 d)).toNat
  let off := (s.reg (HBC_MB_ARG3 d)).toNat
  let e := s.memEntry d mid
  if s.billetRuns ∨ s.mode = Mode.run ∨ s.mode = Mode.timed ∨ (s.mode = Mode.step ∧ !s.seq.halted) then some 3
  else if cmd = 0 ∨ 3 < cmd then some 2
  else if len = 0 then some 0
  else if !entryValid e then some 8
  else if cmd ≠ 1 ∧ off % 4 ≠ 0 then some 2
  else if 28 * memNblk e < first + len ∨ (cmd ≠ 1 ∧ 2147483648 < off + 4 * len) then some 1
  else none

/-- The stack byte at which unit i of the carve-out range starts. -/
def State.hbcUnit (s : State) (d i : Nat) : Nat := stackCarve d ((s.reg (HBC_MB_ARG3 d)).toNat + 4 * i)

/-- The words of the command's range are written: RESULT counts those transferred (R357). -/
def State.hbcWrite (s : State) (d : Nat) (value : Nat → Nat) (ue : Bool × Bool) : State :=
  let r := s.writeWords d (s.f (HBC_MB_ARG0_MID d)) (s.reg (HBC_MB_ARG1 d)).toNat value (s.reg (HBC_MB_ARG2 d)).toNat ue
  r.2.mbFinish (1 + d) 0 r.1 0

/-- FILL. -/
def State.hbcFill (s : State) (d : Nat) (ue : Bool × Bool) : State :=
  let v := slice (s.reg (HBC_MB_ARG3 d)).toNat 0 18
  s.hbcWrite d (fun _ => v) ue

/-- COPY_IN. -/
def State.hbcCopyIn (s : State) (d : Nat) (ue : Bool × Bool) : State :=
  s.hbcWrite d (fun i => slice (readNat s.hbm (s.hbcUnit d i) 4) 0 18) ue

/-- The first word of a range whose block does not carry its tag, and how many words come before it. -/
def State.badTag (s : State) (d mid first len : Nat) : Option Nat :=
  let e := s.memEntry d mid
  ((List.range ((first + len + 27) / 28 - first / 28)).find? fun i =>
    let b := first / 28 + i
    let pl := placeBlock e b
    !tagOk (s.readBlock d pl.1 pl.2) b mid).map fun i => 28 * (first / 28 + i) - first

/-- COPY_OUT, with the number of words before an uncorrectable error (R357). -/
def State.hbcCopyOut (s : State) (d : Nat) (eccAt : Option Nat) : State :=
  let mid := s.f (HBC_MB_ARG0_MID d)
  let first := (s.reg (HBC_MB_ARG1 d)).toNat
  let len := (s.reg (HBC_MB_ARG2 d)).toNat
  let e := s.memEntry d mid
  let tag := min len ((s.badTag d mid first len).getD len)
  let ecc := min len (eccAt.getD len)
  let n := min tag ecc
  let word (a : Nat) : Nat :=
    let pl := placeBlock e (a / 28)
    blockWord (s.readBlock d pl.1 pl.2) (a % 28)
  let bytes := ((List.range n).map fun i => bytesLE 4 (word (first + i))).flatten
  let err := if n = len then 0 else if ecc < tag then 5 else 9
  let s1 := { s with hbm := writeBytes s.hbm (s.hbcUnit d 0) bytes }
  let s2 := if err = 9 then s1.hbcErr d HBC_ERR_TAG else s1
  s2.mbFinish (1 + d) err n 0

/-- An HBC command (R356, R358, R22, R23). -/
def State.hbcCommand (s : State) (d cmd : Nat) (act : State → State) : State :=
  s.mbCommand (1 + d) cmd fun s =>
    match s.hbcRefusal d cmd with
    | some e => s.mbFinish (1 + d) e 0 0
    | none => act s

/-- FILL (R356 to R358). -/
def execFill (p : Path) (w : HbcWrite) (s : State) : Result :=
  .next (s.onWrite p (HBC_MB_CMD w.d) fun s => s.hbcCommand w.d 1 fun s => s.hbcFill w.d (w.ueFirst, w.ueLast))

/-- COPY_OUT (R355 to R358). -/
def execCopyOut (p : Path) (d : Fin 4) (eccAt : Option Nat) (s : State) : Result :=
  .next (s.onWrite p (HBC_MB_CMD d) fun s => s.hbcCommand d 2 fun s => s.hbcCopyOut d eccAt)

/-- COPY_IN (R355 to R358). -/
def execCopyIn (p : Path) (w : HbcWrite) (s : State) : Result :=
  .next (s.onWrite p (HBC_MB_CMD w.d) fun s => s.hbcCommand w.d 3 fun s => s.hbcCopyIn w.d (w.ueFirst, w.ueLast))

/-! ### The HBC tables (R364) -/

/-- An entry that a memory-table WRITE may not hold (R364). -/
def badMemEntry (d0 d1 base : Nat) : Bool :=
  let e := d0 + d1 * 4294967296
  Nat.blt 5 (memNpcLog2 e) || memBasePc e % 2 ^ memNpcLog2 e != 0 || Nat.blt 32 (memBasePc e + 2 ^ memNpcLog2 e) ||
    Nat.blt base (memEnd e)

/-- The refusal of an HBC table command: 0 none, 1 STATE, 2 ARG (R364). -/
def State.hbcTblRefusal (s : State) (d cmd : Nat) : Nat :=
  let mqt := s.flag (HBC_TBL_ADDR_TABLE d)
  let d0 := (s.reg (HBC_TBL_D0 d)).toNat
  let d1 := (s.reg (HBC_TBL_D1 d)).toNat
  if s.billetRuns then 1
  else if 1 < popcount 3 cmd ∨ 17 < s.f (HBC_TBL_ADDR_PORT d) ∨
      (bitOf cmd 1 ∧ !mqt ∧ badMemEntry d0 d1 (s.f (HBC_ACQ_BASE_BASE d))) ∨
      (bitOf cmd 1 ∧ mqt ∧ slice d0 0 2 = 0 ∧ slice d0 15 2 = 3) then 2
  else if !bitOf cmd 0 ∧ s.framesMode ∧ (!mqt ∨ s.flag (HBC_TBL_ADDR_HALF d)) then 1
  else 0

/-- The key in the MQT of what HBC_TBL_ADDR names, without its entry. -/
def State.mqtBase (s : State) (d : Nat) : Nat :=
  let act := (s.die d).half
  ((if s.flag (HBC_TBL_ADDR_HALF d) then act else 1 - act) * 32 + s.f (HBC_TBL_ADDR_PORT d)) * 1024

/-- The bits that an HBC table entry has: D0 and D1 (table of entry layouts). -/
def hbcTblMask (mqt : Bool) (d0 : Nat) : Nat × Nat :=
  if !mqt then (0xFFFFFFFF, 0x8FFFFFFF) else if slice d0 0 2 = 0 then (0x3FFFFF, 0x800003FF) else (3, 0x80000000)

/-- ENTRY increments under AUTOINC. -/
def State.hbcTblNext (s : State) (d : Nat) : State :=
  if s.flag (HBC_TBL_ADDR_AUTOINC d) then s.setF (HBC_TBL_ADDR_ENTRY d) (s.f (HBC_TBL_ADDR_ENTRY d) + 1) else s

/-- READ. -/
def State.hbcTblRead (s : State) (d : Nat) : State :=
  let i := s.f (HBC_TBL_ADDR_ENTRY d)
  let e := if s.flag (HBC_TBL_ADDR_TABLE d) then Sparse.get 0 (s.ctl d).mqt (s.mqtBase d + i) else s.memEntry d i
  ((s.setNat (HBC_TBL_D0 d) e).setNat (HBC_TBL_D1 d) (e / 4294967296)).hbcTblNext d

/-- WRITE. -/
def State.hbcTblWrite (s : State) (d : Nat) : State :=
  let i := s.f (HBC_TBL_ADDR_ENTRY d)
  let mqt := s.flag (HBC_TBL_ADDR_TABLE d)
  let d0 := (s.reg (HBC_TBL_D0 d)).toNat
  let m := hbcTblMask mqt d0
  let e := (d0 &&& m.1) + ((s.reg (HBC_TBL_D1 d)).toNat &&& m.2) * 4294967296
  let c := s.ctl d
  let c1 := if mqt then { c with mqt := Sparse.put 0 c.mqt (s.mqtBase d + i) e } else { c with mem := Sparse.put 0 c.mem i e }
  (s.setCtl d c1).hbcTblNext d

/-- CLEAR. -/
def State.hbcTblClear (s : State) (d : Nat) : State :=
  let c := s.ctl d
  s.setCtl d (if s.flag (HBC_TBL_ADDR_TABLE d) then { c with mqt := clearHalf c.mqt (s.mqtBase d) }
    else { c with mem := clearHalf c.mem 0 })

/-- An HBC table command (R364). -/
def State.hbcTblCommand (s : State) (d v : Nat) : State :=
  let cmd := slice v 0 3
  let e := s.hbcTblRefusal d cmd
  if cmd = 0 then s
  else if e ≠ 0 then s.setF (HBC_TBL_STAT_ERR d) e
  else
    let s1 := s.setF (HBC_TBL_STAT_ERR d) 0
    if cmd = 1 then s1.hbcTblRead d else if cmd = 2 then s1.hbcTblWrite d else s1.hbcTblClear d

/-- HBC_TBL_READ (R364). -/
def execHbcTblRead (p : Path) (d : Fin 4) (v : Word) (s : State) : Result :=
  .next (s.onWrite p (HBC_TBL_CMD d) fun s => s.hbcTblCommand d v.toNat)

/-- HBC_TBL_WRITE (R364). -/
def execHbcTblWrite (p : Path) (d : Fin 4) (v : Word) (s : State) : Result :=
  .next (s.onWrite p (HBC_TBL_CMD d) fun s => s.hbcTblCommand d v.toNat)

/-- HBC_TBL_CLEAR (R364). -/
def execHbcTblClear (p : Path) (d : Fin 4) (v : Word) (s : State) : Result :=
  .next (s.onWrite p (HBC_TBL_CMD d) fun s => s.hbcTblCommand d v.toNat)

/-- ACQ_BASE_WRITE (R324, R363). -/
def execAcqBaseWrite (p : Path) (d : Fin 4) (v : Word) (s : State) : Result :=
  .next (s.onWrite p (HBC_ACQ_BASE d) fun s =>
    let b := slice v.toNat 0 24
    if 0xB00000 < b ∨ (s.ctl d).mem.any (fun kv => entryValid kv.2 && Nat.blt b (memEnd kv.2)) then s.hbcErr d HBC_ERR_ARG
    else s.setF (HBC_ACQ_BASE_BASE d) b)

/-- WIN_PERIOD_WRITE (R343, HBC_WIN fields). -/
def execWinPeriodWrite (p : Path) (d : Fin 4) (v : Word) (s : State) : Result :=
  .next (s.onWrite p (HBC_WIN d) fun s =>
    let t := slice v.toNat 0 16
    if t < 2800 ∨ 6700 < t then s.hbcErr d HBC_ERR_ARG else s.setF (HBC_WIN_PERIOD_PS d) t)

/-! ### Cluster registers (R360, R361, R851) -/

/-- A cluster is READY or HALTED. -/
def State.cluIdle (s : State) (c : Nat) : Bool := s.cluState c == Clu.ready || s.cluState c == Clu.halted

/-- A write is dropped with WR_REJ. -/
def State.wrRej (s : State) (c : Nat) : State := s.memErr c CLU_MEM_ERR_WR_REJ

/-- MPD_WRITE (R360, R411). -/
def execMpdWrite (p : Path) (c : ClusterId) (port : Fin 16) (v : Word) (s : State) : Result :=
  .next (s.onWrite p (CLU_MPD c port) fun s =>
    let aw := slice v.toNat 2 6
    if s.billetRuns || !s.cluIdle c || aw == 0 || Nat.blt 32 aw || slice v.toNat 8 2 == 3 then s.wrRej c
    else s.writeBits (CLU_MPD c port) v)

/-- The physical half that CLU_MRT_ADDR names (R335). -/
def State.mrtHalf (s : State) (c : Nat) : Nat :=
  let act := s.stopHalf (dieOf c) (stopIx (ringOf c) (posOf c))
  if s.flag (CLU_MRT_ADDR_HALF c) then act else 1 - act

/-- STEP increments under AUTOINC. -/
def State.mrtNext (s : State) (c : Nat) : State :=
  if s.flag (CLU_MRT_ADDR_AUTOINC c) then s.setF (CLU_MRT_ADDR_STEP c) (s.f (CLU_MRT_ADDR_STEP c) + 1) else s

/-- An MRT entry is written (R360, R411). -/
def State.mrtWrite (s : State) (c : Nat) (v : Word) : State :=
  if s.billetRuns || !s.cluIdle c || (s.flag (CLU_MRT_ADDR_HALF c) && s.framesMode) then s.wrRej c
  else
    let cl := s.cl c
    (s.setCl c { cl with
      mrt := Sparse.put 0 cl.mrt (s.mrtHalf c * 2048 + s.f (CLU_MRT_ADDR_STEP c)) (v.toNat &&& 0x80000FFF) }).mrtNext c

/-- MRT_DATA_ACCESS (R360). -/
def execMrtDataAccess (p : Path) (c : ClusterId) (wr : Option Word) (s : State) : Result :=
  match wr with
  | some v => .next (s.onWrite p (CLU_MRT_DATA c) fun s => s.mrtWrite c v)
  | none => .next (s.onRead p (CLU_MRT_DATA c) fun s =>
      (s.answer p (BitVec.ofNat 32 (s.mrtEntry c (s.mrtHalf c) (s.f (CLU_MRT_ADDR_STEP c))))).mrtNext c)

/-- A CLU_SRW write is permitted (R137, R361, R411). -/
def State.srwWritable (s : State) (c : Nat) : Bool :=
  !s.billetRuns && s.cluIdle c && !s.flag (CLU_SRW_ADDR_FILL_BUSY c)

/-- A CLU_SRW read is permitted (R137, R361). -/
def State.srwReadable (s : State) (c : Nat) : Bool :=
  (s.cluIdle c || s.cluState c == Clu.fault) && !s.flag (CLU_SRW_ADDR_FILL_BUSY c)

/-- ADDR increments under AUTOINC. -/
def State.srwNext (s : State) (c : Nat) : State :=
  if s.flag (CLU_SRW_ADDR_AUTOINC c) then s.setF (CLU_SRW_ADDR_ADDR c) (s.f (CLU_SRW_ADDR_ADDR c) + 1) else s

/-- SRAM_FILL (R361, R851, CLU_SRW_ADDR fields). -/
def execSramFill (p : Path) (c : ClusterId) (v : Word) (s : State) : Result :=
  .next (s.onWrite p (CLU_SRW_ADDR c) fun s =>
    if !bitOf v.toNat 16 then s.writeBits (CLU_SRW_ADDR c) v
    else if s.srwWritable c then
      let s1 := (s.writeBits (CLU_SRW_ADDR c) v).setF (CLU_SRW_ADDR_FILL_BUSY c) 1
      s1.setCl c { s1.cl c with fill := some (s1.f (CLU_SRW_DATA_DATA c)) }
    else s.wrRej c)

/-- Every word of a cluster SRAM filled with a value. -/
def filledSram (v : Nat) : Sparse Nat := Sparse.putList 0 [] 0 (List.replicate 32768 (secEncode 5 18 v))

/-- SRAM_FILL_DONE (R851). -/
def execSramFillDone (c : ClusterId) (s : State) : Result :=
  match (s.cl c).fill with
  | some v => .next ((s.setCl c { s.cl c with sram := filledSram v, fill := none }).setF (CLU_SRW_ADDR_FILL_BUSY c) 0)
  | none => .next s

/-- A CLU_SRW_DATA read (R361): the word corrected, or as stored. -/
def State.srwRead (s : State) (c : Nat) (p : Path) : State :=
  let a := s.f (CLU_SRW_ADDR_ADDR c)
  let w := Sparse.get 0 (s.cl c).sram a
  let r := s.sramRead c a
  let v := match secDecode 5 18 w with
    | .uncorrectable => slice w 0 18
    | _ => r.1
  (r.2.answer p (BitVec.ofNat 32 v)).srwNext c

/-- SRW_DATA_READ (R361). -/
def execSrwDataRead (p : Path) (c : ClusterId) (s : State) : Result :=
  .next (s.onRead p (CLU_SRW_DATA c) fun s => if s.srwReadable c then s.srwRead c p else (s.wrRej c).answer p 0)

/-- SRW_DATA_WRITE (R361). -/
def execSrwDataWrite (p : Path) (c : ClusterId) (v : Word) (s : State) : Result :=
  .next (s.onWrite p (CLU_SRW_DATA c) fun s =>
    if s.srwWritable c then
      ((s.setF (CLU_SRW_DATA_DATA c) v.toNat).sramWrite c (s.f (CLU_SRW_ADDR_ADDR c)) (slice v.toNat 0 18)).srwNext c
    else s.wrRej c)

end Sys2Proof.Machine
end

