-- ==== Sys2Proof/Machine/BilletImage.lean ====
section
/-! DEFINITION. The load image (07_compiler_contract) and the checks of phase 1 of a Billet command (08_billet_loading
R404, R405, R412 to R416, R857). -/

namespace Sys2Proof.Machine

open Reg

/-- How a Billet command fails: ERR, RESULT0 and RESULT1 (R412). -/
structure BErr where
  /-- ERR. -/
  code : Nat
  /-- RESULT0. -/
  res0 : Nat
  /-- RESULT1. -/
  res1 : Nat
  deriving DecidableEq, Repr

/-- A check: it passes, or the command ends with an error. -/
def need (ok : Bool) (code res0 res1 : Nat) : Except BErr Unit := if ok then .ok () else .error ⟨code, res0, res1⟩

/-- Every check of a list passes, in order. -/
def needAll {α : Type} (l : List α) (f : α → Except BErr Unit) : Except BErr Unit := l.forM f

/-! ### Reading -/

/-- A field of the image at an address: n bytes from an offset, little-endian (R385). -/
def State.imgNat (s : State) (addr off n : Nat) : Nat := s.carveNat (addr + off) n

/-- One section-table entry (R388). -/
def State.readSection (s : State) (addr i : Nat) : Section :=
  ⟨i, s.imgNat addr (80 + 16 * i) 1, s.imgNat addr (84 + 16 * i) 4, s.imgNat addr (88 + 16 * i) 8⟩

/-- The section table. -/
def State.readSections (s : State) (addr : Nat) : List Section :=
  (List.range (s.imgNat addr 12 2)).map fun i => s.readSection addr i

/-- Sections in the order of their offsets. -/
def byOffset (l : List Section) : List Section := sortBy (fun a b => Nat.ble a.off b.off) l

/-- A partition header (R390). -/
def State.readPart (s : State) (addr : Nat) (x : Section) : Part :=
  let g (o n : Nat) : Nat := s.imgNat addr (x.off + o) n
  ⟨x.off, g 0 2, g 2 2, g 4 2, (List.range 16).map fun p => g (8 + 4 * p) 4⟩

/-- A SLOT record (R393). -/
def State.readSlot (s : State) (addr off : Nat) : Slot :=
  let g (o n : Nat) : Nat := s.imgNat addr (off + o) n
  ⟨off, g 0 2, g 2 2, g 4 1, g 5 1, g 6 2, g 8 2, g 10 2⟩

/-- A MEM record (R394). -/
def State.readMem (s : State) (addr sec off : Nat) : MemDecl :=
  let g (o n : Nat) : Nat := s.imgNat addr (off + o) n
  ⟨off, sec, g 0 2, g 2 1, g 4 4, g 8 1, g 9 1, g 12 4, g 16 64⟩

/-- A PROBE entry (R395). -/
def State.readTap (s : State) (addr off : Nat) : Tap :=
  let v := s.imgNat addr off 4
  ⟨off, slice v 0 10, slice v 10 2, slice v 12 15⟩

/-- An INIT header (R396). -/
def State.readInit (s : State) (addr : Nat) (x : Section) : Init :=
  let g (o n : Nat) : Nat := s.imgNat addr (x.off + o) n
  ⟨x.off, x.ix, x.len, g 0 1, g 1 1, g 2 2, g 4 4, g 8 4, slice (g 12 4) 0 18⟩

/-- The records of a section, of a fixed size: their offsets. -/
def recordOffs (x : Section) (size : Nat) : List Nat := (List.range (x.len / size)).map fun i => x.off + size * i

/-- The image at an address. -/
def State.readImage (s : State) (addr : Nat) : Image :=
  let g (o n : Nat) : Nat := s.imgNat addr o n
  let secs := s.readSections addr
  let sorted := byOffset secs
  let of (t : Nat) : List Section := sorted.filter fun x => x.typ == t
  { addr := addr
    flen := g 8 1
    pinned := bitOf (g 9 1) 0
    npart := g 10 2
    stepMhz := g 14 2
    len := g 16 8
    sysId := g 24 8
    lanes := g 40 16
    inmask := g 56 16
    crc := g 76 4
    secs := secs
    parts := (of 1).map fun x => s.readPart addr x
    slots := ((of 2).map fun x => (recordOffs x 16).map fun o => s.readSlot addr o).flatten
    mems := ((of 3).map fun x => (recordOffs x 80).map fun o => s.readMem addr x.off o).flatten
    taps := ((of 4).map fun x => (recordOffs x 4).map fun o => s.readTap addr o).flatten
    inits := (secs.filter fun x => x.typ == 5).map fun x => s.readInit addr x }

/-- L of an image (R367). -/
def Image.l (g : Image) : Nat := 64 * g.flen

/-! ### Instructions of a partition (R392) -/

/-- Offset, from the start of a partition's section, of syllable S4 of word s of processor k. -/
def instrOff (step k : Nat) : Nat := 80 + 90 * (64 * step + k) / 8

/-- The instruction word of processor k at a step: S4 lies lowest in the image and highest in the word. -/
def State.readInstr (s : State) (addr : Nat) (off step k : Nat) : Nat :=
  let bits := s.imgNat addr (off + instrOff step k) 12 / 2 ^ (90 * (64 * step + k) % 8)
  (List.range 5).foldl (fun w j => w * 262144 + slice bits (18 * j) 18) 0

/-- A MEM that a partition issues. -/
structure MemUse where
  /-- Issue step. -/
  step : Nat
  /-- Processor. -/
  k : Nat
  /-- Port. -/
  port : Nat
  /-- WR. -/
  wr : Bool
  /-- DEST[6:0]. -/
  rxw : Nat
  deriving DecidableEq, Repr

/-- The MEM that a word is, if it is one. -/
def memUse (step k w : Nat) : Option MemUse :=
  match Casornol.ofWord w with
  | .memRead _ _ tt _ => some ⟨step, k, tt % 16, false, slice w 72 7⟩
  | .memWrite _ tt _ _ _ => some ⟨step, k, tt % 16, true, slice w 72 7⟩
  | _ => none

/-- KIND of a port template (R391). -/
def portTKind (t : Nat) : Nat := slice t 0 2
/-- AW. -/
def portTAw (t : Nat) : Nat := slice t 2 6
/-- REF. -/
def portTRef (t : Nat) : Nat := slice t 10 15
/-- The memory index of a template of KIND 2. -/
def portTMem (t : Nat) : Nat := slice t 10 10

/-- The template of a port. -/
def Part.port (p : Part) (i : Nat) : Nat := p.ports.getD i 0

/-- The HBM MEMs that a partition issues at a step, lowest processor first. -/
def State.hbmUsesAt (s : State) (addr : Nat) (p : Part) (step : Nat) : List MemUse :=
  (List.range 64).filterMap fun k =>
    match memUse step k (s.readInstr addr p.off step k) with
    | some u => if portTKind (p.port u.port) = 2 then some u else none
    | none => none

/-- The HBM MEM of the lowest-numbered processor at each step: the one that proceeds (R180, R435). -/
def State.hbmUses (s : State) (addr l : Nat) (p : Part) : List MemUse :=
  (List.range l).filterMap fun step => (s.hbmUsesAt addr p step).head?

/-! ### Endpoints (R393, R629) -/

/-- An endpoint. -/
inductive EndPt where
  /-- A virtual cluster. -/
  | cluster (vc : Nat)
  /-- A lane. -/
  | lane (l : Nat)
  /-- A fabric port word: 14-bit code. -/
  | fabric (code : Nat)
  /-- A refused code. -/
  | bad
  deriving DecidableEq, Repr

/-- The endpoint that 16 bits code. -/
def endPt (n : Nat) : EndPt :=
  match slice n 14 2 with
  | 0 => .cluster (slice n 0 14)
  | 1 => .lane (slice n 0 14)
  | 2 => .fabric (slice n 0 14)
  | _ => .bad

/-- An endpoint exists: as a source, an input port word; as a destination, an output port word. -/
def Image.endOk (g : Image) (src : Bool) : EndPt → Bool
  | .cluster v => g.parts.any fun p => p.vc == v
  | .lane l => Nat.blt l 128
  | .fabric c => if src then Nat.blt c 4096 else Nat.ble 8192 c && Nat.blt c 12288
  | .bad => false

/-! ### Phase 1 (R857) -/

/-- FORMAT. -/
def eFormat : Nat := 8
/-- RANGE. -/
def eRange : Nat := 10
/-- BOOKING. -/
def eBooking : Nat := 11
/-- All ones: the header, or acquisition (R412). -/
def allOnes : Nat := 0xFFFFFFFF

/-- An uncorrectable error lies in the first n bytes of the image (R405). -/
def eccBefore (eccAt : Option Nat) (n : Nat) : Except BErr Unit :=
  match eccAt with
  | some a => need (Nat.ble n a) 5 a 0
  | none => .ok ()

/-- The CRC of the image, with the CRC field taken as zero (R387). -/
def State.imageCrc (s : State) (addr len : Nat) : Nat :=
  crc32 ((s.carveRead addr 76 ++ [0, 0, 0, 0] ++ s.carveRead (addr + 80) (len - 80)).take len)

/-- Checks 1 to 4 of R857: length, MAGIC, VERSION, IMAGE_LEN and CRC. -/
def State.checkHead (s : State) (addr len : Nat) (eccAt : Option Nat) : Except BErr Unit := do
  need (Nat.ble 80 len) 1 0 0
  eccBefore eccAt 80
  need (s.imgNat addr 0 4 == 0x4D495057) eFormat 0 allOnes
  need (s.imgNat addr 4 2 == 1) eFormat 4 allOnes
  let il := s.imgNat addr 16 8
  need (Nat.ble il len) 1 0 0
  eccBefore eccAt il
  let c := s.imageCrc addr il
  need (c == s.imgNat addr 76 4) 9 c (s.imgNat addr 76 4)

/-- Checks 5 and 6 of R857: PART_ID and the identity check (R416). -/
def State.checkIdentity (s : State) (addr : Nat) : Except BErr Unit := do
  need (s.imgNat addr 6 2 == 7) eFormat 6 allOnes
  let en := s.flag BLT_SYS_DEV_EN
  need (!en || s.imgNat addr 24 8 == s.f64 BLT_SYS) 15 0 1
  need (!en || s.imgNat addr 32 2 == s.f BLT_SYS_DEV_DEV_INDEX) 15 0 2
  need (!en || s.imgNat addr 34 2 == s.f BLT_SYS_DEV_NDEV) 15 0 3

/-- A number lies in a range. -/
def within (lo hi n : Nat) : Bool := Nat.ble lo n && Nat.ble n hi

/-- The other header fields, in the order of their offsets (R386, R383). -/
def State.checkHeader (s : State) (addr : Nat) : Except BErr Unit := do
  let g (o n : Nat) : Nat := s.imgNat addr o n
  need (within 1 32 (g 8 1)) eRange 8 0
  need (Nat.ble (g 9 1) 1) eFormat 9 allOnes
  need (within 1 1024 (g 10 2)) eFormat 10 allOnes
  need (Nat.ble (80 + 16 * g 12 2) (g 16 8)) eFormat 12 allOnes
  need (within 600 1400 (g 14 2)) eFormat 14 allOnes
  need (Nat.ble (g 32 2) 255) eFormat 32 allOnes
  need (within 1 256 (g 34 2)) eFormat 34 allOnes
  need (Nat.ble (g 36 4) (256 * (64 * g 8 1 + 40))) eBooking 36 allOnes
  need (g 72 4 == 0) eFormat 72 allOnes

/-- The size of the records of a section type; an INIT section is padded to a multiple of 8 (R389, R390, R396). -/
def recordSize (l typ : Nat) : Nat :=
  match typ with
  | 1 => 80 + 720 * l
  | 2 => 16
  | 3 => 80
  | 4 => 4
  | _ => 8

/-- LENGTH is a whole number of records: exactly one for a partition, a header at least for INIT. -/
def lengthOk (l : Nat) (x : Section) : Bool :=
  x.len % recordSize l x.typ == 0 && (x.typ != 1 || x.len == recordSize l 1) && (x.typ != 5 || Nat.ble 16 x.len)

/-- Two sections share a byte. -/
def overlap (a b : Section) : Bool :=
  a.len != 0 && b.len != 0 && Nat.blt a.off (b.off + b.len) && Nat.blt b.off (a.off + a.len)

/-- One entry of the section table (R388, R389). -/
def State.checkSection (s : State) (addr l il : Nat) (secs : List Section) (x : Section) : Except BErr Unit := do
  let o := 80 + 16 * x.ix
  let before := secs.take x.ix
  need (within 1 5 x.typ) eFormat o x.ix
  need (x.typ == 1 || x.typ == 5 || !before.any fun y => y.typ == x.typ) eFormat o x.ix
  need (s.imgNat addr (o + 1) 3 == 0) eFormat (o + 1) x.ix
  need (lengthOk l x) eFormat (o + 4) x.ix
  need (x.off % 8 == 0 && Nat.ble (x.off + x.len) il && !before.any (overlap x)) eFormat (o + 8) x.ix

/-- The section table (R388, R389): exactly NPART partitions. -/
def State.checkTable (s : State) (addr : Nat) (g : Image) : Except BErr Unit := do
  needAll g.secs fun x => s.checkSection addr g.l g.len g.secs x
  need ((g.secs.filter fun x => x.typ == 1).length == g.npart) eFormat 10 allOnes

/-- One port template (R391, R374). -/
def Image.checkPort (g : Image) (p : Part) (i : Nat) : Except BErr Unit :=
  let t := p.port i
  let aw := portTAw t
  match portTKind t with
  | 0 => .ok ()
  | 1 => need (within 1 32 aw && Nat.ble (portTRef t + 2 ^ aw) 32768) eRange (p.off + 8 + 4 * i) p.vc
  | 2 => need (within 1 32 aw && g.mems.any fun m => m.index == portTMem t) eRange (p.off + 8 + 4 * i) p.vc
  | _ => .error ⟨eRange, p.off + 8 + 4 * i, p.vc⟩

/-- The booking map that a port's memory declares. -/
def Image.bookOf (g : Image) (p : Part) (port : Nat) : Nat :=
  ((g.mems.find? fun m => m.index == portTMem (p.port port)).map (·.book)).getD 0

/-- The booking windows of an HBM MEM, with its memory: one for a read and two for a write (R346, R381). -/
def MemUse.windows (u : MemUse) (m step : Nat) : List (Nat × Nat) :=
  if u.wr then [(m, step / 4), (m, step / 4 + 1)] else [(m, step / 4)]

/-- One HBM MEM (R381, R382): its windows are in the map and taken by no other MEM of the memory. The list holds the
memories and windows taken so far. -/
def Image.checkUse (g : Image) (p : Part) (step : Nat) (taken : List (Nat × Nat)) (u : MemUse) :
    Except BErr (List (Nat × Nat)) := do
  let m := portTMem (p.port u.port)
  let ws := u.windows m step
  need (ws.all fun w => bitOf (g.bookOf p u.port) w.2 && !taken.contains w) eBooking (p.off + instrOff step u.k) m
  pure (ws ++ taken)

/-- The HBM MEMs of one step (R381, R382), by processor. -/
def State.checkStep (s : State) (g : Image) (p : Part) (taken : List (Nat × Nat)) (step : Nat) :
    Except BErr (List (Nat × Nat)) :=
  (s.hbmUsesAt g.addr p step).foldlM (g.checkUse p step) taken

/-- A partition (R367, R374, R381, R382, R390, R391, R398). -/
def State.checkPart (s : State) (g : Image) (taken : List (Nat × Nat)) (p : Part) : Except BErr (List (Nat × Nat)) := do
  need (Nat.ble p.vc 1023 && !(g.parts.any fun q => q.vc == p.vc && Nat.blt q.off p.off)) eRange p.off p.vc
  need (!g.pinned || Nat.ble p.phys 1087) eRange (p.off + 2) p.vc
  need (p.nstep == g.l) eRange (p.off + 4) p.vc
  needAll (List.range 16) fun i => g.checkPort p i
  (List.range g.l).foldlM (fun t step => s.checkStep g p t step) taken

/-- RXW lies in the range of its endpoint (R393). -/
def rxwOk (rxw : Nat) : EndPt → Bool
  | .cluster _ => Nat.ble rxw 127
  | .lane _ => Nat.ble rxw 1023
  | _ => rxw == 0

/-- An endpoint is a cluster. -/
def EndPt.isCluster : EndPt → Bool
  | .cluster _ => true
  | _ => false

/-- The VC that an endpoint names, or 0. -/
def EndPt.vcOr0 : EndPt → Nat
  | .cluster v => v
  | _ => 0

/-- The VC that an error of a SLOT record names: that of its only cluster; which of two is open (log entry 28). -/
def Slot.vc (x : Slot) : Nat :=
  let src := endPt x.src
  let dst := endPt x.dst
  if src.isCluster && (!dst.isCluster || Config.slotSrc x.off) then src.vcOr0 else dst.vcOr0

/-- A SLOT record (R367, R393): an error of an endpoint names that endpoint's VC. -/
def Image.checkSlot (g : Image) (x : Slot) : Except BErr Unit := do
  let v := x.vc
  need (g.endOk true (endPt x.src)) eRange x.off (endPt x.src).vcOr0
  need (Nat.blt x.step g.l) eRange (x.off + 2) v
  need (!(endPt x.src).isCluster || Nat.ble x.txw 127) eRange (x.off + 4) v
  need (g.endOk false (endPt x.dst)) eRange (x.off + 6) (endPt x.dst).vcOr0
  need (rxwOk x.rxw (endPt x.dst)) eRange (x.off + 8) v
  need (Nat.blt x.due g.l) eRange (x.off + 10) v

/-- The windows that no booking map may hold: B mod 8 equal to 3 or 7 (R382). -/
def badWindows : Nat := (List.range 64).foldl (fun n i => n + 0x88 * 2 ^ (8 * i)) 0

/-- A MEM record (R382, R394, R398). -/
def Image.checkMem (g : Image) (m : MemDecl) : Except BErr Unit := do
  need (Nat.ble m.index 1023 && !(g.mems.any fun n => n.index == m.index && Nat.blt n.off m.off)) eRange m.off m.index
  need (Nat.ble m.npcLog2 5) eRange (m.off + 2) m.index
  need (m.nwords != 0) eRange (m.off + 4) m.index
  need (!g.pinned || Nat.ble m.stack 3) eRange (m.off + 8) m.index
  need (!g.pinned || Nat.ble m.basePc 31) eRange (m.off + 9) m.index
  need (!g.pinned || m.blockBase % 16 == 0) eRange (m.off + 12) m.index
  need (m.book &&& badWindows == 0) eBooking m.off m.index

/-- The entries of a tap's store (R395). -/
def tapRange (kind : Nat) : Nat :=
  match kind with
  | 0 => 4096
  | 1 => 32768
  | 2 => 16
  | _ => 0

/-- A PROBE entry, the first beyond 16,384 among them (R383, R395). -/
def Image.checkTap (g : Image) (x : Tap × Nat) : Except BErr Unit := do
  need (Nat.blt x.2 16384) eBooking x.1.off allOnes
  need ((g.parts.any fun p => p.vc == x.1.vc) && Nat.blt x.1.index (tapRange x.1.kind)) eRange x.1.off x.1.vc

/-- Words of the target of an INIT section; none when it names nothing. -/
def Image.initWords (g : Image) (x : Init) : Option Nat :=
  if x.kind = 0 then (g.mems.find? fun m => m.index == x.target).map (·.nwords)
  else if g.parts.any (fun p => p.vc == x.target) then some 32768 else none

/-- Bytes of an INIT section (R396). -/
def initLen (x : Init) : Nat := if x.mode = 0 then 16 + (4 * x.count + 7) / 8 * 8 else 16

/-- An INIT section (R396, R397); COUNT = 0 is a no-op (R29). DESIGN CHOICE (log entry 28): a KIND or MODE that does not exist
is FORMAT. -/
def Image.checkInit (g : Image) (x : Init) : Except BErr Unit := do
  need (Nat.ble x.kind 1) eFormat x.off x.ix
  need (Nat.ble x.mode 1) eFormat (x.off + 1) x.ix
  match g.initWords x with
  | none => .error ⟨eRange, x.off + 2, x.target⟩
  | some w => do
    need (x.count == 0 || Nat.ble (x.first + x.count) w) 1 x.off 0
    need (x.len == initLen x) eFormat (84 + 16 * x.ix) x.ix

/-- One section, with the memories and windows taken so far. -/
def State.checkBody (s : State) (g : Image) (taken : List (Nat × Nat)) (x : Section) : Except BErr (List (Nat × Nat)) :=
  match x.typ with
  | 1 => s.checkPart g taken (s.readPart g.addr x)
  | 2 => do needAll g.slots g.checkSlot; pure taken
  | 3 => do needAll g.mems g.checkMem; pure taken
  | 4 => do needAll g.taps.zipIdx g.checkTap; pure taken
  | _ => do g.checkInit (s.readInit g.addr x); pure taken

/-- Phase 1 (R857): the image, or the first check that fails. -/
def State.checkImage (s : State) (addr len : Nat) (eccAt : Option Nat) : Except BErr Image := do
  s.checkHead addr len eccAt
  s.checkIdentity addr
  s.checkHeader addr
  let g := s.readImage addr
  s.checkTable addr g
  let _ ← (byOffset g.secs).foldlM (fun t x => s.checkBody g t x) []
  pure g

end Sys2Proof.Machine
end

