-- ==== Sys2Proof/Machine/BilletPlan.lean ====
section
/-! DEFINITION. Phases 2 to 4 of a Billet command (08_billet_loading R421 to R436): the map of virtual clusters, the routes of
every value and of memory traffic, and the places of the memories. -/

namespace Sys2Proof.Machine

open Reg

/-- Nothing planned. -/
def Plan.empty : Plan := ⟨[], [], [], [], [], [], [], [], [], [], [], [], []⟩

/-! ### MAP (R421 to R423, R440, R442) -/

/-- A cluster is failed (R421). -/
def State.isFailed (s : State) (c : Nat) : Bool := s.fuseFailed c || bitOf (s.reg (BLT_FAILMAP (c / 32))).toNat (c % 32)

/-- The first cluster of the half-ring of a home stop: half 0 is stops 0 to 16, half 1 stops 17 to 33. -/
def halfStops (base half : Nat) : List Nat := (List.range 17).map fun i => base + 17 * half + i

/-- The stop that a home stop maps to, when stop f of its half-ring is the failed one (R422). -/
def movedStop (f home : Nat) : Nat :=
  if within 1 16 f && Nat.ble home f then home - 1
  else if within 17 32 f && Nat.ble f home && Nat.ble 17 home then home + 1
  else home

/-- The physical cluster of a virtual cluster of a relocatable image (R375, R422, R423). -/
def State.mapHome (s : State) (v : Nat) : Except BErr Nat :=
  let base := v / 256 * 272 + v / 32 % 8 * 34
  let home := v % 32 + 1
  let half := home / 17
  match (halfStops base half).filter s.isFailed with
  | [] => .ok (base + home)
  | [f] => .ok (base + movedStop (f - base) home)
  | _ => .error ⟨12, 1, v / 256 * 16 + v / 32 % 8 * 2 + half⟩

/-- The physical cluster of a partition of a pinned image (R440, R442). -/
def State.mapPinned (s : State) (taken : List (Nat × Nat)) (p : Part) : Except BErr Nat := do
  need (!s.isFailed p.phys && !taken.any fun x => x.2 == p.phys) 14 p.off p.phys
  pure p.phys

/-- The map of an image (R422, R440). -/
def State.planMap (s : State) (g : Image) : Except BErr (List (Nat × Nat)) :=
  g.parts.foldlM (fun m p => do
    let c ← if g.pinned then s.mapPinned m p else s.mapHome p.vc
    pure (m ++ [(p.vc, c)])) []

/-- The cluster that a virtual cluster is mapped to. -/
def Plan.phys (pl : Plan) (v : Nat) : Nat := ((pl.map.find? fun x => x.1 == v).map (·.2)).getD 0

/-! ### Slots (R260 to R263) -/

/-- The positions at which the segments of a path start. -/
def pathFrom (p dir : Nat) : Nat → List Nat
  | 0 => []
  | n + 1 => p :: pathFrom (nextPos p dir) dir n

/-- The key of slot σ of a segment; σ is given plus 64. -/
def slotKey (d r p dir sigma : Nat) : Nat := (((d * 8 + r) * 36 + p) * 2 + dir) * 16384 + sigma

/-- A slot is booked. -/
def Plan.booked (pl : Plan) (key : Nat) : Bool := Sparse.get 0 pl.slots key == 1

/-- Booked slots in a row from a key, upward or downward, at most n. -/
def Plan.run (pl : Plan) (up : Bool) (key : Nat) : Nat → Nat
  | 0 => 0
  | n + 1 => if pl.booked key then 1 + Plan.run pl up (if up then key + 1 else key - 1) n else 0

/-- A leg of a path on one ring: from a position, in a direction, some hops. -/
structure Leg where
  /-- Die. -/
  d : Nat
  /-- Ring. -/
  r : Nat
  /-- Position at which it starts. -/
  p : Nat
  /-- Direction. -/
  dir : Nat
  /-- Hops. -/
  h : Nat
  deriving DecidableEq, Repr

/-- The slots of a leg for n flits in a row of which the first has slot σ on the first segment: position and key (R260,
R331). -/
def Leg.slots (x : Leg) (sigma n : Nat) : List (Nat × Nat) :=
  ((pathFrom x.p x.dir x.h).zipIdx.map fun pj =>
    (List.range n).map fun i => (pj.1, slotKey x.d x.r pj.1 x.dir (sigma + pj.2 + i))).flatten

/-- A route fails: code, at a stop (R412). -/
def routeErr {α : Type} (off code node : Nat) : Except BErr α := .error ⟨13, off, code + 8 * node⟩

/-- A leg is booked with a phase out of a list of phases to try in turn: the phase of the first that meets R261; then
R262 must hold (R425, R429, R430, R441). A failure names the stop of the first clash of the first phase. The step is given
plus 32. -/
def Plan.bookLeg (pl : Plan) (off : Nat) (x : Leg) (t n : Nat) : List Nat → Option Nat → Except BErr (Plan × Nat)
  | [], clash => routeErr off 1 (clash.getD (stopNode x.d x.r x.p))
  | ph :: rest, clash => do
    need (Nat.ble x.h 18) 13 off (3 + 8 * stopNode x.d x.r x.p)
    let ks := x.slots (2 * t + ph) n
    match ks.find? fun k => pl.booked k.2 with
    | some k => Plan.bookLeg pl off x t n rest (some (clash.getD (stopNode x.d x.r k.1)))
    | none =>
      let pl1 := { pl with slots := ks.foldl (fun m k => Sparse.put 0 m k.2 1) pl.slots }
      match ks.find? fun k => Nat.ble 8 (pl1.run true k.2 8 + pl1.run false (k.2 - 1) 7) with
      | some k => routeErr off 2 (stopNode x.d x.r k.1)
      | none => pure (pl1, ph)

/-- The phases that a SLOT record lets Billet try (R425, R441). -/
def Image.phases (g : Image) (ph : Nat) : List Nat := if g.pinned then [ph] else [ph, 1 - ph]

/-! ### Table entries (R428) -/

/-- An entry with V = 1. -/
def validEntry (d0 tag : Nat) : Nat := d0 + (tag + 2147483648) * 4294967296

/-- The node that a full table is reported with. -/
def tableNode (d stop : Nat) : Nat := if stop < 288 then stopNode d (stop / 36) (stop % 36) else cflNode d

/-- The next n free entries of a table (R428). -/
def Plan.alloc (pl : Plan) (off d stop table n : Nat) : Except BErr (Plan × Nat) :=
  let key := d * 1024 + stop * 2 + table
  let i := Sparse.get 0 pl.used key
  if i + n ≤ 1024 then .ok ({ pl with used := Sparse.put 0 pl.used key (i + n) }, i)
  else routeErr off 4 (tableNode d stop)

/-- An entry written. -/
def Plan.put (pl : Plan) (d stop table i e : Nat) : Plan :=
  { pl with tbl := Sparse.put 0 pl.tbl (d * 2097152 + tblKey stop 0 table i) e }

/-- One table entry of a path, but for its RXTAG: the table and D0. -/
structure Hop where
  /-- Die. -/
  d : Nat
  /-- Stop, or 288 + i for the CRT of port 16 + i. -/
  stop : Nat
  /-- D0. -/
  d0 : Nat
  deriving DecidableEq, Repr

/-- n consecutive entries of one hop, for n flits with consecutive tags; the tag of the first. -/
def Plan.putHop (pl : Plan) (off n tag : Nat) (x : Hop) : Except BErr (Plan × Nat) := do
  let (pl1, i) ← pl.alloc off x.d x.stop 0 n
  pure ((List.range n).foldl (fun q j => q.put x.d x.stop 0 (i + j) (validEntry x.d0 (tag + j))) pl1, i)

/-- The entries of a path in the order of the path, the last carrying the given tag: the tag by which the first is
reached. -/
def Plan.putHops (pl : Plan) (off n tag : Nat) : List Hop → Except BErr (Plan × Nat)
  | [] => .ok (pl, tag)
  | x :: rest => do
    let (pl1, t) ← Plan.putHops pl off n tag rest
    pl1.putHop off n t x

/-- A BRT entry's D0. -/
def brtD0 (out cport dst ph : Nat) : Nat := out + cport * 8 + dst * 256 + ph * 16384

/-- The stop of bridge stop k of a ring. -/
def bridgeStop (r k : Nat) : Nat := stopIx r (18 * k)

/-- The way between two dies: each pair is an output port and the CRT (0 to 2) met on the far side, with its die (R274,
R426). -/
def dieWay (a b : Nat) : List (Nat × Nat × Nat) :=
  if a = b then []
  else if b = (a + 1) % 4 then [(16, b, 1)]
  else if b = (a + 3) % 4 then [(17, b, 0)]
  else [(16, (a + 1) % 4, 1), (16, b, 1)]

/-- The reverse of the way from b to a (R429). -/
def dieBack (a b : Nat) : List (Nat × Nat × Nat) :=
  if b = (a + 2) % 4 then [(17, (a + 3) % 4, 0), (17, b, 0)] else dieWay a b

/-- The port that a flit takes at the crossbar where it starts, and the CRT hops that follow, to reach a last port. -/
def crossWay (last : Nat) : List (Nat × Nat × Nat) → Nat × List Hop
  | [] => (last, [])
  | (out, die, i) :: rest =>
    let r := crossWay last rest
    (out, ⟨die, 288 + i, r.1⟩ :: r.2)

/-! ### Routing of values (R425 to R428) -/

/-- Where a value is, on its way: at which crossbar or bridge stop, when, and by which hops. -/
structure Head where
  /-- Die. -/
  d : Nat
  /-- Ring. -/
  r : Nat
  /-- Bridge stop; 2 at the hub port. -/
  k : Nat
  /-- Nominal ring cycle at which it reaches that stop, plus 64. -/
  at_ : Nat
  deriving DecidableEq, Repr

/-- The bridge stop nearer a position (R426, R259). -/
def nearBridge (p : Nat) : Nat := if within 9 26 p then 1 else 0

/-- The direction with fewer hops from a bridge stop to a position, CW when equal (R426). -/
def nearDir (k p : Nat) : Nat := if hops (18 * k) p 0 ≤ hops (18 * k) p 1 then 0 else 1

/-- The step at which a flit that reaches a bridge stop in a ring cycle enters the ring: both are given plus 64 and 32. -/
def enterStep (at_ : Nat) : Nat := (at_ + 1) / 2

/-- Ring cycles from a bridge stop to another one, through the Confluences of a way (table of nominal latencies). -/
def crossTime (way : List (Nat × Nat × Nat)) : Nat := 12 + 10 * way.length

/-- A value leaves a bridge stop into the ring, to a position. -/
def Plan.intoRing (pl : Plan) (g : Image) (x : Slot) (d r k dir dst at_ : Nat) : Except BErr (Plan × Hop) := do
  let (pl1, ph) ← pl.bookLeg x.off ⟨d, r, 18 * k, dir, hops (18 * k) dst dir⟩ (enterStep at_) 1
    (g.phases (slice x.hint 1 1)) none
  pure (pl1, ⟨d, bridgeStop r k, brtD0 (1 + dir) 0 dst ph⟩)

/-- From a bridge stop of a ring to a position of the same ring: in the booked direction. -/
def Plan.sameRing (pl : Plan) (g : Image) (x : Slot) (y : Head) (dst : Nat) : Except BErr (Plan × List Hop) := do
  let (pl1, hop) ← pl.intoRing g x y.d y.r y.k (slice x.hint 0 1) dst y.at_
  pure (pl1, [hop])

/-- The hop that takes a flit from a bridge stop, or from the hub's port, to a crossbar port. -/
def Head.exit (y : Head) (cport : Nat) : Hop :=
  if y.k = 2 then ⟨y.d, 290, cport⟩ else ⟨y.d, bridgeStop y.r y.k, brtD0 0 cport 0 0⟩

/-- To a cluster of another ring, through the Confluence (R426). -/
def Plan.otherRing (pl : Plan) (g : Image) (x : Slot) (y : Head) (d r p : Nat) : Except BErr (Plan × List Hop) := do
  let k := nearBridge p
  let way := dieWay y.d d
  let (cport, hopsX) := crossWay (2 * r + k) way
  let at_ := if y.k = 2 then y.at_ else y.at_ + crossTime way
  let (pl1, hop) ← pl.intoRing g x d r k (nearDir k p) p at_
  pure (pl1, y.exit cport :: hopsX ++ [hop])

/-- The hops from a bridge stop or the hub to a destination (R426, R427). -/
def Plan.onward (pl : Plan) (g : Image) (x : Slot) (y : Head) : Except BErr (Plan × List Hop) :=
  match endPt x.dst with
  | .cluster v =>
    let c := pl.phys v
    if y.k ≠ 2 ∧ dieOf c = y.d ∧ ringOf c = y.r then pl.sameRing g x y (posOf c)
    else pl.otherRing g x y (dieOf c) (ringOf c) (posOf c)
  | .lane l =>
    let d := l / 32
    let r := l / 4 % 8
    let k := l / 2 % 2
    let last : Hop := ⟨d, bridgeStop r k, brtD0 (3 + l % 2) 0 0 0⟩
    if y.k ≠ 2 ∧ d = y.d ∧ r = y.r then
      if k = y.k then .ok (pl, [last])
      else do
        let (pl1, hs) ← pl.sameRing g x y (18 * k)
        pure (pl1, hs ++ [last])
    else
      let (cport, hopsX) := crossWay (2 * r + k) (dieWay y.d d)
      .ok (pl, y.exit cport :: hopsX ++ [last])
  | _ => .ok (pl, [y.exit 18])

/-- The tag by which a destination is reached: its receive-table entry, its lane position, or its output entry (R428,
R553, R633). -/
def Plan.endTag (pl : Plan) (x : Slot) (d : Nat) : Except BErr (Plan × Nat) :=
  match endPt x.dst with
  | .cluster v => do
    let c := pl.phys v
    let stop := stopIx (ringOf c) (posOf c)
    let (pl1, i) ← pl.alloc x.off (dieOf c) stop 1 1
    pure (pl1.put (dieOf c) stop 1 i (validEntry (x.rxw + x.due * 256) 0), i)
  | .lane _ => .ok (pl, x.rxw)
  | _ =>
    let i := Sparse.get 0 pl.outUsed d
    if i < 1024 then
      .ok ({ pl with
        outUsed := Sparse.put 0 pl.outUsed d (i + 1)
        out := Sparse.put 0 pl.out (d * 1024 + i) (slice x.dst 0 12 + 2147483648) }, i)
    else routeErr x.off 4 (cflNode d)

/-- The transmit-table entry of a value (R256). -/
def Plan.putTxt (pl : Plan) (x : Slot) (c dir ph dst tag : Nat) : Except BErr Plan := do
  let stop := stopIx (ringOf c) (posOf c)
  let (pl1, i) ← pl.alloc x.off (dieOf c) stop 0 1
  pure (pl1.put (dieOf c) stop 0 i
    (validEntry (x.step + x.txw * 2048 + dir * 262144 + ph * 524288 + dst * 1048576) tag))

/-- The position of the same ring at which a value from a cluster leaves it: its destination there, or the first bridge
stop in its direction (R426, R427). -/
def Plan.firstExit (pl : Plan) (x : Slot) (c dir : Nat) : Nat × Bool :=
  match endPt x.dst with
  | .cluster v =>
    let q := pl.phys v
    if dieOf q = dieOf c ∧ ringOf q = ringOf c then (posOf q, true) else (firstBridge (posOf c) dir, false)
  | .lane l =>
    if l / 32 = dieOf c ∧ l / 4 % 8 = ringOf c then (18 * (l / 2 % 2), false) else (firstBridge (posOf c) dir, false)
  | _ => (firstBridge (posOf c) dir, false)

/-- A value that a cluster produces. -/
def Plan.fromCluster (pl : Plan) (g : Image) (x : Slot) (c : Nat) : Except BErr Plan := do
  let dir := slice x.hint 0 1
  let ex := pl.firstExit x c dir
  let h := hops (posOf c) ex.1 dir
  let (pl1, ph) ← pl.bookLeg x.off ⟨dieOf c, ringOf c, posOf c, dir, h⟩ (x.step + 32) 1 (g.phases (slice x.hint 1 1)) none
  let (pl2, hs) ← if ex.2 then pure (pl1, []) else
    pl1.onward g x ⟨dieOf c, ringOf c, ex.1 / 18, 2 * x.step + 64 + 1 + ph + h⟩
  let (pl3, tag) ← pl2.endTag x (dieOf c)
  let (pl4, t) ← pl3.putHops x.off 1 tag hs
  pl4.putTxt x c dir ph ex.1 t

/-- A value that a lane delivers, at the BRT entry that its lane position names (R552). -/
def Plan.fromLane (pl : Plan) (g : Image) (x : Slot) (l entry : Nat) : Except BErr Plan := do
  let y : Head := ⟨l / 32, l / 4 % 8, l / 2 % 2, 2 * x.step + 64⟩
  let (pl1, hs) ← pl.onward g x y
  let (pl2, tag) ← pl1.endTag x y.d
  let (pl3, t) ← pl2.putHops x.off 1 tag hs.tail
  match hs with
  | [] => pure pl3
  | first :: _ => pure (pl3.put first.d first.stop 0 entry (validEntry first.d0 t))

/-- The die of a destination, which sends a fabric source's word (R632); die 0 for a fabric destination. -/
def Plan.dstDie (pl : Plan) (x : Slot) : Nat :=
  match endPt x.dst with
  | .cluster v => dieOf (pl.phys v)
  | .lane l => l / 32
  | _ => 0

/-- A value that the fabric produces: entry i of the input send table of its die (R631, R632). -/
def Plan.fromFabric (pl : Plan) (g : Image) (x : Slot) (d i : Nat) : Except BErr Plan := do
  let (pl1, hs) ← pl.onward g x ⟨d, 0, 2, i / 2 + 64 + 15 - 36⟩
  let (pl2, tag) ← pl1.endTag x d
  let (pl3, t) ← pl2.putHops x.off 1 tag hs.tail
  let pl4 := { pl3 with send := Sparse.put 0 pl3.send (d * 1024 + i) (slice x.src 0 12 + 2147483648) }
  match hs with
  | [] => pure pl4
  | first :: _ => pure (pl4.put d 290 0 i (validEntry first.d0 t))

/-- The records of the fabric for a die, in the order of its entries (R632). -/
def Plan.fabricSlots (pl : Plan) (g : Image) (d : Nat) : List Slot :=
  sortBy (fun a b => Nat.ble a.due b.due) (g.slots.filter fun x =>
    match endPt x.src with
    | .fabric _ => pl.dstDie x == d
    | _ => false)

/-- The input send table's entries of a die are taken first, each with its CRT entry of the same number (R631, R632). -/
def Plan.reserveFabric (pl : Plan) (g : Image) (d : Nat) : Except BErr Plan :=
  let n := (pl.fabricSlots g d).length
  if n = 0 then .ok pl
  else do
    let off := (((pl.fabricSlots g d).drop 1024).head?.map (·.off)).getD 0
    let (pl1, _) ← pl.alloc off d 290 0 n
    pure pl1

/-- The place of a record in a list. -/
def slotIndex (l : List Slot) (x : Slot) : Nat := l.findIdx fun y => y.off == x.off

/-- The records that a lane delivers, in order: their positions. -/
def Image.laneSlots (g : Image) (l : Nat) : List Slot := g.slots.filter fun x => decide (endPt x.src = .lane l)

/-- A contiguous block of a lane's BRT holds the entries of its positions, from SHR_RXBASE (R552). -/
def Plan.reserveLane (pl : Plan) (g : Image) (l : Nat) : Except BErr Plan :=
  match g.laneSlots l with
  | [] => .ok pl
  | x :: rest => do
    let (pl1, i) ← pl.alloc x.off (l / 32) (bridgeStop (l / 4 % 8) (l / 2 % 2)) 0 (rest.length + 1)
    pure { pl1 with rxBase := Sparse.put 0 pl1.rxBase l (i + 1) }

/-- One SLOT record. -/
def Plan.routeSlot (g : Image) (pl : Plan) (x : Slot) : Except BErr Plan :=
  match endPt x.src with
  | .cluster v => pl.fromCluster g x (pl.phys v)
  | .lane l => pl.fromLane g x l (Sparse.get 0 pl.rxBase l - 1 + slotIndex (g.laneSlots l) x)
  | .fabric _ =>
    let d := pl.dstDie x
    pl.fromFabric g x d (slotIndex (pl.fabricSlots g d) x)
  | .bad => .ok pl

/-- ROUTE for the values of an image, in the order of its records. -/
def Plan.routeSlots (pl : Plan) (g : Image) : Except BErr Plan := do
  let pl1 ← (List.range 4).foldlM (fun q d => q.reserveFabric g d) pl
  let pl2 ← (List.range 128).foldlM (fun q l => q.reserveLane g l) pl1
  g.slots.foldlM (Plan.routeSlot g) pl2

/-! ### MEMORY (R431 to R434, R440, R442) -/

/-- PC-blocks that a memory takes on each of its pseudo-channels. -/
def pcBlocks (nwords npcLog2 : Nat) : Nat := ((nwords + 27) / 28 + 2 ^ npcLog2 - 1) / 2 ^ npcLog2

/-- PC-blocks of a placed memory. -/
def PlacedMem.blocks (m : PlacedMem) : Nat := pcBlocks m.nwords m.npcLog2

/-- A placed memory lies on one of the pseudo-channels of a range of a stack. -/
def PlacedMem.onRange (m : PlacedMem) (stack pc n : Nat) : Bool :=
  m.stack == stack && Nat.blt m.basePc (pc + n) && Nat.blt pc (m.basePc + 2 ^ m.npcLog2)

/-- The lowest BLOCK_BASE that R433 allows for a memory at a BASE_PC. -/
def Plan.fitAt (pl : Plan) (acqBase : Nat) (m : MemDecl) (stack pc : Nat) : Option Nat :=
  let there := pl.mems.filter fun x => x.onRange stack pc (2 ^ m.npcLog2)
  let n := pcBlocks m.nwords m.npcLog2
  if there.any fun x => x.book &&& m.book != 0 then none
  else
    let cands := sortBy Nat.ble (0 :: there.map fun x => (x.blockBase + x.blocks + 15) / 16 * 16)
    cands.find? fun b =>
      Nat.ble (b + n) acqBase && there.all fun x => Nat.ble (x.blockBase + x.blocks) b || Nat.ble (b + n) x.blockBase

/-- The place with the lowest BLOCK_BASE in a stack, and the lowest BASE_PC among equals (R433). -/
def Plan.fitStack (pl : Plan) (acqBase : Nat) (m : MemDecl) (stack : Nat) : Option (Nat × Nat) :=
  (List.range (32 / 2 ^ m.npcLog2)).foldl (fun best i =>
    let pc := i * 2 ^ m.npcLog2
    match pl.fitAt acqBase m stack pc, best with
    | none, b => b
    | some k, none => some (pc, k)
    | some k, some b => if k < b.2 then some (pc, k) else some b) none

/-- Clusters of a die with a port template that names a memory (R432). -/
def Plan.usersOn (pl : Plan) (g : Image) (index d : Nat) : Nat :=
  (g.parts.filter fun p =>
    dieOf (pl.phys p.vc) == d && p.ports.any fun t => portTKind t == 2 && portTMem t == index).length

/-- The preferred stack of a memory (R432). -/
def Plan.preferred (pl : Plan) (g : Image) (index : Nat) : Nat :=
  (List.range 4).foldl (fun best d => if pl.usersOn g index best < pl.usersOn g index d then d else best) 0

/-- The stacks in the order in which they are tried (R432). -/
def stackOrder (d : Nat) : List Nat := [d, (d + 1) % 4, (d + 3) % 4, (d + 2) % 4]

/-- The lowest free MID of a stack, at a place (R434). -/
def Plan.addMem (pl : Plan) (m : MemDecl) (stack pc k : Nat) : Except BErr Plan := do
  let mid := (pl.mems.filter fun x => x.stack == stack).length
  need (Nat.blt mid 1024) 12 3 stack
  pure { pl with mems := pl.mems ++ [⟨m.index, mid, stack, pc, m.npcLog2, k, m.nwords, m.book⟩] }

/-- A memory of a relocatable image (R432, R433). -/
def State.placeMem (s : State) (g : Image) (pl : Plan) (m : MemDecl) : Except BErr Plan :=
  match (stackOrder (pl.preferred g m.index)).findSome? fun d =>
    (pl.fitStack (s.f (HBC_ACQ_BASE_BASE d)) m d).map fun x => (d, x) with
  | some (d, pc, k) => pl.addMem m d pc k
  | none => .error ⟨12, 2, m.index⟩

/-- A memory of a pinned image (R398, R440, R442). -/
def State.pinMem (s : State) (pl : Plan) (m : MemDecl) : Except BErr Plan := do
  let n := 2 ^ m.npcLog2
  let there := pl.mems.filter fun x => x.onRange m.stack m.basePc n
  need (m.basePc % n == 0 && Nat.ble (m.basePc + n) 32 &&
    Nat.ble (m.blockBase + pcBlocks m.nwords m.npcLog2) (s.f (HBC_ACQ_BASE_BASE m.stack)) &&
    !there.any fun x => x.book &&& m.book != 0) 14 m.sec m.index
  pl.addMem m m.stack m.basePc m.blockBase

/-- MEMORY: in decreasing order of NWORDS and increasing INDEX (R431); a RELOAD keeps every place (R447). -/
def State.planMems (s : State) (g : Image) (keep : Bool) (pl : Plan) : Except BErr Plan :=
  if keep then .ok { pl with mems := s.blt.mems }
  else
    let sorted := sortBy (fun a b => Nat.blt b.nwords a.nwords || (a.nwords == b.nwords && Nat.ble a.index b.index)) g.mems
    sorted.foldlM (fun q m => if g.pinned then s.pinMem q m else s.placeMem g q m) pl

/-! ### Memory traffic (R429, R434 to R436) -/

/-- The latency class between two dies (R380). -/
def latClass (a b : Nat) : Nat := if a = b then 0 else if b = (a + 2) % 4 then 2 else 1

/-- The place of a memory index. -/
def Plan.memAt (pl : Plan) (index : Nat) : Option PlacedMem := pl.mems.find? fun m => m.index == index

/-- The next n free MQT entries of a port (R428). -/
def Plan.allocMqt (pl : Plan) (d port n : Nat) : Except BErr (Plan × Nat) := do
  let key := d * 32 + port
  let i := Sparse.get 0 pl.mqtUsed key
  need (Nat.ble (i + n) 1024) 12 4 key
  pure ({ pl with mqtUsed := Sparse.put 0 pl.mqtUsed key (i + n) }, i)

/-- The direction of the end-marker rule (R259, R429): 0 CW, 1 CCW. -/
def markerDir (p : Nat) : Nat := if within 1 8 p || within 19 26 p then 1 else 0

/-- The way of the reply of a read: RPORT and RTAG (R338, R429). -/
def Plan.replyRoute (pl : Plan) (off c stack : Nat) (u : MemUse) : Except BErr (Plan × Nat × Nat) := do
  let p := posOf c
  let k := nearBridge p
  let dir := nearDir k p
  let h := hops (18 * k) p dir
  let (pl1, ph) ← pl.bookLeg off ⟨dieOf c, ringOf c, 18 * k, dir, h⟩ (u.step + 32 + 191 - (h + 2) / 2) 1 [0, 1] none
  let (port, hs) := crossWay (2 * ringOf c + k) (dieBack stack (dieOf c))
  let (pl2, tag) ← pl1.putHops off 1 u.rxw (hs ++ [⟨dieOf c, bridgeStop (ringOf c) k, brtD0 (1 + dir) 0 p ph⟩])
  pure (pl2, port, tag)

/-- The way of a write acknowledgement (R339, R429). -/
def Plan.ackRoute (pl : Plan) (off c stack : Nat) : Except BErr (Plan × Nat × Nat) := do
  let (port, hs) := crossWay 31 (dieBack stack (dieOf c))
  let (pl1, tag) ← pl.putHops off 1 0 hs
  pure (pl1, port, tag)

/-- The input port of a controller by which the parts of a request arrive. -/
def entryPort (c k stack : Nat) : Nat :=
  match (dieWay (dieOf c) stack).getLast? with
  | none => 2 * ringOf c + k
  | some x => 16 + x.2.2

/-- The MQT entries of a request (R435). -/
def Plan.putMqt (pl : Plan) (d port i np d0 rtag : Nat) : Plan :=
  let key := (d * 32 + port) * 1024 + i
  { pl with mqt := (List.range np).foldl (fun m j =>
      Sparse.put 0 m (key + j) (if j = 0 then validEntry d0 rtag else validEntry j 0)) pl.mqt }

/-- One more write acknowledgement for a die (R436). -/
def Plan.addWack (pl : Plan) (d : Nat) : Except BErr Plan := do
  let n := Sparse.get 0 pl.wack d + 1
  need (Nat.ble n 65535) 12 5 d
  pure { pl with wack := Sparse.put 0 pl.wack d n }

/-- The HBM MEM that proceeds at one step of a partition (R429, R435, R436). -/
def Plan.routeMem (pl : Plan) (p : Part) (u : MemUse) : Except BErr Plan :=
  let c := pl.phys p.vc
  let t := p.port u.port
  match pl.memAt (portTMem t) with
  | none => .ok pl
  | some m => do
    let off := p.off + instrOff u.step u.k
    let np := if u.wr then 3 else if portTAw t ≤ 18 then 1 else 2
    let dir := markerDir (posOf c)
    let b := firstBridge (posOf c) dir
    let k := b / 18
    let (pl1, ph) ← pl.bookLeg off ⟨dieOf c, ringOf c, posOf c, dir, hops (posOf c) b dir⟩ (u.step + 2 + 32) np [0, 1] none
    let port := entryPort c k m.stack
    let (pl2, i) ← pl1.allocMqt m.stack port np
    let (out, hs) := crossWay 19 (dieWay (dieOf c) m.stack)
    let (pl3, tag) ← pl2.putHops off np i (⟨dieOf c, bridgeStop (ringOf c) k, brtD0 0 out 0 0⟩ :: hs)
    let (pl4, rport, rtag) ← if u.wr then pl3.ackRoute off c m.stack else pl3.replyRoute off c m.stack u
    let d0 := np * 4 + ofBool u.wr * 16 + m.mid * 32 + latClass (dieOf c) m.stack * 32768 + rport * 131072
    let pl5 := pl4.putMqt m.stack port i np d0 rtag
    let pl6 := { pl5 with
      mrt := Sparse.put 0 pl5.mrt (c * 2048 + u.step) (tag + ph * 1024 + dir * 2048 + 2147483648) }
    if u.wr then pl6.addWack (dieOf c) else pure pl6

/-- The memory traffic of an image, by partition and step. -/
def State.planTraffic (s : State) (g : Image) (pl : Plan) : Except BErr Plan :=
  g.parts.foldlM (fun q p => (s.hbmUses g.addr g.l p).foldlM (fun q u => q.routeMem p u) q) pl

/-- The error of a phase, with its number. -/
def atPhase {α : Type} (n : Nat) : Except BErr α → Except (Nat × BErr) α
  | .error e => .error (n, e)
  | .ok a => .ok a

/-- Phases 2 to 4 (R413): the placement, or the first error with its phase. -/
def State.planImage (s : State) (g : Image) (keep : Bool) : Except (Nat × BErr) Plan := do
  let m ← atPhase 2 (s.planMap g)
  let pl ← atPhase 3 ({ Plan.empty with map := m }.routeSlots g)
  let pl1 ← atPhase 4 (s.planMems g keep pl)
  atPhase 4 (s.planTraffic g pl1)

end Sys2Proof.Machine
end

