-- ==== Sys2Proof/Machine/Clusters.lean ====
section
/-! DEFINITION. The commands of a cluster (02_step_machine): cycles, arrivals, commit, scrubbing, reset, the step rate and
direct store access. -/

namespace Sys2Proof.Machine

open Reg

/-- STEP_CYCLE (R90, R112 to R115). -/
def execStepCycle (c : ClusterId) (s : State) : Result := .next (s.cycle c)

/-- The step in progress names an OWED word (R115). -/
def State.wouldStall (s : State) (c : Nat) : Bool :=
  let cl := s.cl c
  (cl.stepWords (s.f (CLU_STATUS_STEP c))).any fun x => cl.stalls? (s.issue c x.1 (Casornol.ofWord (wordData x.2)))

/-- STALL_CYCLE (R115): the cycle stalls when an operand of the step names an OWED word. -/
def execStallCycle (c : ClusterId) (s : State) : Result :=
  if s.canIssue c then
    let s1 := s.dueStep c (s.f (CLU_STATUS_STEP c))
    if s1.faulted c ∨ !s1.wouldStall c then .next s1 else .next (s1.stall c)
  else .next s

/-- ARRIVAL (R107, R108): a flit that the exit buffer refuses comes round again (R47). -/
def execArrival (c : ClusterId) (rank : Nat) (rxw : BitVec 7) (due : BitVec 11) (ftag : BitVec 2) (word : Syl)
    (s : State) : Result :=
  let n := frameOfTag (s.cluFrame c) ftag.toNat
  let r := s.arrive c 0 (mkArrival rank n n due.toNat rxw.toNat word.toNat)
  match r.1 with
  | .taken => .next r.2
  | .refused => .next (r.2.bump (MLR_STOP_COLL_RECIRC (stopBase (dieOf c) (ringOf c) (posOf c))) 1)

/-- The commit of a cluster (R100): every marked entry changes halves, and the commit record names them. -/
def Cluster.commit (cl : Cluster) : Cluster :=
  let marked := cl.marks.map (·.1)
  { cl with
    sel := marked.foldl (fun m e => Sparse.put 0 m e (1 - cl.selBit e)) cl.sel
    marks := []
    record := marked
    committed := true }

/-- The state-store taps that still wait in a cluster are read before it commits the next frame (R457). -/
def State.holdTaps (s : State) (c : Nat) : State :=
  if Sparse.get 0 s.acq.wait c = 0 then s
  else
    let taps := s.tapList.filter fun x => slice x.2 0 11 == c && slice x.2 11 2 == 1
    let s1 := s.readRows c (taps.map fun x => slice x.2 13 15)
    let cl := s1.cl c
    { s1 with acq := { s1.acq with
        snap := Sparse.putAll 3 s1.acq.snap
          (taps.map fun x => (x.1, cl.stateValue (cl.selBit (slice x.2 13 15)) (slice x.2 13 15))) } }

/-- CLUSTER_COMMIT (R100, R105, R110, R48): the rows of the entries that the digest takes are read (R125, R590). -/
def execClusterCommit (c : ClusterId) (s : State) : Result :=
  let cl := s.cl c
  if s.cluState c = Clu.barrier ∧ cl.owed = [] ∧ cl.wb = [] ∧ !cl.committed then
    let last := min cl.stalls 65535
    let s0 := s.holdTaps c
    let s1 := (s0.setCl c (s0.cl c).commit).setF (CLU_STALL_LAST c) last
    let s2 := (s1.setF (CLU_STALL_MAX c) (max last (s1.f (CLU_STALL_MAX c)))).readRows c (s1.cl c).record
    .next (s2.tapSnapshot c cl.frame)
  else .next s

/-- Every flit of the frame has left the injection queues of a stop (R259). -/
def State.injected (s : State) (d stop frame : Nat) : Bool :=
  [0, 1].all fun dir => (s.injQueue d stop dir).all fun x => flitFtag x.1 != frame % 4

/-- The direction and the bridge position of an end marker (R259). -/
def markerRoute (p : Nat) : Nat × Nat := (bridgeDir p, firstBridge p (bridgeDir p))

/-- A marker waits for injection at a stop. -/
def State.pushMark (s : State) (d stop dir f : Nat) : State :=
  let m := s.die d
  s.setDie d { m with marks := Sparse.put [] m.marks (stop * 2 + dir) (Sparse.get [] m.marks (stop * 2 + dir) ++ [f]) }

/-- END_MARKER_INJECT (R126, R259). -/
def execEndMarkerInject (c : ClusterId) (s : State) : Result :=
  let cl := s.cl c
  let d := dieOf c
  let p := posOf c
  let stop := stopIx (ringOf c) p
  if cl.committed && !cl.marked && !s.faulted c && s.cluState c != 0 && cl.parts.isEmpty && s.injected d stop cl.frame then
    let route := markerRoute p
    let s1 := s.setCl c { cl with marked := true }
    .next (s1.pushMark d stop route.1 (mkMark (s.stopGen d stop) route.2 0 p cl.frame false))
  else .next s

/-- A state row of one half is scrubbed (R123, R125, R126, R128). -/
def State.scrubRow (s : State) (c half r : Nat) : State :=
  if s.faulted c then s
  else
    match secDecode 7 64 ((s.cl c).row half r) with
    | .ok => s
    | .corrected d => s.fixRow c (half * 1024 + r, d)
    | .uncorrectable => s.cluFault c CLU_ERR_SS_UE r 0 7

/-- SCRUB_READ (R128). -/
def execScrubRead (c : ClusterId) (s : State) : Result :=
  if s.flag (CLU_CTRL_SCRUB_EN c) && s.cluState c != 0 && s.cluState c != Clu.fault then
    let cl := s.cl c
    let i := cl.scrubI
    let r := cl.scrubS
    let s1 := (cl.stepWords i).foldl (fun t x => t.checkWord c i 6 x) s
    let s2 := if r < 1024 then (s1.scrubRow c 0 r).scrubRow c 1 r else s1
    let s3 := s2.setCl c { s2.cl c with scrubI := (i + 1) % 2048, scrubS := (r + 1) % 2048 }
    let s4 := if i = 2047 then s3.setF (CLU_SCRUB_IS_PASSES c) (s3.f (CLU_SCRUB_IS_PASSES c) + 1) else s3
    .next (if r = 2047 then s4.setF (CLU_SCRUB_SS_PASSES c) (s4.f (CLU_SCRUB_SS_PASSES c) + 1) else s4)
  else .next s

/-- CLUSTER_RESET_DONE (R131); a cluster under MBIST or LBIST stays in RESET (R806). -/
def execClusterResetDone (c : ClusterId) (s : State) : Result :=
  if s.cluState c = 0 ∧ s.domainOn (c.val / 34) ∧ !s.fuseFailed c ∧ !s.tst.tested.contains c.val then
    .next (s.setF (CLU_STATUS_STATE c) Clu.ready)
  else .next s

/-- Frames run in a cluster: RUNNING, STALLED or BARRIER (R135). -/
def State.framesRun (s : State) (c : Nat) : Bool := Nat.ble 2 (s.cluState c) && Nat.ble (s.cluState c) 4

/-- TRIM_WRITE (R134, R135). -/
def execTrimWrite (p : Path) (c : ClusterId) (v : Word) (s : State) : Result :=
  .next (s.onWrite p (CLU_TRIM c) fun s =>
    let t := slice v.toNat 0 11
    if t < 600 ∨ 1400 < t then s.cluErr c CLU_ERR_OSC_RANGE
    else
      let s1 := s.setF (CLU_TRIM_TARGET c) t
      if s1.framesRun c then s1 else (s1.setCl c { s1.cl c with rate := t }).settleRate c)

/-- FREQ_MEASURE (R850): a measurement over which the rate in force has changed confirms nothing. -/
def execFreqMeasure (c : ClusterId) (meas : BitVec 16) (s : State) : Result :=
  let r := s.rateInForce c
  let m := meas.toNat * 32
  let good := (s.cl c).rateSeen = r ∧ (s.cl c).seenAt = s.seq.checks ∧ 1000 * m ≤ 1002 * (10 * r) ∧ 998 * (10 * r) ≤ 1000 * m
  let s1 := (s.setF (CLU_FREQ_MEAS c) meas.toNat).setF (CLU_TRIM_LOCKED c) (if good then 1 else 0)
  .next (s1.setCl c { s1.cl c with rateSeen := r, seenAt := s.seq.checks })

/-! ### Direct store access (R136 to R143) -/

/-- The last address of a store (R136). -/
def storeLast (store : Nat) : Nat :=
  match store with
  | 0 => 2047
  | 1 => 4095
  | 2 | 3 => 32767
  | _ => 127

/-- A CLU_MA command is refused: 0 when it is not, 1 STATE, 2 ARG (R136, R137). -/
def State.maRefusal (s : State) (c cmd : Nat) : Nat :=
  let st := s.cluState c
  let store := s.f (CLU_MA_ADDR_STORE c)
  let write := bitOf cmd 1
  if st = 0 ∨ s.billetRuns then 1
  else if slice cmd 0 2 = 3 ∨ 4 < store ∨ storeLast store < s.f (CLU_MA_ADDR_ADDR c) then 2
  else if write ∧ st ≠ Clu.ready ∧ (store = 0 ∨ st ≠ Clu.halted) then 1
  else if !write ∧ st ≠ Clu.ready ∧ st ≠ Clu.halted ∧ st ≠ Clu.fault then 1
  else 0

/-- CLU_MA_STAT.ERR. -/
def State.maErr (s : State) (c e : Nat) : State := s.setF (CLU_MA_STAT_ERR c) e

/-- The four data registers. -/
def State.maData (s : State) (c : Nat) (d0 d1 d2 d3 : Nat) : State :=
  (((s.setNat (CLU_MA_D c 0) d0).setNat (CLU_MA_D c 1) d1).setNat (CLU_MA_D c 2) d2).setNat (CLU_MA_D c 3) d3

/-- AUTOINC after an access. -/
def State.maNext (s : State) (c : Nat) : State :=
  if s.flag (CLU_MA_ADDR_AUTOINC c) then
    let a := s.f (CLU_MA_ADDR_ADDR c)
    s.setF (CLU_MA_ADDR_ADDR c) (if a = storeLast (s.f (CLU_MA_ADDR_STORE c)) then 0 else a + 1)
  else s

/-- An instruction word is read (R142, R143). A fault found so is recorded with the word's address as its step, and one
found in another store with CLU_STATUS.STEP (DESIGN CHOICE, log entry 41). -/
def State.maReadInstr (s : State) (c k a : Nat) (raw : Bool) : State :=
  let w := (s.cl c).word k a
  let give (t : State) (n : Nat) : State := t.maData c (slice n 0 32) (slice n 32 32) (slice n 64 26) (slice n 90 8)
  if raw then (give s w).maErr c 0
  else
    match secDecode 7 90 w with
    | .ok => (give s w).maErr c 0
    | .corrected d =>
      let n := secEncode 7 90 d
      (give ((s.setCl c { s.cl c with imem := Sparse.put 0 (s.cl c).imem (k * 2048 + a) n }).cluCorrected c
        CLU_ERR_IS_CE) n).maErr c 3
    | .uncorrectable => ((give s w).maErr c 4).cluFault c CLU_ERR_IS_UE a k 1

/-- A state entry is read, with its mark when the pending value is asked for (R142, R143). -/
def State.maReadState (s : State) (c e : Nat) (pending raw : Bool) : State :=
  let cl := s.cl c
  let half := if pending ∧ cl.mark e then 1 - cl.selBit e else cl.selBit e
  let r := cl.row half (e / 32)
  let give (t : State) (data : Nat) : State := t.maData c (rowValue data e + if pending ∧ cl.mark e then 4 else 0) 0 0 0
  if raw then (give s r).maErr c 0
  else
    match secDecode 7 64 r with
    | .ok => (give s r).maErr c 0
    | .corrected d => (give (s.fixRow c (half * 1024 + e / 32, d)) d).maErr c 3
    | .uncorrectable => ((give s r).maErr c 4).cluFault c CLU_ERR_SS_UE (s.f (CLU_STATUS_STEP c)) 0 2

/-- The addressed item is read (R142, R143). -/
def State.maRead (s : State) (c : Nat) : State :=
  let a := s.f (CLU_MA_ADDR_ADDR c)
  let raw := s.flag (CLU_MA_ADDR_RAW c)
  let step := s.f (CLU_STATUS_STEP c)
  match s.f (CLU_MA_ADDR_STORE c) with
  | 0 => s.maReadInstr c (s.f (CLU_MA_ADDR_PROC c)) a raw
  | 1 =>
    let n := (s.cl c).netRaw a
    let s1 := s.maData c n 0 0 0
    if !raw ∧ parityOf 3 n = 1 then (s1.maErr c 4).cluFault c CLU_ERR_NS_PE step (a / 64) 3 else s1.maErr c 0
  | 2 => s.maReadState c a false raw
  | 3 => s.maReadState c a true raw
  | _ =>
    let x := (s.cl c).rx a
    let s1 := s.maData c (x.word + x.parity * 262144) x.state 0 0
    if !raw ∧ parityOf 18 x.word ≠ x.parity then (s1.maErr c 4).cluFault c CLU_ERR_RX_PE step 0 4 else s1.maErr c 0

/-- The outcome of a write to a row (R849): UE, CE or NONE, by what the row held. -/
def rowOutcome (row : Nat) : Nat :=
  match secDecode 7 64 row with
  | .ok => 0
  | .corrected _ => 3
  | .uncorrectable => 4

/-- The addressed item is written (R138 to R141, R849, R235). -/
def State.maWrite (s : State) (c : Nat) : State :=
  let cl := s.cl c
  let a := s.f (CLU_MA_ADDR_ADDR c)
  let d (i : Nat) : Nat := (s.reg (CLU_MA_D c i)).toNat
  let step := s.f (CLU_STATUS_STEP c)
  match s.f (CLU_MA_ADDR_STORE c) with
  | 0 =>
    let data := d 0 + d 1 * 4294967296 + slice (d 2) 0 26 * 18446744073709551616
    let w := if s.flag (CLU_MA_ADDR_RAW c) then data + slice (d 3) 0 8 * 2 ^ 90 else secEncode 7 90 data
    (s.setCl c { cl with imem := Sparse.put 0 cl.imem (s.f (CLU_MA_ADDR_PROC c) * 2048 + a) w }).maErr c 0
  | 1 =>
    (s.setCl c { cl with
      net := Sparse.put 3 cl.net a (netEntry (d 0))
      heldNet := cl.heldNet.filter fun h => h.1 != a }).maErr c 0
  | 2 =>
    let r := s.writeState c (cl.selBit a) a (slice (d 0) 0 2)
    let t := r.2.maErr c (rowOutcome (cl.row (cl.selBit a) (a / 32)))
    if r.1 then t.cluFault c CLU_ERR_SS_UE step 0 2 else t
  | 3 =>
    let r := s.writeShadow c a (slice (d 0) 0 2)
    let t := r.2.maErr c (rowOutcome (cl.row (1 - cl.selBit a) (a / 32)))
    if r.1 then t.cluFault c CLU_ERR_SS_UE step 0 2 else t
  | _ =>
    let w := slice (d 0) 0 18
    (s.setCl c { cl with rxb := Sparse.put RxWord.reset cl.rxb a ⟨w, parityOf 18 w, 1, (0, 0, 0)⟩ }).maErr c 0

/-- A CLU_MA command (R136, R137). -/
def State.maCommand (s : State) (c cmd : Nat) : State :=
  let e := s.maRefusal c cmd
  if slice cmd 0 2 = 0 then s
  else if e ≠ 0 then s.maErr c e
  else if bitOf cmd 1 then (s.maWrite c).maNext c
  else (s.maRead c).maNext c

/-- CLU_MA_READ (R136, R137, R142, R143). -/
def execCluMaRead (p : Path) (c : ClusterId) (v : Word) (s : State) : Result :=
  .next (s.onWrite p (CLU_MA_CMD c) fun s => s.maCommand c v.toNat)

/-- CLU_MA_WRITE (R136 to R141, R849). -/
def execCluMaWrite (p : Path) (c : ClusterId) (v : Word) (s : State) : Result :=
  .next (s.onWrite p (CLU_MA_CMD c) fun s => s.maCommand c v.toNat)

end Sys2Proof.Machine
end

