-- ==== Sys2Proof/Machine/Billet.lean ====
section
/-! DEFINITION. The commands of Billet (08_billet_loading): LOAD, CHECK, UNLOAD, RELOAD, REPLACE and CLRESET, their
completion and timeout, the load channel and the fail map. -/

namespace Sys2Proof.Machine

open Reg

/-- Billet replaced. -/
def State.setBlt (s : State) (x : Billet) : State := { s with blt := x }

/-- The running Billet command will complete with an error. -/
def State.bltFail (s : State) (e : BErr) : State := s.mbFinish 0 e.code e.res0 e.res1

/-! ### Removing a program (R446) -/

/-- Every entry of a store with V = 0, at bit v of each entry. -/
def clearAll (v : Nat) (m : Sparse Nat) : Sparse Nat :=
  (m.map fun kv => (kv.1, putBit kv.2 v false)).filter fun kv => kv.2 != 0

/-- Both halves of every slot table and MQT of a die cleared; its memory table as well, unless it is kept (R446, R447). -/
def State.clearDie (s : State) (keepMems : Bool) (d : Nat) : State :=
  let s1 := s.setDie d { s.die d with tbl := clearAll 63 (s.die d).tbl }
  let c := s1.ctl d
  (s1.setCtl d { c with mqt := clearAll 63 c.mqt, mem := if keepMems then c.mem else clearAll 63 c.mem }).setF
    (HBC_WACK_PEND d) 0

/-- Both halves of a cluster's route table cleared. -/
def State.clearMrt (s : State) (c : Nat) : State := s.setCl c { s.cl c with mrt := clearAll 31 (s.cl c).mrt }

/-- The clusters that hold a route table entry. -/
def State.mrtHolders (s : State) : List Nat := (s.clusters.filter fun kv => !kv.2.mrt.isEmpty).map (·.1)

/-- The tap table replaced, which ends a capture (R439, R481). -/
def State.setTaps (s : State) (taps : List Nat) : State :=
  let s1 := s.acqEnd 3 s.frameNo
  { s1 with acq := { s1.acq with taps := Sparse.putList 0 [] 0 taps, snap := [], wait := [] } }.setF ACQ_TAP_NUM_NTAP
    taps.length

/-- The frame length and the inbound lanes of a program (R419). -/
def State.setSeqFields (s : State) (flen inmask : Nat) : State :=
  (List.range 4).foldl (fun t i => t.setNat (SEQ_INMASK i) (slice inmask (32 * i) 32)) (s.setF SEQ_CFG_FLEN flen)

/-- What UNLOAD removes (R446), but for the votes of Billet: a RELOAD keeps the memory tables. -/
def State.bltClear (s : State) (keepMems : Bool) : State :=
  let s1 := s.mapped.foldl State.clusterReset s
  let s2 := (List.range 4).foldl (fun t d => t.clearDie keepMems d) s1
  let s3 := s2.mrtHolders.foldl State.clearMrt s2
  let s4 := ((s3.setSeqFields 0 0).setTaps []).parkOutputs
  let s5 := (s4.setF DEV_MODE_PROG_VALID 0).setF BLT_LOADED_LOADED 0
  s5.setBlt { s5.blt with mems := if keepMems then s5.blt.mems else [], place := [], ports := [], lanes := 0 }

/-- The votes of Billet (R417), one bit each, at once. -/
def State.bltVotes (s : State) (votes : Nat) : State := { s with pwr := { s.pwr with billet := votes } }.settlePower

/-- UNLOAD (R446). -/
def State.bltRemove (s : State) : State := (s.bltClear false).bltVotes 0

/-! ### Acceptance (R404, R409, R410, R413, R857) -/

/-- The command is refused for the mode, or because BIST runs (R410, R805). -/
def State.bltRefused (s : State) (modes : List Nat) : Bool := s.mbBusyNow 41 || !modes.contains s.mode

/-- The image names the load-channel lane while the channel is on (R409); the 80 bytes are there to be read. -/
def State.ldchClash (s : State) (addr len : Nat) : Bool :=
  Nat.ble 80 len && s.flag BLT_LDCH_CTRL_EN && bitOf (s.imgNat addr 40 16) (s.f BLT_LDCH_CTRL_LANE)

/-- An uncorrectable error meets the read of LANES. -/
def lanesUnread (eccAt : Option Nat) : Bool :=
  match eccAt with
  | some a => Nat.blt a 56
  | none => false

/-- The start of a command: its time and its image. -/
def State.bltStart (s : State) (addr len : Nat) : State :=
  let b := { s.blt with startAt := s.tmk.steered, cmdAddr := addr, cmdLen := len }
  (s.setBlt { b with last := 0, image := none, plan := none, eccLate := none, packet := none, toReset := [] }).setF
    BLT_STATUS_PHASE 0

/-- A command that reads an image runs its checks in the order of R857, after R29 and those of the mode, R404 and R409; a
length of zero is the no-op of R29 in every mode (log entry 74). -/
def State.withImage (s : State) (modes : List Nat) (addr len : Nat) (ldch : Bool) (eccAt : Option Nat)
    (act : State → State) : State :=
  if len = 0 then s.mbFinish 0 0 0 0
  else if s.bltRefused modes then s.bltFail ⟨3, 0, 0⟩
  else if !inCarve addr len || addr % 8 != 0 then s.bltFail ⟨2, 0, 0⟩
  else if ldch && s.ldchClash addr len && !lanesUnread eccAt then s.bltFail ⟨3, 0, 0⟩
  else act (s.setF BLT_STATUS_PHASE 1)

/-- Clusters and spare stops in use, as RESULT0 gives them (R412). -/
def useCount (clusters : List Nat) : Nat :=
  clusters.length + (clusters.filter fun c => c % 34 == 0 || c % 34 == 33).length * 65536

/-- The domains that a placement votes for (R417), one bit each. -/
def Plan.domains (pl : Plan) : Nat :=
  let ds := [32, 33, 34, 35] ++ pl.map.map (fun x => x.2 / 34) ++ pl.mems.map (fun m => 36 + m.stack)
  ds.foldl (fun n i => putBit n i true) 0

/-- A cluster to be mapped is reset (R418), when its domain is ON; a domain that wakes resets its clusters. -/
def State.resetMapped (s : State) (c : Nat) : State := if s.domainOn (c / 34) then s.clusterReset c else s

/-- Phase 5 begins (R417, R418): any placed program is removed, the votes are held and the clusters to be mapped are reset,
one whose domain is not ON when it is. A failure before that leaves the placed program alone (R413). -/
def State.beginWrite (s : State) (pl : Plan) (keep : Bool) : State :=
  let s1 := (s.bltClear keep).bltVotes pl.domains
  let cs := pl.map.map (·.2)
  let s2 := (cs.foldl State.resetMapped s1).setF BLT_STATUS_PHASE 5
  s2.setBlt { s2.blt with toReset := cs.filter fun c => !s1.domainOn (c / 34) }

/-- The CRC check of a RELOAD (R447), before its other checks. -/
def State.checkCrcKept (s : State) (addr len : Nat) (eccAt : Option Nat) : Except BErr Unit := do
  eccBefore eccAt 80
  let il := min (s.imgNat addr 16 8) len
  eccBefore eccAt il
  let c := s.imageCrc addr il
  need (c == (s.reg BLT_IMG_CRC).toNat) 9 c (s.reg BLT_IMG_CRC).toNat

/-- Phase 1 of a LOAD or a RELOAD (R447, R857). -/
def State.phaseCheck (s : State) (addr len : Nat) (eccAt : Option Nat) (reload : Bool) : Except BErr Image := do
  if reload then s.checkCrcKept addr len eccAt
  s.checkImage addr len eccAt

/-- Phases 1 to 4 (R413): the image and its placement, or the first error with its phase. -/
def State.phasesRead (s : State) (addr len : Nat) (eccAt : Option Nat) (reload : Bool) :
    Except (Nat × BErr) (Image × Plan) := do
  let g ← atPhase 1 (s.phaseCheck addr len eccAt reload)
  let pl ← s.planImage g reload
  pure (g, pl)

/-- The running command will end in a phase with an error. -/
def State.bltStop (s : State) (x : Nat × BErr) : State := (s.setBlt { s.blt with last := x.1 }).bltFail x.2

/-- LOAD and RELOAD from phase 1 on (R413, R447). What phases 1 to 4 find is settled at acceptance; the phases then pass one
by one (log entry 31). -/
def State.bltLoad (s : State) (addr len : Nat) (r : ImageRead) (reload : Bool) : State :=
  match s.phasesRead addr len r.ecc.eccAt reload with
  | .error x => s.bltStop x
  | .ok (g, pl) =>
    let b := { s.blt with last := 6, image := some g, plan := some pl, eccLate := r.ecc.eccLate, packet := r.packet }
    (s.setBlt b).mbFinish 0 0 0 0

/-- LOAD (R404 to R416, R857). -/
def execLoad (p : Path) (r : ImageRead) (s : State) : Result :=
  .next (s.onWrite p BLT_CMD fun s => s.mbCommand 0 1 fun s =>
    let addr := s.f64 BLT_ADDR
    let len := s.f64 BLT_LEN
    (s.bltStart addr len).withImage [Mode.idle] addr len true r.ecc.eccAt fun s =>
      s.bltLoad addr len r false)

/-- CHECK: phases 1 to 4 only (R410, R413). -/
def State.bltCheck (s : State) (addr len : Nat) (eccAt : Option Nat) : State :=
  match s.phasesRead addr len eccAt false with
  | .error x => s.bltStop x
  | .ok (_, pl) => (s.setBlt { s.blt with last := 4 }).mbFinish 0 0 (useCount (pl.map.map (·.2))) 0

/-- CHECK (R410). -/
def execBilletCheck (p : Path) (eccAt : Option Nat) (s : State) : Result :=
  .next (s.onWrite p BLT_CMD fun s => s.mbCommand 0 2 fun s =>
    let addr := s.f64 BLT_ADDR
    let len := s.f64 BLT_LEN
    (s.bltStart addr len).withImage [Mode.idle, Mode.run, Mode.timed, Mode.step] addr len false eccAt fun s =>
      s.bltCheck addr len eccAt)

/-- UNLOAD (R446). -/
def execUnload (p : Path) (s : State) : Result :=
  .next (s.onWrite p BLT_CMD fun s => s.mbCommand 0 3 fun s =>
    let s1 := s.bltStart 0 0
    if s1.bltRefused [Mode.idle] then s1.bltFail ⟨3, 0, 0⟩ else s1.bltRemove.mbFinish 0 0 0 0)

/-- RELOAD (R447). -/
def execReload (p : Path) (r : ImageRead) (s : State) : Result :=
  .next (s.onWrite p BLT_CMD fun s => s.mbCommand 0 4 fun s =>
    let addr := s.blt.addr
    let len := s.blt.len
    let s1 := s.bltStart addr len
    if s1.bltRefused [Mode.idle] || !s1.flag BLT_LOADED_LOADED then s1.bltFail ⟨3, 0, 0⟩
    else s1.withImage [Mode.idle] addr len true r.ecc.eccAt fun s => s.bltLoad addr len r true)

/-! ### REPLACE (R448 to R450) -/

/-- The placed memories, as the declarations that a REPLACE image may name. -/
def State.placedDecls (s : State) : List MemDecl :=
  s.blt.mems.map fun m => ⟨0, 0, m.index, m.npcLog2, m.nwords, m.stack, m.basePc, m.blockBase, m.book⟩

/-- The HBM MEMs of the partition that a cluster holds. -/
def State.heldUses (s : State) (c l : Nat) (ports : List Nat) : List MemUse :=
  ((List.range l).map fun step =>
    (List.range 64).filterMap fun k =>
      match memUse step k (slice ((s.cl c).word k step) 0 90) with
      | some u => if portTKind (ports.getD u.port 0) = 2 then some u else none
      | none => none).flatten

/-- Two HBM MEMs agree in step, port, WR and DEST[6:0] (R448). -/
def sameUse (a b : MemUse) : Bool := a.step == b.step && a.port == b.port && a.wr == b.wr && a.rxw == b.rxw

/-- Two lists of HBM MEMs agree. -/
def sameUses (a b : List MemUse) : Bool := a.length == b.length && (a.zip b).all fun x => sameUse x.1 x.2

/-- The physical cluster of a placed virtual cluster; none when it is not placed. -/
def State.placedAt (s : State) (v : Nat) : Option Nat :=
  match Sparse.get 0 s.blt.place v with
  | 0 => none
  | n + 1 => some n

/-- One partition of a REPLACE image (R448). -/
def State.checkReplaced (s : State) (g : Image) (p : Part) : Except BErr Unit :=
  match s.placedAt p.vc with
  | none => .error ⟨eRange, p.off, p.vc⟩
  | some c => do
    need (Sparse.get [] s.blt.ports p.vc == p.ports) eRange (p.off + 8) p.vc
    let uses := ((List.range g.l).map fun step => s.hbmUsesAt g.addr p step).flatten
    need (sameUses uses (s.heldUses c g.l p.ports)) eRange (p.off + 80) p.vc

/-- The checks of a REPLACE image (R448, R450). -/
def State.checkReplace (s : State) (addr len : Nat) (eccAt : Option Nat) : Except BErr Image := do
  s.checkHead addr len eccAt
  s.checkIdentity addr
  s.checkHeader addr
  let g := { s.readImage addr with mems := s.placedDecls }
  needAll g.secs fun x => need (x.typ == 1) eFormat (80 + 16 * x.ix) x.ix
  s.checkTable addr g
  need (g.flen == s.f BLT_LOADED_FLEN) eRange 8 0
  need (g.sysId == s.blt.sysId) eRange 24 0
  let _ ← (byOffset g.secs).foldlM (fun t x => s.checkBody g t x) []
  needAll g.parts fun p => s.checkReplaced g p
  pure g

/-- The instruction store of a cluster takes the words of a partition (R392, R419). -/
def State.streamPart (s : State) (g : Image) (p : Part) (c : Nat) : State :=
  let words := ((List.range 64).map fun k => (List.range g.l).map fun step =>
    (k * 2048 + step, secEncode 7 90 (s.readInstr g.addr p.off step k))).flatten
  s.setCl c { s.cl c with imem := Sparse.putAll 0 (s.cl c).imem words }

/-- Partitions in VC order (R419). -/
def Image.byVc (g : Image) : List Part := sortBy (fun a b => Nat.ble a.vc b.vc) g.parts

/-- The first n partitions of a REPLACE image, in VC order, are streamed. -/
def State.streamPlaced (s : State) (g : Image) (n : Nat) : State :=
  (g.byVc.take n).foldl (fun t p =>
    match t.placedAt p.vc with
    | some c => t.streamPart g p c
    | none => t) s

/-- REPLACE (R448 to R450). -/
def execReplace (p : Path) (e : ImageEcc) (s : State) : Result :=
  .next (s.onWrite p BLT_CMD fun s => s.mbCommand 0 5 fun s =>
    let addr := s.f64 BLT_ADDR
    let len := s.f64 BLT_LEN
    let s1 := s.bltStart addr len
    if s1.bltRefused [Mode.idle] || !s1.flag BLT_LOADED_LOADED then s1.bltFail ⟨3, 0, 0⟩
    else s1.withImage [Mode.idle] addr len true e.eccAt fun s =>
      let s2 := (s.setBlt { s.blt with validBefore := s.flag DEV_MODE_PROG_VALID }).setF DEV_MODE_PROG_VALID 0
      match s2.checkReplace addr len e.eccAt with
      | .error x => s2.bltStop (1, x)
      | .ok g => (s2.setBlt { s2.blt with last := 6, image := some g, eccLate := e.eccLate }).mbFinish 0 0 0 0)

/-- CLRESET (R451). -/
def execClreset (p : Path) (s : State) : Result :=
  .next (s.onWrite p BLT_CMD fun s => s.mbCommand 0 6 fun s =>
    let c := s.f BLT_SEL_CLUSTER
    let s1 := s.bltStart c 0
    if s1.bltRefused [Mode.idle, Mode.diagnose] then s1.bltFail ⟨3, 0, 0⟩
    else if 1087 < c || s1.fuseFailed c then s1.bltFail ⟨2, 0, 0⟩
    else
      let s2 := if s1.isMapped c then s1.setF DEV_MODE_PROG_VALID 0 else s1
      (s2.resetMapped c).mbFinish 0 0 0 0)

/-! ### Phases 5 and 6 (R418 to R420, R433 to R439) -/

/-- The slot tables of a die in the half that is pending (R418); a RELOAD keeps the memory table (R447). -/
def State.writeTables (s : State) (pl : Plan) (keep : Bool) (d : Nat) : State :=
  let m := s.die d
  let h := 1 - m.half
  let mine := (pl.tbl.filter fun kv => kv.1 / 2097152 == d).map fun kv =>
    let k := kv.1 % 2097152
    (tblKey (k / 4096) h (k / 1024 % 2) (k % 1024), kv.2)
  let kept := m.tbl.filter fun kv => kv.1 / 2048 % 2 != h
  let s1 := s.setDie d { m with tbl := Sparse.putAll 0 kept mine }
  let c := s1.ctl d
  let mqt := (pl.mqt.filter fun kv => kv.1 / 32768 == d).map fun kv => (h * 32768 + kv.1 % 32768, kv.2)
  let mem := (pl.mems.filter fun x => x.stack == d).map fun x =>
    (x.mid, validEntry (x.basePc + x.npcLog2 * 32 + x.blockBase * 256) ((x.nwords + 27) / 28))
  (s1.setCtl d { c with
    mqt := Sparse.putAll 0 (c.mqt.filter fun kv => kv.1 / 32768 != h) mqt
    mem := if keep then c.mem else Sparse.putAll 0 c.mem mem }).setF (HBC_WACK_PEND d) (Sparse.get 0 pl.wack d)

/-- HBC_WIN.PERIOD_PS of a controller, rounded to the nearest ps (R438). -/
def State.setWindow (s : State) (mhz d : Nat) : State :=
  if s.domainOn (36 + d) then s.setF (HBC_WIN_PERIOD_PS d) ((4000000 + mhz / 2) / mhz) else s

/-- A port descriptor (R434, R437). -/
def Plan.descriptor (pl : Plan) (c t : Nat) : Nat :=
  match portTKind t with
  | 1 => 1 + portTAw t * 4 + portTRef t * 65536
  | 2 =>
    match pl.memAt (portTMem t) with
    | some m => 2 + portTAw t * 4 + latClass (dieOf c) m.stack * 256 + m.mid * 65536
    | none => 0
  | _ => 0

/-- The descriptors, route table and rate of one cluster (R434, R435, R437, R438). -/
def State.writeCluster (s : State) (g : Image) (pl : Plan) (p : Part) : State :=
  let c := pl.phys p.vc
  let s1 := (List.range 16).foldl (fun t i => t.setNat (CLU_MPD c i) (pl.descriptor c (p.port i))) s
  let h := 1 - s1.stopHalf (dieOf c) (stopIx (ringOf c) (posOf c))
  let mine := (pl.mrt.filter fun kv => kv.1 / 2048 == c).map fun kv => (h * 2048 + kv.1 % 2048, kv.2)
  let cl := s1.cl c
  (s1.setCl c { cl with
    mrt := Sparse.putAll 0 (cl.mrt.filter fun kv => kv.1 / 2048 != h) mine
    rate := g.stepMhz }).setF (CLU_TRIM_TARGET c) g.stepMhz |>.settleRate c

/-- The words of an INIT section (R396). -/
def State.initValue (s : State) (g : Image) (x : Init) (i : Nat) : Nat :=
  if x.mode = 1 then x.value else slice (s.imgNat g.addr (x.off + 16 + 4 * i) 4) 0 18

/-- One INIT section (R420). -/
def State.applyInit (s : State) (g : Image) (pl : Plan) (x : Init) : State :=
  if x.kind = 0 then
    match pl.memAt x.target with
    | some m => (s.writeWords m.stack m.mid x.first (s.initValue g x) x.count (false, false)).2
    | none => s
  else (List.range x.count).foldl (fun t i => t.sramWrite (pl.phys x.target) (x.first + i) (s.initValue g x i)) s

/-- The first n words of a list of INIT sections, in image order (R418, R420). -/
def State.applyInits (g : Image) (pl : Plan) : List Init → Nat → State → State
  | [], _, s => s
  | x :: rest, n, s =>
    State.applyInits g pl rest (n - x.count) (s.applyInit g pl { x with count := min x.count n })

/-- The words of a list of INIT sections that come before the one that holds a byte of the image; none where no section
holds it as data. -/
def initBefore : List Init → Nat → Option Nat
  | [], _ => none
  | x :: rest, a =>
    if x.mode = 0 ∧ x.off + 16 ≤ a ∧ a < x.off + 16 + 4 * x.count then some ((a - (x.off + 16)) / 4)
    else (initBefore rest a).map (x.count + ·)

/-- The INIT sections that a command applies: a RELOAD skips them (R447). -/
def Image.initsOf (g : Image) (reload : Bool) : List Init := if reload then [] else g.inits

/-- Their words. -/
def initTotal (l : List Init) : Nat := (l.map (·.count)).sum

/-- Phase 5: tables, descriptors and the first n words of memory contents (R418). -/
def State.phaseWrite (s : State) (g : Image) (pl : Plan) (reload : Bool) (n : Nat) : State :=
  let s1 := (List.range 4).foldl (fun t d => (t.writeTables pl reload d).setWindow g.stepMhz d) s
  let s2 := g.parts.foldl (fun t p => t.writeCluster g pl p) s1
  State.applyInits g pl (g.initsOf reload) n s2

/-- The tap table of an image (R439). -/
def Plan.tapTable (pl : Plan) (g : Image) : List Nat :=
  g.taps.map fun x => pl.phys x.vc + x.kind * 2048 + x.index * 8192

/-- A lane's first BRT entry (R552). -/
def State.setRxBase (s : State) (pl : Plan) (l : Nat) : State :=
  match Sparse.get 0 pl.rxBase l with
  | 0 => s
  | n + 1 => if s.domainOn (40 + l / 4) then s.setF (SHR_RXBASE_BASE l) n else s

/-- The generations of a die move on (R419): SET_GEN with the generation after ACTIVE_GEN, then NOW. -/
def State.nextGen (s : State) (d : Nat) : State :=
  (s.genCtrl d (128 + (s.f (MLR_GEN_STATUS_ACTIVE_GEN d) + 1) % 16)).switchNow d

/-- A mapped cluster's CLU_VMAP. -/
def State.setVmap (s : State) (x : Nat × Nat) : State :=
  (s.setF (CLU_VMAP_VIRT_ID x.2) x.1).setF (CLU_VMAP_MAPPED x.2) 1

/-- The first n partitions of an image, in VC order, are streamed (R419). -/
def State.streamParts (s : State) (g : Image) (pl : Plan) (n : Nat) : State :=
  (g.byVc.take n).foldl (fun t p => t.streamPart g p (pl.phys p.vc)) s

/-- The partitions of an image that come before the one whose instructions hold a byte of it. -/
def Image.partsBefore (g : Image) (a : Nat) : Option Nat :=
  g.byVc.findIdx? fun p => Nat.ble (p.off + 80) a && Nat.blt a (p.off + 80 + 720 * g.l)

/-- Phase 6 (R52, R419, R592, R637): instructions, taps, frame fields and port tables, generations, the map and PROG_VALID. -/
def State.phaseStream (s : State) (g : Image) (pl : Plan) : State :=
  let s1 := s.streamParts g pl g.parts.length
  let s2 := (s1.setTaps (pl.tapTable g)).setSeqFields g.flen g.inmask
  let s3 := s2.setFab { s2.fab with send := pl.send, out := pl.out }
  let s4 := (List.range 128).foldl (fun t l => t.setRxBase pl l) s3
  let s5 := pl.map.foldl State.setVmap ((List.range 4).foldl State.nextGen s4)
  let s6 := (((s5.setF BLT_LOADED_NPART g.npart).setF BLT_LOADED_FLEN g.flen).setF BLT_LOADED_PINNED
    (ofBool g.pinned)).setF BLT_LOADED_LOADED 1
  let s6 := ((s6.forgetDigests.set64 SEQ_FRAME_NO 0).set64 FRD_SSIG 0).setF FRD_NIN_NIN s6.inputWords.length
  let s7 := ((s6.setNat BLT_IMG_CRC g.crc).setF DEV_MODE_PROG_VALID 1).parkOutputs
  let b := s7.blt
  { s7.setBlt { b with
      mems := pl.mems
      lanes := g.lanes
      sysId := g.sysId
      addr := b.cmdAddr
      len := b.cmdLen
      ports := Sparse.putAll [] [] (g.parts.map fun p => (p.vc, p.ports))
      place := Sparse.putAll 0 [] (pl.map.map fun x => (x.1, x.2 + 1)) } with stepMhz := g.stepMhz }

/-- Microseconds since the command was accepted (R412). -/
def State.bltMicros (s : State) : Nat := (s.tmk.steered - s.blt.startAt) / (1000 * nsUnit)

/-- A command ends: PHASE reads 0 and the mailbox completes (R24, R412). -/
def State.bltEnd (s : State) (err res0 res1 : Nat) : State :=
  let s1 := s.setBlt { s.blt with last := 0, image := none, plan := none, eccLate := none, packet := none, toReset := [] }
  ((s1.mbFinish 0 err res0 res1).setF BLT_STATUS_PHASE 0).mbComplete 0

/-- The end of a command without error (R412). -/
def State.bltDone (s : State) : State := s.bltEnd 0 (useCount s.mapped) s.bltMicros

/-- The failure of a LOAD or RELOAD in phase 5 or 6: phase 7 removes everything written, and the command then ends with the
error (R443). -/
def State.bltCleanup (s : State) (pl : Plan) (e : BErr) : State :=
  (((pl.map.map (·.2)).foldl State.resetMapped s).bltRemove.setF BLT_STATUS_PHASE 7).bltFail e

/-- A free number up to n. -/
def State.freeUpTo (s : State) (n : Nat) : Nat := (Config.freeCount s.free).toNat % (n + 1)

/-- The work of phase 5 of a LOAD or RELOAD, its clusters being ready. Where a packet fails, how much of the contents was
written is open. -/
def State.writeNow (s : State) (reload : Bool) (g : Image) (pl : Plan) : State :=
  let inits := g.initsOf reload
  match s.blt.packet with
  | some (node, status) =>
    ((s.phaseWrite g pl reload (s.freeUpTo (initTotal inits))).takeFree).bltCleanup pl ⟨4, node.toNat, status.toNat⟩
  | none =>
    match s.blt.eccLate, s.blt.eccLate.bind (initBefore inits) with
    | some a, some n => (s.phaseWrite g pl reload n).bltCleanup pl ⟨5, a, 0⟩
    | _, _ => (s.phaseWrite g pl reload (initTotal inits)).setF BLT_STATUS_PHASE 6

/-- The voted domains of a placement are all ON. -/
def State.votedOn (s : State) (pl : Plan) : Bool := (List.range 72).all fun i => !bitOf pl.domains i || s.domainOn i

/-- Phase 5 can write: the clusters to be mapped have been reset and have completed their reset (R418). -/
def State.writeReady (s : State) (pl : Plan) : Bool :=
  s.votedOn pl && s.blt.toReset.isEmpty && pl.map.all fun x => s.cluState x.2 == Clu.ready

/-- Phase 5 goes on: it waits for the domains and for the cluster resets. -/
def State.finishWrite (s : State) (reload : Bool) (g : Image) (pl : Plan) : State :=
  if s.writeReady pl then s.writeNow reload g pl
  else if s.votedOn pl then
    let s1 := s.blt.toReset.foldl State.clusterReset s
    s1.setBlt { s1.blt with toReset := [] }
  else s

/-- Phase 6 of a LOAD or RELOAD. -/
def State.finishStream (s : State) (g : Image) (pl : Plan) : State :=
  match s.blt.eccLate, s.blt.eccLate.bind g.partsBefore with
  | some a, some n => (s.streamParts g pl n).bltCleanup pl ⟨5, a, 0⟩
  | _, _ => (s.phaseStream g pl).bltDone

/-- Phase 6 of a REPLACE (R449, R450): PROG_VALID returns while every placed cluster is still mapped, and stays 0 after an
error. -/
def State.finishReplace (s : State) (g : Image) : State :=
  match s.blt.eccLate, s.blt.eccLate.bind g.partsBefore with
  | some a, some n => (s.streamPlaced g n).bltEnd 5 a 0
  | _, _ =>
    let s1 := s.streamPlaced g g.parts.length
    let whole := s1.blt.place.all fun kv => s1.isMapped (kv.2 - 1)
    (s1.setF DEV_MODE_PROG_VALID (ofBool whole)).bltDone

/-- A REPLACE that ends before it writes leaves PROG_VALID as it was (R450). -/
def State.restoreValid (s : State) (cmd : Nat) : State :=
  if cmd = 5 ∧ s.f BLT_STATUS_PHASE = 1 then s.setF DEV_MODE_PROG_VALID (ofBool s.blt.validBefore) else s

/-- The cluster reset of a CLRESET has completed, or its domain is not ON. -/
def State.clresetOver (s : State) : Bool := !s.domainOn (s.blt.cmdAddr / 34) || s.cluState s.blt.cmdAddr != 0

/-- The phase after one of the phases 1 to 4: a RELOAD runs 1 to 3 (R447), a REPLACE streams after phase 1 (R450). -/
def nextPhase (cmd phase : Nat) : Nat := if cmd = 5 then 6 else if cmd = 4 ∧ phase = 3 then 5 else phase + 1

/-- One of the phases 1 to 4 ends and the next begins. -/
def State.bltAdvance (s : State) (cmd phase : Nat) : State :=
  match nextPhase cmd phase, s.blt.plan with
  | 5, some pl => s.beginWrite pl (cmd == 4)
  | n, _ => s.setF BLT_STATUS_PHASE n

/-- The work of phase 5 or 6 is done, or waits. -/
def State.bltWork (s : State) (cmd phase : Nat) : State :=
  match s.blt.image, s.blt.plan with
  | some g, some pl => if phase = 5 then s.finishWrite (cmd == 4) g pl else s.finishStream g pl
  | some g, none => s.finishReplace g
  | none, _ => s

/-- The running Billet command goes on: its phase ends and the next begins (R413), or the command ends (R24, R412). -/
def State.bltComplete (s : State) : State :=
  let m := Sparse.get Mailbox.reset s.mbs 0
  let phase := s.f BLT_STATUS_PHASE
  if phase < s.blt.last ∧ 1 ≤ phase ∧ phase ≤ 4 then s.bltAdvance m.cmd phase
  else if m.err ≠ 0 then (s.restoreValid m.cmd).bltEnd m.err m.res0.toNat m.res1.toNat
  else if phase = 5 ∨ phase = 6 then s.bltWork m.cmd phase
  else if m.cmd = 6 ∧ !s.clresetOver then s
  else if m.cmd = 2 ∧ phase = 4 then s.bltEnd 0 m.res0.toNat s.bltMicros
  else s.bltDone

/-! ### Timeout (R444) -/

/-- What the timeout leaves of the contents and instructions that a LOAD or RELOAD has written in phase 5 or 6 (R443): how
much is open. -/
def State.partWritten (s : State) (cmd phase : Nat) (g : Image) (pl : Plan) : State :=
  if phase = 6 then (s.streamParts g pl (s.freeUpTo g.parts.length)).takeFree
  else if s.writeReady pl then
    (s.phaseWrite g pl (cmd == 4) (s.freeUpTo (initTotal (g.initsOf (cmd == 4))))).takeFree
  else s

/-- The timeout in phase 5 or 6: phase 7 of a LOAD or RELOAD (R444); a REPLACE ends, and the clusters already streamed,
an open number of them, hold the new instructions (R450). -/
def State.bltExpire (s : State) (cmd phase : Nat) : State :=
  match s.blt.image, s.blt.plan with
  | some g, some pl => (s.partWritten cmd phase g pl).bltCleanup pl ⟨4, 0, 0⟩
  | some g, none => ((s.streamPlaced g (s.freeUpTo g.parts.length)).takeFree).bltEnd 4 0 0
  | none, _ => s.bltEnd 4 0 0

/-- BILLET_TIMEOUT (R443, R444, R450): phase 7 is not timed. -/
def execBilletTimeout (s : State) : Result :=
  let m := Sparse.get Mailbox.reset s.mbs 0
  let phase := s.f BLT_STATUS_PHASE
  if s.mbRuns 0 && phase != 7 && s.elapsedSteered s.blt.startAt (s.f BLT_CFG_TMO_MS * 1000000) then
    .next (if phase = 5 ∨ phase = 6 then s.bltExpire m.cmd phase else (s.restoreValid m.cmd).bltEnd 4 0 0)
  else .next s

/-! ### The load channel (R406 to R408, R454) -/

/-- One byte of the load channel (R406, R407). -/
def State.ldchByte (s : State) (b : Byte) : State :=
  let n := (s.reg BLT_LDCH_CNT).toNat
  if n < (s.reg BLT_LDCH_LEN).toNat then
    (s.carveWrite (s.f64 BLT_LDCH_ADDR + n) [b]).setNat BLT_LDCH_CNT (n + 1)
  else s.setF BLT_LDCH_CTRL_OVF 1

/-- A load-channel block received on a lane (R406, R546, R558). -/
def State.ldchBlock (s : State) (l : Nat) (bytes : List Byte) : State :=
  if s.flag BLT_LDCH_CTRL_EN ∧ s.f BLT_LDCH_CTRL_LANE = l then bytes.foldl State.ldchByte s else s

/-- LOAD_CHANNEL_BLOCK (R406, R407). -/
def execLoadChannelBlock (lane : LaneId) (bytes : List Byte) (s : State) : Result := .next (s.ldchBlock lane bytes)

/-- The load-channel buffer is aligned and lies in the carve-out (R408). -/
def State.ldchGood (s : State) : Bool :=
  s.f64 BLT_LDCH_ADDR % 64 == 0 && inCarve (s.f64 BLT_LDCH_ADDR) (s.reg BLT_LDCH_LEN).toNat

/-- LDCH_ENABLE (R408, R454). -/
def execLdchEnable (p : Path) (v : Word) (s : State) : Result :=
  .next (s.onWrite p BLT_LDCH_CTRL fun s =>
    let on := s.flag BLT_LDCH_CTRL_EN
    let en := bitOf v.toNat 8
    if !on && en && !s.ldchGood then s.setF BLT_LDCH_CTRL_ADDR_REJ 1
    else
      let lane := s.f BLT_LDCH_CTRL_LANE
      let s1 := s.writeBits BLT_LDCH_CTRL v
      let s2 := if on then s1.setF BLT_LDCH_CTRL_LANE lane else s1
      if !on && en then (s2.setF BLT_LDCH_CTRL_OVF 0).setNat BLT_LDCH_CNT 0 else s2)

/-- FAILMAP_WRITE (R455): the fuses add their bits when the map is read. -/
def execFailmapWrite (p : Path) (i : Fin 34) (v : Word) (s : State) : Result :=
  .next (s.onWrite p (BLT_FAILMAP i) fun s => s.setReg (BLT_FAILMAP i) v)

end Sys2Proof.Machine
end

