-- ==== Sys2Proof/Machine/BootImage.lean ====
section
/-! DEFINITION. The boot image (14_boot_configuration, R643 to R656): its bytes, the checks of its header, and the commands
of its payload. -/

namespace Sys2Proof.Machine

open Reg

/-- The configuration controller replaced. -/
def State.setCfg (s : State) (x : CfgUnit) : State := { s with cfg := x }

/-- A fuse row. -/
def State.fuse (s : State) (r : Nat) : Nat := Sparse.get 0 s.cfg.fuses r

/-! ### The boot directory (R643, R644) -/

/-- The MRAM offset of a slot. -/
def slotBase (slot : Nat) : Nat := if slot = 0 then 0x100000 else 0x3100000

/-- Bytes of a slot: 48 MiB. -/
def slotSize : Nat := 50331648

/-- PRIMARY and FALLBACK_EN of the boot directory (R644). -/
def State.bootDir (s : State) : Nat × Bool :=
  let d := readBytes s.mram 0 12
  let good := d.take 4 == [0x57, 0x50, 0x44, 0x52] && readNat s.mram 12 4 == crc32 d && Nat.ble (readNat s.mram 4 1) 1
  if good then (readNat s.mram 4 1, readNat s.mram 5 1 != 0) else (0, true)

/-! ### The image (R645, R646) -/

/-- Bytes of the image that the controller reads. -/
def State.bootBytes (s : State) (o n : Nat) : List Byte :=
  if s.cfg.job = 3 then s.carveRead (s.cfg.addr + o) n else readBytes s.mram (slotBase s.cfg.slot + o) n

/-- A little-endian field of the image. -/
def State.bootNat (s : State) (o n : Nat) : Nat := ofBytesLE (s.bootBytes o n)

/-- PAYLOAD_LEN. -/
def State.payloadLen (s : State) : Nat := s.bootNat 20 4

/-- IMAGE_LEN. -/
def State.imageLen (s : State) : Nat := s.bootNat 16 4

/-- KEYSEL. -/
def State.keySel (s : State) : Nat := s.bootNat 28 1

/-- The fuse key (table of fuse rows). -/
def State.fuseKey (s : State) : Nat := (List.range 8).foldl (fun n r => n + s.fuse r * 2 ^ (32 * r)) 0

/-- The fused SHA-384 hash of a public-key slot. -/
def State.keyHash (s : State) (slot : Nat) : Nat :=
  (List.range 12).foldl (fun n r => n + s.fuse (8 + 12 * slot + r) * 2 ^ (32 * r)) 0

/-- A zero field of the header is not zero, or a length or a name is wrong (R652, first row). -/
def State.badHeader (s : State) : Bool :=
  s.bootBytes 0 4 != [0x57, 0x50, 0x43, 0x46] || s.bootNat 4 2 != 1 || s.imageLen != 160 + s.payloadLen + 112 ||
    s.payloadLen % 4 != 0 || s.bootNat 30 2 != 0 || s.bootNat 44 4 != 0 || s.bootNat 144 16 != 0

/-- The key selection is not allowed (R652, last row). -/
def State.badKeySel (s : State) : Bool :=
  match s.keySel with
  | 0 => bitOf (s.fuse 56) 8
  | 1 => s.fuseKey == 0
  | 2 => bitOf (s.fuse 56) 9 || s.cfg.key.isNone
  | _ => true

/-- The public key is revoked or unknown, or the image is too old (R652, last row). -/
def State.badKey (s : State) : Bool :=
  let slot := s.bootNat 29 1
  Nat.blt 3 slot || bitOf (s.fuse 56) slot || (Config.sha384 (s.bootBytes 48 96)).toNat != s.keyHash slot ||
    Nat.blt (s.bootNat 24 4) (popcount 32 (s.fuse 57)) || s.badKeySel

/-- The fused device identifier. -/
def State.deviceId (s : State) : Nat := s.fuse 62 + s.fuse 63 * 4294967296

/-- The ERR of the header checks, in their order (R652); none when the header passes. -/
def State.headerErr (s : State) : Option Nat :=
  let limit := if s.cfg.job = 3 then s.cfg.len else slotSize
  if s.badHeader then some 8
  else if limit < s.imageLen then some 1
  else if s.bootNat 6 2 ≠ 7 ∨ (s.bootNat 8 8 ≠ 0 ∧ s.bootNat 8 8 ≠ s.deviceId) then some 9
  else if s.badKey then some 10
  else none

/-- The signature verifies (R646, R653). -/
def State.signatureGood (s : State) : Bool :=
  let n := s.imageLen
  Config.ecdsaVerify (s.bootBytes 48 96) (Config.sha384 (s.bootBytes 0 (n - 96))) (s.bootBytes (n - 96) 96)

/-- The key of the payload (R646). -/
def State.payloadKey (s : State) : BitVec 256 :=
  match s.keySel with
  | 1 => BitVec.ofNat 256 s.fuseKey
  | 2 => BitVec.ofNat 256 (s.cfg.key.getD 0)
  | _ => 0

/-- The payload in plain (R646). -/
def State.payload (s : State) : List Byte :=
  let raw := s.bootBytes 160 s.payloadLen
  if s.keySel = 0 then raw else Config.gcmDecrypt s.payloadKey (s.bootBytes 32 12) (s.bootBytes 0 160) raw

/-- The tag matches (R646, R655). -/
def State.tagGood (s : State) : Bool :=
  Config.gcmAuthentic s.payloadKey (s.bootBytes 32 12) (s.bootBytes 0 160) (s.bootBytes 160 s.payloadLen)
    (s.bootBytes (160 + s.payloadLen) 16)

/-! ### Configuration frames (R648, R649) -/

/-- The planes of a column of a KIND; none for a column that the table does not give. -/
def framePlanes (kind col : Nat) : Nat :=
  match kind with
  | 0 => if col < 96 then 64 else 0
  | 1 => if col < 24 then 16 else 0
  | 2 => if col = 0 then 32 else 0
  | _ => if col = 0 then 32 else if col = 1 then 16 else 0

/-- The planes of a frame key's column. -/
def keyPlanes (key : Nat) : Nat := framePlanes (key / 65536) (key / 256 % 128)

/-- A key names a frame (R649). -/
def keyNames (key : Nat) : Bool := !bitOf key 15 && Nat.blt (key % 256) (keyPlanes key)

/-- The key of frame i in the order of R649. -/
def frameKey (i : Nat) : Nat :=
  if i < 6144 then i / 64 * 256 + i % 64
  else if i < 6528 then 65536 + (i - 6144) / 16 * 256 + (i - 6144) % 16
  else if i < 6560 then 131072 + (i - 6528)
  else if i < 6592 then 196608 + (i - 6560)
  else 196608 + 256 + (i - 6592)

/-- Configuration frames (table of configuration frames). -/
def frameCount : Nat := 6608

/-! ### The payload stream (R647 to R651, R654) -/

/-- A command of the payload. -/
inductive BootCmd where
  /-- SETREG: register and value. -/
  | setreg (reg value : Nat)
  /-- COLUMN: the first frame key and the frames' bytes. -/
  | column (key : Nat) (bytes : List Byte)
  /-- FW: OFFSET and the bytes. -/
  | fw (offset : Nat) (bytes : List Byte)
  deriving DecidableEq, Repr

/-- A number in a list of bytes, little-endian. -/
def bytesAt (bs : List Byte) (o n : Nat) : Nat := ofBytesLE ((bs.drop o).take n)

/-- One command at the head of the stream: the command and its length; none when a check of R654 fails. -/
def bootCmd (bs : List Byte) : Option (Option BootCmd × Nat) :=
  let w := bytesAt bs 0 4
  let arg := w % 268435456
  match w / 268435456 with
  | 0 => if arg = 0 then some (none, 4) else none
  | 1 =>
    let v := bytesAt bs 4 4
    if arg = 0 ∨ 4 < arg ∨ bs.length < 8 ∨ (arg = 1 ∧ 1 < v) then none else some (some (.setreg arg v), 8)
  | 3 =>
    let key := slice arg 8 18
    let n := arg % 256
    if slice arg 26 2 ≠ 0 ∨ !keyNames key ∨ n = 0 ∨ keyPlanes key < key % 256 + n ∨ bs.length < 4 + 288 * n then none
    else some (some (.column key ((bs.drop 4).take (288 * n))), 4 + 288 * n)
  | 4 =>
    let len := bytesAt bs 4 4
    let ofs := bytesAt bs 8 4
    let total := 16 + (len + 3) / 4 * 4
    if arg ≠ 0 ∨ bytesAt bs 12 4 ≠ 0 ∨ 8388608 < ofs + len ∨ bs.length < total ∨
        bytesAt bs (16 + len) (total - 16 - len) ≠ 0 then none
    else some (some (.fw ofs ((bs.drop 16).take len)), total)
  | _ => none

/-- The commands of a payload with their offsets, and the offset of the command word that fails a check (R654). -/
def parseBoot : Nat → Nat → List Byte → List (Nat × BootCmd) × Option Nat
  | 0, off, _ => ([], some off)
  | fuel + 1, off, bs =>
    if bs.length < 4 then ([], some off)
    else if bytesAt bs 0 4 = 0xF0000000 then (if (bs.drop 4).all (· == 0) then ([], none) else ([], some off))
    else
      match bootCmd bs with
      | none => ([], some off)
      | some (c, n) =>
        let r := parseBoot fuel (off + n) (bs.drop n)
        ((c.map fun x => (off, x)).toList ++ r.1, r.2)

/-- The commands of the image's payload. -/
def State.bootStream (s : State) : List (Nat × BootCmd) × Option Nat := parseBoot s.payloadLen 0 s.payload

/-- The PORT frames load the park and word-clock tables (table of configuration frames): the fabric is in the state of R662
meanwhile, and an output port word drives its park value. -/
def Fabric.portSyllable (x : Fabric) (key j v : Nat) : Fabric :=
  let e := 128 * (key % 256) + j
  if key / 65536 ≠ 3 then x
  else if key / 256 % 128 = 0 then { x with park := Sparse.put 0 x.park e v, nets := Sparse.put 0 x.nets e v }
  else { x with clk := (List.range 4).foldl (fun m k => Sparse.put 0 m (4 * e + k) (slice v (4 * k) 4)) x.clk }

/-- One frame is written (R648). -/
def State.writeFrame (s : State) (key : Nat) (bytes : List Byte) : State :=
  let n := ofBytesLE bytes
  (List.range 128).foldl (fun t j =>
    let v := slice n (18 * j) 18
    (t.setCfg { t.cfg with frames := Sparse.put 0 t.cfg.frames (key * 128 + j) (secEncode 5 18 v) }).setFab
      (t.fab.portSyllable key j v)) s

/-- A command of the payload acts, as far as the payload is read: limit is the payload offset of the first byte that is
not (R651). -/
def State.bootAct (s : State) (limit : Nat) (c : Nat × BootCmd) : State :=
  match c.2 with
  | .setreg _ _ => s
  | .column key bytes =>
    (List.range (bytes.length / 288)).foldl (fun t i =>
      if c.1 + 4 + 288 * (i + 1) ≤ limit then t.writeFrame (key + i) ((bytes.drop (288 * i)).take 288) else t) s
  | .fw ofs bytes =>
    if s.cfg.held then { s with boot := writeBytes s.boot ofs (bytes.take (limit - (c.1 + 16))) } else s

/-- The value that the stream last gives a stream configuration register (R650). -/
def bootReg (cs : List (Nat × BootCmd)) (r : Nat) : Option Nat :=
  cs.foldl (fun acc c => match c.2 with
    | .setreg q v => if q = r then some v else acc
    | _ => acc) none

/-- The stream holds firmware. -/
def hasFw (cs : List (Nat × BootCmd)) : Bool := cs.any fun c => match c.2 with
  | .fw _ _ => true
  | _ => false

end Sys2Proof.Machine
end

