-- ==== Sys2Proof/Machine/FabLogic.lean ====
section
/-! DEFINITION. The logic of the interface fabric (13_interface_fabric R614 to R627): cells, selectors, long lines and
serialisers, as the configuration memory sets them, and the probe pins. -/

namespace Sys2Proof.Machine

open Reg

/-! ### The configuration memory (R648, R649) -/

/-- The data bits of the configuration memory, by frame key × 128 + syllable. -/
def State.cfgData (s : State) : Sparse Nat := s.cfg.frames.map fun kv => (kv.1, slice kv.2 0 18)

/-- The syllable of a tile in a plane of its column's LOGIC frames (R615, R649). -/
def State.logicSyl (s : State) (tile plane : Nat) : Nat :=
  slice (Sparse.get 0 s.cfg.frames ((tile / 128 * 256 + plane) * 128 + tile % 128)) 0 18

/-- Bit i of the look-up table of a cell: bit i mod 18 of plane 4c + ⌊i / 18⌋ (R649). -/
def State.tableBit (s : State) (tile cell i : Nat) : Bool := bitOf (s.logicSyl tile (4 * cell + i / 18)) (i % 18)

/-- The setting bits of a cell: bits 10 to 17 of plane 4c + 3 (R649). -/
def State.cellBits (s : State) (tile cell : Nat) : Nat := slice (s.logicSyl tile (4 * cell + 3)) 10 8

/-- The settings of a flip-flop. -/
def State.flopMode (s : State) (tile cell j : Nat) : Config.FlopMode := Config.flopMode (s.cellBits tile cell) j

/-! ### Driver points (R618 to R620) -/

/-- The places along a long line: the tile groups it crosses. -/
def linePlaces (line : Nat) : List Nat := List.range (if line < 1024 then 24 else 32)

/-- The driver points of a line break R620: two static, or a static and a dynamic. -/
def lineClash (cfg : Sparse Nat) (line : Nat) : Bool :=
  let kinds := (linePlaces line).map (Config.driverPoint cfg line)
  let static := (kinds.filter (· == 1)).length
  Nat.ble 2 static || (static == 1 && kinds.any (· == 2))

/-- The lowest long line whose driver points break R620. -/
def State.driverClash (s : State) : Option Nat := (List.range 1792).find? (lineClash s.cfgData)

/-- The guard has disabled a long line (R621). -/
def State.lineOff (s : State) (line : Nat) : Bool := bitOf (s.reg (FAB_CONT_MAP (line / 32))).toNat (line % 32)

/-! ### Levels

A level is found from the levels of what drives it. The functions below take the level of a sink as an argument. -/

/-- The outputs Y and Z of a cell (R614). -/
def State.cellOut (s : State) (ev : Config.Sink → Bool) (tile cell : Nat) : Bool × Bool :=
  let i (n : Nat) : Nat := ofBool (ev (.input tile cell n))
  let low := i 0 + 2 * i 1 + 4 * i 2 + 8 * i 3
  if Config.cellSplit (s.cellBits tile cell) then
    (s.tableBit tile cell (low + 16 * i 4), s.tableBit tile cell (32 + low + 16 * i 5))
  else
    let y := s.tableBit tile cell (low + 16 * i 4 + 32 * i 5)
    (y, y)

/-- The number of a flip-flop: bit 2c + j of its tile (R640). -/
def flopIx (tile cell j : Nat) : Nat := tile * 16 + 2 * cell + j

/-- What a flip-flop holds: its configured initial value until it is clocked (R662). -/
def State.flop (s : State) (tile cell j : Nat) : Bool :=
  match Sparse.get 0 s.fab.flops (flopIx tile cell j) with
  | 0 => !s.cfg.frames.isEmpty && (s.flopMode tile cell j).init
  | v + 1 => v == 1

/-- Q0 or Q1 of a cell: an asynchronous set or reset acts at once (R614). -/
def State.flopOut (s : State) (ev : Config.Sink → Bool) (tile cell j : Nat) : Bool :=
  match (s.flopMode tile cell j).setReset with
  | some (true, v) => if ev (.setReset tile cell j) then v else s.flop tile cell j
  | _ => s.flop tile cell j

/-- Output k of a cell (R616). -/
def State.cellNet (s : State) (ev : Config.Sink → Bool) (tile cell k : Nat) : Bool :=
  match k with
  | 0 => (s.cellOut ev tile cell).1
  | 1 => (s.cellOut ev tile cell).2
  | _ => s.flopOut ev tile cell (k - 2)

/-- The number that two select nets give, the lower worth one (R616). -/
def twoSelect (low high : Bool) : Nat := ofBool low + 2 * ofBool high

/-- The output of a fan selector, by net index: the Y output of one of four cells of its tile (R616). -/
def State.fanNet (s : State) (ev : Config.Sink → Bool) (n : Nat) : Bool :=
  let x := n - 393216
  (s.cellOut ev (x / 2) (4 * (x % 2) + twoSelect (ev (.fanSelect n 0)) (ev (.fanSelect n 1)))).1

/-- A net of R616: a cell output, a fan selector or a pair selector. -/
def State.netLevel (s : State) (ev : Config.Sink → Bool) (n : Nat) : Bool :=
  if n < 393216 then s.cellNet ev (n / 32) (n / 4 % 8) (n % 4)
  else if n < 417792 then s.fanNet ev n
  else
    let m := n - 417792
    s.fanNet ev (393216 + 4 * m + twoSelect (ev (.pairSelect m 0)) (ev (.pairSelect m 1)))

/-- A driver point of a line is enabled (R619). -/
def State.driverOn (s : State) (ev : Config.Sink → Bool) (line place : Nat) : Bool :=
  match Config.driverPoint s.cfgData line place with
  | 1 => true
  | 2 => ev (.driverEnable line place)
  | _ => false

/-- The driver point that drives a line: none while the guard has disabled them or the fabric is not configured (R621,
R662), or while none is enabled. -/
def State.lineDriver (s : State) (ev : Config.Sink → Bool) (line : Nat) : Option Nat :=
  if s.flag FAB_STATUS_CONFIGURED && !s.lineOff line then (linePlaces line).find? (s.driverOn ev line) else none

/-- The level at which the keeper of a line holds it (R622). -/
def State.keeper (s : State) (line : Nat) : Bool :=
  match Sparse.get 0 s.fab.keep line with
  | 0 => Config.keeperStart line
  | v + 1 => v == 1

/-- The level of a long line (R619, R622). -/
def State.lineLevel (s : State) (ev : Config.Sink → Bool) (line : Nat) : Bool :=
  match s.lineDriver ev line with
  | some p => ev (.driverData line p)
  | none => s.keeper line

/-- The level that a source gives, found through at most n further sources; one that needs more depends on itself. -/
def State.level (s : State) : Nat → Config.Source → Bool
  | 0, _ => Config.loopLevel s.free
  | n + 1, src =>
    let ev := fun k => s.level n (Config.source s.cfgData k)
    match src with
    | .const b => b
    | .net i => s.netLevel ev i
    | .line l => s.lineLevel ev l
    | .portWord w i => bitOf (Sparse.get 0 s.fab.nets w) i
    | .tick k => bitOf s.fab.tick k
    | .taken k => bitOf s.fab.taken k
    | .inBit p i => (Sparse.get [] s.fab.inWord p).getD i false

/-- Nets and long lines: no chain of sources without a loop is longer. -/
def levelDepth : Nat := 425717

/-- The level of a net of R616. -/
def State.fabNet (s : State) (n : Nat) : Bool := s.level levelDepth (.net n)

/-- The level at a wire's end. -/
def State.sink (s : State) (k : Config.Sink) : Bool := s.level levelDepth (Config.source s.cfgData k)

/-- The value on the 18 nets of an input port word (R630). -/
def State.portNets (s : State) (w : Nat) : Nat := ofBitsLSB ((List.range 18).map fun b => s.sink (.portWord w b))

/-! ### User clocks (R614, R622, R624, R625, R666) -/

/-- The flip-flops that a user clock clocks: tile, cell and number. -/
def State.flopsOf (s : State) (k : Nat) : List (Nat × Nat × Nat) :=
  ((List.range 196608).map fun i => (i / 16, i / 2 % 8, i % 2)).filter fun x =>
    Config.tileClock s.cfgData x.1 (s.flopMode x.1 x.2.1 x.2.2).clock == k

/-- What a flip-flop takes at an edge of its clock (R614). -/
def State.flopNext (s : State) (tile cell j : Nat) : Bool :=
  let m := s.flopMode tile cell j
  let y := s.cellOut s.sink tile cell
  let d := match m.data with
    | 0 => y.1
    | 1 => y.2
    | _ => s.sink (.input tile cell 6)
  let held := s.flopOut s.sink tile cell j
  let v := if !m.enabled || s.sink (.enable tile cell j) then d else held
  match m.setReset with
  | some (_, r) => if s.sink (.setReset tile cell j) then r else v
  | none => v

/-- The flip-flops of a clock after its edge. Global set-reset holds them; it is released at the clock's first edge after
its 64 hub cycles (R666). -/
def State.clockFlops (s : State) (k : Nat) : Sparse Nat :=
  if s.flag CFG_STATE_GSR || !bitOf s.fab.live k then s.fab.flops
  else (s.flopsOf k).foldl (fun m x => Sparse.put 0 m (flopIx x.1 x.2.1 x.2.2) (1 + ofBool (s.flopNext x.1 x.2.1 x.2.2)))
    s.fab.flops

/-- The word that the output serialiser of a pin takes: bit 0 is the first in time (R624). -/
def State.outWord (s : State) (pin : Nat) : List Bool :=
  (List.range (2 ^ (Config.serialiser s.cfgData pin).1)).map fun b => s.sink (.outBit pin b)

/-- Pins of a serialiser or deserialiser setting whose words are on a user clock. -/
def pinsOf (clock : Nat → Nat) (k : Nat) : List Nat := (List.range 384).filter fun p => clock p == k

/-- An output word is taken at an edge, and its first bit is at the pin two word-clock cycles later (R625). -/
def State.serialise (x : State) (s : State) (pin : Nat) : State :=
  let q := Sparse.get [] s.fab.outWords pin ++ [x.outWord pin]
  if q.length ≤ 2 then s.setFab { s.fab with outWords := Sparse.put [] s.fab.outWords pin q }
  else s.setFab { s.fab with
    outWords := Sparse.put [] s.fab.outWords pin (q.drop 1), sent := Sparse.put [] s.fab.sent pin (q.headD []) }

/-- The bits that a pin's receiver sees in the word cycle that ends: those of its pad, or its own serialiser's under PAD
loopback (table of loopbacks); a bank without VCCIO reads 0 (R835), and so does a pin that the boundary register has
(R815, log entry 73). A pad for which no bits are given keeps its level. -/
def State.padBits (s : State) (bits : Sparse (List Bool)) (pin n : Nat) : List Bool :=
  let pad := (Sparse.get [] bits pin ++ List.replicate n (bitOf s.fab.pins pin)).take n
  if bitOf s.tst.vccioLow (pin / 16) then List.replicate n false
  else if bitOf (s.f FAB_IO_LB_BANK) (pin / 16) then (Sparse.get [] s.fab.sent pin ++ List.replicate n false).take n
  else if s.jtagPins then List.replicate n false
  else pad

/-- An input word is collected in a word cycle, and it reaches its register two word-clock cycles after its first bit
(R625). -/
def State.deserialise (x : State) (bits : Sparse (List Bool)) (s : State) (pin : Nat) : State :=
  let w := x.padBits bits pin (2 ^ (Config.deserialiser x.cfgData pin).1)
  s.setFab { s.fab with
    inNext := Sparse.put [] s.fab.inNext pin w
    inWord := Sparse.put [] s.fab.inWord pin (Sparse.get [] x.fab.inNext pin)
    pins := putBit s.fab.pins pin (w.getLastD false) }

/-- The serialisers and deserialisers whose words a user clock carries act at its edge, on the levels before it. -/
def State.clockPins (s : State) (k : Nat) (bits : Sparse (List Bool)) (t : State) : State :=
  let cfg := s.cfgData
  let u := (pinsOf (fun p => (Config.serialiser cfg p).2) k).foldl (State.serialise s) t
  (pinsOf (fun p => (Config.deserialiser cfg p).2) k).foldl (State.deserialise s bits) u

/-- Flip-flops whose asynchronous set or reset is active take its value (R614). -/
def State.forceFlops (s : State) : Sparse Nat :=
  ((List.range 196608).map fun i => (i / 16, i / 2 % 8, i % 2)).foldl (fun m x =>
    match (s.flopMode x.1 x.2.1 x.2.2).setReset with
    | some (true, v) =>
      if s.sink (.setReset x.1 x.2.1 x.2.2) then Sparse.put 0 m (flopIx x.1 x.2.1 x.2.2) (1 + ofBool v) else m
    | _ => m) s.fab.flops

/-- The keepers take the levels of the lines that are driven (R622). -/
def State.keepLines (s : State) : Sparse Nat :=
  (List.range 1792).foldl (fun m l =>
    match s.lineDriver s.sink l with
    | some p => Sparse.put 0 m l (1 + ofBool (s.sink (.driverData l p)))
    | none => m) s.fab.keep

/-- The logic settles after a change: asynchronous sets and resets, and the keepers of the long lines. -/
def State.fabSettle (s : State) : State :=
  let s1 := if s.flag CFG_STATE_GSR then s else s.setFab { s.fab with flops := s.forceFlops }
  s1.setFab { s1.fab with keep := s1.keepLines }

/-- The 16 flip-flops of a tile: flip-flop j of cell c is bit 2c + j (R640). -/
def State.tileFlops (s : State) (tile : Nat) : Nat :=
  ofBitsLSB ((List.range 16).map fun i => s.flopOut s.sink tile (i / 2) (i % 2))

/-! ### Probe pins (R627, R628, R662) -/

/-- The level that probe pin k drives. -/
def State.probeLevel (s : State) (k : Nat) : Bool :=
  let sel := s.f (FAB_PROBE_SEL k)
  if !s.flag (FAB_PROBE_EN k) || !s.flag FAB_STATUS_CONFIGURED then false
  else
    match s.f (FAB_PROBE_SRC k) with
    | 1 => s.fabNet sel
    | 2 => Nat.blt sel (s.f ACQ_TAP_NUM_NTAP) && s.acq.shown.getD sel 0 == 1
    | 3 => bitOf s.fab.pins sel
    | _ => false

end Sys2Proof.Machine
end

