-- ==== Sys2Proof/Machine/Boot.lean ====
section
/-! DEFINITION. The commands of the configuration controller (14_boot_configuration): loads phase by phase, keys and fuses,
MRAM access, and the scrubber. -/

namespace Sys2Proof.Machine

open Reg

/-! ### Phases (R652 to R666) -/

/-- A phase of a load begins (R657). -/
def State.cfgPhase (s : State) (n : Nat) : State :=
  (s.setF CFG_STATUS_PHASE n).setCfg { (s.setF CFG_STATUS_PHASE n).cfg with at_ := s.tmk.steered, hubAt := s.hub, lockedAt := none }

/-- A load begins with phase 1 (R651, R659). -/
def State.cfgStart (s : State) (job slot addr len : Nat) : State :=
  let s1 := s.setCfg { s.cfg with
    job := job, slot := slot, addr := addr, len := len, held := !s.anyCore && (job == 1 || job == 2), inBoot := s.mode == Mode.boot
    waitDone := false, fail := (0, 0, 0) }
  (s1.cfgPhase 1).settlePower

/-- An active fabric goes back into the state of R662 (R663): each output port word drives its park value, and no image is
active. -/
def State.fabricStop (s : State) : State :=
  let s1 := (((s.setF CFG_STATE_CONFIGURED 0).setF FAB_STATUS_CONFIGURED 0).setF CFG_STATE_GSR 1).setF CFG_STATE_KEYSEL 0
  let s2 := (s1.setF FAB_CLK_STAT_LOCK 0).parkOutputs
  (s2.setFab { s2.fab with
    nets := s2.fab.park, tick := 0, taken := 0, flops := [], live := 0, outWords := [], sent := [], inNext := [], inWord := [] }).skewRestart

/-- The device drives DONE low, or releases it (R664). -/
def State.driveDone (s : State) (low : Bool) : State :=
  let s1 := s.setCfg { s.cfg with doneLow := low }
  if low then s1.setF CFG_STATE_DONE_LINE 0 else s1

/-- The controller has nothing more to run: the mailbox completes. -/
def State.cfgDone (s : State) (err res0 res1 : Nat) : State :=
  let s1 := (s.setCfg { s.cfg with job := 0, lockedAt := none }).setF CFG_STATUS_PHASE 0
  ((s1.mbFinish 40 err res0 res1).mbComplete 40).settlePower

/-- CFG_BOOTLOG records the outcome of a power-up attempt (R660). -/
def State.bootLog (s : State) (err : Nat) : State :=
  if s.cfg.attempt = 1 then s.setF CFG_BOOTLOG_ERR_FIRST err else s.setF CFG_BOOTLOG_ERR_SECOND err

/-- A load ends (R658, R660): every load after the power-up load releases DONE, whatever its outcome (R664); a failed power-up load of the PRIMARY slot may be followed by one of the other slot. -/
def State.cfgEnd (s : State) (err res0 res1 : Nat) : State :=
  if s.cfg.job ≠ 1 then (if 2 ≤ s.cfg.job ∧ s.cfg.job ≤ 4 then s.driveDone false else s).cfgDone err res0 res1
  else
    let s1 := s.bootLog err
    if err = 0 then s1.cfgDone 0 res0 res1
    else if s.cfg.attempt = 1 ∧ err ≠ 15 ∧ s.bootDir.2 then
      let s2 := (s1.driveDone true).setF CFG_STATUS_FALLBACK 1
      (s2.setCfg { s2.cfg with attempt := 2 }).cfgStart 1 (1 - s.cfg.slot) 0 0
    else (s1.driveDone true).cfgDone err res0 res1

/-- The running phase fails (R658). -/
def State.cfgFail (s : State) (err res0 res1 : Nat) : State :=
  if s.cfg.job = 5 ∨ s.f CFG_STATUS_PHASE ≤ 2 then s.cfgEnd err res0 res1
  else
    let s1 := s.fabricStop.cfgPhase 6
    s1.setCfg { s1.cfg with fail := (err, res0, res1) }

/-- An uncorrectable error lies in the first n bytes of the image (R656). -/
def eccWithin (eccAt : Option Nat) (n : Nat) : Option Nat :=
  match eccAt with
  | some o => if o < n then some o else none
  | none => none

/-- Phase 1 (R652, R656). -/
def State.cfgHeader (s : State) (eccAt : Option Nat) : State :=
  match eccWithin eccAt 160, s.headerErr with
  | some o, _ => s.cfgFail 5 o 0
  | none, some e => s.cfgFail e 0 0
  | none, none => s.cfgPhase 2

/-- Phase 2 (R653, R656): a load then puts an active fabric into the state of R662 (R663). -/
def State.cfgSignature (s : State) (eccAt : Option Nat) : State :=
  match eccWithin eccAt s.imageLen with
  | some o => s.cfgFail 5 o 0
  | none =>
    if !s.signatureGood then s.cfgFail 11 0 0
    else if s.cfg.job = 5 then s.cfgPhase 3
    else s.fabricStop.cfgPhase 3

/-- DIV above 12 is stored as 12 (R671). -/
def clampDiv (v : Nat) : Nat := if 12 < slice v 4 4 then splice v 4 4 12 else v

/-- The stream's registers act at the end of phase 3 (R650). -/
def State.bootRegs (s : State) (cs : List (Nat × BootCmd)) : State :=
  let s1 := match bootReg cs 4 with
    | some v => s.setNat CFG_USERID v
    | none => s
  let s2 := match bootReg cs 2 with
    | some v => s1.writeBits CFG_SCRUB_CTRL (BitVec.ofNat 32 (clampDiv v))
    | none => s1
  let s3 := s2.setF CFG_STATE_KEYSEL s2.keySel
  s3.setCfg { s3.cfg with waitDone := (bootReg cs 1).getD 0 == 1 }

/-- Core 0 is released when phase 3 passes (R659, R681). -/
def State.bootCore (s : State) (cs : List (Nat × BootCmd)) : State :=
  if (s.cfg.job = 1 ∨ (s.cfg.job = 2 ∧ s.cfg.inBoot)) ∧ s.cfg.held ∧ hasFw cs then
    (s.set64 (OST_CORE_VEC 0) ((bootReg cs 3).getD 0)).coreRelease 0
  else s

/-- Phase 3 passes (R659, R664, R665). -/
def State.cfgLoaded (s : State) (cs : List (Nat × BootCmd)) : State :=
  let s0 := (s.bootRegs cs).bootCore cs
  let powerUp := s.cfg.job == 1 || (s.cfg.job == 2 && s.cfg.inBoot && s.cfg.held && hasFw cs)
  let s1 := if powerUp then s0.setCfg { s0.cfg with fwEntry := some ((bootReg cs 3).getD 0) } else s0
  if s.cfg.job = 1 then (if s1.cfg.waitDone then (s1.driveDone false).cfgPhase 4 else (s1.driveDone false).cfgPhase 5)
  else s1.cfgPhase 5

/-- A failure in the stream of phase 3. -/
structure StreamErr where
  /-- ERR. -/
  err : Nat
  /-- RESULT0. -/
  res0 : Nat
  /-- RESULT1: the frame key of a COLUMN command that fails a check, or 0. -/
  res1 : Nat
  /-- The payload offset up to which the stream has acted. -/
  limit : Nat
  deriving DecidableEq, Repr

/-- The frame key that the command word at a payload offset gives, when it is a COLUMN (R647, R649). -/
def columnKey (payload : List Byte) (b : Nat) : Nat :=
  let w := bytesAt payload b 4
  if w / 268435456 = 3 then slice w 8 18 else 0

/-- The error that the stream of phase 3 meets: an uncorrectable MRAM error or a failed check, whichever comes first (R654,
R656). -/
def State.streamErr (s : State) (ecc : Option Nat) (bad : Option Nat) : Option StreamErr :=
  let failed (b : Nat) : StreamErr := ⟨13, b, columnKey s.payload b, b⟩
  match ecc, bad with
  | some o, some b => if 160 + b < o then some (failed b) else some ⟨5, o, 0, o - 160⟩
  | some o, none => some ⟨5, o, 0, o - 160⟩
  | none, some b => some (failed b)
  | none, none => none

/-- Phase 3 (R654 to R656, R659). -/
def State.cfgStream (s : State) (eccAt : Option Nat) : State :=
  let r := s.bootStream
  let n := s.payloadLen
  match s.streamErr (eccWithin eccAt s.imageLen) r.2 with
  | some x =>
    let s1 := if s.cfg.job = 5 then s else r.1.foldl (fun t c => t.bootAct x.limit c) s
    s1.cfgFail x.err x.res0 x.res1
  | none =>
    if s.cfg.job = 5 then (if s.tagGood then s.cfgEnd 0 0 0 else s.cfgEnd 12 0 0)
    else
      let s1 := r.1.foldl (fun t c => t.bootAct n c) s
      if !s.tagGood then s1.cfgFail 12 0 0
      else
        match s1.driverClash with
        | some line => s1.cfgFail 14 0 line
        | none => s1.cfgLoaded r.1

/-- The scrubber starts from frame 0 (R666, R675). -/
def State.scrubStart (s : State) : State :=
  s.setCfg { s.cfg with scrubFrame := 0, scrubSyl := 0, scrubAt := s.hub, frameAt := s.tmk.steered }

/-- Phase 5 passes, 128 hub cycles after every clock was locked (R666). -/
def State.cfgRun (s : State) : State :=
  match s.cfg.lockedAt with
  | some t =>
    if s.elapsed t 128 then
      let s1 := ((s.setF CFG_STATE_CONFIGURED 1).setF FAB_STATUS_CONFIGURED 1).setF CFG_STATE_GSR 0
      let s2 := (s1.scrubStart).setFab { s1.fab with clkNow := s1.fab.clk }
      let s3 := s2.setCfg { s2.cfg with restarts := 0 }
      let s4 := if s.cfg.job = 3 then s3 else s3.setF CFG_STATUS_SLOT s.cfg.slot
      s4.cfgEnd 0 0 0
    else s
  | none => s

/-- Every configuration frame is zero, and with it the tables that the frames hold. -/
def State.cfgErase (s : State) : State :=
  let s1 := s.setCfg { s.cfg with frames := [] }
  s1.setFab { s1.fab with park := [], clk := [], nets := [] }

/-- Phase 6 ends (R658). -/
def State.cfgCleared (s : State) : State :=
  s.cfgErase.cfgEnd s.cfg.fail.1 s.cfg.fail.2.1 s.cfg.fail.2.2

/-- CFG_PHASE_COMPLETE (R652 to R666). -/
def execCfgPhaseComplete (eccAt : Option Nat) (s : State) : Result :=
  match s.f CFG_STATUS_PHASE with
  | 1 => .next (s.cfgHeader eccAt)
  | 2 => .next (s.cfgSignature eccAt)
  | 3 => if s.domainOn 72 ∨ s.cfg.job = 5 then .next (s.cfgStream eccAt) else .next s
  | 5 => if s.domainOn 72 then .next s.cfgRun else .next s
  | 6 => .next s.cfgCleared
  | _ => .next s

/-- What phase 3 has written when its limit expires: how far it came is open (R657). -/
def State.cfgCut (s : State) : State :=
  if s.f CFG_STATUS_PHASE = 3 ∧ s.cfg.job ≠ 5 then
    let limit := (Config.freeWord s.free).toNat % (s.payloadLen + 1)
    (s.bootStream.1.foldl (fun t c => t.bootAct limit c) s).takeFree
  else s

/-- CFG_PHASE_TIMEOUT (R657). -/
def execCfgPhaseTimeout (s : State) : Result :=
  let phase := s.f CFG_STATUS_PHASE
  if phase = 4 then
    (if s.elapsedSteered s.cfg.at_ (max 1 (s.f CFG_TMO_DONE_MS) * 1000000) then .next (s.cfgFail 15 0 0) else .next s)
  else if (phase = 1 ∨ phase = 2 ∨ phase = 3 ∨ phase = 5) ∧
      s.elapsedSteered s.cfg.at_ (max 1 (s.f CFG_TMO_STEP_MS) * 1000000) then
    .next (s.cfgCut.cfgFail 4 0 0)
  else .next s

/-- DONE_LINE_HIGH (R665): the line has read high for 1,000 consecutive hub cycles, which it can only while the device
releases it. -/
def execDoneLineHigh (s : State) : Result :=
  let s1 := s.setF CFG_STATE_DONE_LINE 1
  if s.cfg.doneLow then .next s
  else if s.f CFG_STATUS_PHASE ≠ 4 then .next s1
  else if s.elapsed s.cfg.hubAt 1000 then .next (s1.cfgPhase 5)
  else .next s

/-- CLOCKS_LOCKED (R666): the outputs are enabled, and the counts to U + 64 and U + 128 run from here. -/
def execClocksLocked (s : State) : Result :=
  if s.f CFG_STATUS_PHASE = 5 ∧ s.domainOn 72 ∧ s.cfg.lockedAt = none then
    .next (s.setCfg { s.cfg with lockedAt := some s.hub })
  else .next s

/-! ### Commands (R667, R669) -/

/-- A command outside its modes is refused with STATE (R669). -/
def State.cfgIn (s : State) (modes : List Nat) (act : State → State) : State :=
  if modes.contains s.mode then act s else s.mbFinish 40 3 0 0

/-- LOAD_SLOT (R659, R669). -/
def execLoadSlot (p : Path) (s : State) : Result :=
  .next (s.onWrite p CFG_CMD fun s => s.mbCommand 40 1 fun s =>
    s.cfgIn [Mode.boot, Mode.idle] fun s => s.cfgStart 2 (slice (s.reg (CFG_ARG 0)).toNat 0 1) 0 0)

/-- LOAD_MEM of some bytes (R42, R669). -/
def State.loadMem (s : State) : State :=
  let n := (s.reg (CFG_ARG 0)).toNat
  let a := (s.reg (CFG_ARG 1)).toNat + (s.reg (CFG_ARG 2)).toNat * 4294967296
  if !inCarve a n then s.mbFinish 40 2 0 0
  else s.cfgStart 3 s.cfg.slot a n

/-- LOAD_MEM (R29, R669; log entry 74). -/
def execLoadMem (p : Path) (s : State) : Result :=
  .next (s.onWrite p CFG_CMD fun s => s.mbCommand 40 2 fun s =>
    if s.reg (CFG_ARG 0) = 0 then s.mbFinish 40 0 0 0 else s.cfgIn [Mode.idle] State.loadMem)

/-- VERIFY (R669). -/
def execVerify (p : Path) (s : State) : Result :=
  .next (s.onWrite p CFG_CMD fun s => s.mbCommand 40 3 fun s =>
    s.cfgIn [Mode.boot, Mode.idle, Mode.run, Mode.timed, Mode.step] fun s =>
      s.cfgStart 5 (slice (s.reg (CFG_ARG 0)).toNat 0 1) 0 0)

/-- CFG_CLEAR (R658, R669). -/
def execCfgClear (p : Path) (s : State) : Result :=
  .next (s.onWrite p CFG_CMD fun s => s.mbCommand 40 4 fun s =>
    s.cfgIn [Mode.boot, Mode.idle] fun s =>
      let s1 := s.fabricStop.cfgPhase 6
      (s1.setCfg { s1.cfg with job := 6, fail := (0, 0, 0) }).settlePower)

/-- FUSE_PROG (R667): the rows of the fuse key read as zero. -/
def State.fuseProg (s : State) : State :=
  let row := (s.reg (CFG_ARG 0)).toNat
  if 61 < row ∨ (row < 8 ∧ bitOf (s.fuse 56) 10) then s.mbFinish 40 2 0 0
  else
    let v := s.fuse row ||| (s.reg (CFG_ARG 1)).toNat
    (s.setCfg { s.cfg with fuses := Sparse.put 0 s.cfg.fuses row v }).mbFinish 40 0 (if row < 8 then 0 else v) 0

/-- FUSE_PROG (R667). -/
def execFuseProg (p : Path) (s : State) : Result :=
  .next (s.onWrite p CFG_CMD fun s => s.mbCommand 40 5 fun s => s.cfgIn [Mode.boot] State.fuseProg)

/-! ### The battery-backed key (R668) -/

/-- The key that CFG_BBKEY0 to CFG_BBKEY7 hold. -/
def State.bbKey (s : State) : Nat := (List.range 8).foldl (fun n i => n + (s.reg (CFG_BBKEY i)).toNat * 2 ^ (32 * i)) 0

/-- A write of CFG_BBKEY_CTRL (R668): dropped outside BOOT. -/
def State.bbCtrl (s : State) (v : Nat) : State :=
  if s.mode ≠ Mode.boot ∨ v % 4 = 0 then s
  else
    let key := if bitOf v 1 then none else some s.bbKey
    (List.range 8).foldl (fun t i => t.setReg (CFG_BBKEY i) 0) (s.setCfg { s.cfg with key := key })

/-- COMMIT (R668). -/
def execCommit (p : Path) (v : Word) (s : State) : Result := .next (s.onWrite p CFG_BBKEY_CTRL fun s => s.bbCtrl v.toNat)

/-- ERASE (R668). -/
def execErase (p : Path) (v : Word) (s : State) : Result := .next (s.onWrite p CFG_BBKEY_CTRL fun s => s.bbCtrl v.toNat)

/-- VBAT_LOSS (R668): VBAT and the main supplies are both absent. -/
def execVbatLoss (s : State) : Result := .next (s.setCfg { s.cfg with key := none })

/-! ### MRAM access (R677) -/

/-- An MRAM offset lies in the Guestbook partition (R643). -/
def inGuestbook (a : Nat) : Bool := Nat.ble 0x6100000 a && Nat.blt a 0x6500000

/-- A running load reads the slot that an MRAM offset lies in. -/
def State.slotRead (s : State) (a : Nat) : Bool :=
  let j := s.cfg.job
  (j == 1 || j == 2 || j == 4 || j == 5) && Nat.ble (slotBase s.cfg.slot) a && Nat.blt a (slotBase s.cfg.slot + slotSize)

/-- ADDR advances under AUTOINC. -/
def State.mramStep (s : State) : State :=
  if s.flag CFG_MRAM_ADDR_AUTOINC then s.setF CFG_MRAM_ADDR_ADDR (s.f CFG_MRAM_ADDR_ADDR + 1) else s

/-- MRAM_DATA_ACCESS (R677): a write of wr, or a read. -/
def execMramDataAccess (p : Path) (wr : Option Word) (s : State) : Result :=
  let a := 4 * s.f CFG_MRAM_ADDR_ADDR
  match wr with
  | some v => .next (s.onWrite p CFG_MRAM_DATA fun s =>
      if inGuestbook a || s.slotRead a then s else { s with mram := writeBytes s.mram a (bytesLE 4 v.toNat) }.mramStep)
  | none => .next (s.onRead p CFG_MRAM_DATA fun s =>
      (s.answer p (if inGuestbook a then 0 else BitVec.ofNat 32 (readNat s.mram a 4))).mramStep)

/-! ### The scrubber (R671 to R675) -/

/-- The scrubber runs. -/
def State.scrubs (s : State) : Bool := s.flag CFG_SCRUB_CTRL_EN && s.flag CFG_STATE_CONFIGURED

/-- One syllable is read: corrected, or reported (R672). -/
def State.scrubSyllable (s : State) : State :=
  let key := frameKey s.cfg.scrubFrame
  let at_ := key * 128 + s.cfg.scrubSyl
  match secDecode 5 18 (Sparse.get 0 s.cfg.frames at_) with
  | .ok => s
  | .corrected d =>
    ((s.setCfg { s.cfg with frames := Sparse.put 0 s.cfg.frames at_ (secEncode 5 18 d) }).bump CFG_SCRUB_CNT_CE 1).count
      (srcOf 7 3 0) 0 0
  | .uncorrectable =>
    let s1 := (s.raise CFG_SCRUB_ERR_UE 7 0 0 0).fire 7
    if s1.flag CFG_SCRUB_INFO_VALID then s1 else (s1.setF CFG_SCRUB_INFO_KEY key).setF CFG_SCRUB_INFO_VALID 1

/-- The scrubber moves to the next syllable: after the last frame a pass is complete (R671, R675). -/
def State.scrubNext (s : State) : State :=
  let c := s.cfg
  if c.scrubSyl < 127 then s.setCfg { c with scrubSyl := c.scrubSyl + 1, scrubAt := s.hub }
  else if c.scrubFrame + 1 < frameCount then
    s.setCfg { c with scrubSyl := 0, scrubFrame := c.scrubFrame + 1, scrubAt := s.hub, frameAt := s.tmk.steered }
  else s.setCfg { c with scrubSyl := 0, scrubFrame := 0, scrubAt := s.hub, frameAt := s.tmk.steered, restarts := 0 }

/-- CFG_SCRUB_READ (R671, R672, R674). -/
def execCfgScrubRead (voterDiffers : Bool) (s : State) : Result :=
  if s.scrubs && s.elapsed s.cfg.scrubAt (2 ^ s.f CFG_SCRUB_CTRL_DIV) then
    let s1 := if voterDiffers then s.bump CFG_SCRUB_CNT_TMR 1 else s
    .next (s1.scrubSyllable).scrubNext
  else .next s

/-- SCRUB_HEARTBEAT_TIMEOUT (R675): the third restart with no completed pass between stops the scrubber. -/
def execScrubHeartbeatTimeout (s : State) : Result :=
  if s.scrubs && s.elapsedSteered s.cfg.frameAt 1000000 then
    let n := s.cfg.restarts + 1
    let s1 := (s.scrubStart).raise CFG_SCRUB_ERR_RESTART 7 0 0 0
    let s2 := s1.setCfg { s1.cfg with restarts := n }
    if 3 ≤ n then .next ((s2.setF CFG_SCRUB_CTRL_EN 0).raise CFG_SCRUB_ERR_DEAD 7 0 0 0) else .next s2
  else .next s

end Sys2Proof.Machine
end

