-- ==== Sys2Proof/Machine/Power.lean ====
section
/-! DEFINITION. The power controller (19_power_thermal): wake and power-down steps, votes, domain resets, the STANDBY
sequences, the temperature sensors and the slowdown levels. -/

namespace Sys2Proof.Machine

open Reg

/-- The power controller replaced. -/
def State.setPwr (s : State) (x : Power) : State := { s with pwr := x }

/-! ### Waking (R779 to R782) -/

/-- A wake step begins, with those after it; with none left the domain is ON. -/
def State.wakeNext (s : State) (i : Nat) (steps : List Nat) : State :=
  if steps.isEmpty then
    let s1 := s.setPwr { s.pwr with wake := Sparse.put [] s.pwr.wake i [], since := Sparse.put 0 s.pwr.since i 0 }
    (s1.setF (PWR_DOM_STATE i) 0).setF (PWR_DOM_PD_STEP i) 0
  else s.startWake i steps

/-- WAKE_STEP_READY (R779, R780). -/
def execWakeStepReady (i : Fin 91) (s : State) : Result :=
  match s.f (PWR_DOM_STATE i), s.wakeSteps i with
  | 3, step :: rest => .next ((if step = 4 then s.resetDomain i else s).wakeNext i rest)
  | _, _ => .next s

/-- The first failed wake is recorded in PWR_ERR_INFO (R781). -/
def State.wakeInfo (s : State) (i step : Nat) : State :=
  if s.flag PWR_ERR_INFO_VALID then s
  else ((s.setF PWR_ERR_INFO_DOMAIN i).setF PWR_ERR_INFO_STEP (step - 1)).setF PWR_ERR_INFO_VALID 1

/-- STEP_US in ns; 0 acts as 1. -/
def State.wakeLimit (s : State) : Nat := 1000 * max 1 (s.f PWR_TMO_STEP_US)

/-- WAKE_STEP_TIMEOUT (R781). -/
def execWakeStepTimeout (i : Fin 91) (s : State) : Result :=
  match s.f (PWR_DOM_STATE i), s.wakeSteps i with
  | 3, step :: _ =>
    if s.elapsedSteered (Sparse.get 0 s.pwr.since i) s.wakeLimit then
      let s1 := s.setPwr { s.pwr with wake := Sparse.put [] s.pwr.wake i [], since := Sparse.put 0 s.pwr.since i 0 }
      let s2 := ((s1.setF (PWR_DOM_STATE i) 2).setF (PWR_DOM_FAIL i) 1).setF PWR_ERR_WAKE_FAIL 1
      .next (s2.wakeInfo i step)
    else .next s
  | _, _ => .next s

/-! ### Powering down (R783 to R785) -/

/-- A domain is wanted at an abort point; domain 90 is while a STANDBY exit runs. -/
def State.wantedBack (s : State) (i : Nat) : Bool := if i = 90 then s.pwr.exit != 0 else s.wanted i

/-- The wake steps by which a domain returns from an abort point (R784). -/
def returnSteps (point : Nat) : List Nat :=
  match point with
  | 2 => [2]
  | 3 => [4]
  | 4 => [3, 4]
  | _ => []

/-- The effect of a power-down step on the domain: step 3 asserts its logic reset. -/
def State.downEffect (s : State) (i k : Nat) : State := if k = 3 then s.resetDomain i else s

/-- Every stop of a compute domain is drained (R302). -/
def State.ringDrained (s : State) (i : Nat) : Bool :=
  (ringClusters i).all fun c => s.stopDrained (dieOf c) (ringOf c) (posOf c)

/-- POWERDOWN_STEP (R783 to R785): the step in progress completes; that of a compute domain waits for its stops. -/
def execPowerdownStep (i : Fin 91) (s : State) : Result :=
  if s.f (PWR_DOM_STATE i) = 1 ∧ !(i.val < 32 ∧ s.f (PWR_DOM_PD_STEP i) = 1 ∧ !s.ringDrained i) then
    let k := s.f (PWR_DOM_PD_STEP i)
    let s1 := s.downEffect i k
    if k = 5 then
      let s2 := (s1.setF (PWR_DOM_STATE i) 2).setF (PWR_DOM_PD_STEP i) 0
      .next (if i.val = 90 then (if s2.pwr.exit = 0 then s2 else s2.startWake 90 [1, 2, 3, 4]) else s2.settlePower)
    else if s1.wantedBack i then .next (s1.wakeNext i (returnSteps k))
    else .next (s1.setF (PWR_DOM_PD_STEP i) (k + 1))
  else .next s

/-! ### Votes and domain resets (R776, R778, R787) -/

/-- A write of PWR_VOTE_SW: the bits of domains 89 to 95 are ignored (R778). -/
def State.voteWrite (s : State) (k : Nat) (v : Word) : State :=
  (s.setReg (PWR_VOTE_SW k) (if k = 2 then v &&& 0x01FFFFFF else v)).settlePower

/-- VOTE_SW_WRITE (R776, R778). -/
def execVoteSwWrite (p : Path) (k : Fin 3) (v : Word) (s : State) : Result :=
  .next (s.onWrite p (PWR_VOTE_SW k) fun s => s.voteWrite k v)

/-- A domain reset by RST: a core's tasks return, and the core restarts or is held as R698 gives (R708, R787). -/
def State.rstDomain (s : State) (i : Nat) : State :=
  if 73 ≤ i ∧ i < 89 then
    let c := i - 73
    let run := s.flag (OST_CORE_CTRL_RUN c) && s.flag (OST_CORE_CTRL_AUTO_RESTART c)
    (((s.returnTasks c).setF (OST_CORE_CTRL_RUN c) (ofBool run)).resetDomain i).settleIrqs
  else (if 36 ≤ i ∧ i < 40 then s.selfRefresh (i - 36) else s).resetDomain i

/-- A write of PWR_DOM: FAIL clears, which lets the domain wake (domain 90 when it is the exit from STANDBY that wakes it),
and RST resets it (R781, R787). -/
def State.domWrite (s : State) (i : Nat) (v : Word) : State :=
  let s1 := s.writeBits (PWR_DOM i) v
  let s2 :=
    if bitOf v.toNat 7 then
      (if !s1.domainOn i || Nat.ble 89 i || (Nat.ble i 72 && s1.framesMode) then s1.setF PWR_ERR_RST_REJ 1
      else s1.rstDomain i)
    else s1
  let s3 := if i = 90 ∧ s2.pwr.exit = 1 ∧ s2.f (PWR_DOM_STATE 90) = 2 ∧ !s2.flag (PWR_DOM_FAIL 90) then s2.startWake 90 [1, 2, 3, 4]
    else s2
  s3.settlePower

/-- DOMAIN_RESET (R787). -/
def execDomainReset (p : Path) (i : Fin 91) (v : Word) (s : State) : Result :=
  .next (s.onWrite p (PWR_DOM i) fun s => s.domWrite i v)

/-! ### STANDBY (R790 to R792) -/

/-- The action with which a step of the STANDBY entry starts (R790). -/
def State.entryAction (s : State) (k : Nat) : State :=
  match k with
  | 1 =>
    let s1 := s.acqEnd 4 s.frameNo
    let s2 := if s1.pwr.billet = 0 then s1 else s1.bltRemove
    [0, 1, 2].foldl (fun t j => t.setReg (PWR_VOTE_SW j) 0) s2
  | 2 => (List.range 16).foldl State.coreHeld (s.setPwr { s.pwr with carve := true })
  | 3 => (List.range 128).foldl State.laneOff s
  | 4 => s.fabricStop
  | 5 => (List.range 4).foldl State.selfRefresh s
  | 6 => s.setPwr { s.pwr with carve := false }
  | _ => s.startDown 90

/-- A step of the STANDBY entry starts. -/
def State.entryStep (s : State) (k : Nat) : State :=
  ((s.setPwr { s.pwr with entry := k }).entryAction k).settlePower

/-- The step of the STANDBY entry in progress has ended (R790). -/
def State.entryDone (s : State) : Bool :=
  match s.pwr.entry with
  | 5 => (List.range 4).all fun d => s.flag (HBC_STAT_SELF_REF d)
  | 6 => (List.range 89).all fun i => s.f (PWR_DOM_STATE i) == 2
  | 7 => s.f (PWR_DOM_STATE 90) == 2
  | _ => true

/-- The action with which a step of the STANDBY exit starts (R792). -/
def State.exitAction (s : State) (k : Nat) : State :=
  match k with
  | 1 => if s.f (PWR_DOM_STATE 90) = 2 then s.startWake 90 [1, 2, 3, 4] else s
  | 2 => (s.setPwr { s.pwr with carve := true }).settlePower
  | 3 => (s.setF (mbBusy 40) 1).cfgStart 4 (s.f CFG_STATUS_SLOT) 0 0
  | 4 =>
    match s.cfg.fwEntry with
    | some a => (s.set64 (OST_CORE_VEC 0) a).coreRelease 0
    | none => s
  | _ => s

/-- A step of the STANDBY exit starts. -/
def State.exitStep (s : State) (k : Nat) : State := (s.setPwr { s.pwr with exit := k }).exitAction k

/-- The exit sequence ends: the device is in IDLE. -/
def State.exitEnd (s : State) : State :=
  let s1 := (s.setPwr { s.pwr with exit := 0, carve := false }).noPending
  if s1.mode = Mode.standby then s1.setMode Mode.idle 0 else s1.settlePower

/-- The step of the STANDBY exit in progress has ended (R792): the last one with core 0 running, or its domain failed. -/
def State.exitDone (s : State) : Bool :=
  match s.pwr.exit with
  | 1 => s.domainOn 90
  | 2 => (List.range 8).all fun i => s.domainOn (32 + i)
  | 3 => s.cfg.job == 0
  | _ => s.cfg.fwEntry.isNone || s.f (OST_CORE_STAT_STATE 0) != 0 || s.flag (PWR_DOM_FAIL 73)

/-- The first step of the exit whose work is not done when an entry is left at step k (R791). -/
def State.exitFrom (s : State) (k : Nat) : Nat :=
  if !s.domainOn 90 then 1
  else if (List.range 8).any (fun i => !s.domainOn (32 + i)) then 2
  else if 4 ≤ k then 3
  else if 2 ≤ k then 4
  else 0

/-- A request to IDLE during the entry (R791). -/
def State.cancelEntry (s : State) : State :=
  let k := s.pwr.entry
  let s1 := s.setPwr { s.pwr with entry := 0 }
  match s1.exitFrom k with
  | 0 => (s1.setPwr { s1.pwr with carve := false }).noPending.settlePower
  | j => (s1.setPending Mode.idle).exitStep j

/-- A wake request is acted on in STANDBY (R786, R792). -/
def State.wakeUp (s : State) : State :=
  if s.mode = Mode.standby ∧ s.pwr.exit = 0 ∧ s.pwr.entry = 0 then
    let level := !s.flag PWR_CFG_WAKE_EDGE && s.pwr.wakeN
    if level || s.pwr.wakeEdge then (s.setPwr { s.pwr with wakeEdge := false }).exitStep 1 else s
  else s

/-- STANDBY_ENTRY_STEP (R790): the step in progress ends, and the next starts. -/
def execStandbyEntryStep (s : State) : Result :=
  let k := s.pwr.entry
  if k = 0 ∨ !s.entryDone then .next s
  else if k = 7 then .next ((((s.setPwr { s.pwr with entry := 0 }).noPending).setMode Mode.standby 0).wakeUp)
  else .next (s.entryStep (k + 1))

/-- STANDBY_EXIT_STEP (R792). -/
def execStandbyExitStep (s : State) : Result :=
  let k := s.pwr.exit
  if k = 0 ∨ !s.exitDone then .next s
  else if k = 4 then .next s.exitEnd
  else .next (s.exitStep (k + 1))

/-- A falling edge of WAKE_N is kept: one that arrives while domain 90 is in step 5 is lost (R786). -/
def State.keepsEdge (s : State) : Bool :=
  (s.mode == Mode.standby && s.pwr.exit == 0) || (s.pwr.entry != 0 && s.f (PWR_DOM_PD_STEP 90) != 5)

/-- WAKE_N (R786): the level of the pin. -/
def execWakeN (low : Bool) (s : State) : Result :=
  let edge := low && !s.pwr.wakeN && s.flag PWR_CFG_WAKE_EDGE && s.keepsEdge
  .next (s.setPwr { s.pwr with wakeN := low, wakeEdge := s.pwr.wakeEdge || edge }).wakeUp

/-! ### Temperature (R793 to R798, R800, R858) -/

/-- The class of a sensor (R794). -/
def sensorClass (n : Nat) : Nat := if n < 36 then 0 else if n < 40 then 1 else 2

/-- The last reading of a sensor in quarters of a degree; none before its first (R858). -/
def State.temp (s : State) (n : Nat) : Option Int :=
  if s.flag (PWR_TEMP_VALID n) then some (Sys2Proof.Machine.signed 11 (s.f (PWR_TEMP_TEMP n))) else none

/-- MAX after a reading. -/
def State.tempMax (s : State) (n q : Nat) : State :=
  let old := s.f (PWR_TEMP_MAX n)
  let less := decide (Sys2Proof.Machine.signed 11 q ≤ Sys2Proof.Machine.signed 11 old)
  let new := if Sparse.get false s.pwr.maxSeen n && less then old else q
  (s.setF (PWR_TEMP_MAX n) new).setPwr { s.pwr with maxSeen := Sparse.put false s.pwr.maxSeen n true }

/-- ALARM of a sensor. -/
def alarmBit (n : Nat) : Fld := ⟨PWR_THR_STAT + 4 * (n / 32), n % 32, 1⟩

/-- The alarm of a sensor at a reading (R794). -/
def State.tempAlarm (s : State) (n : Nat) (t : Int) : State :=
  let k := sensorClass n
  let warn : Int := 4 * s.f (PWR_THR_CLS_WARN k)
  let hyst : Int := 4 * s.f (PWR_THR_CLS_HYST k)
  if warn ≤ t ∧ !s.flag (alarmBit n) then ((s.setF (alarmBit n) 1).count (srcOf 1 3 1) 0 0).fire 26
  else if t < warn - hyst then s.setF (alarmBit n) 0
  else s

/-- THERMTRIP_N and CRIT after a reading (R798). -/
def State.tempTrip (s : State) (n : Nat) (t : Int) : State :=
  let k := sensorClass n
  let crit : Int := 4 * s.f (PWR_THR_CLS_CRIT k)
  let hyst : Int := 4 * s.f (PWR_THR_CLS_HYST k)
  let h := if crit ≤ t then 2 else if t < crit - hyst then 0 else 1
  let hot := Sparse.put 0 s.pwr.hot n h
  let trip := if hot.any (fun x => x.2 == 2) then true else if hot.isEmpty then false else s.pwr.thermtrip
  (s.setPwr { s.pwr with hot := hot, thermtrip := trip }).setF PWR_THR_STAT_CRIT (ofBool trip)

/-- SENSOR_READING (R793, R794, R798, R858): a stack's sensor reads only while its PHY domain is ON. -/
def execSensorReading (sensor : Fin 44) (quarterDegrees : BitVec 11) (s : State) : Result :=
  let n := sensor.val
  let q := quarterDegrees.toNat
  if 40 ≤ n ∧ !s.domainOn (36 + (n - 40)) then .next s
  else
    let s1 := ((s.setF (PWR_TEMP_TEMP n) q).setF (PWR_TEMP_VALID n) 1).tempMax n q
    .next ((s1.tempAlarm n (signed 11 q)).tempTrip n (signed 11 q))

/-- T of a ring (R795): the larger of its sensor and its die's Confluence sensor. -/
def State.ringTemp (s : State) (d r : Nat) : Option Int :=
  match s.temp (9 * d + r), s.temp (9 * d + 8) with
  | some a, some b => some (max a b)
  | some a, none => some a
  | none, x => x

/-- The next slowdown level of a ring (R795). -/
def nextLevel (level : Nat) (t crit slow hyst : Int) : Nat :=
  if crit ≤ t then 8
  else if slow ≤ t then min 8 (level + 1)
  else if t < slow - hyst then level - 1
  else level

/-- The slowdown level of a ring is evaluated; outside a frame a cluster takes it at once (R200, R796). -/
def State.evalRing (s : State) (i : Nat) : State :=
  let d := i / 8
  let r := i % 8
  match s.ringTemp d r with
  | none => s
  | some t =>
    let F : Fld := ⟨PWR_SLOW d, 4 * r, 4⟩
    let new := nextLevel (s.f F) t (4 * s.f (PWR_THR_CLS_CRIT 0)) (4 * s.f (PWR_THR_CLS_SLOW 0))
      (4 * s.f (PWR_THR_CLS_HYST 0))
    if new = s.f F then s
    else
      (ringClusters i).foldl (fun t c => if t.framesRun c then t else (t.setCl c { t.cl c with slow := new }).settleRate c)
        (s.setF F new)

/-- SLOWDOWN_EVALUATION (R795). -/
def execSlowdownEvaluation (s : State) : Result :=
  if s.pwr.evalAt ≤ s.hub then
    let s1 := s.setPwr { s.pwr with evalAt := s.pwr.evalAt + 1000 * max 1 (s.f PWR_THR_CFG_STEP_US) }
    .next ((List.range 32).foldl State.evalRing s1)
  else .next s

/-- A write of PWR_THR_CLS (R800). -/
def State.thrWrite (s : State) (k : Nat) (v : Word) : State :=
  let n := v.toNat
  let warn := slice n 0 8
  let slow := slice n 8 8
  let crit := slice n 16 8
  let s1 := ((s.setF (PWR_THR_CLS_WARN k) warn).setF (PWR_THR_CLS_CRIT k) crit).setF (PWR_THR_CLS_HYST k) (slice n 24 4)
  if k = 1 then (if crit < warn then s else s1)
  else if slow < warn ∨ crit < slow then s
  else s1.setF (PWR_THR_CLS_SLOW k) slow

/-- THRESHOLD_WRITE (R800). -/
def execThresholdWrite (p : Path) (k : Fin 3) (v : Word) (s : State) : Result :=
  .next (s.onWrite p (PWR_THR_CLS k) fun s => s.thrWrite k v)

end Sys2Proof.Machine
end

