-- ==== Sys2Proof/Machine/Resets.lean ====
section
/-! DEFINITION. The resets of the whole device and the hub watchdog (18_faults_recovery R758 to R768, R833, R834), and the
mode requests of DEV_CTRL (R58 to R81, R856). -/

namespace Sys2Proof.Machine

open Reg

/-- The reset unit replaced. -/
def State.setRst (s : State) (x : ResetUnit) : State := { s with rst := x }

/-! ### What a reset of the whole device leaves (R768) -/

/-- A register that keeps its value: DEV_RST_CAUSE always, and the others unless the reset is a power-on reset (table of
what survives). -/
def survives (por : Bool) (off : Nat) : Bool :=
  off == DEV_RST_CAUSE ||
    (!por && (off == TMK_ADJ || off == MGE_MAC || off == MGE_MAC + 4 || off == MGE_IP || off == MGE_RAP_CFG ||
      off == MGE_RAP_ACL))

/-- Every unit at the state of its reset, apart from the survivors (R527, R668, R676, R735, R768). -/
def State.deviceReset (s : State) (por : Bool) : State :=
  let s1 : State := { State.reset with
    pending := s.pending
    free := s.free
    regs := Sparse.keep (survives por) s.regs
    mram := s.mram
    tmk := { Tidemark.reset with time := if por then 0 else s.tmk.time }
    cfg := { CfgUnit.reset with fuses := s.cfg.fuses, failed := s.cfg.failed, key := s.cfg.key }
    wke := { Wake.reset with nonce := s.wke.nonce + 1 }
    tst := { TestUnit.reset with tap := s.tst.tap, vccioLow := s.tst.vccioLow }
    pwr := { Power.reset with wakeN := s.pwr.wakeN }
    rst := { ResetUnit.reset with resetN := s.rst.resetN, por := s.rst.por } }
  if por then s1.set64 MGE_MAC (0x020000000000 + s.deviceId % 1099511627776) else s1

/-- The device enters RESET and is held there: no unit runs, and domain 90 is OFF (R55, R775). -/
def State.intoReset (s : State) (por : Bool) : State :=
  let s1 := s.deviceReset por
  let s2 := (s1.setF DEV_MODE_MODE Mode.reset).setF (PWR_DOM_STATE 90) 2
  ((s2.setNat CFG_STATUS 0).setCfg { s2.cfg with job := 0 })

/-- The device leaves RESET for BOOT: straps are sampled, and the power-up load and the Guestbook scan begin, the load with the
PRIMARY slot (R660, R765, R822). -/
def State.intoBoot (s : State) (pull i2c : Nat) : State :=
  let s0 := (s.deviceReset false).setRst ResetUnit.reset
  let s1 := { s0 with cfg := { s0.cfg with slot := s0.bootDir.1 } }
  ((s1.setF DEV_STRAP_PULL pull).setF DEV_STRAP_I2C_A i2c).setF CFG_STATE_PULL pull

/-- DEV_RST_CAUSE. -/
def State.resetCause (s : State) (cause path : Nat) : State :=
  let s1 := (s.setF DEV_RST_CAUSE_CAUSE cause).setF DEV_RST_CAUSE_PATH path
  if cause = 0 then s1.setF DEV_RST_CAUSE_HWDT_CNT 0
  else if cause = 3 then s1.bump DEV_RST_CAUSE_HWDT_CNT 1
  else s1

/-! ### Power-on reset and RESET_N (R764, R767, R833, R834) -/

/-- A pulse is recognised: always from long on, never below short, and between the two by a free value (log entry 3). -/
def State.recognised (s : State) (ns short long : Nat) : Bool :=
  Nat.ble long ns || (Nat.ble short ns && (Config.freeWord s.free).toNat % 2 == 1)

/-- The free value of a pulse between the two limits is used up. -/
def State.pulseTaken (s : State) (ns short long : Nat) : State :=
  if short ≤ ns ∧ ns < long then s.takeFree else s

/-- POWER_ON_RESET (R833): a supply is below its trip level for a time; the TAP starts in Test-Logic-Reset. -/
def execPowerOnReset (fallNs : Nat) (s : State) : Result :=
  let s1 := s.pulseTaken fallNs 200 1000
  if s.recognised fallNs 200 1000 then
    let s2 := (s1.resetCause 0 0).intoReset true
    .next { s2.setRst { s2.rst with por := true } with tst := { s2.tst with tap := TapUnit.reset } }
  else .next s1

/-- POR_RELEASE (R833, R834). -/
def execPorRelease (pull i2c : BitVec 2) (s : State) : Result :=
  if s.rst.por then
    let s1 := s.setRst { s.rst with por := false }
    .next (if s1.rst.resetN then s1 else s1.intoBoot pull.toNat i2c.toNat)
  else .next s

/-- RESET_N_ASSERT (R764, R767): the pin is low for a time. -/
def execResetNAssert (lowNs : Nat) (s : State) : Result :=
  let s1 := s.pulseTaken lowNs 100 1000
  if s.recognised lowNs 100 1000 then
    if s1.rst.por then .next (s1.setRst { s1.rst with resetN := true })
    else
      let s2 := (s1.resetCause 1 0).intoReset false
      .next (s2.setRst { s2.rst with resetN := true })
  else .next s1

/-- RESET_N_RELEASE (R764, R834). -/
def execResetNRelease (pull i2c : BitVec 2) (s : State) : Result :=
  if s.rst.resetN then
    let s1 := s.setRst { s.rst with resetN := false }
    .next (if s1.rst.por then s1 else s1.intoBoot pull.toNat i2c.toNat)
  else .next s

/-! ### Warm reset and the hub watchdog (R752, R758 to R762, R765) -/

/-- A cluster stops at its next step as a halt stops it (R765). -/
def State.stopCluster (s : State) (c : Nat) : State := if s.framesRun c then s.setF (CLU_STATUS_STATE c) Clu.halted else s

/-- Frames end at the acceptance of a warm reset (R765): the frame in progress is abandoned, and no release follows. -/
def State.stopFrames (s : State) : State :=
  let s1 := if s.seq.inFrame then s.abandon else s
  let s2 := ((s1.mapped.foldl State.stopCluster s1).timerStop).stepEnd
  let s3 := s2.setSeq { s2.seq with inFrame := false, waitK := none }
  (s3.setFrd { s3.frd with due := false, gate := none, pace := none }).noPending

/-- A warm reset, or a reset by the hub watchdog, is accepted (R752, R760, R765). -/
def State.warmAccept (s : State) (cause path : Nat) : State :=
  let s1 := if cause = 3 then s.count (srcOf 3 3 0) 0 0 else s.devCount 2 path
  let s2 := (s1.stopFrames).flushAggregators
  let s3 := (s2.resetCause cause path).setPwr { s2.pwr with entry := 0, exit := 0 }
  s3.setRst { s3.rst with stage := 1, since := s3.tmk.steered }

/-- WARM_RESET_ASSERT (R752, R765): 1 µs after the drain, which lasts at most 200 µs. -/
def execWarmResetAssert (s : State) : Result :=
  let drained := s.gbk.queue.isEmpty && s.elapsedSteered s.rst.since 1000
  if s.rst.stage = 1 ∧ (drained || s.elapsedSteered s.rst.since 201000) then
    let s1 := s.intoReset false
    .next (s1.setRst { s1.rst with stage := 2 })
  else .next s

/-- WARM_RESET_RELEASE (R765): 10 µs later. -/
def execWarmResetRelease (pull i2c : BitVec 2) (s : State) : Result :=
  if s.rst.stage = 2 ∧ s.elapsedSteered s.rst.since 10000 ∧ !s.rst.por ∧ !s.rst.resetN then
    .next (s.intoBoot pull.toNat i2c.toNat)
  else .next s

/-- The hub watchdog counts (R758, R762). -/
def State.hwdtCounts (s : State) : Bool :=
  s.mode != Mode.reset && s.mode != Mode.standby && s.rst.stage == 0 &&
    (List.range 16).any fun c => s.f (OST_CORE_STAT_STATE c) == 1 || s.f (OST_CORE_STAT_STATE c) == 2

/-- TIMEOUT_MS in crystal cycles; 0 acts as 1. -/
def State.hwdtLimit (s : State) : Nat := 25000 * max 1 (s.f DEV_HWDT_TIMEOUT_MS)

/-- HUB_WATCHDOG_EXPIRY (R760, R761): with the hub clock stopped it acts as RESET_N does, with no drain. -/
def execHubWatchdogExpiry (hubClockRuns : Bool) (s : State) : Result :=
  if s.hwdtCounts && s.flag DEV_HWDT_EN && Nat.ble s.hwdtLimit s.rst.hwdt then
    if hubClockRuns then .next (s.warmAccept 3 0)
    else
      let s1 := (s.resetCause 3 0).intoReset false
      .next (s1.setRst { s1.rst with stage := 2 })
  else .next s

/-- HWDT_KICK (R759). -/
def execHwdtKick (p : Path) (v : Word) (s : State) : Result :=
  .next (s.onWrite p DEV_HWDT_KICK fun s =>
    if slice v.toNat 0 8 = 0x5A then s.setRst { s.rst with hwdt := 0, phase := 0 } else s)

/-! ### Mode requests (R58 to R81, R856) -/

/-- A mode request is refused (R61, R67). -/
def State.modeRefuse (s : State) (code path : Nat) : State :=
  ((s.setF DEV_MODE_MODE_ERR code).setF DEV_MODE_MODE_REJ 1).devCount 1 path

/-- A Billet or configuration command is BUSY. -/
def State.commandsBusy (s : State) : Bool := s.mbBusyNow 0 || s.mbBusyNow 40

/-- Every lane the placed program uses is UP. -/
def State.programLanesUp (s : State) : Bool := (List.range 128).all fun l => !bitOf s.blt.lanes l || s.laneUp l

/-- The conditions of IDLE to RUN, TIMED or STEP, in order; the code of the first that fails. -/
def State.runErr (s : State) : Nat :=
  if !s.flag DEV_MODE_PROG_VALID then 3
  else if s.commandsBusy then 4
  else if !s.programLanesUp then 5
  else 0

/-- The Tidemark servo is locked and a schedule is set (R219); otherwise NOTIME. -/
def State.timeErr (s : State) : Nat := if s.flag TMK_SRV_STAT_LOCKED && s.schedSet then 0 else 6

/-- The first code that is not NONE. -/
def firstErr (a b : Nat) : Nat := if a = 0 then b else a

/-- The outcome of a transition of the table: its code, with ILLEGAL for a transition that the table does not list, and
with ROLE where the role forbids the mode (R68, R80, R606, table of modes by role). -/
def State.transitionErr (s : State) (t : Nat) : Nat :=
  let check := ofBool (s.flag DEV_CTRL_CHECK) * 7
  let role := s.f DEV_MODE_ROLE
  let quiet := if role ≠ 0 then 8 else if s.commandsBusy then 4 else 0
  let twin := if role = 3 ∧ (t = Mode.timed ∨ t = Mode.step) then 8 else 0
  let early := if role = 3 ∧ s.f FRD_STATUS_CKPT ≠ 3 then 8 else 0
  match s.mode, t with
  | 1, 3 => if s.flag CFG_STATE_CONFIGURED && !s.mbBusyNow 40 && s.f (mbErr 40) == 0 then 0 else 9
  | 3, 4 => firstErr s.runErr early
  | 3, 5 => firstErr (firstErr (firstErr s.runErr s.timeErr) check) twin
  | 3, 6 => firstErr s.runErr twin
  | 4, 6 => twin
  | 6, 4 => 0
  | 4, 5 => firstErr (firstErr s.timeErr (7 * s.f DEV_MODE_CHECK_ACT)) twin
  | 5, 4 => 0
  | 5, 6 => twin
  | 4, 3 => 0
  | 5, 3 => 0
  | 6, 3 => 0
  | 3, 2 => quiet
  | 2, 3 => 0
  | 3, 7 => quiet
  | 7, 3 => if s.mbBusyNow 41 then 4 else 0
  | _, _ => 1

/-- An accepted request that the transition table applies (R62, R70 to R72, R790 to R792). -/
def State.modeApply (s : State) (t path : Nat) : State :=
  match s.mode, t with
  | 3, 2 => ((s.setPending t).setF DEV_MODE_PROG_VALID 0).entryStep 1
  | 2, 3 => if s.pwr.exit = 0 then (s.setPending t).exitStep 1 else s
  | 6, 3 => (s.sendMode t false).toIdle path
  | 4, 3 => if s.flag DEV_MODE_HOLD then (s.sendMode t false).toIdle path else s.setPending t
  | 5, 3 => if s.flag DEV_MODE_HOLD then (s.sendMode t false).toIdle path else s.setPending t
  | 3, 7 => s.setMode t path
  | 1, 3 => s.setMode t path
  | 7, 3 => s.setMode t path
  | 3, _ => s.enterFrames t path
  | 6, _ => s.enterFrames t path
  | _, _ => s.setPending t

/-- A request to IDLE while one is pending replaces it (R64, R791): at once under HOLD and in STEP. -/
def State.modeReplace (s : State) (path : Nat) : State :=
  if s.pwr.entry ≠ 0 then s.cancelEntry
  else if s.framesMode then
    (if s.flag DEV_MODE_HOLD ∨ s.mode = Mode.step then (s.sendMode Mode.idle false).toIdle path
      else s.setPending Mode.idle)
  else s

/-- One mode request, checked in the order of R856; CHECK_ACT takes CHECK when a request to enter RUN or STEP is accepted
(R75). -/
def State.modeRequest (s : State) (t path : Nat) : State :=
  let ok := s.setF DEV_MODE_MODE_ERR 0
  if s.f DEV_MODE_ROLE = 2 then s.modeRefuse 8 path
  else if t ≤ 1 then s.modeRefuse 1 path
  else if s.flag DEV_MODE_HOLD ∧ t ≠ Mode.idle then s.modeRefuse 1 path
  else if s.flag DEV_MODE_PENDING ∧ t ≠ Mode.idle then s.modeRefuse 2 path
  else if s.flag DEV_MODE_PENDING then ok.modeReplace path
  else if t = s.mode then ok
  else if s.transitionErr t ≠ 0 then s.modeRefuse (s.transitionErr t) path
  else (ok.setCheck t (s.flag DEV_CTRL_CHECK)).modeApply t path

/-- A write of DEV_CTRL (R58, R59). -/
def State.devCtrl (s : State) (p : Path) (v : Nat) : State :=
  if bitOf v 8 ∧ slice v 24 8 = 0xA5 then s.warmAccept 2 p.val
  else
    let s1 := s.setF DEV_CTRL_CHECK (slice v 4 1)
    if bitOf v 3 then s1.modeRequest (slice v 0 3) p.val else s1

/-- MODE_REQUEST (R58 to R64, R856). -/
def execModeRequest (p : Path) (v : Word) (s : State) : Result :=
  .next (s.onWrite p DEV_CTRL fun s => s.devCtrl p v.toNat)

/-- WARM_RESET (R59, R765). -/
def execWarmReset (p : Path) (v : Word) (s : State) : Result :=
  .next (s.onWrite p DEV_CTRL fun s => s.devCtrl p v.toNat)

end Sys2Proof.Machine
end

