-- ==== Sys2Proof/Machine/TmkOps.lean ====
section
/-! DEFINITION. The shared operations of the time base (10_tidemark_time): steps, the servo, pulse outputs, captures and the
read latch of a time. -/

namespace Sys2Proof.Machine

open Reg

/-- Tidemark replaced. -/
def State.setTmk (s : State) (x : Tidemark) : State := { s with tmk := x }

/-- A bit of TMK_ERR. -/
def State.tmkErr (s : State) (F : Fld) : State := s.raise F 2 0 0 0

/-- TMK_ADJ as a signed number. -/
def State.adj (s : State) : Int := signed 32 (s.reg TMK_ADJ).toNat

/-- The advance of one hub cycle in units of 2^-40 ns (R497). -/
def State.advance40 (s : State) : Nat := ((nsUnit : Int) + s.adj).toNat

/-- SRC is FREE, or acts as it (table of servo sources). -/
def srcFree (src : Nat) : Bool := src == 0 || Nat.ble 5 src

/-- LOCKED and HOLDOVER take new values, and a change fires TMK_LOCK (table of Ostler events). -/
def State.setLock (s : State) (locked hold : Bool) : State :=
  let s1 := (s.setF TMK_SRV_STAT_LOCKED (ofBool locked)).setF TMK_SRV_STAT_HOLDOVER (ofBool hold)
  if s.flag TMK_SRV_STAT_LOCKED == locked && s.flag TMK_SRV_STAT_HOLDOVER == hold then s1 else s1.fire 20

/-! ### Captures (R521, R522, R804) -/

/-- An edge passes the EDGE field of a capture input: 0 off, 1 rising, 2 falling, 3 both. -/
def edgeTaken (edge : Nat) (rising : Bool) : Bool := if rising then edge % 2 == 1 else edge / 2 == 1

/-- An edge is recorded with a time; input 8 is PPS_IN. -/
def State.capture (s : State) (n : Nat) (rising : Bool) (t : Nat) : State :=
  let q := Sparse.get [] s.tmk.caps n
  if !edgeTaken (s.f (TMK_CAP_CTRL_EDGE n)) rising then s
  else if 16 ≤ q.length then s.bump (TMK_CAP_STAT_OVF n) 1
  else
    let s1 := s.setTmk { s.tmk with caps := Sparse.put [] s.tmk.caps n (q ++ [stampOf t]) }
    if q = [] then s1.fire 18 else s1

/-- A time less a latency in ps (R505). -/
def lessPs (t ps : Nat) : Nat := t - ps * nsUnit / 1000

/-- The time of an edge at a time port with its ingress latency removed (R505, R521). -/
def State.portTime (s : State) (q : Nat) : Nat := lessPs s.tmk.time (s.f (TMK_PORT_LAT_INGRESS q))

/-! ### Pulse outputs (R503, R519, R520) -/

/-- A pulse output. -/
def State.pulse (s : State) (n : Nat) : PulseOut := Sparse.get PulseOut.reset s.tmk.pulses n

/-- A pulse output replaced. -/
def State.setPulse (s : State) (n : Nat) (x : PulseOut) : State :=
  s.setTmk { s.tmk with pulses := Sparse.put PulseOut.reset s.tmk.pulses n x }

/-- The period of a pulse output, in units of 2^-40 ns. -/
def State.pulsePeriod (s : State) (n : Nat) : Nat :=
  (s.f (TMK_PO_PER_NS_PER_NS n) * 262144 + s.f (TMK_PO_PER_FRAC_PER_FRAC n)) * 4194304

/-- Instant k of a pulse output, as a time value (R519). -/
def State.pulseInstant (s : State) (n k : Nat) : Nat :=
  s.f64 (TMK_PO_START_SEC n) * secUnit + s.f (TMK_PO_START_NS_NS n) * nsUnit + k * s.pulsePeriod n

/-- The rising and falling edges of a pulse that TMK_LB takes to capture input n (R804). -/
def State.loopPulse (s : State) (n : Nat) (toActive : Bool) (t : Nat) : State :=
  if bitOf (s.f TMK_LB_CAP) n then s.capture n (toActive != s.flag (TMK_PO_CTRL_POL n)) t else s

/-- A pulse output raises its active level at a time, and its next instant is given. -/
def State.raisePulse (s : State) (n t : Nat) (next : Option Nat) : State :=
  let w := s.f (TMK_PO_WIDTH_WIDTH_NS n) * nsUnit
  (s.setPulse n ⟨true, next, s.tmk.steered + w⟩).loopPulse n true t

/-- Instants of a pulse output from number k on that lie at or before a time. -/
def State.instantsBy (s : State) (n k t : Nat) : Nat :=
  let first := s.pulseInstant n k
  let p := s.pulsePeriod n
  if t < first then 0 else if s.flag (TMK_PO_CTRL_PERIODIC n) ∧ p ≠ 0 then (t - first) / p + 1 else 1

/-- A pulse output whose instants have been passed over fires once, and counts them (R503, R520). -/
def State.passPulse (s : State) (n : Nat) : State :=
  match (s.pulse n).next with
  | none => s
  | some k =>
    match s.instantsBy n k s.tmk.time with
    | 0 => s
    | m + 1 =>
      let next := if s.flag (TMK_PO_CTRL_PERIODIC n) then some (k + m + 1) else none
      (s.bump (TMK_PO_STAT_MISSED n) (m + 1)).raisePulse n s.tmk.time next

/-! ### Steps (R500 to R503) -/

/-- The time steps to a value (R500, R503). -/
def State.stepTo (s : State) (t : Nat) : State :=
  let x := s.tmk
  let s1 := (s.setTmk { x with time := t, steps := x.steps + 1, stepAt := some s.hub }).setF TMK_SRV_STAT_STEPS
    (s.f TMK_SRV_STAT_STEPS + 1)
  if x.time < t then (List.range 8).foldl State.passPulse s1 else s1

/-- An offset step in units of 2^-18 ns, clamped at the ends of the range (R500). -/
def State.stepBy (s : State) (ofs : Int) : State :=
  let t := (s.tmk.time : Int) + ofs * 4194304
  if t < 0 then (s.stepTo 0).tmkErr TMK_ERR_ARG
  else if (timeMax : Int) < t then (s.stepTo timeMax).tmkErr TMK_ERR_SEC_MAX
  else s.stepTo t.toNat

/-! ### The servo (R502, R508) -/

/-- θ saturated to 32 bits, as TMK_SRV_LAST and TMK_SHX_LAST hold it. -/
def sat32 (theta : Int) : Nat := unsigned 32 (clampInt (-2147483648) 2147483647 theta)

/-- One measurement θ in units of 2^-18 ns (R508): one that falls in the hub cycle of a step is discarded (R502). -/
def State.servo (s : State) (theta : Int) : State :=
  if s.tmk.stepAt = some s.hub then s
  else
    let s0 := (s.setNat TMK_SRV_LAST (sat32 theta)).setTmk { s.tmk with since := s.tmk.steered }
    let big := decide ((s.reg TMK_STEP_THR).toNat * 262144 < theta.natAbs) && s.flag TMK_SRV_CFG_STEP_EN
    let s1 :=
      if big then
        let s2 := s0.setTmk { s0.tmk with good := 0 }
        if s.mode = Mode.timed then s2.tmkErr TMK_ERR_STEP_BLOCK
        else
          let s3 := s2.stepBy (-theta)
          s3.setTmk { s3.tmk with integ := 0 }
      else
        let integ := clampInt (-2147483648) 2147483647 (s.tmk.integ + theta / 2 ^ s.f TMK_SRV_CFG_KI_SHIFT)
        let adj := clampInt (-2147483648) 2147483647 (-(theta / 2 ^ s.f TMK_SRV_CFG_KP_SHIFT + integ))
        let good := if theta.natAbs < s.f TMK_SRV_LOCK_LOCK_THR_NS * 262144 then min (s.tmk.good + 1) 255 else 0
        (s0.setTmk { s0.tmk with integ := integ, good := good }).setNat TMK_ADJ (unsigned 32 adj)
    s1.setLock (Nat.ble (max 1 (s1.f TMK_SRV_LOCK_LOCK_CNT)) s1.tmk.good) false

/-- A remainder folded around zero: from −m/2 up to m/2 (table of servo sources). -/
def fold (t m : Nat) : Int := if 2 * (t % m) < m then (t % m : Nat) else (t % m : Nat) - (m : Int)

/-! ### The read latch (R15, R499, R522) -/

/-- A read of the _LO register of a time loads the path's latch with the rest of the value. -/
def State.latchTime (s : State) (p : Path) (off : Nat) (t : Stamp) (id : Nat) : State :=
  let x := s.path p
  s.setPath p { x with
    latchTag := some off
    latchHi := BitVec.ofNat 32 (t.sec / 4294967296)
    latchRest := [BitVec.ofNat 32 t.ns, BitVec.ofNat 32 t.frac, BitVec.ofNat 32 id]
    answer := BitVec.ofNat 32 t.sec }

end Sys2Proof.Machine
end

