-- ==== Sys2Proof/Machine/Tidemark.lean ====
section
/-! DEFINITION. The commands of the time base (10_tidemark_time): steps, the servo and its sources, PTP timestamps, the Shoris
exchange, pulse outputs and capture inputs. -/

namespace Sys2Proof.Machine

open Reg

/-- TIME_READ (R499). -/
def execTimeRead (p : Path) (s : State) : Result :=
  .next (s.onRead p TMK_SEC fun s => s.latchTime p TMK_SEC s.now 0)

/-- A write of TMK_CMD (R500, R501). -/
def State.tmkCmd (s : State) (v : Word) : State :=
  let set := bitOf v.toNat 0
  let ofs := bitOf v.toNat 1
  if (set && ofs) || (set && Nat.blt 999999999 (s.f TMK_SET_NS_NS)) then s.tmkErr TMK_ERR_ARG
  else if !set && !ofs then s
  else if s.mode = Mode.timed then s.tmkErr TMK_ERR_STEP_REJ
  else if set then s.stepTo (timeOf ⟨s.f64 TMK_SET_SEC, s.f TMK_SET_NS_NS, s.f TMK_SET_FRAC_FRAC⟩)
  else s.stepBy (signed 64 (s.f64 TMK_OFS))

/-- SET (R500, R501). -/
def execSet (p : Path) (v : Word) (s : State) : Result := .next (s.onWrite p TMK_CMD fun s => s.tmkCmd v)

/-- OFFSET (R500, R501). -/
def execOffset (p : Path) (v : Word) (s : State) : Result := .next (s.onWrite p TMK_CMD fun s => s.tmkCmd v)

/-- ADJ_WRITE (R510). -/
def execAdjWrite (p : Path) (v : Word) (s : State) : Result :=
  .next (s.onWrite p TMK_ADJ fun s =>
    if srcFree (s.f TMK_SRV_CFG_SRC) then s.setReg TMK_ADJ v else s.tmkErr TMK_ERR_SRC)

/-- SRC_CHANGE (R511). -/
def execSrcChange (p : Path) (v : Word) (s : State) : Result :=
  .next (s.onWrite p TMK_SRV_CFG fun s =>
    let old := s.f TMK_SRV_CFG_SRC
    let s1 := s.writeBits TMK_SRV_CFG v
    let new := s1.f TMK_SRV_CFG_SRC
    if new = old then s1
    else (s1.setTmk { s1.tmk with integ := 0, good := 0, since := s1.tmk.steered }).setLock (srcFree new) false)

/-- SERVO_MEASUREMENT (R508): while SRC is FREE no measurement comes. -/
def execServoMeasurement (theta : Int) (s : State) : Result :=
  if srcFree (s.f TMK_SRV_CFG_SRC) then .next s else .next (s.servo theta)

/-- MEAS_COMMIT (R18, R507). -/
def execMeasCommit (p : Path) (v : Word) (s : State) : Result :=
  .next (s.onWrite p TMK_MEAS fun s =>
    if s.f TMK_SRV_CFG_SRC ≠ 1 then s.tmkErr TMK_ERR_SRC
    else
      let x := s.path p
      let lo := if x.heldTag = some TMK_MEAS then x.heldLo else s.reg TMK_MEAS
      let s1 := if x.heldTag = some TMK_MEAS then s.setPath p { x with heldTag := none } else s
      let s2 := (s1.setReg TMK_MEAS lo).setReg (TMK_MEAS + 4) v
      s2.servo (signed 64 (s2.f64 TMK_MEAS)))

/-- A rising edge of PPS_IN reaches the servo (R505, R506): it is in units of 2^-18 ns. -/
def State.ppsServo (s : State) (t : Nat) : State :=
  let theta := fold (t / 4194304) (1000000000 * 262144)
  if s.f TMK_SRV_CFG_SRC = 3 then s.servo theta
  else if s.f TMK_SRV_CFG_SRC = 4 ∧ 50 * 262144 ≤ theta.natAbs then s.tmkErr TMK_ERR_PPS_MISMATCH
  else s

/-- An edge of PPS_IN at a time (R505, R506, R521). -/
def State.ppsEdge (s : State) (rising : Bool) (t : Nat) : State :=
  let s1 := if rising then s.ppsServo t else s
  s1.capture 8 rising t

/-- PPS_IN_EDGE (R505, R506): while TMK_LB.PPS = 1 the pin is not the input (R804). -/
def execPpsInEdge (rising : Bool) (s : State) : Result :=
  if s.flag TMK_LB_PPS then .next s else .next (s.ppsEdge rising (s.portTime 1))

/-- REF10M_EDGE (R504, R524): one edge is taken every ms. -/
def execRef10mEdge (s : State) : Result :=
  let due : Bool :=
    match s.tmk.lastRef with
    | none => true
    | some t => s.elapsedSteered t 1000000
  if s.f TMK_SRV_CFG_SRC = 4 ∧ s.flag TMK_SRV_STAT_REF_OK ∧ due then
    .next ((s.setTmk { s.tmk with lastRef := some s.tmk.steered }).servo (fold (s.tmk.time / 4194304) (100 * 262144)))
  else .next s

/-- REF10M_PRESENCE (R524): within 100 ppm of 10 MHz. -/
def execRef10mPresence (hz : Nat) (s : State) : Result :=
  .next (s.setF TMK_SRV_STAT_REF_OK (ofBool (Nat.ble 9999000 hz && Nat.ble hz 10001000)))

/-- HOLDOVER (R509). -/
def execHoldover (s : State) : Result :=
  let ms := 100 * max 1 (s.f TMK_SRV_LOCK_HOLD_100MS)
  if !srcFree (s.f TMK_SRV_CFG_SRC) && !s.flag TMK_SRV_STAT_HOLDOVER && s.elapsedSteered s.tmk.since (ms * 1000000) then
    .next ((s.setNat TMK_ADJ (unsigned 32 (clampInt (-2147483648) 2147483647 (-s.tmk.integ)))).setLock false true)
  else .next s

/-! ### IEEE 1588 on the management port (R512, R513) -/

/-- PTP_TIMESTAMP (R512, R513): a receive timestamp travels with its frame. -/
def execPtpTimestamp (tx : Bool) (msgType : BitVec 4) (seqId : BitVec 16) (oneStep tsReq : Bool) (s : State) : Result :=
  let t := stampOf (s.tmk.time + s.f (TMK_PORT_LAT_EGRESS 0) * nsUnit / 1000)
  if !tx then .next s
  else if oneStep && (msgType == 0 || msgType == 3) then .next (s.setTmk { s.tmk with oneStep := some t })
  else if !tsReq then .next s
  else if 16 ≤ s.tmk.txts.length then .next (s.tmkErr TMK_ERR_TXTS_OVF)
  else
    let s1 := s.setTmk { s.tmk with txts := s.tmk.txts ++ [⟨t, seqId.toNat, msgType.toNat⟩] }
    .next (if s.tmk.txts = [] then s1.fire 19 else s1)

/-- TXTS_POP (R512, R522). -/
def execTxtsPop (p : Path) (s : State) : Result :=
  .next (s.onRead p TMK_TXTS_SEC fun s =>
    match s.tmk.txts with
    | [] => s.latchTime p TMK_TXTS_SEC ⟨0, 0, 0⟩ 0
    | x :: rest =>
      (s.setTmk { s.tmk with txts := rest }).latchTime p TMK_TXTS_SEC x.stamp
        (x.seqId + x.msgType * 65536 + 2147483648))

/-! ### The Shoris time exchange (R515 to R517, R570, R571) -/

/-- SHX_REQUEST (R515). -/
def execShxRequest (s : State) : Result :=
  let l := s.f TMK_SHX_CFG_LANE
  let due : Bool :=
    match s.tmk.lastReq with
    | none => true
    | some t => s.elapsedSteered t (2 ^ s.f TMK_SHX_CFG_EXP * 1000000)
  if s.flag TMK_SHX_CFG_EN ∧ s.laneUp l ∧ due ∧ s.tmk.exchange = none then
    let id := s.tmk.nextId
    let s1 := s.laneCtrl l (.treq id)
    .next (s1.setTmk { s1.tmk with
      exchange := some ⟨id, l, s.tmk.time, s.tmk.steered, s.tmk.steps⟩
      nextId := (id + 1) % 256
      lastReq := some s.tmk.steered })
  else .next s

/-- A TREQ is answered: its ID returns with t2 (R515, R570). -/
def State.answerTreq (s : State) (l id : Nat) : State := if s.laneUp l then s.laneCtrl l (.tresp id s.now) else s

/-- TREQ_RECEIVE (R515). -/
def execTreqReceive (lane : LaneId) (id : Byte) (s : State) : Result := .next (s.answerTreq lane id.toNat)

/-- The full seconds value nearest one's own that ends in 16 bits (R571). -/
def nearSec (own low : Nat) : Nat :=
  let base := own / 65536 * 65536 + low
  if base + 32768 < own then base + 65536 else if own + 32768 < base ∧ 65536 ≤ base then base - 65536 else base

/-- A time in a TRESP (R571), as a count of 2^-18 ns. -/
def trespTime (own : Nat) (l : List Nat) : Nat :=
  let sec := nearSec own (l.getD 3 0 % 65536)
  let ns := l.getD 1 0 + l.getD 2 0 % 4096 * 262144
  (sec * 1000000000 + ns) * 262144 + l.getD 0 0

/-- θ of an exchange (R516): half of a difference rounds down. -/
def exchangeTheta (t1 t2 t3 t4 : Nat) (asym : Int) : Int :=
  (((t4 : Int) - t3) - ((t2 : Int) - t1)) / 2 + asym

/-- A TRESP completes the exchange in progress (R502, R516). -/
def State.takeTresp (s : State) (l id : Nat) (t2 t3 : List Nat) : State :=
  match s.tmk.exchange with
  | some x =>
    if x.id = id ∧ x.lane = l then
      let s1 := (s.setTmk { s.tmk with exchange := none }).bump TMK_SHX_STAT_DONE 1
      if x.steps ≠ s.tmk.steps then s1
      else
        let own := s.now.sec
        let theta := exchangeTheta (x.t1 / 4194304) (trespTime own t2) (trespTime own t3) (s.tmk.time / 4194304)
          (signed 32 (s.reg (TMK_LANE_ASYM l)).toNat)
        let s2 := s1.setNat TMK_SHX_LAST (sat32 theta)
        if s2.f TMK_SRV_CFG_SRC = 2 then s2.servo theta else s2
    else s
  | none => s

/-- TRESP_RECEIVE (R516). -/
def execTrespReceive (lane : LaneId) (id : Byte) (t2 t3 : List Syl) (s : State) : Result :=
  .next (s.takeTresp lane id.toNat (t2.map (·.toNat)) (t3.map (·.toNat)))

/-- SHX_TIMEOUT (R517). -/
def execShxTimeout (s : State) : Result :=
  match s.tmk.exchange with
  | some x =>
    if s.elapsedSteered x.at_ 1000000 then .next ((s.setTmk { s.tmk with exchange := none }).bump TMK_SHX_STAT_LOST 1)
    else .next s
  | none => .next s

/-! ### Pulse outputs (R518 to R520, R523) -/

/-- The width of a pulse is refused (R519): zero, or at or beyond the period of a periodic output. -/
def State.badWidth (s : State) (n : Nat) (periodic : Bool) : Bool :=
  let w := s.f (TMK_PO_WIDTH_WIDTH_NS n) * nsUnit
  w == 0 || (periodic && Nat.ble (s.pulsePeriod n) w)

/-- PULSE_ENABLE (R519, R520). -/
def execPulseEnable (p : Path) (n : Fin 8) (v : Word) (s : State) : Result :=
  .next (s.onWrite p (TMK_PO_CTRL n) fun s =>
    let was := s.flag (TMK_PO_CTRL_ENABLE n)
    let s1 := s.writeBits (TMK_PO_CTRL n) v
    if !bitOf v.toNat 0 then s1.setPulse n PulseOut.reset
    else if was then s1
    else if s1.badWidth n (bitOf v.toNat 1) then (s1.setF (TMK_PO_CTRL_ENABLE n) 0).tmkErr TMK_ERR_ARG
    else
      let s2 := s1.setPulse n ⟨false, some 0, 0⟩
      if s2.pulseInstant n 0 < s2.tmk.time then s2.passPulse n else s2)

/-- PULSE_FIRE (R518, R519): the instant has come, less the egress latency by which it is scheduled early. -/
def execPulseFire (n : Fin 8) (s : State) : Result :=
  match (s.pulse n).next with
  | some k =>
    let t := s.pulseInstant n k
    if s.flag (TMK_PO_CTRL_ENABLE n) ∧ lessPs t (s.f (TMK_PORT_LAT_EGRESS (11 + n))) ≤ s.tmk.time then
      .next (s.raisePulse n t (if s.flag (TMK_PO_CTRL_PERIODIC n) then some (k + 1) else none))
    else .next s
  | none => .next s

/-- PULSE_WIDTH_END (R519). -/
def execPulseWidthEnd (n : Fin 8) (s : State) : Result :=
  let x := s.pulse n
  if x.active ∧ x.endAt ≤ s.tmk.steered then
    let s1 := (s.setPulse n { x with active := false, endAt := 0 }).loopPulse n false s.tmk.time
    .next (if s.flag (TMK_PO_CTRL_PERIODIC n) then s1 else s1.setF (TMK_PO_CTRL_ENABLE n) 0)
  else .next s

/-- An edge of PPS_OUT that TMK_LB takes to PPS_IN (R804). -/
def State.loopPps (s : State) (rising : Bool) (t : Nat) : State := if s.flag TMK_LB_PPS then s.ppsEdge rising t else s

/-- PPS_OUT falls. -/
def State.ppsFall (s : State) : State :=
  if s.tmk.pps then (s.setTmk { s.tmk with pps := false, ppsEnd := 0 }).loopPps false s.tmk.time else s

/-- PPS_OUT_PULSE (R523): it rises in the hub cycle of a whole second and falls after WIDTH_MS. -/
def execPpsOutPulse (s : State) : Result :=
  if s.tmk.pps ∧ s.tmk.ppsEnd ≤ s.tmk.steered then .next s.ppsFall
  else if s.flag TMK_PPS_CFG_OUT_EN ∧ s.tmk.time % secUnit < s.advance40 ∧ s.tmk.ppsAt ≠ some s.hub then
    let stop := s.tmk.steered + s.f TMK_PPS_CFG_WIDTH_MS * 1000000 * nsUnit
    let s1 := s.setTmk { s.tmk with pps := true, ppsEnd := stop, ppsAt := some s.hub }
    .next (if s.tmk.pps then s1 else s1.loopPps true (s.tmk.time / secUnit * secUnit))
  else .next s

/-! ### Capture inputs (R521, R522) -/

/-- CAPTURE_EDGE (R521): an input that TMK_LB loops back takes nothing from its pin (R804). -/
def execCaptureEdge (n : Fin 9) (rising : Bool) (s : State) : Result :=
  if (n.val = 8 && s.flag TMK_LB_PPS) || (Nat.blt n 8 && bitOf (s.f TMK_LB_CAP) n) then .next s
  else .next (s.capture n rising (s.portTime (if n.val = 8 then 1 else 2 + n)))

/-- CAPTURE_POP (R522). -/
def execCapturePop (p : Path) (n : Fin 9) (s : State) : Result :=
  .next (s.onRead p (TMK_CAP_SEC n) fun s =>
    match Sparse.get [] s.tmk.caps n with
    | [] => (s.setF (TMK_CAP_STAT_EMPTY_RD n) 1).latchTime p (TMK_CAP_SEC n) ⟨0, 0, 0⟩ 0
    | t :: rest =>
      (s.setTmk { s.tmk with caps := Sparse.put [] s.tmk.caps n rest }).latchTime p (TMK_CAP_SEC n) t 0)

/-- SEC_MAX (R498): the hub cycle in which the time would pass its end. -/
def execSecMax (s : State) : Result :=
  if timeMax ≤ s.tmk.time + s.advance40 then .next ((s.setTmk { s.tmk with time := timeMax }).tmkErr TMK_ERR_SEC_MAX)
  else .next s

end Sys2Proof.Machine
end

