-- ==== Sys2Proof/Machine/Clock.lean ====
section
/-! DEFINITION. One hub cycle in which no command acts: what the device counts by itself (log entry 2). -/

namespace Sys2Proof.Machine

open Reg

/-- The time advances by one hub cycle, and stops at its end (R497, R498). -/
def State.tickTime (s : State) : State :=
  let a := s.advance40
  let x := { s.tmk with steered := s.tmk.steered + a }
  if s.tmk.time = timeMax then s.setTmk x
  else if timeMax ≤ s.tmk.time + a then (s.setTmk { x with time := timeMax }).tmkErr TMK_ERR_SEC_MAX
  else s.setTmk { x with time := s.tmk.time + a }

/-- The Ostler tick counts one for each 1,000 hub cycles, and the DELAYED tasks that it makes due are to leave (R684,
R685). -/
def State.tickOstler (s : State) : State :=
  if s.ost.phase < 999 then s.setOst { s.ost with phase := s.ost.phase + 1 }
  else s.setOst { s.ost with
    phase := 0, tick := s.ost.tick + 1
    due := (s.ost.delay.takeWhile fun x => Nat.ble x.1 (s.ost.tick + 1)).map (·.2) }

/-- The watchdog of a core counts steered time (R6, R696). -/
def State.tickCore (s : State) (c : Nat) : State :=
  if s.wdtCounts c then s.setOst { s.ost with wdt := Sparse.put 0 s.ost.wdt c (Sparse.get 0 s.ost.wdt c + s.advance40) } else s

/-- The hub watchdog counts a crystal cycle in 40 hub cycles (R758). -/
def State.tickHwdt (s : State) : State :=
  if !s.hwdtCounts then s
  else if s.rst.phase < 39 then s.setRst { s.rst with phase := s.rst.phase + 1 }
  else s.setRst { s.rst with phase := 0, hwdt := s.rst.hwdt + 1 }

/-- Global set-reset is released 64 hub cycles after every clock was locked (R666). -/
def State.tickGsr (s : State) : State :=
  match s.cfg.lockedAt with
  | some t => if s.elapsed t 64 then s.setF CFG_STATE_GSR 0 else s
  | none => s

/-- DONE and BUSY of the units whose RESULT and ERR are written change (R24). -/
def State.tickMailboxes (s : State) : State :=
  (s.mbs.filter fun x => x.2.ended).foldl (fun t x => t.mbEnd x.1) s

/-- Firmware retrains a stack whose PHY domain is ON, at a moment that the spec does not give: it serves, and has left
self-refresh (R854, HBC_STAT fields). -/
def State.tickTraining (s : State) (d : Nat) : State :=
  if s.anyCore && s.domainOn (36 + d) && !s.flag (HBC_STAT_TRAINED d) && Config.retrained s.hub d then
    (s.setF (HBC_STAT_TRAINED d) 1).setF (HBC_STAT_SELF_REF d) 0
  else s

/-- One hub cycle. While power-on reset holds nothing counts; in RESET and in the drain before a warm reset no domain
changes. -/
def State.tick (s : State) : State :=
  if s.rst.por then s
  else
    let s1 := { s with hub := s.hub + 1 }.tickTime
    let s2 := if s1.ostOn then (List.range 16).foldl State.tickCore s1.tickOstler else s1
    let s3 := (List.range 4).foldl State.tickTraining ((s2.tickMailboxes).tickHwdt).tickGsr
    if s3.mode = Mode.reset ∨ s3.rst.stage ≠ 0 then s3 else s3.settlePower

end Sys2Proof.Machine
end

