-- ==== Sys2Proof/Machine/Acquire.lean ====
section
/-! DEFINITION. The commands of the trigger and acquisition engine (09_acquisition_trigger). -/

namespace Sys2Proof.Machine

open Reg

/-- The engine's state replaced. -/
def State.setAcq (s : State) (x : Acquisition) : State := { s with acq := x }

/-- A write of the capture configuration is dropped. -/
def State.cfgRej (s : State) : State := s.acqErr ACQ_ERR_CFG_REJ

/-! ### Taps (R456 to R460) -/

/-- The state-store values of a frame still stand in a cluster: it has not committed the next one (R457). -/
def State.tapLive (s : State) (c frame : Nat) : Bool :=
  (s.cl c).frame == frame || ((s.cl c).frame == frame + 1 && !(s.cl c).committed)

/-- The value recorded for a tap of the frame being collected (R457, R458). -/
def State.tapValue (s : State) (frame : Nat) (x : Nat × Nat) : Nat :=
  let c := slice x.2 0 11
  if slice x.2 11 2 = 1 ∧ s.tapLive c frame then
    let cl := s.cl c
    cl.stateValue (cl.selBit (slice x.2 13 15)) (slice x.2 13 15)
  else Sparse.get 3 s.acq.snap x.1

/-- The oldest frame, plus one, whose tap values wait in a cluster. -/
def oldestWait (l : Sparse Nat) : Option Nat := lowest (l.map (·.2))

/-- The row of a state-store tap is read (R125, R126). -/
def State.tapRead (s : State) (frame : Nat) (x : Nat × Nat) : State :=
  if slice x.2 11 2 = 1 ∧ s.tapLive (slice x.2 0 11) frame then s.readRows (slice x.2 0 11) [slice x.2 13 15] else s

/-- TAP_COLLECTION (R457 to R459). -/
def execTapCollection (s : State) : Result :=
  match oldestWait s.acq.wait with
  | some k =>
    let s1 := s.tapList.foldl (fun t x => t.tapRead (k - 1) x) s
    let vals := s1.tapList.map (s1.tapValue (k - 1))
    .next (s1.setAcq { s1.acq with
      collected := s1.acq.collected ++ [(k - 1, vals)]
      shown := vals
      wait := s1.acq.wait.filter fun kv => kv.2 != k })
  | none => .next s

/-! ### Pins (R461, R462, R466, R482, R487) -/

/-- A pin group is sampled. -/
def State.groupOn (s : State) (g : Nat) : Bool := bitOf (s.f ACQ_PIN_EN_EN) g

/-- A PIN record of an earlier frame in progress is cut short (R466). -/
def State.cutPins (s : State) : State :=
  let old := s.acq.pins.filter fun r => r.frame != s.frameNo
  old.foldl State.acqPin (s.setAcq { s.acq with pins := s.acq.pins.filter fun r => r.frame == s.frameNo })

/-- A PIN record with one more sample. -/
def addSample (g v : Nat) (r : PinRecord) : PinRecord := if r.group = g then { r with samples := r.samples ++ [v] } else r

/-- The instant of the next pin sample, if one falls in this hub cycle (R461): a whole multiple of 2^PDIV × 400 ps after
the last sample, as a time value. -/
def State.sampleDue (s : State) : Option Nat :=
  let step := 2 ^ (s.f ACQ_CTRL_PDIV + 1) * nsUnit
  let stop := s.tmk.time + s.advance40
  let low := if s.tmk.time ≤ s.acq.sampledAt ∧ s.acq.sampledAt < stop then s.acq.sampledAt + 1 else s.tmk.time
  let t := (5 * low + (step - 1)) / step * step / 5
  if t < stop then some t else none

/-- One sample of a group at an instant joins its record; a record of 48 is written (R466). -/
def State.samplePin (s : State) (t g v : Nat) : State :=
  let s1 :=
    if s.acq.pins.any fun r => r.group == g then s.setAcq { s.acq with pins := s.acq.pins.map (addSample g v) }
    else s.setAcq { s.acq with pins := s.acq.pins ++ [⟨g, s.frameNo, t, s.pinStepAt (t - s.tmk.time), [v]⟩] }
  let full := s1.acq.pins.filter fun r => Nat.ble 48 r.samples.length
  full.foldl State.acqPin (s1.setAcq { s1.acq with pins := s1.acq.pins.filter fun r => Nat.blt r.samples.length 48 })

/-- A pin comparator evaluates a sample (R482, R487). -/
def State.comparePin (s : State) (t levels i : Nat) : State :=
  let g := s.f (ACQ_CMP_CFG_SEL i)
  if s.f (ACQ_CMP_CFG_KIND i) = 2 ∧ g < 24 ∧ s.groupOn g then
    let r := s.compare16 i (slice levels (16 * g) 16)
    let new := r.1 && !bitOf s.acq.pinHit i
    s.setAcq { s.acq with
      prev := Sparse.put 0 s.acq.prev i r.2
      pinHit := if r.1 then putBit s.acq.pinHit i true else s.acq.pinHit
      pinFirst := if new then Sparse.put (0, 0) s.acq.pinFirst i (t, s.pinStepAt (t - s.tmk.time)) else s.acq.pinFirst }
  else s

/-- PIN_SAMPLE (R461, R462, R835): the levels of the pins, and the next sample of this hub cycle, if one is due. -/
def execPinSample (levels : BitVec 384) (s : State) : Result :=
  let n := s.pinLevels levels.toNat
  let s := { s with fab := { s.fab with pins := n } }
  match s.sampleDue with
  | some t =>
    if s.capturing then
      let s0 := s.setAcq { s.acq with sampledAt := t }
      let s1 := (List.range 24).foldl (fun u g => if u.groupOn g then u.samplePin t g (slice n (16 * g) 16) else u) s0.cutPins
      .next ((List.range 32).foldl (fun u i => u.comparePin t n i) s1)
    else .next s
  | none => .next s

/-! ### Frame points (R482 to R488) -/

/-- Eight taps of a frame as 16 bits: a tap beyond NTAP, or one with no value, reads X. -/
def tapWord (vals : List Nat) (sel : Nat) : Nat := packValues 2 ((List.range 8).map fun t => vals.getD (sel + t) 3)

/-- What comparator i gives at a frame point, and its next previous evaluation (R487). -/
def State.compareAt (s : State) (p : PointWait) (vals : List Nat) (i : Nat) : Bool × Nat :=
  let sel := s.f (ACQ_CMP_CFG_SEL i)
  let ne := s.flag (ACQ_CMP_CFG_OP i)
  let old := Sparse.get 0 s.acq.prev i
  match s.f (ACQ_CMP_CFG_KIND i) with
  | 1 => s.compare16 i (tapWord vals sel)
  | 2 => (bitOf p.pins i, old)
  | 3 => ((Nat.ble (s.f64 ACQ_CMP_FRAME) p.frame) != ne, old)
  | 4 => ((Nat.blt sel 16 && bitOf p.brks sel) != ne, old)
  | _ => compareEdge ne (s.f (ACQ_CMP_CFG_EDGE i)) false 0 old

/-- The comparator vector M, with every previous evaluation brought up to date. -/
def State.compareAll (s : State) (p : PointWait) (vals : List Nat) : Nat × State :=
  (List.range 32).foldl (fun r i =>
    let x := r.2.compareAt p vals i
    (putBit r.1 i x.1, r.2.setAcq { r.2.acq with prev := Sparse.put 0 r.2.acq.prev i x.2 })) (0, s)

/-- The condition of a sequencer state (R488). -/
def State.seqCond (s : State) (m st : Nat) : Bool :=
  let mask := (s.reg (ACQ_ST_MASK st)).toNat
  if s.flag (ACQ_ST_CFG_OP st) then m &&& mask != 0 else m &&& mask == mask

/-- One act of the sequencer (R488): it fires, and its new state. -/
def State.seqAct (s : State) (m : Nat) : Bool × State :=
  let st := s.f ACQ_STATUS_SEQ_STATE
  if !s.seqCond m st then (false, s)
  else
    let k := s.f (ACQ_ST_CFG_CNT_SEL st)
    let counts := s.flag (ACQ_ST_CFG_CNT_EN st)
    let n := min ((s.reg (ACQ_CNT k)).toNat + 1) 0xFFFFFFFF
    let s1 := if counts then s.setNat (ACQ_CNT k) n else s
    if counts ∧ n < max 1 (s.reg (ACQ_CNT_LIM k)).toNat then (false, s1)
    else
      let nx := s.f (ACQ_ST_CFG_NEXT st)
      let s2 := s1.setF ACQ_STATUS_SEQ_STATE nx
      (s.flag (ACQ_ST_CFG_TRIG st),
        if s.flag (ACQ_ST_CFG_CLR nx) then s2.setNat (ACQ_CNT (s.f (ACQ_ST_CFG_CNT_SEL nx))) 0 else s2)

/-- The first matching sample of the pin comparators that a firing state looks at: time and pin step (table of R464). -/
def State.pinCause (s : State) (p : PointWait) (m st : Nat) : Option (Nat × Nat) :=
  let mask := (s.reg (ACQ_ST_MASK st)).toNat
  let hits := (List.range 32).filter fun i => bitOf (m &&& mask) i && s.f (ACQ_CMP_CFG_KIND i) == 2
  (hits.map fun i => Sparse.get (0, 0) p.first i).foldl (fun best x =>
    match best with
    | none => some x
    | some b => if x.1 < b.1 then some x else some b) none

/-- The trigger kind at a frame point in WAIT (R483): 3 SOFT, 2 IMMEDIATE, 0 SEQ, 1 AUTO. -/
def State.triggerKind (s : State) (fired : Bool) : Option Nat :=
  let mode := s.f ACQ_CTRL_MODE
  if s.acq.force then some 3
  else if mode = 2 then some 2
  else if fired then some 0
  else if mode = 1 ∧ s.elapsedSteered s.acq.armAt ((s.reg ACQ_AUTO_US).toNat * 1000) then some 1
  else none

/-- The trigger is taken at frame T (R467, R484). -/
def State.trigger (s : State) (p : PointWait) (kind st m : Nat) : State :=
  let cause := if kind = 0 then s.pinCause p m st else none
  let when_ := cause.getD (p.time, s.frameLen)
  let at_ := s.acq.tail
  let s1 := s.acqAppend 3 when_.2 st p.frame when_.1 0 (bytesLE 4 m ++ bytesLE 28 kind)
  let pre := s.f ACQ_DEPTH_PRE
  let first := s1.acq.starts.head?.getD (at_, p.frame)
  let keep := (s1.acq.starts.find? fun x => Nat.ble p.frame (x.2 + pre)).getD (at_, p.frame)
  let s2 := ((s1.set64 ACQ_TRIG_PTR at_).set64 ACQ_TRIG_FRAME p.frame).set64 ACQ_OLDEST keep.1
  let s3 := if p.frame < first.2 + pre then s2.setF ACQ_STATUS_PRE_SHORT 1 else s2
  let s4 := s3.setAcq { s3.acq with starts := s3.acq.starts.filter fun x => Nat.ble keep.1 x.1 }
  (((s4.setF ACQ_STATUS_TRIGGERED 1).setF ACQ_STATUS_KIND kind).setF ACQ_STATUS_STATE 2).fire 16

/-- The sequencer and the trigger at a frame point in WAIT (R483, R488). -/
def State.waitPoint (s : State) (p : PointWait) (m : Nat) : State :=
  let st := s.f ACQ_STATUS_SEQ_STATE
  let r := s.seqAct m
  match r.2.triggerKind r.1 with
  | some k => r.2.trigger p k st m
  | none => r.2

/-- The TAP record of a frame (R460, R464, R465). -/
def State.tapRecord (s : State) (p : PointWait) (vals : List Nat) : State :=
  if s.capturing && s.flag ACQ_CTRL_TAP_EN && !s.acq.skipped.contains p.frame then
    let n := s.f ACQ_TAP_NUM_NTAP
    s.acqAppend 1 s.frameLen 0 p.frame p.time 0 (bytesLE (32 * ((n + 127) / 128)) (packValues 2 (vals.take n)))
  else s

/-- The values collected for a frame; X for every tap where none was (R495). -/
def State.collectedOf (s : State) (frame : Nat) : List Nat :=
  match s.acq.collected.find? fun x => x.1 == frame with
  | some x => x.2
  | none => List.replicate (s.f ACQ_TAP_NUM_NTAP) 3

/-- FRAME_POINT (R482 to R488). -/
def execFramePoint (s : State) : Result :=
  match s.acq.points with
  | [] => .next s
  | p :: rest =>
    if s.acq.wait.any fun kv => kv.2 == p.frame + 1 then .next s
    else
      let vals := s.collectedOf p.frame
      let s1 := s.tapRecord p vals
      let r := s1.compareAll p vals
      let s2 := if r.2.f ACQ_STATUS_STATE = 1 then r.2.waitPoint p r.1 else r.2
      let s3 := s2.setAcq { s2.acq with
        force := false
        points := rest
        collected := s2.acq.collected.filter fun x => Nat.blt p.frame x.1
        skipped := s2.acq.skipped.filter fun n => Nat.blt p.frame n }
      let last := s3.f64 ACQ_TRIG_FRAME + s3.f ACQ_DEPTH_POST
      .next (if s3.f ACQ_STATUS_STATE = 2 ∧ last ≤ p.frame then s3.acqEnd 1 last else s3)

/-! ### Storage (R472) -/

/-- The pseudo-channel of the next block of the stream: die and number (R471). -/
def State.blockTarget (s : State) : Nat × Nat :=
  let j := s.f64 ACQ_WR_PTR % max 1 (s.f64 ACQ_CAP) / 64
  (j % 128 / 32, j % 32)

/-- ACQ_BLOCK_WRITE (R471, R472): a whole block leaves the staging buffer, in a window of its pseudo-channel that
acquisition may use. -/
def execAcqBlockWrite (s : State) : Result :=
  let x := s.blockTarget
  let c := s.ctl x.1
  if 64 ≤ s.acq.stage.length ∧ Sparse.get 0 c.acqSlot x.2 = 1 then
    .next (s.setCtl x.1 { c with acqSlot := Sparse.put 0 c.acqSlot x.2 0 }).blockOut
  else .next s

/-! ### ACQ_CTRL (R475 to R479, R483) -/

/-- The four acquisition bases agree and leave room (R476). -/
def State.acqBases (s : State) : Bool :=
  let b := s.f (HBC_ACQ_BASE_BASE 0)
  [1, 2, 3].all (fun d => s.f (HBC_ACQ_BASE_BASE d) == b) && b != 0xB00000

/-- ARM (R476, R477). -/
def State.acqArmNow (s : State) : State :=
  if s.capturing || !(s.mode == Mode.idle || s.framesMode) || !s.acqBases then s.acqErr ACQ_ERR_ARM_REJ
  else
    let a := s.acq
    let s1 := s.setAcq { a with
      stage := [], tail := 0, starts := [], gap := false, pins := [], armAt := s.tmk.steered, force := false, prev := []
      pinHit := 0, pinFirst := [], points := a.points.map fun p => { p with pins := 0, first := [] } }
    let s2 := [ACQ_WR_PTR, ACQ_OLDEST, ACQ_TRIG_PTR, ACQ_TRIG_FRAME].foldl (fun t o => t.set64 o 0) s1
    let s3 := [0, 1, 2, 3].foldl (fun t k => t.setNat (ACQ_CNT k) 0) s2
    let s4 := s3.set64 ACQ_CAP (8192 * (11534336 - s.f (HBC_ACQ_BASE_BASE 0)))
    let s5 := (((s4.setF ACQ_STATUS_TRIGGERED 0).setF ACQ_STATUS_SEQ_STATE 0).setF ACQ_STATUS_PRE_SHORT 0).setF
      ACQ_STATUS_STOP_CAUSE 0
    (s5.setF ACQ_STATUS_STATE (if s.f ACQ_CTRL_MODE = 3 then 4 else 1)).acqMark 1 s.frameNo

/-- A write of ACQ_CTRL (R475, R479). -/
def State.acqCtrl (s : State) (v : Nat) : State :=
  let s1 :=
    if s.capturing then s.cfgRej
    else ((s.setF ACQ_CTRL_MODE (slice v 0 2)).setF ACQ_CTRL_TAP_EN (slice v 5 1)).setF ACQ_CTRL_PDIV (slice v 8 3)
  let s2 := if bitOf v 3 then s1.acqEnd 2 s1.frameNo else s1
  let s3 := if bitOf v 2 then s2.acqArmNow else s2
  if bitOf v 4 ∧ s3.f ACQ_STATUS_STATE = 1 then s3.setAcq { s3.acq with force := true } else s3

/-- ACQ_ARM (R475 to R477). -/
def execAcqArm (p : Path) (v : Word) (s : State) : Result := .next (s.onWrite p ACQ_CTRL fun s => s.acqCtrl v.toNat)

/-- ACQ_STOP (R475, R478). -/
def execAcqStop (p : Path) (v : Word) (s : State) : Result := .next (s.onWrite p ACQ_CTRL fun s => s.acqCtrl v.toNat)

/-- FORCE (R475, R483). -/
def execForce (p : Path) (v : Word) (s : State) : Result := .next (s.onWrite p ACQ_CTRL fun s => s.acqCtrl v.toNat)

/-- A register of the capture configuration (R479, and the sequencer, comparator and counter registers). -/
def isAcqConfig (off : Nat) : Bool :=
  off == ACQ_CTRL || off == ACQ_DEPTH || off == ACQ_AUTO_US || off == ACQ_PIN_EN || off == ACQ_CMP_FRAME ||
    off == ACQ_CMP_FRAME + 4 || off == ACQ_SKEW_CFG || (Nat.ble 0xB00100 off && Nat.blt off 0xB00320)

/-- A write of a register of the capture configuration. -/
def State.acqConfig (s : State) (p : Path) (off : Nat) (v : Word) : State :=
  if off = ACQ_CTRL then s.acqCtrl v.toNat
  else if off = ACQ_SKEW_CFG then
    let s1 := if bitOf v.toNat 0 then s else s.skewRestart
    if slice v.toNat 4 4 < 4 then (s1.setF ACQ_SKEW_CFG_EN (slice v.toNat 0 1)).cfgRej else s1.writeBits off v
  else if s.capturing then s.cfgRej
  else if off = ACQ_AUTO_US ∧ v = 0 then s.cfgRej
  else s.writeReg p off v

/-- ACQ_CONFIG_WRITE (R479). -/
def execAcqConfigWrite (p : Path) (off : WinOff) (v : Word) (s : State) : Result :=
  .next (s.onWrite p off.toNat fun s => if isAcqConfig off.toNat then s.acqConfig p off.toNat v else s)

/-! ### The tap table -/

/-- A tap names something: KIND, INDEX in its store, and a mapped cluster. -/
def State.tapOk (s : State) (v : Nat) : Bool :=
  let kind := slice v 11 2
  let index := slice v 13 15
  s.isMapped (slice v 0 11) && Nat.blt (slice v 0 11) 1088 &&
    ((kind == 0 && Nat.blt index 4096) || kind == 1 || (kind == 2 && Nat.blt index 16))

/-- The tap table may be written by software. -/
def State.tapOpen (s : State) : Bool := s.mode == Mode.idle && !s.capturing && !s.mbBusyNow 0

/-- ENTRY increments under AUTOINC. -/
def State.tapNext (s : State) : State :=
  if s.flag ACQ_TAP_ADDR_AUTOINC then s.setF ACQ_TAP_ADDR_ENTRY (s.f ACQ_TAP_ADDR_ENTRY + 1) else s

/-- A write of ACQ_TAP_DATA or ACQ_TAP_NUM. -/
def State.tapWrite (s : State) (off v : Nat) : State :=
  if off = ACQ_TAP_NUM then
    (if s.tapOpen && Nat.ble (slice v 0 15) 16384 then s.setF ACQ_TAP_NUM_NTAP (slice v 0 15) else s.cfgRej)
  else if off = ACQ_TAP_DATA then
    (if s.tapOpen && s.tapOk v then
      (s.setAcq { s.acq with taps := Sparse.put 0 s.acq.taps (s.f ACQ_TAP_ADDR_ENTRY) (slice v 0 28) }).tapNext
    else s.cfgRej)
  else s

/-- TAP_TABLE_WRITE (R456, tap table access). -/
def execTapTableWrite (p : Path) (off : WinOff) (v : Word) (s : State) : Result :=
  .next (s.onWrite p off.toNat fun s => s.tapWrite off.toNat v.toNat)

/-! ### Skew calibration (R489 to R491) -/

/-- A quotient rounded, halves away from zero. -/
def roundDiv (a : Int) (n : Nat) : Int :=
  if 0 ≤ a then ((2 * a + n) / (2 * n : Nat) : Int) else -((2 * (-a) + n) / (2 * n : Nat) : Int)

/-- The update of a pin's delay from a mean offset (R490). -/
def State.stepDelay (s : State) (pin : Nat) (m : Int) : State :=
  let dly := s.f (ACQ_PIN_DLY_DLY pin)
  let new := if 0 < m ∧ 0 < dly then dly - 1 else if m < 0 ∧ dly < 63 then dly + 1 else dly
  (((s.setF (ACQ_PIN_DLY_OFS pin) (unsigned 8 m)).setF (ACQ_PIN_DLY_LOCK pin) (if m = 0 then 1 else 0)).setF
    (ACQ_PIN_DLY_DLY pin) new).setF (ACQ_PIN_DLY_SAT pin) (if m ≠ 0 ∧ (new = 0 ∨ new = 63) then 1 else 0)

/-- SKEW_EDGE_PAIR (R490): edges within 200 ps, in units of 6.25 ps. -/
def execSkewEdgePair (pin : Fin 384) (dt : Int) (s : State) : Result :=
  let p := pin.val
  if s.flag ACQ_SKEW_CFG_EN && s.flag (ACQ_PIN_DLY_CAL_EN p) && s.f (ACQ_PIN_DLY_REF p) != p &&
      s.flag CFG_STATE_CONFIGURED && decide (-32 ≤ dt ∧ dt ≤ 32) then
    let old := Sparse.get (0, 0) s.acq.skew p
    let x : Int × Nat := (old.1 + dt, old.2 + 1)
    if x.2 = 2 ^ s.f ACQ_SKEW_CFG_AVG_LOG2 then
      .next ((s.setAcq { s.acq with skew := Sparse.put (0, 0) s.acq.skew p (0, 0) }).stepDelay p (roundDiv x.1 x.2))
    else .next (s.setAcq { s.acq with skew := Sparse.put (0, 0) s.acq.skew p x })
  else .next s

/-- A write of ACQ_PIN_DLY (R491, ACQ_PIN_DLY fields). -/
def State.pinDly (s : State) (pin v : Nat) : State :=
  let ref := slice v 8 9
  let cal := s.flag (ACQ_PIN_DLY_CAL_EN pin)
  let s1 := if cal then s.cfgRej else s.setF (ACQ_PIN_DLY_DLY pin) (slice v 0 6)
  let s2 := if 383 < ref then s1.cfgRej else s1.setF (ACQ_PIN_DLY_REF pin) ref
  let s3 := s2.setF (ACQ_PIN_DLY_CAL_EN pin) (slice v 6 1)
  if cal = bitOf v 6 ∧ s1.f (ACQ_PIN_DLY_REF pin) = s2.f (ACQ_PIN_DLY_REF pin) then s3
  else s3.setAcq { s3.acq with skew := Sparse.put (0, 0) s3.acq.skew pin (0, 0) }

/-- PIN_DLY_WRITE (R491). -/
def execPinDlyWrite (p : Path) (pin : Fin 384) (v : Word) (s : State) : Result :=
  .next (s.onWrite p (ACQ_PIN_DLY pin) fun s => s.pinDly pin v.toNat)

/-! ### COPY (R492, R493) -/

/-- The refusal of a COPY, or its no-op (R29, R492). -/
def State.copyRefusal (s : State) : Option Nat :=
  let src := s.f64 ACQ_MB_SRC
  let len := (s.reg ACQ_MB_LEN).toNat
  let dst := s.f64 ACQ_MB_DST
  if len = 0 then some 0
  else if src % 32 ≠ 0 ∨ len % 32 ≠ 0 ∨ dst % 32 ≠ 0 ∨ !inCarve dst len then some 2
  else if s.f64 ACQ_WR_PTR < src + len then some 1
  else if src < s.f64 ACQ_OLDEST then some 8
  else none

/-- COPY (R492). -/
def State.acqCopy (s : State) : State :=
  match s.copyRefusal with
  | some e => s.mbFinish 5 e 0 0
  | none =>
    let src := s.f64 ACQ_MB_SRC
    let len := (s.reg ACQ_MB_LEN).toNat
    let s1 := s.carveWrite (s.f64 ACQ_MB_DST) (s.streamRead src len)
    (s1.setAcq { s1.acq with copySrc := src, copyDst := s.f64 ACQ_MB_DST }).mbFinish 5 0 len 0

/-- COPY (R492, R493). -/
def execCopy (p : Path) (s : State) : Result := .next (s.onWrite p ACQ_MB_CMD fun s => s.mbCommand 5 1 State.acqCopy)

/-- Free bytes from a count on. -/
def freeBytes (from_ : Nat) : Nat → List Byte
  | 0 => []
  | n + 1 => Config.freeByte from_ :: freeBytes (from_ + 1) n

/-- The end of a COPY (R493): bytes that the stream has overwritten in the meantime are undefined. -/
def State.copyEnd (s : State) : State :=
  let m := Sparse.get Mailbox.reset s.mbs 5
  let len := m.res0.toNat
  let old := s.f64 ACQ_OLDEST
  if m.err = 0 ∧ len ≠ 0 ∧ s.acq.copySrc < old then
    let n := min len (old - s.acq.copySrc)
    let s1 := s.carveWrite s.acq.copyDst (freeBytes s.free n)
    ({ s1 with free := s.free + n }).mbFinish 5 9 len 0
  else s

end Sys2Proof.Machine
end

