-- ==== Sys2Proof/Machine/Casornol.lean ====
section
/-! DEFINITION. The Casornol instructions (03_casornol_isa): each is one processor's issue in the step in progress. -/

namespace Sys2Proof.Machine

/-- NOP (R151). -/
def execNop (c : ClusterId) (k : Fin 64) (s : State) : Result := .next (s.processor c k .nop)

/-- EVAL (R157). -/
def execEval (c : ClusterId) (k : Fin 64) (dest : BitVec 12) (tt : BitVec 16) (a b cc d : BitVec 14) (s : State) :
    Result :=
  .next (s.processor c k (.eval false dest.toNat tt.toNat a.toNat b.toNat cc.toNat d.toNat))

/-- EVAL4S (R158, R159). -/
def execEval4s (c : ClusterId) (k : Fin 64) (dest : BitVec 12) (tt : BitVec 16) (a b cc d : BitVec 14) (s : State) :
    Result :=
  .next (s.processor c k (.eval true dest.toNat tt.toNat a.toNat b.toNat cc.toNat d.toNat))

/-- LATCH (R160 to R162). -/
def execLatch (c : ClusterId) (k : Fin 64) (m4 netw : Bool) (dest : BitVec 12) (tt : BitVec 16)
    (a b cc d : BitVec 14) (s : State) : Result :=
  .next (s.processor c k (.latch m4 netw dest.toNat tt.toNat a.toNat b.toNat cc.toNat d.toNat))

/-- MUXW (R163 to R168). -/
def execMuxw (c : ClusterId) (k : Fin 64) (m4 stride : Bool) (dest : BitVec 12) (tt : BitVec 16)
    (a b cc d : BitVec 14) (s : State) : Result :=
  .next (s.processor c k (.muxw m4 stride dest.toNat tt.toNat a.toNat b.toNat cc.toNat d.toNat))

/-- SEND (R169 to R171). -/
def execSend (c : ClusterId) (k : Fin 64) (m4 : Bool) (dest : BitVec 12) (a : BitVec 14) (s : State) : Result :=
  .next (s.processor c k (.send m4 dest.toNat a.toNat))

/-- MEM with WR = 0 (R173 to R177, R182). -/
def execMemRead (c : ClusterId) (k : Fin 64) (m4 : Bool) (dest : BitVec 12) (tt : BitVec 16) (a : BitVec 14)
    (s : State) : Result :=
  .next (s.processor c k (.memRead m4 dest.toNat tt.toNat a.toNat))

/-- MEM with WR = 1 (R173 to R175, R178, R179, R182). -/
def execMemWrite (c : ClusterId) (k : Fin 64) (m4 : Bool) (tt : BitVec 16) (a b cc : BitVec 14) (s : State) : Result :=
  .next (s.processor c k (.memWrite m4 tt.toNat a.toNat b.toNat cc.toNat))

/-- SPECIAL WIN (R184). -/
def execWin (c : ClusterId) (k : Fin 64) (tt : BitVec 16) (s : State) : Result :=
  .next (s.processor c k (.win tt.toNat))

/-- SPECIAL PROBE (R185). -/
def execProbe (c : ClusterId) (k : Fin 64) (dest : BitVec 12) (a : BitVec 14) (s : State) : Result :=
  .next (s.processor c k (.probe dest.toNat a.toNat))

/-- SPECIAL BREAK (R188). -/
def execBrk (c : ClusterId) (k : Fin 64) (tt : BitVec 16) (a : BitVec 14) (s : State) : Result :=
  .next (s.processor c k (.brk tt.toNat a.toNat))

/-- SPECIAL with a reserved OP (R189). -/
def execReservedSpecial (c : ClusterId) (k : Fin 64) (s : State) : Result := .next (s.processor c k .reserved)

end Sys2Proof.Machine
end

