-- ==== Sys2Proof/Machine/Ford.lean ====
section
/-! DEFINITION. The commands of Ford (12_ford_twin): role requests, the messages of the Ford link, timeouts, the checkpoint
and the pacing gap. -/

namespace Sys2Proof.Machine

open Reg

/-! ### Role requests (R586, R588) -/

/-- The Ford link is up (R557, R581). -/
def State.fordUp (s : State) : Bool := s.groupUp (s.f FRD_CFG_LANE)

/-- A PAIR message naming a requested role (table of Ford messages). -/
def State.pairMessage (s : State) (req : Nat) : List Byte :=
  fordMessage 4 0 s.frameNo (bytesLE 4 req ++ bytesLE 4 (s.reg BLT_IMG_CRC).toNat ++ bytesLE 1 (s.f BLT_LOADED_FLEN) ++
    bytesLE 1 (s.role + 4 * s.f FRD_CFG_JNL_EN) ++ bytesLE 6 0 ++ bytesLE 8 (s.f64 FRD_SSIG) ++ bytesLE 8 0)

/-- A request is refused with a code of R586. -/
def State.roleRefuse (s : State) (code : Nat) : State :=
  let s1 := (s.frdErr FRD_ERR_REQ_REJ).setF FRD_STATUS_REQ_ERR code
  s1.setFrd { s1.frd with req := 0 }

/-- A role request (table of role requests): PAIR goes out while it is pending. -/
def State.roleRequest (s : State) (r : Nat) : State :=
  if r = 0 then s
  else if s.mode ≠ Mode.idle ∨ s.role ≠ 0 ∨ !s.flag DEV_MODE_PROG_VALID then s.roleRefuse 1
  else if !s.fordUp then s.roleRefuse 2
  else (s.setFrd { s.frd with req := r, reqAt := s.tmk.steered, pairAt := s.tmk.steered }).fordSend (s.pairMessage r)

/-- A role request is accepted (R587, and the table of role requests). -/
def State.roleAccept (s : State) (r : Nat) : State :=
  let s1 := (((s.setRole r).setF FRD_STATUS_REQ_ERR 0).setF FRD_STATUS_EVICTED 0).setCkpt 0
  s1.setFrd { s1.frd with
    req := 0, digests := [], peer := [], peerHalted := false, gateFrom := s1.frameNo, inputs := [], modes := []
    lastIn := s1.frameNo + 1, joinSent := false, joinNext := false, mismatch := false, frozen := false, pubFrom := 0 }

/-- The fields of a PAIR message. -/
structure Pair where
  /-- Role requested. -/
  req : Nat
  /-- BLT_IMG_CRC. -/
  crc : Nat
  /-- FLEN. -/
  flen : Nat
  /-- Current role. -/
  role : Nat
  /-- JNL_EN. -/
  jnlEn : Bool
  /-- SSIG. -/
  ssig : Nat
  /-- FRAME_NO. -/
  frame : Nat
  deriving DecidableEq, Repr

/-- The image and FLEN of a PAIR are those of this device. -/
def State.samePair (s : State) (x : Pair) : Bool :=
  x.crc == (s.reg BLT_IMG_CRC).toNat && x.flen == s.f BLT_LOADED_FLEN

/-- A PAIR is received while a role request is pending: accepted, refused, or no decision yet (R586, R588). -/
def State.pairDecide (s : State) (x : Pair) : State :=
  let r := s.frd.req
  if s.mode ≠ Mode.idle ∨ s.role ≠ 0 ∨ !s.flag DEV_MODE_PROG_VALID then s.roleRefuse 1
  else if r = 3 then
    if x.req ≠ 0 ∨ x.role ≠ 0 ∨ !x.jnlEn then s.roleRefuse 5
    else if s.samePair x then s.roleAccept 3
    else s.roleRefuse 3
  else if x.req = 3 - r then
    if s.samePair x && x.frame == s.frameNo && x.ssig == s.f64 FRD_SSIG then
      (s.fordSend (s.pairMessage r)).roleAccept r
    else s.roleRefuse 3
  else if x.req ≠ 0 ∨ (x.role ≠ 0 ∧ x.role ≠ 3 - r) then s.roleRefuse 5
  else s

/-- A PAIR message (R588). -/
def State.takePair (s : State) (x : Pair) : State :=
  if s.frd.req = 0 then
    let s1 := s.fordSend (s.pairMessage 0)
    if x.req = 3 ∧ s.role = 0 ∧ s.flag FRD_CFG_JNL_EN ∧ s.samePair x then s1.setFrd { s1.frd with catchup := true } else s1
  else s.pairDecide x

/-- DETACH (R600): at once while no frame runs. -/
def State.detachNow (s : State) : State :=
  if s.role = 0 then s.roleRefuse 1
  else if s.seq.inFrame then s.setFrd { s.frd with detach := true }
  else ((s.fordSend (fordMessage 6 0 s.frameNo [])).separate 1 true).tryRelease

/-! ### The checkpoint on the survivor (R603 to R605, R612) -/

/-- Every block of the placed memories, as a set of dirty blocks. -/
def State.allBlocks (s : State) : Sparse Nat :=
  let keys := s.blt.mems.map fun m =>
    (List.range (memNblk (s.memEntry m.stack m.mid))).map fun b => m.index * 268435456 + b
  (sortBy Nat.ble keys.flatten).map fun k => (k, 1)

/-- Every group of 28 words of the mapped clusters' SRAM, as a set of dirty groups. -/
def State.allGroups (s : State) : Sparse Nat :=
  let vs := sortBy Nat.ble (s.mapped.map fun c => s.f (CLU_VMAP_VIRT_ID c))
  ((vs.map fun v => (List.range 1171).map fun g => v * 2048 + g).flatten).map fun k => (k, 1)

/-- CKPT_GO (R603). -/
def State.ckptStart (s : State) : State :=
  if s.role = 0 ∧ s.frd.catchup ∧ s.frameNo < s.f64 FRD_CKPT_FRAME then
    (s.setFrd { s.frd with
      ckpt := some (s.f64 FRD_CKPT_FRAME), dirtyHbm := s.allBlocks, dirtySram := s.allGroups }).setCkpt 1
  else s.frdErr FRD_ERR_CKPT_FAIL

/-- The catch-up fails on this device (R612): on the CATCHUP device, or on the survivor, whose release no longer waits. -/
def State.fordFail (s : State) : State :=
  if s.role = 3 then s.catchupFail
  else if s.role = 0 ∧ (s.frd.catchup ∨ s.frd.ckpt.isSome) then
    (s.survivorFail.setFrd { s.survivorFail.frd with pace := none }).tryRelease
  else s

/-- A write of FRD_CTRL. -/
def State.frdCtrl (s : State) (v : Nat) : State :=
  let s1 := s.roleRequest (slice v 0 2)
  let s2 := if bitOf v 2 then s1.detachNow else s1
  let s3 := if bitOf v 3 then s2.ckptStart else s2
  if bitOf v 4 then s3.fordFail else s3

/-- ROLE_REQ_PRIMARY (R586, R588). -/
def execRoleReqPrimary (p : Path) (v : Word) (s : State) : Result := .next (s.onWrite p FRD_CTRL fun s => s.frdCtrl v.toNat)

/-- ROLE_REQ_SHADOW (R586, R588). -/
def execRoleReqShadow (p : Path) (v : Word) (s : State) : Result := .next (s.onWrite p FRD_CTRL fun s => s.frdCtrl v.toNat)

/-- ROLE_REQ_CATCHUP (R586, R588). -/
def execRoleReqCatchup (p : Path) (v : Word) (s : State) : Result := .next (s.onWrite p FRD_CTRL fun s => s.frdCtrl v.toNat)

/-- DETACH (R600). -/
def execDetach (p : Path) (v : Word) (s : State) : Result := .next (s.onWrite p FRD_CTRL fun s => s.frdCtrl v.toNat)

/-- CKPT_GO (R603). -/
def execCkptGo (p : Path) (v : Word) (s : State) : Result := .next (s.onWrite p FRD_CTRL fun s => s.frdCtrl v.toNat)

/-- CKPT_ABORT (R612). -/
def execCkptAbort (p : Path) (v : Word) (s : State) : Result := .next (s.onWrite p FRD_CTRL fun s => s.frdCtrl v.toNat)

/-- FRD_DTO.WAIT_US in ns; 0 acts as 1. -/
def State.fordWait (s : State) : Nat := max 1 (s.f FRD_DTO_WAIT_US) * 1000

/-- PAIR_REPEAT (R588). -/
def execPairRepeat (s : State) : Result :=
  if s.frd.req ≠ 0 ∧ s.elapsedSteered s.frd.pairAt 100000 then
    .next ((s.setFrd { s.frd with pairAt := s.tmk.steered }).fordSend (s.pairMessage s.frd.req))
  else .next s

/-- PAIR_RECEIVE (R586, R588). -/
def execPairReceive (req : BitVec 2) (crc : Word) (flen : Byte) (role : BitVec 2) (jnlEn : Bool) (ssig frame : BitVec 64)
    (s : State) : Result :=
  .next (s.takePair ⟨req.toNat, crc.toNat, flen.toNat, role.toNat, jnlEn, ssig.toNat, frame.toNat⟩)

/-- PAIR_TIMEOUT (R586). -/
def execPairTimeout (s : State) : Result :=
  if s.frd.req ≠ 0 ∧ s.elapsedSteered s.frd.reqAt s.fordWait then .next (s.roleRefuse 4) else .next s

/-! ### Messages -/

/-- A stream error (R589, R612). -/
def State.streamError (s : State) : State := (s.frdErr FRD_ERR_STREAM).fordFail

/-- An INPUT message (R596, R608, R609). -/
def State.takeInput (s : State) (frame : Nat) (join : Bool) (words : List Nat) : State :=
  if s.role < 2 then s
  else if frame ≠ s.frd.lastIn then s.streamError
  else
    (s.setFrd { s.frd with inputs := s.frd.inputs ++ [⟨frame, join, words⟩], lastIn := frame + 1 }).tryRelease

/-- INPUT (R596, R608, R609). -/
def execInput (frame : BitVec 64) (join : Bool) (words : List Syl) (s : State) : Result :=
  .next (s.takeInput frame.toNat join (words.map (·.toNat)))

/-- The HALTED flag of the partner's last DIGEST suspends the gate wait, or lets it run on (R598). -/
def State.notePeerHalt (s : State) (halted : Bool) : State :=
  if s.frd.peerHalted = halted then s
  else s.setFrd { s.frd with peerHalted := halted, gate := s.frd.gate.map fun t => s.tmk.steered - t }

/-- The FRAME_NO of a DIGEST fits: the partner cannot have folded a later frame (R595, R596, R608). -/
def State.digestFits (s : State) (frame : Nat) : Bool :=
  if s.role = 1 then Nat.ble frame s.frameNo
  else if s.role = 2 then Nat.blt frame s.frd.lastIn
  else frame + 1 == s.frd.lastIn

/-- A DIGEST message (R594, R598, R609). -/
def State.takeDigest (s : State) (frame : Nat) (halted : Bool) (dig : Nat) : State :=
  if s.role = 0 then s
  else if !s.digestFits frame then s.streamError
  else
    let s1 := s.notePeerHalt halted
    let s2 := s1.setFrd { s1.frd with peer := ((frame, dig) :: s1.frd.peer.filter fun x => x.1 != frame).take 16 }
    let s3 := if (s2.frd.digests.head?.map (·.1)) = some frame then s2.set64 FRD_PDIG dig else s2
    if s3.digestsDiffer frame then (if s3.role = 3 then s3.catchupFail else (s3.digestMismatch frame).tryRelease)
    else s3.tryRelease

/-- DIGEST (R594, R598, R609). -/
def execDigest (frame : BitVec 64) (halted : Bool) (dig _ssig : BitVec 64) (s : State) : Result :=
  .next (s.takeDigest frame.toNat halted dig.toNat)

/-- A MODE message (R78, R81, R596): at once while the shadow has no frame in progress and its last committed frame is the
one named, or when it is held and the target is IDLE; a CATCHUP device keeps it for its entry to the SHADOW role. -/
def State.takeMode (s : State) (frame target : Nat) (check : Bool) : State :=
  if s.role < 2 then s
  else if frame < s.frameNo ∨ target < 3 ∨ 6 < target then s.streamError
  else if s.role = 2 ∧ target = Mode.idle ∧ s.flag DEV_MODE_HOLD then s.toIdle 0
  else if s.role = 2 ∧ frame = s.frameNo ∧ !s.seq.inFrame then
    let s1 := s.followMode target check
    if s1.framesMode then s1.followWait else s1
  else s.setFrd { s.frd with modes := s.frd.modes ++ [(frame, target, check)] }

/-- MODE (R596). -/
def execMode (frame : BitVec 64) (target : BitVec 3) (check : Bool) (s : State) : Result :=
  .next (s.takeMode frame.toNat target.toNat check)

/-- A JOIN message (R611): the frame its sender has committed is one whose INPUT it has been sent, or FRAME_NO does not fit
(R589). -/
def State.takeJoin (s : State) (frame : Nat) : State :=
  if s.role = 0 ∧ s.frd.catchup then
    if s.frd.stream.any fun n => Nat.blt frame ((n + 1) / 2) then s.setFrd { s.frd with join := true } else s.streamError
  else s

/-- JOIN (R611). -/
def execJoin (frame : BitVec 64) (s : State) : Result := .next (s.takeJoin frame.toNat)

/-- A LEAVE message (R587): at once while no frame runs. -/
def State.takeLeave (s : State) : State :=
  if s.seq.inFrame then s.setFrd { s.frd with leave := true }
  else
    let s1 := (s.separate 2 false).setF FRD_STATUS_EVICTED 1
    if s1.framesMode then s1.toIdle 0 else s1

/-- LEAVE (R587). -/
def execLeave (s : State) : Result := .next s.takeLeave

/-! ### CKPT messages (R604 to R606) -/

/-- A CKPT message. -/
structure Ckpt where
  /-- FRAME_NO. -/
  frame : Nat
  /-- KIND. -/
  kind : Nat
  /-- INDEX. -/
  index : Nat
  /-- OFFSET in words. -/
  offset : Nat
  /-- The data after the prefix. -/
  data : List Byte
  deriving DecidableEq, Repr

/-- The body of a CKPT message. -/
def ckptMessage (x : Ckpt) : List Byte :=
  fordMessage 7 x.kind x.frame (bytesLE 4 x.index ++ bytesLE 4 x.offset ++ bytesLE 8 0 ++ x.data)

/-- Word i of data packed as in the INPUT body. -/
def packedWord (data : List Byte) (i : Nat) : Nat :=
  slice (ofBytesLE ((data.drop (64 * (i / 28))).take 64)) (18 * (i % 28)) 18

/-- An HBM block is written from a KIND 2 message: block b of a placed memory. -/
def State.ckptBlock (s : State) (m : PlacedMem) (data : List Byte) (b0 i : Nat) : State :=
  let b := b0 + i
  let at_ := placeBlock (s.memEntry m.stack m.mid) b
  s.writeBlock m.stack at_.1 at_.2 (ofBytesLE ((data.drop (64 * i)).take 64)) (blockTag b m.mid)

/-- A KIND 2 message. -/
def State.ckptHbm (s : State) (x : Ckpt) : State :=
  let n := x.data.length / 64
  match s.blt.mems.find? fun m => m.index == x.index with
  | some m =>
    if x.offset % 28 = 0 ∧ x.offset / 28 + n ≤ memNblk (s.memEntry m.stack m.mid) then
      (List.range n).foldl (fun t i => t.ckptBlock m x.data (x.offset / 28) i) s
    else s.streamError
  | none => s.streamError

/-- A KIND 1 message. -/
def State.ckptSram (s : State) (x : Ckpt) : State :=
  match s.placedAt x.index with
  | some c =>
    if x.offset < 32768 then
      (List.range (min (28 * (x.data.length / 64)) (32768 - x.offset))).foldl
        (fun t i => t.sramWrite c (x.offset + i) (packedWord x.data i)) s
    else s.streamError
  | none => s.streamError

/-- Bytes o to o + n − 1 of the data, as a number. -/
def dataNat (data : List Byte) (o n : Nat) : Nat := ofBytesLE ((data.drop o).take n)

/-- An occupied holding-queue slot of a KIND 0 message: the arrival it holds. -/
def slotArrival (frame n : Nat) : Option Arrival :=
  if bitOf n 63 then
    let due := frameOfTag frame (slice n 36 2)
    some (mkArrival 1025 frame due (slice n 25 11) (slice n 18 7) (slice n 0 18))
  else none

/-- A receive-buffer word of a KIND 0 message. -/
def ckptRx (n : Nat) : RxWord :=
  if bitOf n 18 then ⟨slice n 0 18, parityOf 18 (slice n 0 18), 1, (0, 0, 0)⟩ else RxWord.reset

/-- A net-store entry of a KIND 0 message. -/
def ckptNet (data : List Byte) (e : Nat) : Nat := netEntry (slice (dataNat data (8192 + e / 4) 1) (2 * (e % 4)) 2)

/-- A cluster's stores as a KIND 0 message gives them (table of KIND 0 data). -/
def Cluster.restore (cl : Cluster) (frame : Nat) (data : List Byte) : Cluster :=
  { cl with
    rows := Sparse.putList xRow (cl.rows.filter fun kv => Nat.ble 1024 kv.1) 0
      ((List.range 1024).map fun r => secEncode 7 64 (dataNat data (8 * r) 8))
    sel := [], marks := [], record := []
    net := Sparse.putList 3 [] 0 ((List.range 4096).map (ckptNet data))
    rxb := Sparse.putList RxWord.reset [] 0 ((List.range 128).map fun i => ckptRx (dataNat data (9216 + 4 * i) 4))
    hold := (List.range 32).filterMap fun j => slotArrival frame (dataNat data (9728 + 8 * j) 8)
    self_ := [], exit := [], owed := [], expect := []
    tx := Sparse.putList 0x3FFFF [] 0 ((List.range 128).map fun i => slice (dataNat data (9984 + 4 * i) 4) 0 18)
    frame := frame, committed := true, marked := true }

/-- A KIND 0 message. -/
def State.ckptCluster (s : State) (x : Ckpt) : State :=
  match s.placedAt x.index with
  | some c =>
    if x.data.length = 10512 then
      (s.setCl c ((s.cl c).restore x.frame x.data)).setNat (CLU_PLATCH c) (dataNat x.data 10496 4)
    else s.streamError
  | none => s.streamError

/-- A KIND 3 message ends the checkpoint (R606). -/
def State.ckptFinish (s : State) (x : Ckpt) : State :=
  let s1 := ((s.forgetDigests.set64 SEQ_FRAME_NO x.frame).set64 FRD_SSIG (dataNat x.data 0 8)).setCkpt 3
  s1.setFrd { s1.frd with lastIn := x.frame + 1 }

/-- A CKPT message (R606). -/
def State.takeCkpt (s : State) (x : Ckpt) : State :=
  if s.role ≠ 3 then s
  else if s.mode ≠ Mode.idle then s.streamError
  else
    match x.kind with
    | 0 => s.ckptCluster x
    | 1 => s.ckptSram x
    | 2 => s.ckptHbm x
    | _ => s.ckptFinish x

/-- CKPT (R606). -/
def execCkpt (frame : BitVec 64) (kind : BitVec 2) (index : BitVec 16) (offset : BitVec 32) (data : List Byte) (s : State) :
    Result :=
  .next (s.takeCkpt ⟨frame.toNat, kind.toNat, index.toNat, offset.toNat, data⟩)

/-! ### The stream (R589) -/

/-- The body length a message of a TYPE must have; none for an unlisted TYPE or KIND. -/
def State.bodyFits (s : State) (typ flags len : Nat) : Bool :=
  match typ with
  | 1 => len == 64 * ((s.f FRD_NIN_NIN + 27) / 28)
  | 2 => len == 16
  | 3 => len == 16
  | 4 => len == 32
  | 5 => len == 0
  | 6 => len == 0
  | 7 =>
    match flags % 4 with
    | 0 => len == 10528
    | 3 => len == 32
    | _ => Nat.ble 80 len && (len - 16) % 64 == 0
  | _ => false

/-- Bytes o to o + n − 1 of a body are zero. -/
def zeroAt (body : List Byte) (o n : Nat) : Bool := ((body.drop o).take n).all (· == 0)

/-- The fields of FLAGS and of the body that the table of Ford messages gives as zero are zero. -/
def bodyClean (typ flags : Nat) (body : List Byte) : Bool :=
  match typ with
  | 1 => Nat.ble flags 1
  | 2 => Nat.ble flags 1
  | 3 => flags == 0 && Nat.ble (dataNat body 0 1) 15 && zeroAt body 1 15
  | 4 => flags == 0 && Nat.ble (dataNat body 0 1) 3 && zeroAt body 1 3 && Nat.ble (dataNat body 9 1) 7 &&
      zeroAt body 10 6 && zeroAt body 24 8
  | 7 => Nat.ble flags 3 && zeroAt body 8 8
  | _ => flags == 0

/-- One whole message acts. -/
def State.fordAct (s : State) (typ flags frame : Nat) (body : List Byte) : State :=
  match typ with
  | 1 => s.takeInput frame (bitOf flags 0) ((List.range (s.f FRD_NIN_NIN)).map (packedWord body))
  | 2 => s.takeDigest frame (bitOf flags 0) (dataNat body 0 8)
  | 3 => s.takeMode frame (dataNat body 0 1 % 8) (bitOf (dataNat body 0 1) 3)
  | 4 => s.takePair ⟨dataNat body 0 1 % 4, dataNat body 4 4, dataNat body 8 1, dataNat body 9 1 % 4,
      bitOf (dataNat body 9 1) 2, dataNat body 16 8, frame⟩
  | 5 => s.takeJoin frame
  | 6 => s.takeLeave
  | _ => s.takeCkpt ⟨frame, flags % 4, dataNat body 0 2, dataNat body 4 4, body.drop 16⟩

/-- The stream is taken message by message; a malformed one discards it to the item boundary and sets STREAM. -/
def State.fordParse (s : State) : Nat → State
  | 0 => s
  | fuel + 1 =>
    let rx := s.frd.rx
    if rx.length < 16 then s
    else
      let typ := dataNat rx 0 1
      let flags := dataNat rx 1 1
      let len := dataNat rx 2 2
      if !s.bodyFits typ flags len || dataNat rx 4 4 != 0 then (s.setFrd { s.frd with rx := [] }).streamError
      else if rx.length < 16 + len then s
      else
        let body := (rx.drop 16).take len
        if !bodyClean typ flags body then (s.setFrd { s.frd with rx := [] }).streamError
        else
          let s1 := s.setFrd { s.frd with rx := rx.drop (16 + len) }
          State.fordParse (s1.fordAct typ flags (dataNat rx 8 8) body) fuel

/-- Bytes of a Ford DATA item arrive on the anchor lane (R558, R589). -/
def State.fordTake (s : State) (bytes : List Byte) : State :=
  let s1 := s.setFrd { s.frd with rx := s.frd.rx ++ bytes }
  s1.fordParse s1.frd.rx.length

/-! ### Timeouts and the pacing gap -/

/-- A gate wait has lasted longer than WAIT_US (R598, R599). -/
def State.gateOver (s : State) : Bool :=
  match s.frd.gate with
  | some t => !s.frd.peerHalted && s.elapsedSteered t s.fordWait
  | none => false

/-- The separation of R599, with its cause: 3 timeout, 4 link down. -/
def State.fordSeparate (s : State) (cause : Nat) : State :=
  let s1 := s.frdErr FRD_ERR_DTO
  if s.role = 1 then (s1.separate cause true).tryRelease
  else if s.flag FRD_CFG_SH_ACT then
    let s2 := s1.separate cause false
    (s2.setFrd { s2.frd with pubFrom := if s.seq.inFrame then s.frameNo + 1 else 0 }).tryRelease
  else
    let s2 := s1.setF FRD_STATUS_SEP_CAUSE cause
    s2.setFrd { s2.frd with frozen := true, gate := none }

/-- The Ford link is down: a lane of its group has left UP other than for RELOCK, over which replay keeps the stream
(R557, R565, R567). -/
def State.fordDown (s : State) : Bool := (s.group (s.f FRD_CFG_LANE)).any fun l => !s.laneTakes l

/-- A Ford link that goes down counts as an expired timeout at once, and fails a catch-up (R599, R612). -/
def State.fordLink (s : State) : State :=
  if !s.fordDown then s
  else if s.role = 1 ∨ s.role = 2 then (if s.frd.frozen then s else s.fordSeparate 4)
  else s.fordFail

/-- DIGEST_TIMEOUT (R599, R612). -/
def execDigestTimeout (s : State) : Result :=
  if s.fordDown then .next s.fordLink
  else if (s.role = 1 ∨ s.role = 2) ∧ !s.frd.frozen ∧ s.gateOver then .next (s.fordSeparate 3)
  else .next s

/-- The words of one SRAM group of a cluster, with what reading them leaves behind (R329, R604). -/
def State.groupWords (s : State) (c g : Nat) : List Nat × State :=
  (List.range (min 28 (32768 - 28 * g))).foldl
    (fun acc i => let r := acc.2.sramRead c (28 * g + i); (acc.1 ++ [r.1], r.2)) ([], s)

/-- A dirty SRAM group is sent as KIND 1. -/
def State.sendGroup (s : State) (frame key : Nat) : State :=
  match s.placedAt (key / 2048) with
  | some c =>
    let g := key % 2048
    let r := s.groupWords c g
    r.2.fordSend (ckptMessage ⟨frame, 1, key / 2048, 28 * g, packBlocks r.1⟩)
  | none => s

/-- A dirty block is sent as KIND 2; its read checks its tag (R327). -/
def State.sendBlock (s : State) (frame key : Nat) : State :=
  match s.blt.mems.find? fun m => m.index == key / 268435456 with
  | some m =>
    let b := key % 268435456
    let at_ := placeBlock (s.memEntry m.stack m.mid) b
    let blk := s.readBlock m.stack at_.1 at_.2
    let s1 := if tagOk blk b m.mid then s else s.hbcRecord m.stack HBC_ERR_TAG 1 at_.1 at_.2
    s1.fordSend (ckptMessage ⟨frame, 2, m.index, 28 * b, bytesLE 64 (slice blk 0 504)⟩)
  | none => s

/-- One pass over what is dirty (R604). -/
def State.ckptPass (s : State) (frame : Nat) : State :=
  let s1 := s.setFrd { s.frd with dirtyHbm := [], dirtySram := [] }
  let s2 := s.frd.dirtyHbm.foldl (fun t kv => t.sendBlock frame kv.1) s1
  s.frd.dirtySram.foldl (fun t kv => t.sendGroup frame kv.1) s2

/-- CKPT_PRECOPY (R604). -/
def execCkptPrecopy (s : State) : Result :=
  match s.frd.ckpt with
  | some c => if s.role = 0 ∧ !s.frd.final then .next (s.ckptPass c) else .next s
  | none => .next s

/-- A holding-queue slot of a KIND 0 message. -/
def slotNat (a : Arrival) : Nat := a.word + a.rxw * 2 ^ 18 + a.due * 2 ^ 25 + a.frame % 4 * 2 ^ 36 + 2 ^ 63

/-- A receive-buffer word of a KIND 0 message: its word and VALID. -/
def rxNat (x : RxWord) : Nat := x.word + if x.state = 1 then 262144 else 0

/-- The values of four entries in a byte. -/
def packEntries (val : Nat → Nat) (n : Nat) : List Byte :=
  (List.range (n / 4)).map fun i => BitVec.ofNat 8 (packValues 2 ((List.range 4).map fun j => val (4 * i + j)))

/-- The data of a KIND 0 message (table of KIND 0 data). -/
def State.clusterData (s : State) (c : Nat) : List Byte :=
  let cl := s.cl c
  packEntries (fun e => cl.stateValue (cl.selBit e) e) 32768 ++
    packEntries (fun e => cl.netRaw e % 4) 4096 ++
    ((List.range 128).map fun i => bytesLE 4 (rxNat (cl.rx i))).flatten ++
    ((List.range 32).map fun j => bytesLE 8 ((((cl.hold ++ cl.self_)[j]?).map slotNat).getD 0)).flatten ++
    ((List.range 128).map fun i => bytesLE 4 (cl.txWord i)).flatten ++
    bytesLE 4 (s.reg (CLU_PLATCH c)).toNat ++ bytesLE 12 0

/-- The stores of a cluster are read for its KIND 0 message (R125, R126). -/
def State.readCluster (s : State) (c : Nat) : State :=
  let s1 := (s.cl c).rows.foldl (fun t kv =>
    if ((List.range 32).any fun i => (t.cl c).selBit (kv.1 % 1024 * 32 + i) == kv.1 / 1024) then t.readRow c kv.1 else t) s
  (s1.cl c).net.foldl (fun t kv => t.readNet c kv.1) s1

/-- Every MREP issued by frame C or earlier has arrived (R605). -/
def State.repliesIn (s : State) : Bool := s.mapped.all fun c => (s.cl c).expect.isEmpty

/-- CKPT_FINAL (R605). -/
def execCkptFinal (s : State) : Result :=
  match s.frd.ckpt with
  | some c =>
    if s.role = 0 ∧ s.frd.final ∧ s.repliesIn then
      let s0 := s.ckptPass c
      let s1 := s0.mapped.foldl State.readCluster s0
      let s2 := s1.mapped.foldl
        (fun t k => t.fordSend (ckptMessage ⟨c, 0, t.f (CLU_VMAP_VIRT_ID k), 0, t.clusterData k⟩)) s1
      let s3 := s2.fordSend (ckptMessage ⟨c, 3, 0, 0, bytesLE 8 (s2.f64 FRD_SSIG) ++ bytesLE 8 (s2.f64 FRD_DIG)⟩)
      let s4 := (s3.setFrd { s3.frd with final := false, ckpt := none, stream := some (2 * (c + 1)) }).setCkpt 3
      .next s4.tryRelease
    else .next s
  | none => .next s

/-- PACE_GAP_EXPIRY (R610). -/
def execPaceGapExpiry (s : State) : Result :=
  match s.frd.pace with
  | some t =>
    if s.elapsedSteered t (s.f FRD_PACE_GAP_NS) then .next (s.setFrd { s.frd with pace := none }).tryRelease else .next s
  | none => .next s

end Sys2Proof.Machine
end

