-- ==== Sys2Proof/Machine/Interface.lean ====
section
/-! DEFINITION. The commands of the interface fabric (13_interface_fabric): contention, output arrivals, the edges and the
lock of the user clocks, probe and table writes, and readback. -/

namespace Sys2Proof.Machine

open Reg

/-- The fabric domain is ON. -/
def State.fabOn (s : State) : Bool := s.domainOn 72

/-- CONTENTION (R621): a line that the guard has disabled has no enabled driver. -/
def execContention (line : Fin 1792) (group : BitVec 10) (s : State) : Result :=
  if !s.fabOn || !s.flag FAB_STATUS_CONFIGURED || s.lineOff line then .next s
  else
    let map := FAB_CONT_MAP (line / 32)
    let s1 := s.setNat map (putBit (s.reg map).toNat (line % 32) true)
    let s2 := if s1.flag FAB_CONT_INFO_VALID then s1
      else ((s1.setF FAB_CONT_INFO_LINE line).setF FAB_CONT_INFO_GROUP group.toNat).setF FAB_CONT_INFO_VALID 1
    let s3 := (s2.bump FAB_CONT_CNT_COUNT 1).setF FAB_ERR_CONTENTION 1
    .next ((s3.fire 6).count (srcOf 8 0 0) 0 0)

/-- CONT_MAP_WRITE (R623). -/
def execContMapWrite (p : Path) (i : Fin 56) (v : Word) (s : State) : Result :=
  .next (s.onWrite p (FAB_CONT_MAP i) fun s => s.writeBits (FAB_CONT_MAP i) v)

/-- OUTPUT_ARRIVAL (R633): the generation of a port flit is not checked. -/
def execOutputArrival (d : Fin 4) (flit : BitVec 54) (s : State) : Result :=
  let f := flit.toNat
  let s1 := s.takeInbound d 20 f
  if !s.fabOn || flitType f != 1 then .next s1
  else
    let e := d.val * 1024 + flitTag f
    if bitOf (Sparse.get 0 s1.fab.out e) 31 then
      .next (s1.setFab { s1.fab with got := Sparse.put 0 s1.fab.got (e * 4 + flitFtag f) (flitWord f + 1) })
    else .next (s1.raise FAB_ERR_NO_ENTRY 8 0 0 0)

/-! ### Probes and tables (R627, R628, R642) -/

/-- SEL lies in the range of its SRC (table of probe sources). -/
def probeInRange (src sel : Nat) : Bool :=
  match src with
  | 1 => Nat.blt sel 423936
  | 2 => Nat.blt sel 16384
  | 3 => Nat.blt sel 384
  | _ => true

/-- PROBE_SELECT_WRITE (R628). -/
def execProbeSelectWrite (p : Path) (k : Fin 16) (v : Word) (s : State) : Result :=
  .next (s.onWrite p (FAB_PROBE k) fun s =>
    if probeInRange (slice v.toNat 0 2) (slice v.toNat 2 19) then s.writeBits (FAB_PROBE k) v
    else s.raise FAB_ERR_PROBE_REJ 8 0 0 0)

/-- ENTRY increments under AUTOINC. -/
def State.fabStep (s : State) : State :=
  if s.flag FAB_TBL_ADDR_AUTOINC then s.setF FAB_TBL_ADDR_ENTRY (s.f FAB_TBL_ADDR_ENTRY + 1) else s

/-- The last entry of a table of FAB_TBL_ADDR. -/
def fabLast (table : Nat) : Nat := if table < 2 then 1023 else if table = 2 then 4095 else 8191

/-- The addressed entry of the fabric tables (table of FAB entry layouts). -/
def State.fabEntry (s : State) : Nat :=
  let e := s.f FAB_TBL_ADDR_ENTRY
  let at_ := s.f FAB_TBL_ADDR_DIE * 1024 + e
  match s.f FAB_TBL_ADDR_TABLE with
  | 0 => if e < 1024 then Sparse.get 0 s.fab.send at_ else 0
  | 1 => if e < 1024 then Sparse.get 0 s.fab.out at_ else 0
  | 2 => if e < 4096 then Sparse.get 0 s.fab.park e else 0
  | _ => Sparse.get 0 s.fab.clk e

/-- The addressed entry written. -/
def State.setFabEntry (s : State) (v : Nat) : State :=
  let e := s.f FAB_TBL_ADDR_ENTRY
  let at_ := s.f FAB_TBL_ADDR_DIE * 1024 + e
  let wv := slice v 0 12 + slice v 31 1 * 2147483648
  match s.f FAB_TBL_ADDR_TABLE with
  | 0 => s.setFab { s.fab with send := Sparse.put 0 s.fab.send at_ wv }
  | 1 => s.setFab { s.fab with out := Sparse.put 0 s.fab.out at_ wv }
  | 2 => s.setFab { s.fab with park := Sparse.put 0 s.fab.park e (slice v 0 18) }
  | _ => s.setFab { s.fab with clk := Sparse.put 0 s.fab.clk e (slice v 0 4) }

/-- FAB_TABLE_WRITE (R642). -/
def execFabTableWrite (p : Path) (v : Word) (s : State) : Result :=
  .next (s.onWrite p FAB_TBL_DATA fun s =>
    if s.mode ≠ Mode.idle ∨ s.mbBusyNow 0 ∨ fabLast (s.f FAB_TBL_ADDR_TABLE) < s.f FAB_TBL_ADDR_ENTRY then
      s.raise FAB_ERR_WR_STATE 8 0 0 0
    else (s.setFabEntry v.toNat).fabStep)

/-! ### Readback (R640) -/

/-- The refusal of a SNAP, or its no-op (R29, R31, R640). -/
def State.snapRefusal (s : State) (tile clock a n : Nat) : Option Nat :=
  if n = 0 then some 0
  else if 12288 < tile + n then some 1
  else if !inCarve a (2 * n) then some 2
  else if !s.flag FAB_STATUS_CONFIGURED then some 3
  else if !bitOf (s.f FAB_CLK_STAT_LOCK) clock then some 8
  else none

/-- SNAP (R640): two bytes for each tile. -/
def State.snap (s : State) : State :=
  let x := (s.reg (FAB_MB_ARG 0)).toNat
  let a := (s.reg (FAB_MB_ARG 1)).toNat + (s.reg (FAB_MB_ARG 2)).toNat * 4294967296
  let n := (s.reg (FAB_MB_ARG 3)).toNat
  match s.snapRefusal (slice x 0 14) (slice x 16 4) a n with
  | some e => s.mbFinish 38 e 0 0
  | none =>
    (s.carveWrite a (((List.range n).map fun i => bytesLE 2 (s.tileFlops (slice x 0 14 + i))).flatten)).mbFinish 38 0 (2 * n) 0

/-- SNAP (R640). -/
def execSnap (p : Path) (s : State) : Result := .next (s.onWrite p FAB_MB_CMD fun s => s.mbCommand 38 1 State.snap)

/-! ### User clocks (R630, R636, R639, R855) -/

/-- The user clock of a port word, as last configured: direction 0 input, 1 output (R642). -/
def State.wordClock (s : State) (dir w : Nat) : Nat := Sparse.get 0 s.fab.clkNow (dir * 4096 + w)

/-- The values registered for a word, as far back as a release may look (R630). -/
def recent (hub : Nat) : List (Nat × Nat) → List (Nat × Nat)
  | [] => []
  | x :: xs => if x.1 + 3 ≤ hub then [x] else x :: recent hub xs

/-- An edge registers one input word: what its nets held just before. -/
def State.register (s : State) (m : Sparse (List (Nat × Nat))) (w : Nat) : Sparse (List (Nat × Nat)) :=
  Sparse.put [] m w ((s.hub, s.portNets w) :: recent s.hub (Sparse.get [] m w))

/-- The input words of a clock are registered at its edge (R630). -/
def State.registerInputs (s : State) (k : Nat) : State :=
  s.setFab { s.fab with
    inputs := ((List.range 4096).filter fun w => s.wordClock 0 w == k).foldl s.register s.fab.inputs }

/-- The output words of a clock take their published or park values at its edge (R636, R637, R639). -/
def State.driveOutputs (s : State) (k : Nat) : State :=
  let parked := s.flag FAB_STATUS_PARKED
  if bitOf s.fab.outPend k && (parked || Nat.ble (s.fab.pubAt + 3) s.hub) then
    let own := fun w => s.wordClock 1 w == k
    let src := if parked then s.fab.park else s.fab.pub
    let kept := s.fab.nets.filter fun kv => !own kv.1
    s.setFab { s.fab with
      nets := Sparse.putAll 0 kept (src.filter fun kv => own kv.1)
      outPend := putBit s.fab.outPend k false
      tick := putBit s.fab.tick k (!parked) }
  else s.setFab { s.fab with tick := putBit s.fab.tick k false }

/-- IN_TAKEN at an edge (R639). -/
def State.takenAt (s : State) (k : Nat) : State :=
  s.setFab { s.fab with
    taken := putBit s.fab.taken k (bitOf s.fab.inPend k), inPend := putBit s.fab.inPend k false }

/-- The fabric's logic at an edge of a user clock: every flip-flop and every word takes what stood before the edge (R614,
R624). -/
def State.clockLogic (s : State) (k : Nat) (bits : Sparse (List Bool)) (t : State) : State :=
  let u := s.clockPins k bits t
  let live := if s.flag CFG_STATE_GSR then u.fab.live else putBit u.fab.live k true
  (u.setFab { u.fab with flops := s.clockFlops k, live := live }).fabSettle

/-- USER_CLOCK_EDGE (R614, R624, R630, R636, R639, R855). -/
def execUserClockEdge (k : Fin 16) (bits : Sparse (List Bool)) (s : State) : Result :=
  if s.fabOn && bitOf (s.f FAB_CLK_STAT_LOCK) k then
    .next (s.clockLogic k bits (((s.registerInputs k).driveOutputs k).takenAt k))
  else .next s

/-- USER_CLOCK_LOCK (R626, R855): OUT_TICK and IN_TAKEN of a clock that is not locked are low. -/
def execUserClockLock (k : Fin 16) (locked : Bool) (s : State) : Result :=
  if s.fabOn then
    let s1 := s.setF FAB_CLK_STAT_LOCK (putBit (s.f FAB_CLK_STAT_LOCK) k locked)
    if locked then .next s1
    else .next (s1.setFab { s1.fab with tick := putBit s1.fab.tick k false, taken := putBit s1.fab.taken k false })
  else .next s

end Sys2Proof.Machine
end

