-- ==== Sys2Proof/Machine/LaneTx.lean ====
section
/-! DEFINITION. What a Shoris lane sends (R531, R542 to R551, R559 to R569, R573 to R576): control blocks, packets filled
with items in order of precedence, and the test patterns; and replay. -/

namespace Sys2Proof.Machine

open Reg

/-! ### Control blocks (R568, R571) -/

/-- The 16 syllables of a control block: CTYPE, the content from syllable 1 on, and the CRC. -/
def ctrlBlock (ctype : Nat) (content : List Nat) : List Nat :=
  let body := (ctype * 4096 :: content ++ List.replicate 15 0).take 15
  body ++ [crc16 body]

/-- The four syllables of a time (R571). -/
def timeSyls (t : Stamp) : List Nat := [t.frac, t.ns % 262144, t.ns / 262144, t.sec % 65536]

/-- A control block goes to the line. -/
def State.sendCtrl (s : State) (l ctype : Nat) (content : List Nat) : State :=
  let s1 := s.laneLine l 2 (ctrlBlock ctype content)
  s1.setQueue l { (s1.lane l).q with lastCtrl := true }

/-- The transmission of a TREQ is t1 of its exchange, from which its 1 ms runs (R517, R570). -/
def State.stampTreq (s : State) (l id : Nat) : State :=
  match s.tmk.exchange with
  | some x =>
    if x.id = id ∧ x.lane = l then { s with tmk := { s.tmk with exchange := some { x with t1 := s.tmk.time, at_ := s.tmk.steered, steps := s.tmk.steps } } } else s
  | none => s

/-- A TRESP is not a TREQ. -/
def LaneCtrl.isTresp : LaneCtrl → Bool
  | .tresp _ _ => true
  | .treq _ => false

/-- The pending control block that goes first: TRESP before TREQ (R569). -/
def firstCtrl (l : List LaneCtrl) : Option LaneCtrl :=
  match l.find? LaneCtrl.isTresp with
  | some c => some c
  | none => l.head?

/-- A pending control block is sent: t3 is written at the moment of sending (R570). -/
def State.sendPending (s : State) (l : Nat) (c : LaneCtrl) : State :=
  let q := (s.lane l).q
  let s1 := s.setQueue l { q with ctrl := removeFirst (· == c) q.ctrl }
  match c with
  | .tresp id t2 => s1.sendCtrl l 3 (id :: timeSyls t2 ++ timeSyls s1.now)
  | .treq id => (s1.stampTreq l id).sendCtrl l 2 [id]

/-- MAX that a lane offers: 7 acts as 6. -/
def LaneLink.max (k : LaneLink) : Nat := min 6 (slice k.cfg.toNat 0 3)

/-- The NEG that a lane sends (R537, R568). -/
def State.sendNeg (s : State) (l : Nat) : State :=
  let k := (s.lane l).link
  let agree := k.peerNext == some k.next
  let s1 := s.setLink l { k with agreed := if agree then k.agreed + 1 else k.agreed }
  s1.sendCtrl l 1 [s.f (SHR_LSTAT_RATE l) + k.max * 8 + s.f (SHR_LSTAT_BAN l) * 64 + k.next * 8192 + ofBool agree * 65536,
    s.f BLT_SYS_DEV_DEV_INDEX + l * 256]

/-! ### Bring-up (R537, R538) -/

/-- A lane starts to acquire at a rate. -/
def State.acquire (s : State) (l rate : Nat) : State :=
  let k := (s.lane l).link
  let s1 := s.setLink l { k with at_ := s.tmk.steered, next := rate, peerNext := none, peerAgreed := false, agreed := 0, headers := [] }
  (((s1.setF (SHR_LSTAT_STATE l) LaneSt.acquire).setF (SHR_LSTAT_RATE l) rate).setF (SHR_LSTAT_LOCK l) 0).setF
    (SHR_LSTAT_HDR_OK l) 0

/-- Entry to UP (R538): the packet layer starts with SEQ 0. -/
def State.enterUp (s : State) (l : Nat) : State :=
  (((s.setQueue l LaneQueue.reset).setF (SHR_LSTAT_STATE l) LaneSt.up).setGroupUp l).fire 4

/-- A negotiation that both sides have agreed ends (R537): UP, or ACQUIRE at the next rate. -/
def State.checkAgreed (s : State) (l : Nat) : State :=
  let k := (s.lane l).link
  let rate := s.f (SHR_LSTAT_RATE l)
  if s.laneState l = LaneSt.negotiate ∧ k.peerAgreed ∧ 8 ≤ k.agreed then
    if k.next = rate then s.enterUp l
    else (s.setLink l { k with prev := rate }).acquire l k.next
  else s

/-! ### Items (R544, R547 to R551) -/

/-- The syllables an item takes. -/
def LaneItem.size : LaneItem → Nat
  | .values _ _ ws => 1 + ws.length
  | .endItem _ _ _ => 2
  | .data _ bs => 1 + (bs.length + 1) / 2

/-- Bytes two to a syllable. -/
def bytePairs : List Byte → List Nat
  | [] => []
  | [a] => [a.toNat]
  | a :: b :: bs => (a.toNat + 256 * b.toNat) :: bytePairs bs

/-- The syllables of an item (table of items). -/
def LaneItem.syls : LaneItem → List Nat
  | .values ftag step ws => (65536 + (ws.length - 1) * 8192 + ftag * 2048 + step) :: ws
  | .endItem h n frame => [131072 + ofBool h * 32768 + ofBool n * 16384, frame % 65536]
  | .data chan bs => (196608 + chan * 16384 + (bs.length - 1)) :: bytePairs bs

/-- The words of a frame from a position on, while they follow each other without a gap, at most n. -/
def LaneQueue.run (q : LaneQueue) (ftag : Nat) : Nat → Nat → List LaneWord
  | _, 0 => []
  | pos, n + 1 =>
    match q.words.find? fun w => w.ftag == ftag && w.pos == pos with
    | some w => w :: q.run ftag (pos + 1) n
    | none => []

/-- The next item that fits in the room left, and the queue without it (R547 to R551). -/
def LaneQueue.take (q : LaneQueue) (room : Nat) : Option (LaneItem × LaneQueue) :=
  if room < 2 then none
  else
    let g := q.ftag.getD 0
    match q.run g q.next (min 8 (room - 1)) with
    | w :: ws =>
      let all := w :: ws
      some (.values g ((all.map (·.step)).foldl Nat.max 0) (all.map (·.word)),
        { q with next := q.next + all.length, words := q.words.filter fun x => !(x.ftag == g && Nat.blt x.pos (q.next + all.length)) })
    | [] =>
      match q.ends with
      | (h, true, frame) :: rest => some (.endItem h true frame, { q with ends := rest })
      | (h, false, frame) :: rest =>
        some (.endItem h false frame, { q with
          ends := rest, ftag := some ((frame + 1) % 4), next := 0, words := q.words.filter fun x => x.ftag != frame % 4 })
      | [] =>
        match q.ford, q.load with
        | b :: bs, _ => if (LaneItem.data 1 b).size ≤ room then some (.data 1 b, { q with ford := bs }) else none
        | [], b :: bs => if (LaneItem.data 0 b).size ≤ room then some (.data 0 b, { q with load := bs }) else none
        | [], [] => none

/-- The items of a packet. -/
def LaneQueue.fill (q : LaneQueue) (room : Nat) : Nat → List LaneItem × LaneQueue
  | 0 => ([], q)
  | fuel + 1 =>
    match q.take room with
    | none => ([], q)
    | some (i, q1) => let r := q1.fill (room - i.size) fuel; (i :: r.1, r.2)

/-! ### Packets (R542, R559, R560, R562, R564) -/

/-- A packet goes to the line: its SEQ, its items, and the ACK fields of the moment (R560, R561). -/
def State.sendPacket (s : State) (l seq : Nat) (items : List LaneItem) : State :=
  let q := (s.lane l).q
  let h0 := seq * 256 + ofBool items.isEmpty * 128
  let h1 := (q.expect + 1023) % 1024 * 256 + ofBool q.ackV * 128 + ofBool q.nak * 64
  let body := (h0 :: h1 :: (items.map LaneItem.syls).flatten ++ List.replicate 125 0).take 127
  (s.setQueue l { q with nak := false, lastCtrl := false }).laneLine l 1 (body ++ [crc16 body])

/-- The transmitter of a lane in UP (R547, R559, R562, R564, R569). -/
def State.transmitUp (s : State) (l : Nat) : State :=
  let q := (s.lane l).q
  match (if q.lastCtrl then none else firstCtrl q.ctrl) with
  | some c => s.sendPending l c
  | none =>
    match q.resend with
    | n :: rest =>
      match q.buffer.find? fun p => p.seq == n with
      | some p => ((s.setQueue l { q with
          resend := rest, buffer := q.buffer.map fun x => if x.seq = n then { x with at_ := s.hub } else x }).sendPacket l n
            p.items)
      | none => (s.setQueue l { q with resend := rest }).sendPacket l q.seq []
    | [] =>
      if 128 ≤ q.buffer.length then s.sendPacket l q.seq []
      else
        let r := q.fill 125 125
        if r.1.isEmpty then s.sendPacket l q.seq []
        else (s.setQueue l { r.2 with
          seq := (q.seq + 1) % 1024, buffer := q.buffer ++ [⟨q.seq, r.1, s.hub, 0⟩] }).sendPacket l q.seq r.1

/-- A replayed packet's wait starts again. -/
def LanePacket.again (hub : Nat) (p : LanePacket) : LanePacket := { p with at_ := hub }

/-- A replay (R562, R563): every buffered packet is sent again, and the oldest counts it. -/
def State.replay (s : State) (l : Nat) : State :=
  let q := (s.lane l).q
  match q.buffer with
  | [] => s
  | p :: rest =>
    let count := p.count + 1
    let s1 := (s.setQueue l { q with
      resend := q.buffer.map (·.seq)
      buffer := { p with count := count, at_ := s.hub } :: rest.map (LanePacket.again s.hub) }).bump (SHR_LCNT_REPLAYS l) 1
    if max 1 (s.f (SHR_REPLAY_CFG_MAX l)) ≤ count then (s1.laneDown l 1).fordLink else s1

/-! ### Test patterns (R573, R574, R576) -/

/-- The two taps of a PRBS polynomial; none for a reserved pattern. -/
def prbsTaps (pat : Nat) : Option (Nat × Nat) :=
  match pat with
  | 0 => some (7, 6)
  | 1 => some (9, 5)
  | 2 => some (15, 14)
  | 3 => some (23, 18)
  | 4 => some (31, 28)
  | _ => none

/-- The pattern's bits are inverted on the line (table of PRBS patterns). -/
def prbsInverts (pat : Nat) (inv : Bool) : Bool := (pat == 2 || pat == 3 || pat == 4) ^^ inv

/-- The next bit of a PRBS register. -/
def prbsNext (taps : Nat × Nat) (st : Nat) : Bool := bitOf st (taps.1 - 1) ^^ bitOf st (taps.2 - 1)

/-- A PRBS register after a bit. -/
def prbsShift (taps : Nat × Nat) (st : Nat) (b : Bool) : Nat := (st * 2 + ofBool b) % 2 ^ taps.1

/-- Bits of the generator. -/
def prbsBits (taps : Nat × Nat) (inv : Bool) : Nat → Nat → Nat × List Bool
  | st, 0 => (st, [])
  | st, n + 1 =>
    let b := prbsNext taps st
    let r := prbsBits taps inv (prbsShift taps st b) n
    (r.1, (b ^^ inv) :: r.2)

/-- The first bit inverted (R576). -/
def flipFirst : List Bool → List Bool
  | [] => []
  | b :: bs => (!b) :: bs

/-- The transmitter of a lane in TEST (R574, R576): 290 bits of the pattern, unframed and unscrambled, or zeros. -/
def State.transmitTest (s : State) (l : Nat) : State :=
  let k := (s.lane l).link
  let lb := slice k.test.1 3 3
  if lb = 3 ∨ lb = 4 then s
  else
    let pat := s.f (SHR_PRBS_CFG_TX_PAT l)
    let zeros := (k.prbsTx, List.replicate 290 false)
    let r := if !s.flag (SHR_PRBS_CFG_TX_EN l) then zeros
      else match prbsTaps pat with
        | some t => prbsBits t (prbsInverts pat (s.flag (SHR_PRBS_CFG_INV l))) k.prbsTx 290
        | none => zeros
    let bits := if 0 < k.inject then flipFirst r.2 else r.2
    let line := if bitOf k.cfg.toNat 6 then bits.map (!·) else bits
    (s.setLink l { k with prbsTx := r.1, inject := k.inject - 1 }).putLine l (ofBitsLSB (line.take 2))
      (bitsSyls 16 (line.drop 2))

/-- The transmitter of a lane in DOWN: the DOWN blocks still due, then IDLE (R567). -/
def State.transmitDown (s : State) (l : Nat) : State :=
  let k := (s.lane l).link
  if 0 < k.downLeft then
    (s.setLink l { k with downLeft := k.downLeft - 1 }).sendCtrl l 4 [s.f (SHR_LSTAT_DOWN_CAUSE l)]
  else s.sendCtrl l 0 []

/-- The transmitter of a lane in RELOCK: control blocks alone (R565, R569). -/
def State.transmitRelock (s : State) (l : Nat) : State :=
  match firstCtrl (s.lane l).q.ctrl with
  | some c => s.sendPending l c
  | none => s.sendCtrl l 0 []

/-- The next unit of a lane. -/
def State.transmit (s : State) (l : Nat) : State :=
  match s.laneState l with
  | 2 => s.sendCtrl l 0 []
  | 3 => (s.sendNeg l).checkAgreed l
  | 4 => s.transmitUp l
  | 5 => s.transmitRelock l
  | 6 => s.transmitDown l
  | 7 => s.transmitTest l
  | _ => s

end Sys2Proof.Machine
end

