-- ==== Sys2Proof/Machine/Lanes.lean ====
section
/-! DEFINITION. The commands of the Shoris lanes (11_shoris_lanes): bring-up, the receiver, timeouts, tests and the quad
commands. -/

namespace Sys2Proof.Machine

open Reg

/-! ### SHR_LCTRL (R534 to R536, R573) -/

/-- BOND_LOG2 as a lane's register gives it: 5 to 7 act as 0. -/
def State.bondSet (s : State) (l : Nat) : Nat :=
  let w := s.f (SHR_LCFG_BOND_LOG2 l)
  if w ≤ 4 then w else 0

/-- START is refused (R535). -/
def State.startRefused (s : State) (l : Nat) : Bool :=
  let w := s.bondSet l
  let members := (List.range (2 ^ w)).map (l / 2 ^ w * 2 ^ w + ·)
  (s.laneState l != LaneSt.off && s.laneState l != LaneSt.down) || (s.framesMode && bitOf s.blt.lanes l) ||
    members.any fun m => s.bondSet m != w

/-- START (R535). -/
def State.laneStart (s : State) (l : Nat) : State :=
  if s.startRefused l then s.laneErr (SHR_LERR_START_REJ l) l
  else
    let s1 := s.laneDiscard l
    let s2 := s1.setLink l { LaneLink.reset with cfg := s.reg (SHR_LCFG l) }
    let s3 := (((s2.setF (SHR_LSTAT_STATE l) LaneSt.reset).setF (SHR_LSTAT_RATE l) 0).setF (SHR_LSTAT_BAN l) 0).setF
      (SHR_LSTAT_DOWN_CAUSE l) 0
    (((s3.setF (SHR_LSTAT_LOCK l) 0).setF (SHR_LSTAT_HDR_OK l) 0).setF (SHR_PEER_VALID l) 0).setGroupUp l

/-- SLIP (R534). -/
def State.laneSlip (s : State) (l : Nat) : State :=
  let k := (s.lane l).link
  if bitOf k.cfg.toNat 8 ∨ s.laneState l ≠ LaneSt.acquire then s.laneErr (SHR_LERR_SLIP_REJ l) l
  else s.setLink l { k with boundary := (k.boundary + 1) % 290 }

/-- The start of the PRBS generator: some state other than zero, which the spec leaves open. -/
def State.prbsSeed (s : State) (l : Nat) : Nat :=
  match prbsTaps (s.f (SHR_PRBS_CFG_TX_PAT l)) with
  | some t => (Config.freeWord s.free).toNat % (2 ^ t.1 - 1) + 1
  | none => 0

/-- TEST (R573). -/
def State.laneTest (s : State) (l : Nat) : State :=
  if s.mode = Mode.diagnose ∧ (s.laneState l = LaneSt.off ∨ s.laneState l = LaneSt.down) then
    let s1 := s.setLink l { LaneLink.reset with
      cfg := (s.lane l).link.cfg, test := ((s.reg (SHR_TEST l)).toNat, (s.reg (SHR_PRBS_CFG l)).toNat), prbsTx := s.prbsSeed l }
    (((((s1.setF (SHR_LSTAT_STATE l) LaneSt.test).setF (SHR_LSTAT_RATE l) (min 6 (s.f (SHR_TEST_RATE l)))).setF
      (SHR_LSTAT_LOCK l) 0).setF (SHR_LSTAT_HDR_OK l) 0).setF (SHR_PRBS_STAT_SYNC l) 0).takeFree
  else s.laneErr (SHR_LERR_START_REJ l) l

/-- STOP (R536). -/
def State.laneStop (s : State) (l : Nat) : State := ((s.laneOff l).setGroupUp l).fordLink

/-- A write of SHR_LCTRL: STOP overrides START (R536). -/
def State.laneCtl (s : State) (l v : Nat) : State :=
  let s1 := if bitOf v 1 then s.laneStop l else if bitOf v 0 then s.laneStart l else s
  let s2 := if bitOf v 2 then s1.laneSlip l else s1
  if bitOf v 3 then s2.laneTest l else s2

/-- START (R535). -/
def execStart (p : Path) (lane : LaneId) (v : Word) (s : State) : Result :=
  .next (s.onWrite p (SHR_LCTRL lane) fun s => s.laneCtl lane v.toNat)

/-- STOP (R536). -/
def execStop (p : Path) (lane : LaneId) (v : Word) (s : State) : Result :=
  .next (s.onWrite p (SHR_LCTRL lane) fun s => s.laneCtl lane v.toNat)

/-- SLIP (R534). -/
def execSlip (p : Path) (lane : LaneId) (v : Word) (s : State) : Result :=
  .next (s.onWrite p (SHR_LCTRL lane) fun s => s.laneCtl lane v.toNat)

/-- TEST (R573). -/
def execTest (p : Path) (lane : LaneId) (v : Word) (s : State) : Result :=
  .next (s.onWrite p (SHR_LCTRL lane) fun s => s.laneCtl lane v.toNat)

/-! ### Bring-up (R537) -/

/-- PLL_LOCK (R537). -/
def execPllLock (lane : LaneId) (s : State) : Result :=
  if s.laneState lane = LaneSt.reset then
    .next (((s.setF (SHR_QSTAT_REF_OK (lane / 4)) 1).setF (SHR_QSTAT_PLL_LOCK (lane / 4)) 1).acquire lane 0)
  else .next s

/-- The lowest rate above this one, up to m, that is not banned; this one when there is none (R537). -/
def nextRate (rate m ban : Nat) : Nat :=
  ((List.range 7).find? fun r => Nat.blt rate r && Nat.ble r m && !bitOf ban r).getD rate

/-- SHR_PEER takes what a NEG names, while the lane has not come up (R538, SHR_PEER fields). -/
def State.notePeer (s : State) (l s2 : Nat) : State :=
  let st := s.laneState l
  if s.flag (SHR_LSTAT_LOCK l) ∧ (st = LaneSt.acquire ∨ st = LaneSt.negotiate) then
    ((s.setF (SHR_PEER_DEV_INDEX l) (slice s2 0 8)).setF (SHR_PEER_LANE l) (slice s2 8 7)).setF (SHR_PEER_VALID l) 1
  else s

/-- A NEG of the peer (R537, R538): one at this rate is acted on. -/
def State.takeNeg (s : State) (l s1 s2 : Nat) : State :=
  let rate := s.f (SHR_LSTAT_RATE l)
  let st := s.laneState l
  let s := s.notePeer l s2
  if slice s1 0 3 = rate ∧ s.flag (SHR_LSTAT_LOCK l) ∧ (st = LaneSt.acquire ∨ st = LaneSt.negotiate) then
    let k := (s.lane l).link
    let ban := s.f (SHR_LSTAT_BAN l) ||| slice s1 6 7
    let next := nextRate rate (min k.max (slice s1 3 3)) ban
    let same := st == LaneSt.negotiate && k.next == next
    let peer := slice s1 13 3
    let t := s.setLink l { k with
      fellBack := false, next := next, peerNext := some peer, agreed := if same then k.agreed else 0
      peerAgreed := (same && k.peerAgreed) || (bitOf s1 16 && peer == next) }
    let t1 := (t.setF (SHR_LSTAT_BAN l) ban).setF (SHR_LSTAT_STATE l) LaneSt.negotiate
    t1.checkAgreed l
  else s

/-- NEG_RECEIVE (R537, R538). -/
def execNegReceive (lane : LaneId) (s1 s2 : Syl) (s : State) : Result := .next (s.takeNeg lane s1.toNat s2.toNat)

/-- BRINGUP_STEP_TIMEOUT (R537). -/
def execBringupStepTimeout (lane : LaneId) (s : State) : Result :=
  let k := (s.lane lane).link
  let rate := s.f (SHR_LSTAT_RATE lane)
  let tmo := max 1 (slice k.cfg.toNat 10 10) * 1000
  if s.laneState lane = LaneSt.acquire ∧ rate ≠ 0 ∧ s.elapsedSteered k.at_ tmo then
    if k.fellBack then .next (s.laneDown lane 5).fordLink
    else
      .next (((s.setLink lane { k with fellBack := true }).setF (SHR_LSTAT_BAN lane)
        (putBit (s.f (SHR_LSTAT_BAN lane)) rate true)).acquire lane k.prev)
  else .next s

/-! ### Blocks (R531 to R534, R568, R576) -/

/-- Block lock is gained (R533, R565): a lane in RELOCK re-enters UP and replays at once. -/
def State.lockGained (s : State) (l : Nat) : State :=
  let s1 := s.setF (SHR_LSTAT_LOCK l) 1
  if s.laneState l = LaneSt.relock then ((s1.setF (SHR_LSTAT_STATE l) LaneSt.up).setGroupUp l).replay l else s1

/-- Block lock is lost (R533): a lane in UP enters RELOCK. -/
def State.lockLost (s : State) (l : Nat) : State :=
  let s1 := s.setF (SHR_LSTAT_LOCK l) 0
  if s.laneState l = LaneSt.up then
    let s2 := (s1.setLink l { (s1.lane l).link with at_ := s.tmk.steered }).laneErr (SHR_LERR_LOCK_LOSS l) l
    (s2.setF (SHR_LSTAT_STATE l) LaneSt.relock).setGroupUp l
  else s1

/-- The validity of a header moves the lock (R533, R534). -/
def State.trackHeader (s : State) (l : Nat) (valid : Bool) : State :=
  let k := (s.lane l).link
  let hs := (valid :: k.headers).take 64
  let good := (hs.filter id).length
  let s1 := (s.setLink l { k with headers := hs }).setF (SHR_LSTAT_HDR_OK l) good
  if s.flag (SHR_LSTAT_LOCK l) then (if 16 ≤ hs.length - good then s1.lockLost l else s1)
  else if good = 64 then s1.lockGained l
  else if !valid && bitOf k.cfg.toNat 8 then
    s1.setLink l { (s1.lane l).link with boundary := (k.boundary + 1) % 290 }
  else s1

/-- A control block is good (R568): its CRC, its reserved bits' home and its CTYPE. -/
def goodCtrl (syls : List Nat) : Bool :=
  crc16 (syls.take 15) == syls.getD 15 0 % 65536 && Nat.ble (syls.getD 0 0 / 4096) 4

/-- The receiver is on: every state but OFF, RESET and DOWN. -/
def State.laneReceives (s : State) (l : Nat) : Bool :=
  let st := s.laneState l
  Nat.ble 2 st && st != LaneSt.down

/-- The block received goes out again in a far-end loopback (table of loopbacks). -/
def State.farLoop (s : State) (l hdr : Nat) (raw clear : List Nat) : State :=
  let k := (s.lane l).link
  if s.laneState l = LaneSt.test then
    match slice k.test.1 3 3 with
    | 3 => s.putLine l hdr raw
    | 4 => if s.flag (SHR_LSTAT_LOCK l) then s.laneLine l hdr clear else s
    | _ => s
  else s

/-- A block of the line, with RX_INV applied (R530 to R534, R568). -/
def State.takeBlock (s : State) (l hdr : Nat) (raw : List Nat) : State :=
  let k := (s.lane l).link
  let inv := bitOf k.cfg.toNat 7
  let h := if inv then 3 - hdr else hdr
  let bits := if inv then (sylBits raw).map (!·) else sylBits raw
  let r := descrambleBits k.descramble bits
  let syls := bitsSyls 16 r.2
  let s1 := (s.setLink l { k with descramble := r.1, block := syls }).trackHeader l (h == 1 || h == 2)
  let s2 := if s1.flag (SHR_LSTAT_LOCK l) && h == 2 && !goodCtrl syls && s.laneState l != LaneSt.test then
      s1.bump (SHR_LCNT2_CTL l) 1
    else s1
  s2.farLoop l h raw syls

/-- BLOCK_RECEIVE (R533, R534, R568): while the boundary register has the pins, no valid header arrives (R815). -/
def execBlockReceive (lane : LaneId) (hdr : BitVec 2) (syls : List Syl) (s : State) : Result :=
  if s.laneReceives lane then
    .next (s.takeBlock lane (if s.jtagPins then 0 else hdr.toNat) (syls.map (·.toNat)))
  else .next s

/-- PACKET_TRANSMIT (R547, R559, R564, R569). -/
def execPacketTransmit (lane : LaneId) (s : State) : Result := .next (s.transmit lane)

/-! ### Packets received (R545, R546, R552, R553, R556, R558, R560, R561) -/

/-- The bytes of DATA syllables; none when a reserved bit is set. -/
def pairBytes (n : Nat) (syls : List Nat) : Option (List Byte) :=
  let bs := (syls.map fun w => [BitVec.ofNat 8 w, BitVec.ofNat 8 (w / 256)]).flatten
  if syls.all (fun w => Nat.blt w 65536) && (bs.drop n).all (fun b => b == 0) then some (bs.take n) else none

/-- One item at the head of the payload, and the syllables it takes: an IDLE item is none; a malformed item is an error
(R544, R545). -/
def parseItem (w : Nat) (rest : List Nat) : Option (Option LaneItem × Nat) :=
  match w / 65536 with
  | 0 => if w = 0 then some (none, 1) else none
  | 1 =>
    let n := slice w 13 3 + 1
    if rest.length < n then none else some (some (.values (slice w 11 2) (slice w 0 11) (rest.take n)), 1 + n)
  | 2 =>
    match rest with
    | x :: _ => if slice w 0 14 = 0 ∧ x < 65536 then some (some (.endItem (bitOf w 15) (bitOf w 14) x), 2) else none
    | [] => none
  | _ =>
    let nb := slice w 0 6 + 1
    let k := (nb + 1) / 2
    if 2 ≤ slice w 14 2 ∨ slice w 6 8 ≠ 0 ∨ rest.length < k then none
    else
      match pairBytes nb (rest.take k) with
      | some bs => some (some (.data (slice w 14 2) bs), 1 + k)
      | none => none

/-- One value word is received (R552, R553). -/
def State.takeWord (s : State) (l ftag step word : Nat) : State :=
  let q := (s.lane l).q
  let pos := Sparse.get 0 q.rxNext ftag
  let q1 := { q with rxNext := Sparse.put 0 q.rxNext ftag (pos + 1) }
  if 1024 ≤ pos then (s.setQueue l q1).laneErr (SHR_LERR_POS l) l
  else s.setQueue l { q1 with rx := q.rx ++ [⟨ftag, pos, step, word⟩] }

/-- The END item of a frame has arrived on every member of a group: the end marker is delivered (R556). -/
def State.groupMarker (s : State) (l frame : Nat) (haltNotice : Bool) : State :=
  if (s.group l).all (fun m => (s.lane m).q.endsIn.contains frame) then
    let s1 := (s.group l).foldl (fun t m =>
      t.setQueue m { (t.lane m).q with endsIn := (t.lane m).q.endsIn.filter (· != frame) }) s
    s1.endMarker (s.anchor l) frame haltNotice false
  else s

/-- An END item (R550, R551, R556). -/
def State.takeEnd (s : State) (l : Nat) (haltNotice notice : Bool) (frame : Nat) : State :=
  if notice then s.endMarker (s.anchor l) frame haltNotice true
  else
    let q := (s.lane l).q
    (s.setQueue l { q with
      rxNext := Sparse.put 0 q.rxNext (frame % 4) 0, endsIn := q.endsIn ++ [frame] }).groupMarker l frame haltNotice

/-- An item is delivered (R546, R552, R556, R558). -/
def State.takeItem (s : State) (l : Nat) : LaneItem → State
  | .values ftag step ws => ws.foldl (fun t w => t.takeWord l ftag step w) s
  | .endItem h n frame => s.takeEnd l h n frame
  | .data 0 bs => s.ldchBlock l bs
  | .data _ bs => if s.f FRD_CFG_LANE = l then s.fordTake bs else s

/-- The payload is delivered item by item; a malformed item ends it (R545). -/
def State.takePayload (s : State) (l : Nat) : Nat → List Nat → State
  | 0, _ => s
  | _, [] => s
  | fuel + 1, w :: rest =>
    match parseItem w rest with
    | none => s.laneErr (SHR_LERR_FMT l) l
    | some (i, n) =>
      let s1 := match i with
        | some x => s.takeItem l x
        | none => s
      s1.takePayload l fuel (rest.drop (n - 1))

/-- A NAK is due in the next packet, unless one has been sent since a packet was last accepted (R561). -/
def State.laneNak (s : State) (l : Nat) : State :=
  let q := (s.lane l).q
  if q.nakArmed then s.setQueue l { q with nak := true, nakArmed := false } else s

/-- A valid ACK frees the packets up to its SEQ (R560), and measures the round trip. -/
def State.takeAck (s : State) (l ack : Nat) : State :=
  let q := (s.lane l).q
  match q.buffer.find? fun p => p.seq == ack with
  | none => s
  | some p =>
    let keep := (q.buffer.dropWhile fun x => x.seq != ack).drop 1
    let s1 := s.setQueue l { q with buffer := keep, resend := q.resend.filter fun n => keep.any fun x => x.seq == n }
    s1.setF (SHR_RTT_LAST l) (min 65535 ((s.hub - p.at_) * 5 / 2))

/-- The ACK fields of a packet with a good CRC (R560, R562). -/
def State.takeAckFields (s : State) (l h1 : Nat) : State :=
  let s1 := if bitOf h1 7 then s.takeAck l (slice h1 8 10) else s
  if bitOf h1 6 then s1.replay l else s1

/-- A packet of 128 syllables (R561). -/
def State.takePacket (s : State) (l : Nat) (syls : List Nat) : State :=
  if crc16 (syls.take 127) ≠ syls.getD 127 0 % 65536 then (s.bump (SHR_LCNT_CRC l) 1).laneNak l
  else
    let h0 := syls.getD 0 0
    let s1 := s.takeAckFields l (syls.getD 1 0)
    if !s1.laneUp l then s1
    else
      let q := (s1.lane l).q
      let d := (slice h0 8 10 + 1024 - q.expect) % 1024
      if d = 0 then
        if bitOf h0 7 then s1.setQueue l { q with nakArmed := true }
        else
          (s1.setQueue l { q with expect := (q.expect + 1) % 1024, ackV := true, nakArmed := true }).takePayload l 126
            ((syls.drop 2).take 125)
      else if 512 ≤ d then s1
      else (s1.laneErr (SHR_LERR_SEQ_GAP l) l).laneNak l

/-- PACKET_RECEIVE (R560 to R562). -/
def execPacketReceive (lane : LaneId) (syls : List Syl) (s : State) : Result :=
  if s.laneUp lane && !s.jtagPins then .next (s.takePacket lane (syls.map (·.toNat))) else .next s

/-- A received word of the frame in progress on the receiving die (R552). -/
def State.readyWord (s : State) (l : Nat) : Option LaneWord :=
  if s.seq.inFrame then (s.lane l).q.rx.find? fun w => w.ftag == s.frameNo % 4 else none

/-- LANE_WORD_ROUTE (R552): a word with no room at the bridge stop stays in the receive buffer. -/
def execLaneWordRoute (lane : LaneId) (s : State) : Result :=
  match s.readyWord lane with
  | none => .next s
  | some w =>
    let l := lane.val
    let d := l / 32
    let tag := (s.f (SHR_RXBASE_BASE l) + w.pos) % 1024
    let f := mkFlit 1 (s.f (MLR_GEN_STATUS_ACTIVE_GEN d)) 0 tag (w.ftag * 2048 + w.step) w.word
    let q := (s.lane l).q
    match (s.setQueue l { q with rx := removeFirst (· == w) q.rx }).routeBrt d (l % 32 / 4) (l % 4 / 2) f with
    | some t => .next t
    | none => .next s

/-! ### Timeouts (R562, R565, R567) -/

/-- REPLAY_TIMEOUT (R562). -/
def execReplayTimeout (lane : LaneId) (s : State) : Result :=
  match (s.lane lane).q.buffer with
  | p :: _ =>
    if s.laneUp lane && s.elapsedRing p.at_ (max 1 (s.f (SHR_REPLAY_CFG_TMO lane)) * 16) then .next (s.replay lane)
    else .next s
  | [] => .next s

/-- RELOCK_TIMEOUT (R565). -/
def execRelockTimeout (lane : LaneId) (s : State) : Result :=
  let k := (s.lane lane).link
  if s.laneState lane = LaneSt.relock ∧ s.elapsedSteered k.at_ (max 1 (slice k.cfg.toNat 20 12) * 1000) then
    .next (s.laneDown lane 2).fordLink
  else .next s

/-- DOWN_BLOCK_RECEIVE (R567). -/
def execDownBlockReceive (lane : LaneId) (_cause : BitVec 4) (s : State) : Result :=
  if s.laneTakes lane then .next (s.laneDown lane 3).fordLink else .next s

/-! ### Settings and tests (R541, R575 to R577) -/

/-- A write of SHR_TXFFE (R540, R541): in TEST it takes effect at once, otherwise with the next block that is sent. -/
def State.ffeSet (s : State) (l rate : Nat) (v : Word) : State :=
  let n := v.toNat
  if 63 < slice n 0 4 + slice n 4 6 + slice n 10 5 ∨ slice n 4 6 < 20 then s.laneErr (SHR_LERR_FFE_REJ l) l
  else
    let s1 := s.writeBits (SHR_TXFFE l rate) v
    if s1.laneState l = LaneSt.test ∧ s1.f (SHR_LSTAT_RATE l) = rate then
      s1.setLink l { (s1.lane l).link with ffe := s1.ffeNow l }
    else s1

/-- FFE_WRITE (R541). -/
def execFfeWrite (p : Path) (lane : LaneId) (rate : Fin 7) (v : Word) (s : State) : Result :=
  .next (s.onWrite p (SHR_TXFFE lane rate) fun s => s.ffeSet lane rate v)

/-- A write of SHR_PRBS_CFG: INJ and CLR act (R575, R576). -/
def State.prbsCfg (s : State) (l : Nat) (v : Word) : State :=
  let s1 := s.writeBits (SHR_PRBS_CFG l) v
  let k := (s1.lane l).link
  let s2 := if bitOf v.toNat 9 && s1.laneState l == LaneSt.test then s1.setLink l { k with inject := k.inject + 1 } else s1
  if bitOf v.toNat 10 then ((s2.set64 (SHR_PRBS_ERR l) 0).set64 (SHR_PRBS_BITS l) 0).setF (SHR_PRBS_STAT_RESYNC l) 0 else s2

/-- INJ (R576). -/
def execInj (p : Path) (lane : LaneId) (v : Word) (s : State) : Result :=
  .next (s.onWrite p (SHR_PRBS_CFG lane) fun s => s.prbsCfg lane v)

/-- CLR (R575). -/
def execClr (p : Path) (lane : LaneId) (v : Word) (s : State) : Result :=
  .next (s.onWrite p (SHR_PRBS_CFG lane) fun s => s.prbsCfg lane v)

/-- A 48-bit counter increased, saturating. -/
def State.bump48 (s : State) (off : Nat) : State := s.set64 off (satAdd 48 (s.f64 off) 1)

/-- The checker leaves SYNC after 32 mismatches within 1,024 bits (R575). -/
def State.checkSync (s : State) (l : Nat) : State :=
  let k := (s.lane l).link
  let bad := k.prbsBad.filter fun n => Nat.blt k.prbsRun (n + 1024)
  if 32 ≤ bad.length then
    ((s.setLink l { k with prbsRun := 0, prbsBad := [] }).setF (SHR_PRBS_STAT_SYNC l) 0).bump (SHR_PRBS_STAT_RESYNC l) 1
  else s.setLink l { k with prbsBad := bad }

/-- One received bit of the pattern (R575). -/
def State.checkBit (s : State) (l : Nat) (taps : Nat × Nat) (bit : Bool) : State :=
  let k := (s.lane l).link
  let want := prbsNext taps k.prbsRx
  if s.flag (SHR_PRBS_STAT_SYNC l) then
    let s1 := (s.setLink l { k with
      prbsRx := prbsShift taps k.prbsRx want, prbsRun := k.prbsRun + 1
      prbsBad := if bit = want then k.prbsBad else (k.prbsRun + 1) :: k.prbsBad }).bump48 (SHR_PRBS_BITS l)
    if bit = want then s1 else (s1.bump48 (SHR_PRBS_ERR l)).checkSync l
  else
    let run := if k.prbsRun < taps.1 ∨ bit = want then k.prbsRun + 1 else 0
    let s1 := s.setLink l { k with prbsRx := prbsShift taps k.prbsRx bit, prbsRun := run, prbsBad := [] }
    if taps.1 + 64 ≤ run then s1.setF (SHR_PRBS_STAT_SYNC l) 1 else s1

/-- PRBS_CHECKER_BIT (R575). -/
def execPrbsCheckerBit (lane : LaneId) (bit : Bool) (s : State) : Result :=
  let pat := s.f (SHR_PRBS_CFG_RX_PAT lane)
  match prbsTaps pat with
  | some t =>
    if s.laneState lane = LaneSt.test ∧ s.flag (SHR_PRBS_CFG_RX_EN lane) then
      .next (s.checkBit lane t ((bit ^^ bitOf (s.lane lane).link.cfg.toNat 7) ^^
        prbsInverts pat (s.flag (SHR_PRBS_CFG_INV lane))))
    else .next s
  | none => .next s

/-- An eye-scan command runs on a lane (R577). -/
def State.eyeRuns (s : State) (l : Nat) : Bool :=
  let u := 6 + l / 4
  s.mbBusyNow u && Nat.ble (Sparse.get Mailbox.reset s.mbs u).cmd 2 && slice (s.reg (SHR_MB_ARG (l / 4) 0)).toNat 0 2 == l % 4

/-- RECENTER (R577). -/
def execRecenter (lane : LaneId) (left right : Byte) (s : State) : Result :=
  let l := lane.val
  if s.laneUp l && s.flag (SHR_LCFG_RECENTER_EN l) && !s.eyeRuns l then
    let s1 := (s.setF (SHR_EYE_L l) left.toNat).setF (SHR_EYE_R l) right.toNat
    let phase := s.f (SHR_EYE_PHASE l)
    .next (if left.toNat + 1 < right.toNat then s1.setF (SHR_EYE_PHASE l) (phase + 1)
      else if right.toNat + 1 < left.toNat then s1.setF (SHR_EYE_PHASE l) (phase + 255)
      else s1)
  else .next s

/-! ### Quad commands (R578) -/

/-- The lane that a quad command names. -/
def State.eyeLane (s : State) (q : Nat) : Nat := 4 * q + slice (s.reg (SHR_MB_ARG q 0)).toNat 0 2

/-- BITS_LOG2. -/
def State.eyeBits (s : State) (q : Nat) : Nat := slice (s.reg (SHR_MB_ARG q 0)).toNat 16 6

/-- An eye command is refused (R578), or completes with two results. -/
def State.eyeCommand (s : State) (q res0 res1 : Nat) : State :=
  let st := s.laneState (s.eyeLane q)
  if st ≠ LaneSt.up ∧ st ≠ LaneSt.test then s.mbFinish (6 + q) 8 0 0
  else if s.eyeBits q < 10 ∨ 40 < s.eyeBits q then s.mbFinish (6 + q) 2 0 0
  else s.mbFinish (6 + q) 0 res0 res1

/-- EYE_POINT (R578). -/
def execEyePoint (p : Path) (q : Fin 32) (mismatches : Nat) (s : State) : Result :=
  .next (s.onWrite p (SHR_MB_CMD q) fun s =>
    s.mbCommand (6 + q) 1 fun s => s.eyeCommand q (min 0xFFFFFFFF mismatches) (2 ^ (s.eyeBits q - 10)))

/-- EYE_WIDTH (R578). -/
def execEyeWidth (p : Path) (q : Fin 32) (left right : Byte) (s : State) : Result :=
  .next (s.onWrite p (SHR_MB_CMD q) fun s =>
    s.mbCommand (6 + q) 2 fun s => s.eyeCommand q (left.toNat + 256 * right.toNat) 0)

/-- LOAD_SEND (R29, R31, R578). -/
def State.loadSend (s : State) (q : Nat) : State :=
  let l := s.eyeLane q
  let a := (s.reg (SHR_MB_ARG q 1)).toNat + (s.reg (SHR_MB_ARG q 2)).toNat * 4294967296
  let n := (s.reg (SHR_MB_ARG q 3)).toNat
  if n = 0 then s.mbFinish (6 + q) 0 0 0
  else if !s.laneUp l || s.anchor l != l then s.mbFinish (6 + q) 8 0 0
  else if !inCarve a n then s.mbFinish (6 + q) 1 0 0
  else ((chunks 64 n (s.carveRead a n)).foldl (fun t b => t.laneLoad l b) s).mbFinish (6 + q) 0 n 0

/-- LOAD_SEND (R578). -/
def execLoadSend (p : Path) (q : Fin 32) (s : State) : Result :=
  .next (s.onWrite p (SHR_MB_CMD q) fun s => s.mbCommand (6 + q) 3 fun s => s.loadSend q)

end Sys2Proof.Machine
end

