-- ==== Sys2Proof/Machine/Management.lean ====
section
/-! DEFINITION. The management Ethernet port (15_innkeeper_ostler R678, R699 to R705): frames received and sent, the rings in
Innkeeper memory, ARP, and the MDIO master. A frame is the bytes from the destination address to the last before the
FCS. -/

namespace Sys2Proof.Machine

open Reg

/-- The management port replaced. -/
def State.setMge (s : State) (x : MgePort) : State := { s with mge := x }

/-! ### The Innkeeper physical map (R678) -/

/-- The region of an address: boot memory 1, MRAM 2, carve-out 3; 0 where the port reaches nothing. -/
def innRegion (a : Nat) : Nat :=
  if a < 0x800000 then 1
  else if 0x10000000 ≤ a ∧ a < 0x18000000 then 2
  else if inCarve a 1 then 3
  else 0

/-- One byte at an Innkeeper address. -/
def State.innByte (s : State) (a : Nat) : Byte :=
  match innRegion a with
  | 1 => Sparse.get 0 s.boot a
  | 2 => if inGuestbook (a - 0x10000000) then 0 else Sparse.get 0 s.mram (a - 0x10000000)
  | 3 => Sparse.get 0 s.hbm (carveKey (a - carveBase))
  | _ => 0

/-- Bytes from an Innkeeper address. -/
def State.innRead (s : State) (a n : Nat) : List Byte := (List.range n).map fun i => s.innByte (a + i)

/-- A little-endian number at an Innkeeper address. -/
def State.innNat (s : State) (a n : Nat) : Nat := ofBytesLE (s.innRead a n)

/-- Bytes written at an Innkeeper address: MRAM is read only. -/
def State.innWrite (s : State) (a : Nat) (bs : List Byte) : State :=
  match innRegion a with
  | 1 => { s with boot := writeBytes s.boot a bs }
  | 3 => s.carveWrite a bs
  | _ => s

/-- A range lies in one region. -/
def innHolds (a n : Nat) : Bool := innRegion a != 0 && innRegion a == innRegion (a + (n - 1))

/-! ### Fields of frames -/

/-- Bytes of a frame, big-endian. -/
def frameNat (frame : List Byte) (o n : Nat) : Nat := ofBytesBE ((frame.drop o).take n)

/-- A number as bytes, big-endian, at an offset of a frame. -/
def putFrame (frame : List Byte) (o n v : Nat) : List Byte := frame.take o ++ bytesBE n v ++ frame.drop (o + n)

/-- The sum of the 16-bit big-endian words of a list of bytes. -/
def sum16 : List Byte → Nat
  | [] => 0
  | [a] => a.toNat * 256
  | a :: b :: rest => a.toNat * 256 + b.toNat + sum16 rest

/-- The Internet checksum's one's-complement sum. -/
def fold16 (n : Nat) : Nat := let m := n % 65536 + n / 65536; m % 65536 + m / 65536

/-- The sum over a UDP datagram and its pseudo-header. -/
def udpSum (frame : List Byte) (ihl len : Nat) : Nat :=
  fold16 (sum16 ((frame.drop 26).take 8) + 17 + len + sum16 ((frame.drop (14 + ihl)).take len))

/-- An untagged IPv4 UDP frame without fragmentation: its header length and UDP length. -/
def udpForm (frame : List Byte) : Option (Nat × Nat) :=
  let ihl := 4 * (frameNat frame 14 1 % 16)
  let total := frameNat frame 16 2
  let len := frameNat frame (14 + ihl + 4) 2
  if frameNat frame 12 2 = 0x0800 ∧ frameNat frame 14 1 / 16 = 4 ∧ 20 ≤ ihl ∧ frameNat frame 20 2 % 16384 = 0 ∧
      frameNat frame 23 1 = 17 ∧ 14 + total ≤ frame.length ∧ ihl + len ≤ total ∧ 8 ≤ len then some (ihl, len) else none

/-- Such a frame with a good header checksum and a good or zero UDP checksum (R699). -/
def udpFrame (frame : List Byte) : Option (Nat × Nat) :=
  match udpForm frame with
  | some (ihl, len) =>
    let ck := frameNat frame (14 + ihl + 6) 2
    if fold16 (sum16 ((frame.drop 14).take ihl)) = 0xFFFF ∧ (ck = 0 ∨ udpSum frame ihl len = 0xFFFF) then some (ihl, len)
    else none
  | none => none

/-- A frame is a register-access request (R699); its request. -/
def State.rapFrame (s : State) (frame : List Byte) : Option RapRequest :=
  match udpFrame frame with
  | none => none
  | some (ihl, len) =>
    let src := frameNat frame 26 4
    let mask := (s.reg MGE_RAP_MASK).toNat
    if frameNat frame 0 6 = s.f64 MGE_MAC ∧ frame.length ≤ 1514 ∧ s.flag MGE_RAP_CFG_EN ∧
        (s.reg MGE_IP = 0 ∨ frameNat frame 30 4 = (s.reg MGE_IP).toNat) ∧
        frameNat frame (14 + ihl + 2) 2 = s.f MGE_RAP_CFG_PORT ∧
        (src ^^^ (s.reg MGE_RAP_ACL).toNat) &&& mask = 0 then
      some ⟨frameNat frame 6 6, src, frameNat frame (14 + ihl) 2, (frame.drop (14 + ihl + 8)).take (len - 8)⟩
    else none

/-- An ARP request for MGE_IP (R699). -/
def State.arpRequest (s : State) (frame : List Byte) : Bool :=
  s.reg MGE_IP != 0 && frameNat frame 12 10 == 0x08060001080006040001 && Nat.ble 42 frame.length &&
    frameNat frame 38 4 == (s.reg MGE_IP).toNat

/-- The ARP reply. -/
def State.arpReply (s : State) (frame : List Byte) : List Byte :=
  let who := (frame.drop 22).take 10
  who.take 6 ++ bytesBE 6 (s.f64 MGE_MAC) ++ bytesBE 10 0x08060001080006040002 ++ bytesBE 6 (s.f64 MGE_MAC) ++
    bytesBE 4 (s.reg MGE_IP).toNat ++ who

/-- A PAUSE frame (Annex 31B of IEEE 802.3): its time in units of 512 bit times, 512 ns. -/
def pauseTime (frame : List Byte) : Option Nat :=
  if frameNat frame 12 4 = 0x88080001 then some (frameNat frame 16 2) else none

/-- The offset of the PTP message of a frame: over Ethernet, or over UDP to the event port 319 (R512). -/
def ptpAt (frame : List Byte) : Option Nat :=
  if frameNat frame 12 2 = 0x88F7 then some 14
  else
    match udpForm frame with
    | some (ihl, _) => if frameNat frame (14 + ihl + 2) 2 = 319 then some (14 + ihl + 8) else none
    | none => none

/-- The offset and type of the PTP event message of a frame: types 0 to 3. -/
def ptpEvent (frame : List Byte) : Option (Nat × Nat) :=
  match ptpAt frame with
  | some o => if frameNat frame o 1 % 16 < 4 then some (o, frameNat frame o 1 % 16) else none
  | none => none

/-! ### The receive ring (R705) -/

/-- A frame that no descriptor takes is counted. -/
def State.rxDrop (s : State) : State := s.bump ⟨MGE_RX_DROP, 0, 32⟩ 1

/-- The receive timestamp of a frame, 16 bytes: that of R512 for a PTP event message. -/
def State.rxStamp (s : State) (frame : List Byte) : List Byte :=
  match ptpEvent frame with
  | some _ =>
    let t := stampOf (s.portTime 0)
    bytesLE 8 t.sec ++ bytesLE 4 t.ns ++ bytesLE 4 t.frac
  | none => List.replicate 16 0

/-- A latency in ps as a steered duration. -/
def psUnits (ps : Nat) : Nat := ps * nsUnit / 1000

/-- The steered count at which a Pdelay_Req arrives, less the ingress latency, is kept for its answer (R504, R513). -/
def State.keepPdelay (s : State) (frame : List Byte) : State :=
  match ptpEvent frame with
  | some (_, 2) =>
    s.setMge { s.mge with pdelayAt := (s.tmk.steered : Int) - psUnits (s.f (TMK_PORT_LAT_INGRESS 0)) }
  | _ => s

/-- A frame goes to the receive ring: none when a ring address lies outside every region. -/
def State.rxRing (s : State) (frame : List Byte) (fcsOk : Bool) : Option State :=
  let len := s.f MGE_RXR_LEN_LEN
  let a := s.f64 MGE_RXR_BASE + 32 * s.f MGE_RXR_HEAD_HEAD
  if !s.flag MGE_CTRL_RX_EN ∨ len = 0 then some s.rxDrop
  else if !innHolds a 32 then none
  else if s.innNat (a + 10) 2 % 2 = 0 then some s.rxDrop
  else
    let buf := s.innNat a 8
    let room := s.innNat (a + 8) 2
    let n := min frame.length room
    if n ≠ 0 ∧ !innHolds buf n then none
    else
      let bad := !fcsOk || Nat.blt room frame.length || Nat.blt 9212 frame.length
      let s1 := (s.keepPdelay frame).innWrite buf (frame.take n)
      let s2 := s1.innWrite (a + 8) (bytesLE 2 n ++ bytesLE 2 (8 * ofBool bad) ++ bytesLE 4 0 ++ s.rxStamp frame)
      some ((s2.setF MGE_RXR_HEAD_HEAD ((s.f MGE_RXR_HEAD_HEAD + 1) % len)).fire 21)

/-- The result of a ring access: the bus error of R678 where its address lies outside every region. -/
def ringResult : Option State → Result
  | some s => .next s
  | none => .fault .busError

/-- A register-access request waits, or is dropped (R703, R766). -/
def State.takeRap (s : State) (r : RapRequest) : State :=
  if s.rst.stage = 1 then s
  else if 4 ≤ s.mge.waiting.length then s.bump MGE_RAP_CNT_DROP 1
  else s.setMge { s.mge with waiting := s.mge.waiting ++ [r] }

/-- MGE_FRAME_RECEIVE (R699, R703, R705, R803, R815). -/
def execMgeFrameReceive (frame : List Byte) (fcsOk : Bool) (s : State) : Result :=
  if s.jtagPins || s.mode == Mode.reset || s.f MGE_LB_MODE == 1 || s.f MGE_LB_MODE == 2 then .next s
  else if s.f MGE_LB_MODE = 3 then .next (s.setMge { s.mge with sent := frame })
  else if !fcsOk then ringResult (s.rxRing frame fcsOk)
  else
    match pauseTime frame, s.flag MGE_CTRL_PAUSE_EN with
    | some q, true => .next (s.setMge { s.mge with pauseUntil := s.hub + 512 * q })
    | _, _ =>
      match s.rapFrame frame with
      | some r => .next (s.takeRap r)
      | none =>
        if s.arpRequest frame then .next (s.setMge { s.mge with sent := s.arpReply frame })
        else ringResult (s.rxRing frame fcsOk)

/-! ### The transmit ring (R705, R513) -/

/-- The UDP checksum of a frame made good again. -/
def fixUdp (frame : List Byte) : List Byte :=
  if frameNat frame 12 2 = 0x0800 then
    let ihl := 4 * (frameNat frame 14 1 % 16)
    let len := frameNat frame (14 + ihl + 4) 2
    let f0 := putFrame frame (14 + ihl + 6) 2 0
    let ck := 0xFFFF - udpSum f0 ihl len
    putFrame f0 (14 + ihl + 6) 2 (if ck = 0 then 0xFFFF else ck)
  else frame

/-- The one-step insertion of R513: the transmit time into originTimestamp of a Sync, the turnaround, a steered duration
(R504), into correctionField of a Pdelay_Resp. -/
def State.oneStepFrame (s : State) (frame : List Byte) : List Byte :=
  let late := psUnits (s.f (TMK_PORT_LAT_EGRESS 0))
  let t := stampOf (s.tmk.time + late)
  match ptpEvent frame with
  | some (o, 0) => fixUdp (putFrame (putFrame frame (o + 34) 6 t.sec) (o + 40) 4 t.ns)
  | some (o, 3) =>
    let turn := ((s.tmk.steered + late : Nat) - s.mge.pdelayAt) / 16777216
    fixUdp (putFrame frame (o + 8) 8 (frameNat frame (o + 8) 8 + turn.toNat))
  | _ => frame

/-- The frame of the next transmit descriptor is sent, and looped back where MGE_LB says so (R803). -/
def State.txFrame (s : State) (a len : Nat) : Option State :=
  let buf := s.innNat a 8
  let n := s.innNat (a + 8) 2
  let flags := s.innNat (a + 10) 2
  if n ≠ 0 ∧ !innHolds buf n then none
  else
    let raw := s.innRead buf n
    let frame := if bitOf flags 1 then s.oneStepFrame raw else raw
    let s1 := s.innWrite (a + 10) (bytesLE 2 (putBit flags 0 false))
    let s2 := (s1.setF MGE_TXR_HEAD_HEAD ((s.f MGE_TXR_HEAD_HEAD + 1) % len)).fire 22
    let s3 := s2.setMge { s2.mge with sent := frame }
    if s.f MGE_LB_MODE = 1 ∨ s.f MGE_LB_MODE = 2 then s3.rxRing frame true else some s3

/-- MGE_TX_DESCRIPTOR (R705). -/
def execMgeTxDescriptor (s : State) : Result :=
  let len := s.f MGE_TXR_LEN_LEN
  let a := s.f64 MGE_TXR_BASE + 32 * s.f MGE_TXR_HEAD_HEAD
  if !s.flag MGE_CTRL_TX_EN ∨ len = 0 ∨ s.hub < s.mge.pauseUntil then .next s
  else if !innHolds a 32 then .fault .busError
  else if s.innNat (a + 10) 2 % 2 = 0 then .next s
  else ringResult (s.txFrame a len)

/-! ### MDIO and the ring registers -/

/-- A write of MGE_MDIO_CMD: one that would start a frame while one runs is dropped. -/
def State.mdioWrite (s : State) (v : Word) : State :=
  if s.flag MGE_MDIO_CMD_GO_BUSY ∧ bitOf v.toNat 31 then s else s.writeBits MGE_MDIO_CMD v

/-- GO_BUSY (MGE registers). -/
def execGoBusy (p : Path) (v : Word) (s : State) : Result := .next (s.onWrite p MGE_MDIO_CMD fun s => s.mdioWrite v)

/-- MDIO_COMPLETE (MGE registers). -/
def execMdioComplete (data : BitVec 16) (s : State) : Result :=
  if s.flag MGE_MDIO_CMD_GO_BUSY then
    let s1 := if s.flag MGE_MDIO_CMD_READ then s.setF MGE_MDIO_CMD_DATA data.toNat else s
    .next (s1.setF MGE_MDIO_CMD_GO_BUSY 0)
  else .next s

/-- A register of a ring, whose write is dropped while the ring is enabled. -/
def State.ringLocked (s : State) (off : Nat) : Bool :=
  (s.flag MGE_CTRL_RX_EN && Nat.ble MGE_RXR_BASE off && Nat.ble off MGE_RXR_LEN) ||
    (s.flag MGE_CTRL_TX_EN && Nat.ble MGE_TXR_BASE off && Nat.ble off MGE_TXR_LEN)

/-- I2C_SCL_TIMEOUT (R707): the transaction is abandoned, and nothing of it is answered. -/
def execI2cSclTimeout (s : State) : Result := .next (s.setMge { s.mge with i2cOut := [] })

end Sys2Proof.Machine
end

