-- ==== Sys2Proof/Machine/Packets.lean ====
section
/-! DEFINITION. The unscheduled packets of Millrace (05_millrace_network R281 to R308): reservation, transfer, delivery,
return and completion. -/

namespace Sys2Proof.Machine

open Reg

/-- A control flit of an operation for a node and tag. -/
def isCtl (op dnode tag f : Nat) : Bool := slice f 43 3 == op && flitNode f == dnode && flitPacket f == tag

/-- The RESV of a source for a node and tag. -/
def isRequest (dnode snode tag f : Nat) : Bool := isCtl 0 dnode tag f && flitFrom f == snode

/-- The control flit that has reached a node, of those that pass a test. -/
def State.ctlAt (s : State) (p : Nat → Bool) : Option Nat := s.net.ctl.find? p

/-- A control flit that has reached its node is taken. -/
def State.takeCtl (s : State) (f : Nat) : State := s.setNet { s.net with ctl := removeFirst (· == f) s.net.ctl }

/-- The lowest free buffer of a class. -/
def State.freeBuf (s : State) (node : Nat) (resp : Bool) : Option Nat :=
  (List.range (bufCount node)).find? fun b => (s.recvBuf node resp b).phase == 0

/-- The buffer for a packet: a response finds the one its requester kept (R286); any other, the lowest free. -/
def State.bufferFor (s : State) (node : Nat) (resp : Bool) (snode : Nat) : Option Nat :=
  let kept := (List.range (bufCount node)).find? fun b =>
    resp && (s.recvBuf node resp b).phase == 4 && (s.recvBuf node resp b).snode == snode
  match kept with
  | some b => some b
  | none => s.freeBuf node resp

/-- The RESV of a packet is sent (R281). -/
def State.sendResv (s : State) (n g : Nat) (b : SendBuf) : State :=
  s.netSend n [mkCtl 0 b.gen b.genAny b.resp b.dnode n g 0 0]

/-- A source holds a packet in a send buffer and sends its RESV (R281, R285); one that expects a response keeps a response
buffer for it, and is not sent while none is free (R286). -/
def State.openSend (s : State) (snode tag : Nat) (b : SendBuf) (expects : Bool) : State :=
  if bufCount snode ≤ (s.net.send.filter fun kv => kv.1 / 256 == snode).length then s
  else if expects then
    match s.freeBuf snode true with
    | none => s
    | some k =>
      let b1 := { b with rbuf := some k }
      let s1 := s.setRecv snode true k { RecvBuf.reset with snode := b.dnode, phase := 4 }
      (s1.setSend snode tag (some b1)).sendResv snode tag b1
  else (s.setSend snode tag (some b)).sendResv snode tag b

/-- A NACK with a status is sent to a source (R281); a stop that sends it counts it. -/
def State.sendNack (s : State) (dnode f status : Nat) : State :=
  let s1 := s.netSend dnode [nackOf f status]
  if isStopNode dnode then s1.bump (MLR_STOP_UCNT_NACK (nodeStop dnode)) 1 else s1

/-- A generation is behind the active one (R289). -/
def isBehind (gen act : Nat) : Bool := Nat.ble 8 ((gen + 16 - act % 16) % 16)

/-- The active generation of the die of a node. -/
def State.nodeGen (s : State) (n other : Nat) : Nat := s.f (MLR_GEN_STATUS_ACTIVE_GEN (nodeDie n other))

/-- The answer of its node to a RESV (R281, R286, R296, R299). -/
def State.answerResv (s : State) (f : Nat) : State :=
  let n := flitNode f
  let src := flitFrom f
  let resp := bitOf f 42
  let gen := slice f 47 4
  if isCluNode n && !s.clusterOn (nodeClu n) then s.sendNack n f 1
  else if !bitOf f 46 && isBehind gen (s.nodeGen n src) then s.sendNack n f 3
  else
    match s.bufferFor n resp src with
    | none => s.sendNack n f 0
    | some b =>
      (s.setRecv n resp b { RecvBuf.reset with
        snode := src, tag := flitPacket f, gen := gen, genAny := bitOf f 46, phase := 1, at_ := s.hub }).netSend n
        [mkCtl 1 gen (bitOf f 46) resp src n (flitPacket f) 0 b]

/-- RESV (R281, R286): a destination answers the RESV that has reached it; where there is none, and the tag is free, the
source takes a packet into a send buffer and sends its RESV. -/
def execResv (dnode snode : BitVec 12) (tag : BitVec 8) (resp : Bool) (gen : BitVec 4)
    (body : SendBody) (s : State) : Result :=
  match s.ctlAt (isRequest dnode.toNat snode.toNat tag.toNat) with
  | some f => .next ((s.takeCtl f).answerResv f)
  | none =>
    if (s.sendBuf snode.toNat tag.toNat).isSome then .next s
    else .next (s.openSend snode.toNat tag.toNat
      ⟨dnode.toNat, resp, gen.toNat, body.genAny, (body.data.take 63).map (·.toNat), 0, 0, s.hub, none⟩ (body.expects && !resp))

/-- The flits of a packet (R253, R255). -/
def packetFlits (snode tag buf : Nat) (b : SendBuf) : List Nat :=
  mkHead b.gen b.genAny false b.resp buf b.dnode snode tag b.data.length 0 :: bodyFlits b.data

/-- GRANT (R282): the source sends the packet into the buffer that the GRANT names. -/
def execGrant (node : BitVec 12) (tag : BitVec 8) (buf : Fin 4) (s : State) : Result :=
  let n := node.toNat
  let g := tag.toNat
  match s.ctlAt fun f => isCtl 1 n g f && slice f 4 2 == buf.val, s.sendBuf n g with
  | some f, some b =>
    if b.phase = 0 then
      .next (((s.takeCtl f).setSend n g (some { b with phase := 2, at_ := s.hub })).netSend n (packetFlits n g buf b))
    else .next (s.takeCtl f)
  | some f, none => .next (s.takeCtl f)
  | none, _ => .next s

/-- RESV is sent again (R283). -/
def State.resend (s : State) (n g : Nat) (b : SendBuf) : State :=
  let b1 := { b with phase := 0, at_ := s.hub }
  (s.setSend n g (some b1)).sendResv n g b1

/-- A source takes a NACK (R283). -/
def State.takeNack (s : State) (n g status : Nat) (b : SendBuf) : State :=
  let d := nodeDie n b.dnode
  let b1 := { b with nacks := b.nacks + 1 }
  if status ≠ 0 then s.complete n g status
  else if s.f (MLR_UCFG_RETRY_MAX d) ≤ b.nacks + 1 then s.complete n g 6
  else if s.f (MLR_UCFG_RETRY_GAP d) = 0 then s.resend n g b1
  else s.setSend n g (some { b1 with phase := 1, at_ := s.hub })

/-- NACK (R283). -/
def execNack (node : BitVec 12) (tag : BitVec 8) (status : BitVec 4) (s : State) : Result :=
  let n := node.toNat
  let g := tag.toNat
  match s.ctlAt fun f => isCtl 2 n g f && slice f 6 4 == status.toNat, s.sendBuf n g with
  | some f, some b =>
    if b.phase = 0 then .next ((s.takeCtl f).takeNack n g status.toNat b) else .next (s.takeCtl f)
  | some f, none => .next (s.takeCtl f)
  | none, _ => .next s

/-- RETRY_GAP_EXPIRY (R283). -/
def execRetryGapExpiry (node : BitVec 12) (tag : BitVec 8) (s : State) : Result :=
  let n := node.toNat
  let g := tag.toNat
  match s.sendBuf n g with
  | some b =>
    if b.phase = 1 ∧ s.elapsedRing b.at_ (s.f (MLR_UCFG_RETRY_GAP (nodeDie n b.dnode))) then .next (s.resend n g b)
    else .next s
  | none => .next s

/-- A node whose cluster has left ON returns what it holds (R300). -/
def State.nodeOff (s : State) (n : Nat) : Bool := isCluNode n && !s.clusterOn (nodeClu n)

/-- The whole of a packet has come into its buffer (R255). -/
def RecvBuf.full (b : RecvBuf) : Bool := b.phase == 1 && b.len == some b.data.length

/-- PACKET_RECEIVED (R296, R297, R300). -/
def execPacketReceived (node : BitVec 12) (resp : Bool) (buf : Nat) (s : State) : Result :=
  let n := node.toNat
  let b := s.recvBuf n resp buf
  if !b.full then .next s
  else
    let act := s.nodeGen n b.snode
    let keep (phase : Nat) : State := s.setRecv n resp buf { b with phase := phase, at_ := s.hub }
    if s.nodeOff n || b.off then .next (s.returnPacket n resp buf 1)
    else if b.genAny ∨ b.gen = act then .next (keep 3)
    else if isBehind b.gen act then .next (s.returnPacket n resp buf 3)
    else .next (keep 2)

/-- PACKET_TAKEN (R284, R300, R308): the unit has taken the whole packet; DONE carries OK, or REFUSED where the unit rejects
its content. -/
def execPacketTaken (node : BitVec 12) (resp : Bool) (x : TakenBuf) (s : State) : Result :=
  let n := node.toNat
  let b := s.recvBuf n resp x.buf
  if b.phase ≠ 3 then .next s
  else if s.nodeOff n then .next (s.returnPacket n resp x.buf 1)
  else
    .next ((s.setRecv n resp x.buf RecvBuf.reset).netSend n
      [mkCtl 3 b.gen b.genAny resp b.snode n b.tag (if x.refused then 8 else 0) 0])

/-- A DONE or a returned packet with no outstanding tag is discarded (R306). -/
def State.stray (s : State) (n : Nat) : State :=
  if isStopNode n then s.stopErr (n / 512) (n / 64 % 8) (n % 64) MLR_STOP_ERR_STRAY else s

/-- A packet of a source has been sent and has not completed. -/
def State.outstanding (s : State) (n g : Nat) : Bool := (s.sendBuf n g).any fun b => b.phase == 2

/-- DONE (R284, R306). -/
def execDone (node : BitVec 12) (tag : BitVec 8) (s : State) : Result :=
  let n := node.toNat
  let g := tag.toNat
  match s.ctlAt (isCtl 3 n g) with
  | none => .next s
  | some f =>
    if s.outstanding n g then .next ((s.takeCtl f).complete n g (slice f 6 4)) else .next ((s.takeCtl f).stray n)

/-- RETURNED_PACKET (R285, R306). -/
def execReturnedPacket (node : BitVec 12) (tag : BitVec 8) (status : BitVec 4) (s : State) : Result :=
  let n := node.toNat
  let g := tag.toNat
  let x := (n * 256 + g, status.toNat)
  if s.net.ret.contains x then
    let s1 := s.setNet { s.net with ret := removeFirst (· == x) s.net.ret }
    if s.outstanding n g then .next (s1.complete n g status.toNat) else .next (s1.stray n)
  else .next s

/-- HOLD_TIMEOUT (R305). -/
def execHoldTimeout (node : BitVec 12) (resp : Bool) (buf : Nat) (s : State) : Result :=
  let n := node.toNat
  let b := s.recvBuf n resp buf
  if (b.phase = 2 ∨ b.phase = 3) ∧ s.elapsedRing b.at_ (s.f (MLR_UTO_HOLD (nodeDie n b.snode))) then
    .next (s.returnPacket n resp buf (if b.phase = 2 then 2 else 4))
  else .next s

/-- SRC_TIMEOUT (R306). -/
def execSrcTimeout (node : BitVec 12) (tag : BitVec 8) (s : State) : Result :=
  let n := node.toNat
  match s.sendBuf n tag.toNat with
  | some b =>
    if b.phase = 2 ∧ s.elapsedRing b.at_ (s.f (MLR_UTO_SRC (nodeDie n b.dnode))) then .next (s.complete n tag.toNat 7)
    else .next s
  | none => .next s

end Sys2Proof.Machine
end

