-- ==== Sys2Proof/Machine/Test.lean ====
section
/-! DEFINITION. Production and field test (20_test_loopback): built-in test, the loopback enables, the TAP, and the supplies
of the user I/O banks (R835). -/

namespace Sys2Proof.Machine

open Reg

/-- The test unit replaced. -/
def State.setTst (s : State) (x : TestUnit) : State := { s with tst := x }

/-! ### Loopback enables (R801) -/

/-- A write of MGE_LB, FAB_IO_LB or TMK_LB (R801). -/
def State.loopWrite (s : State) (p : Path) (off : Nat) (v : Word) : State :=
  let mode := if off = MGE_LB then slice v.toNat 0 2 else if off = FAB_IO_LB then slice v.toNat 0 24 else slice v.toNat 0 9
  if (s.mode ≠ Mode.diagnose ∧ mode ≠ 0) ∨ (off = MGE_LB ∧ p.val = 16) then s else s.writeBits off v

/-- LOOPBACK_ENABLE_WRITE (R801). -/
def execLoopbackEnableWrite (p : Path) (off : WinOff) (v : Word) (s : State) : Result :=
  .next (s.onWrite p off.toNat fun s =>
    if off.toNat = MGE_LB ∨ off.toNat = FAB_IO_LB ∨ off.toNat = TMK_LB then s.loopWrite p off.toNat v else s)

/-! ### Built-in test (R805 to R812) -/

/-- A cluster that MBIST and LBIST test (R809). -/
def State.testable (s : State) (c : Nat) : Bool := !s.fuseFailed c && !s.flag (PWR_DOM_FAIL (c / 34))

/-- The clusters that MBIST and LBIST test. -/
def State.testables (s : State) : List Nat := (List.range 1088).filter s.testable

/-- A command ends with FAIL when any unit fails (R812). -/
def State.bistFinish (s : State) (res0 res1 : Nat) : State :=
  s.mbFinish 41 (if res0 = 0 ∧ res1 = 0 then 0 else 8) res0 res1

/-- A BIST command is accepted, or refused with STATE (R805). -/
def State.bistIn (s : State) (act : State → State) : State :=
  if s.mode ≠ Mode.diagnose ∨ s.mbBusyNow 0 then s.mbFinish 41 3 0 0
  else act (s.setTst { s.tst with bistAt := s.tmk.steered, tested := [], failed := [] })

/-- A cluster under test: RESET, with every store as R130 leaves it and its SRAM undefined (R806, R808). -/
def State.testCluster (s : State) (c : Nat) : State :=
  let s1 := s.clusterReset c
  s1.setCl c { s1.cl c with sram := [] }

/-- The named clusters are tested; those that fail are reported when the command completes. -/
def State.testClusters (s : State) (failed : List Nat) : State :=
  let cs := s.testables
  let s1 := cs.foldl State.testCluster s
  s1.setTst { s1.tst with tested := cs, failed := cs.filter failed.contains }

/-- MBIST (R806, R808 to R810). -/
def execMbist (p : Path) (failed : List (Fin 1088)) (cfgFailed : Bool) (s : State) : Result :=
  .next (s.onWrite p DEV_BIST_CMD fun s => s.mbCommand 41 1 fun s => s.bistIn fun s =>
    let arg := (s.reg (DEV_BIST_ARG 0)).toNat
    let s1 := if bitOf arg 0 then s.testClusters (failed.map (·.val)) else s
    let s2 := if bitOf arg 1 then s1.fabricStop.cfgErase else s1
    s2.bistFinish s2.tst.failed.length (ofBool (bitOf arg 1 && cfgFailed)))

/-- LBIST (R807 to R809). -/
def execLbist (p : Path) (failed : List (Fin 1088)) (s : State) : Result :=
  .next (s.onWrite p DEV_BIST_CMD fun s => s.mbCommand 41 2 fun s => s.bistIn fun s =>
    let s1 := s.testClusters (failed.map (·.val))
    s1.bistFinish s1.tst.failed.length 0)

/-- The contents of a stack are destroyed. -/
def State.eraseStack (s : State) (d : Nat) : State :=
  { s with hbm := Sparse.keep (fun k => k / stackSize != d) s.hbm }

/-- HBM_BIST of one stack (R811). -/
def State.testStack (depth : Nat) (s : State) (d : Nat) : State :=
  if depth = 0 then s.selfRefresh d else (s.setF (HBC_STAT_TRAINED d) 0).eraseStack d

/-- HBM_BIST (R811, R812). -/
def execHbmBist (p : Path) (failedPc : List (Fin 128)) (s : State) : Result :=
  .next (s.onWrite p DEV_BIST_CMD fun s => s.mbCommand 41 3 fun s => s.bistIn fun s =>
    let arg := (s.reg (DEV_BIST_ARG 0)).toNat
    let chosen := (List.range 4).filter fun d => bitOf arg d
    if 1 < slice arg 4 2 then s.mbFinish 41 2 0 0
    else
      let bad := (List.range 128).filter fun i => (failedPc.map (·.val)).contains i && chosen.contains (i / 32)
      let mask := chosen.foldl (fun m d => if bad.any (fun i => i / 32 == d) then putBit m d true else m) 0
      (chosen.foldl (State.testStack (slice arg 4 2)) s).bistFinish mask bad.length)

/-- DEV_BIST_FAIL and, with MARK, BLT_FAILMAP name the clusters that failed (R809). -/
def State.bistReport (s : State) : State :=
  if s.tst.tested.isEmpty then s
  else
    let s1 := (List.range 34).foldl (fun t i => t.setReg (DEV_BIST_FAIL i) 0) s
    let mark := bitOf (s.reg (DEV_BIST_ARG 1)).toNat 0
    s.tst.failed.foldl (fun t c =>
      let t1 := t.setF ⟨DEV_BIST_FAIL (c / 32), c % 32, 1⟩ 1
      if mark then t1.setF ⟨BLT_FAILMAP (c / 32), c % 32, 1⟩ 1 else t1) s1

/-- A BIST command completes (R24, R809). -/
def State.bistComplete (s : State) : State :=
  let s1 := s.bistReport
  (s1.setTst { s1.tst with tested := [], failed := [] }).mbComplete 41

/-- BIST_TIMEOUT (R812): 10 s after acceptance. -/
def execBistTimeout (s : State) : Result :=
  if s.mbRuns 41 ∧ s.elapsedSteered s.tst.bistAt 10000000000 then
    let s1 := s.setTst { s.tst with tested := [], failed := [] }
    .next ((s1.mbFinish 41 4 0 0).mbComplete 41)
  else .next s

/-! ### The TAP (R813 to R816), as IEEE 1149.1 -/

/-- The TAP replaced. -/
def State.setTap (s : State) (x : TapUnit) : State := s.setTst { s.tst with tap := x }

/-- The next controller state at a rising edge of TCK. -/
def tapStep (st : Nat) (tms : Bool) : Nat :=
  let t : Nat × Nat :=
    match st with
    | 0 => (0, 1)
    | 1 => (2, 1)
    | 2 => (9, 3)
    | 3 => (5, 4)
    | 4 => (5, 4)
    | 5 => (8, 6)
    | 6 => (7, 6)
    | 7 => (8, 4)
    | 8 => (2, 1)
    | 9 => (0, 10)
    | 10 => (12, 11)
    | 11 => (12, 11)
    | 12 => (15, 13)
    | 13 => (14, 13)
    | 14 => (15, 11)
    | _ => (2, 1)
  if tms then t.1 else t.2

/-- The instruction selects the boundary register (table of TAP instructions). -/
def tapBoundary (ir : Nat) : Bool := [0x00, 0x02, 0x05, 0x06].contains ir

/-- The length of the selected data register. -/
def tapLength (ir : Nat) : Nat := if tapBoundary ir then 1613 else if ir = 0x01 ∨ ir = 0x09 then 32 else 1

/-- A list of levels as a number, the first in bit 0. -/
def bitsNat : List Bool → Nat
  | [] => 0
  | b :: bs => ofBool b + 2 * bitsNat bs

/-- IDCODE (R813, R848). -/
def State.idcode (s : State) : Nat := s.f DEV_ID_REV * 2 ^ 28 + s.f DEV_ID_PART * 2 ^ 12 + 0x4D1 * 2 + 1

/-- What Capture-DR loads (R813, R816): the boundary register takes the pins and the test receivers. -/
def State.tapCapture (s : State) (pins : List Bool) : Nat :=
  let ir := s.tst.tap.ir
  if tapBoundary ir then bitsNat pins % 2 ^ 1613
  else if ir = 0x01 then s.idcode
  else if ir = 0x09 then (s.reg CFG_USERID).toNat
  else 0

/-- An instruction takes effect (R815). -/
def State.tapUpdate (s : State) (code : Nat) : State := s.setTap { s.tst.tap with ir := code, train := false }

/-- TAP_INSTRUCTION_UPDATE (R815). -/
def execTapInstructionUpdate (code : Byte) (s : State) : Result := .next (s.tapUpdate code.toNat)

/-- TEST_LOGIC_RESET (R813, R815): TRST_N low. -/
def execTestLogicReset (s : State) : Result :=
  .next (s.setTap { s.tst.tap with st := 0, ir := 0x01, train := false, tdo := none })

/-- A rising edge of TCK: the capture or shift of the present state, then the next state. -/
def State.tckRise (s : State) (tms tdi : Bool) (pins : List Bool) : State :=
  let t := s.tst.tap
  let n := tapLength t.ir
  let t1 : TapUnit :=
    match t.st with
    | 3 => { t with dr := s.tapCapture pins }
    | 4 => { t with dr := t.dr / 2 + ofBool tdi * 2 ^ (n - 1) }
    | 10 => { t with irShift := 1 }
    | 11 => { t with irShift := t.irShift / 2 + ofBool tdi * 128 }
    | _ => t
  s.setTap { t1 with st := tapStep t.st tms }

/-- A falling edge of TCK: updates, TDO, and the toggle of EXTEST_TRAIN. -/
def State.tckFall (s : State) : State :=
  let t := s.tst.tap
  let s1 :=
    match t.st with
    | 0 => s.tapUpdate 0x01
    | 1 => if t.ir = 0x06 then s.setTap { t with train := !t.train } else s
    | 8 => if tapBoundary t.ir then s.setTap { t with bound := t.dr } else s
    | 15 => s.tapUpdate t.irShift
    | _ => s
  let out : Option Bool :=
    match t.st with
    | 4 => some (t.dr % 2 == 1)
    | 11 => some (t.irShift % 2 == 1)
    | _ => none
  s1.setTap { s1.tst.tap with tdo := out }

/-- TCK_EDGE (R815, R816). -/
def execTckEdge (rising tms tdi : Bool) (pins : List Bool) (s : State) : Result :=
  .next (if rising then s.tckRise tms tdi pins else s.tckFall)

/-! ### Supplies of the user I/O banks (R835) -/

/-- VCCIO_LOSS (R835). -/
def execVccioLoss (bank : Fin 24) (s : State) : Result :=
  .next (s.setTst { s.tst with vccioLow := putBit s.tst.vccioLow bank true })

/-- VCCIO_RETURN (R835). -/
def execVccioReturn (bank : Fin 24) (s : State) : Result :=
  .next (s.setTst { s.tst with vccioLow := putBit s.tst.vccioLow bank false })

end Sys2Proof.Machine
end

