-- ==== Sys2Proof/Machine/Wake.lean ====
section
/-! DEFINITION. Wake Trace (16_wake_trace): what its rows do to the traces, the merger and the sink, its registers and the
authorisation. -/

namespace Sys2Proof.Machine

open Reg

/-- The WKE block works while its domain is ON. -/
def State.wakeOn (s : State) : Bool := s.domainOn 90

/-! ### What a core's execution brings (R711 to R714, R717, R720 to R724) -/

/-- One outcome enters the ATOM being gathered, which is emitted when it holds 32 (R711). -/
def State.traceOutcome (s : State) (c : Nat) (taken : Bool) : State :=
  let s1 := if (s.tr c).atoms.isEmpty then s.traceLead c else s
  let t := s1.tr c
  let s2 := s1.setTr c { t with atoms := t.atoms ++ [taken], atomAt := t.count }
  if 32 ≤ (s2.tr c).atoms.length then s2.traceAtoms c else s2

/-- TRACE_BRANCH (R711, R724, R728): kinds 0 to 2 are those of an ADDR packet, 3 is a conditional branch; a stalled core
retires nothing. -/
def execTraceBranch (core : Fin 16) (kind : Fin 4) (taken : Bool) (target : BitVec 64) (cycles : Nat) (s : State) :
    Result :=
  let c := core.val
  if s.wakeOn && s.tracing c && (s.tr c).held.isEmpty && !s.flag (WKE_CORE_STAT_ASLEEP c) then
    let s1 := s.traceCycles c cycles
    .next (
      if s1.traceQuiet c then s1
      else if kind = 3 then s1.traceOutcome c taken
      else s1.tracePacket c 2 kind.val [target.toNat] false)
  else .next s

/-- TRACE_CYCLE_OVERFLOW (R713). -/
def execTraceCycleOverflow (core : Fin 16) (s : State) : Result :=
  let c := core.val
  if s.wakeOn && s.tracing c && !(s.tr c).isOver && !s.flag (WKE_CORE_STAT_ASLEEP c) then
    let s1 := s.traceLead c
    let s2 := s1.traceSend c 6 0xFFFF 0xFFFF 0 [] false
    .next (s2.setTr c { s2.tr c with isOver := true, tsDue := max 1 (s2.tr c).tsDue })
  else .next s

/-- TRACE_TS_PERIOD (R714). -/
def execTraceTsPeriod (core : Fin 16) (cycles : Nat) (s : State) : Result :=
  let c := core.val
  let us := 2 ^ s.f WKE_CTRL_TS_LOG2
  if s.wakeOn && s.trState c == TraceSt.active && s.f WKE_CTRL_TS_LOG2 != 0 &&
      s.elapsedSteered (s.tr c).tsAt (1000 * us) then
    let s1 := ((s.traceCycles c cycles).traceAtoms c).traceDrop c
    let s2 := s1.setTr c { s1.tr c with tsAt := (s1.tr c).tsAt + 1000 * us * nsUnit }
    .next (s2.traceTs c)
  else .next s

/-- A packet with the Tidemark time: SLEEP or WAKE (R712). -/
def State.traceTime (s : State) (c ty : Nat) : State := s.tracePacket c ty s.now.ns [s.now.sec, s.now.frac] true

/-- TRACE_SLEEP (R720): a core that runs goes to sleep. -/
def execTraceSleep (core : Fin 16) (cycles : Nat) (s : State) : Result :=
  let c := core.val
  if s.wakeOn && s.f (OST_CORE_STAT_STATE c) == 1 then
    let s1 := if s.tracing c then ((s.traceCycles c cycles).traceTime c 4).setF (WKE_CORE_STAT_ASLEEP c) 1 else s
    .next (s1.setF (OST_CORE_STAT_STATE c) 2)
  else .next s

/-- TRACE_WAKE (R721, R722): a core leaves sleep; CYC is 0 and the count restarts. -/
def execTraceWake (core : Fin 16) (s : State) : Result :=
  let c := core.val
  if s.wakeOn && s.f (OST_CORE_STAT_STATE c) == 2 then
    let s1 := s.setF (OST_CORE_STAT_STATE c) 1
    let s2 :=
      if s1.tracing c then
        let s2 := s1.traceLead c
        s2.traceSend c 5 0 0 s2.now.ns [s2.now.sec, s2.now.frac] true
      else s1
    .next (s2.setF (WKE_CORE_STAT_ASLEEP c) 0)
  else .next s

/-- Comparator k of a core matches at an instruction address, alone or as the first of a range (R717). -/
def State.cmpMatch (s : State) (c k addr : Nat) : Bool :=
  let a := s.f64 (WKE_CMP_ADDR c k)
  if s.cmpTaken c k then false
  else if k % 2 = 0 ∧ s.flag (WKE_CMP_CFG_RANGE c k) then
    let b := s.f64 (WKE_CMP_ADDR c (k + 1))
    Nat.ble (min a b) addr && Nat.ble addr (max a b)
  else addr == a

/-- Some comparator with a given ACT matches. -/
def State.cmpAct (s : State) (c addr act : Nat) : Bool :=
  (List.range 8).any fun k => s.f (WKE_CMP_CFG_ACT c k) == act && s.cmpMatch c k addr

/-- START and STOP at a retired instruction: STOP acts when both match (R716, R717). -/
def State.cmpStartStop (s : State) (c addr : Nat) : State :=
  if s.cmpAct c addr 2 then
    (if s.trState c = TraceSt.active then s.traceStop c 0 TraceSt.armed
    else if s.trState c = TraceSt.stopping then s.traceStop c 0 TraceSt.stopping
    else s)
  else if s.cmpAct c addr 1 ∧ s.trState c = TraceSt.armed then s.traceActivate c
  else s

/-- COMPARATOR_MATCH (R717, R724): the comparators of core 0 or 1 at a retired instruction. -/
def execComparatorMatch (core : Fin 2) (addr : BitVec 64) (cycles : Nat) (s : State) : Result :=
  let c := core.val
  if s.wakeOn && s.flag WKE_CTRL_EN && !s.traceQuiet c then
    let s1 := s.traceCycles c cycles
    let s2 := if s1.cmpAct c addr.toNat 3 && s1.trigEnabled (3 + c) then s1.wakeTrigger (3 + c) else s1
    .next (s2.cmpStartStop c addr.toNat)
  else .next s

/-- WAKE_TRIGGER (R718): a source of the table of packet types; those of 6 and 7 are none. -/
def execWakeTrigger (src : BitVec 3) (s : State) : Result :=
  .next (if s.wakeOn && Nat.ble src.toNat 5 && s.trigEnabled src.toNat then s.wakeTrigger src.toNat else s)

/-- STOP_DELAY_EXPIRY (R719, R722). -/
def execStopDelayExpiry (core : Fin 16) (cycles : Nat) (s : State) : Result :=
  let c := core.val
  if s.wakeOn && s.trState c == TraceSt.stopping &&
      s.elapsedSteered (s.tr c).stopAt (1000 * s.f (WKE_CORE_CFG_STOP_DLY_US c)) then
    .next ((s.traceCycles c cycles).traceStop c 1 TraceSt.stopped)
  else .next s

/-- SECURE_TRANSITION (R723, R724). -/
def execSecureTransition (core : Fin 16) (entry : Bool) (cycles : Nat) (s : State) : Result :=
  let c := core.val
  if s.wakeOn && (s.tr c).secure != entry then
    let s1 := s.traceCycles c cycles
    let s2 :=
      if s1.tracing c then
        let s2 := s1.traceLead c
        let t := s2.tr c
        let cyc := if !entry && s2.traceQuiet c then t.secCount else t.count
        s2.traceSend c 10 cyc 0 (ofBool entry + 2 * ofBool (s2.authorised c)) [] false
      else s1
    .next (s2.setTr c { s2.tr c with secure := entry, secCount := 0 })
  else .next s

/-- TRACE_STALL_TIMEOUT (R729): the packets that wait without a reserved place are lost. -/
def execTraceStallTimeout (core : Fin 16) (s : State) : Result :=
  let c := core.val
  match (s.tr c).stallAt with
  | none => .next s
  | some t0 =>
    if s.wakeOn && s.elapsedSteered t0 (1000 * max 1 (s.f WKE_STALL_MAX_US)) then
      let t := s.tr c
      let keep := fun (pkt : List Nat) => [4, 5, 7, 9].contains (pkt.headD 0 / 2 ^ 60)
      let n := ((t.held.filter fun x => !keep x).map List.length).sum
      let s1 := s.setTr c { t with held := t.held.filter keep, stallAt := none, dropping := true, lost := t.lost + n }
      let s2 := if n = 0 then s1 else (s1.bump (WKE_CORE_STAT_DROPS c) n).raise WKE_ERR_DROP 5 0 0 0
      .next (s2.raise WKE_ERR_STALL_TMO 5 0 0 0)
    else .next s

/-! ### The merger and the sink (R730 to R733) -/

/-- Packets that wait enter the FIFO in order as they fit. -/
def Trace.takeIn (t : Trace) : List (List Nat) → Trace
  | [] => { t with held := [], stallAt := none }
  | pkt :: rest =>
    let res := [4, 5, 7, 9].contains (pkt.headD 0 / 2 ^ 60)
    if t.level + pkt.length ≤ (if res then 512 else 500) then Trace.takeIn { t with fifo := t.fifo ++ [pkt] } rest
    else { t with held := pkt :: rest }

/-- Room has returned to a core's FIFO (R728, R729). -/
def State.traceRoom (s : State) (c : Nat) : State :=
  let t := (s.tr c).takeIn (s.tr c).held
  (s.setTr c { t with dropping := t.dropping && !t.fifo.isEmpty }).traceDrop c

/-- The core that the merger serves next: in rounds, lowest core first. -/
def State.mergeCore (s : State) : Option Nat :=
  ((List.range 16).map fun i => (s.wke.next + i) % 16).find? fun c => !(s.tr c).fifo.isEmpty

/-- Whole packets fill the line; where the next does not fit, PAD units fill the rest (R730). -/
def State.mergeFill (s : State) : Nat → State
  | 0 => s
  | n + 1 =>
    match s.mergeCore with
    | none => s
    | some c =>
      match (s.tr c).fifo with
      | [] => s
      | pkt :: rest =>
        let line := s.wke.line
        if line.length + pkt.length ≤ 8 then
          let s1 := s.setTr c { s.tr c with fifo := rest }
          State.mergeFill ((s1.setWke { s1.wke with line := line ++ pkt, next := (c + 1) % 16 }).traceRoom c) n
        else s.setWke { s.wke with line := line ++ List.replicate (8 - line.length) 0 }

/-- A line goes to the sink at the next stream byte (R731). -/
def State.sinkLine (s : State) (line : List Nat) : State :=
  let a := s.f64 WKE_SINK_BASE + s.f64 WKE_SINK_WR % s.f64 WKE_SINK_LEN
  let bytes := (line ++ List.replicate (8 - line.length) 0).flatMap (bytesLE 8)
  let s1 := if inCarve a 64 then s.carveWrite a bytes else s
  s1.set64 WKE_SINK_WR (s1.f64 WKE_SINK_WR + 64)

/-- The STOP packet of a core that a full sink stops. -/
def State.fullStop (x : State × List Nat) (c : Nat) : State × List Nat :=
  let s := x.1
  if s.tracing c then
    let s1 := s.traceOutside c
    (s1.setF (WKE_CORE_STAT_STATE c) TraceSt.stopped, x.2 ++ [traceUnit 9 c (s1.tr c).count 3])
  else x

/-- The trace unit of a core with nothing held. -/
def Trace.emptied (t : Trace) : Trace :=
  { t with fifo := [], held := [], atoms := [], atomAt := 0, lost := 0, tsDue := 0, stallAt := none, dropping := false }

/-- Units as lines of eight. -/
def linesOf (l : List Nat) : Nat → List (List Nat)
  | 0 => []
  | n + 1 => if l.isEmpty then [] else l.take 8 :: linesOf (l.drop 8) n

/-- The sink is full (R732): the STOP packets are written, the line is padded, and nothing more is accepted. -/
def State.sinkFull (s : State) : State :=
  let x := (List.range 16).foldl State.fullStop (s, [])
  let s1 := (linesOf x.2 2).foldl State.sinkLine (x.1.setF WKE_STAT_SINK_FULL 1)
  (List.range 16).foldl (fun t c => t.setTr c (t.tr c).emptied) s1

/-- MERGER_LINE_WRITE (R730 to R733): a whole line, or the last one once tracing has ended. -/
def execMergerLineWrite (s : State) : Result :=
  if s.wakeOn && !s.flag WKE_STAT_SINK_FULL then
    let s1 := s.mergeFill 8
    let line := s1.wke.line
    if line.length = 8 ∨ (!line.isEmpty && !s1.flag WKE_CTRL_EN) then
      let s2 := (s1.setWke { s1.wke with line := [] }).sinkLine line
      .next (
        if s2.flag WKE_CTRL_SINK_MODE && Nat.ble (s2.f64 WKE_SINK_LEN - 256) (s2.f64 WKE_SINK_WR) then s2.sinkFull
        else s2)
    else .next s1
  else .next s

/-- Every FIFO is empty and the last line is written, with tracing ended (R733). -/
def State.drained (s : State) : Bool :=
  !s.flag WKE_CTRL_EN && s.wke.line.isEmpty &&
    (List.range 16).all fun c => (s.tr c).fifo.isEmpty && (s.tr c).held.isEmpty && (s.tr c).atoms.isEmpty

/-! ### Registers (R715, R718, R733, R734) -/

/-- WKE_ERR.CFG_REJ. -/
def State.wakeRej (s : State) : State := s.raise WKE_ERR_CFG_REJ 5 0 0 0

/-- The sink allows tracing to start (R734). -/
def State.sinkOk (s : State) : Bool :=
  s.f64 WKE_SINK_BASE % 64 == 0 && s.f64 WKE_SINK_LEN % 64 == 0 && inCarve (s.f64 WKE_SINK_BASE) (s.f64 WKE_SINK_LEN) &&
    Nat.ble 4096 (s.f64 WKE_SINK_LEN)

/-- A write of 1 to WKE_CTRL.EN (R715, R731, R734). -/
def State.wakeEnable (s : State) : State :=
  if !s.sinkOk then s.wakeRej
  else
    let s1 :=
      if s.flag WKE_CTRL_EN then s
      else
        ((((s.setF WKE_CTRL_EN 1).setF WKE_STAT_TRIGGERED 0).setF WKE_STAT_SINK_FULL 0).set64 WKE_SINK_WR 0)
    (List.range 16).foldl State.traceStart s1

/-- A write of 0 to WKE_CTRL.EN (R733): every core moves to STOPPED with cause 2. -/
def State.wakeDisable (s : State) : State :=
  if s.flag WKE_CTRL_EN then (List.range 16).foldl (fun t c => t.traceHalt c 2) (s.setF WKE_CTRL_EN 0) else s

/-- A write of WKE_CTRL: while EN = 1 a new SINK_MODE, TS_LOG2 or TRIG_SRC is dropped (R734). -/
def State.wakeCtrl (s : State) (v : Nat) : State :=
  let same := slice v 1 1 == s.f WKE_CTRL_SINK_MODE && slice v 4 4 == s.f WKE_CTRL_TS_LOG2 &&
    slice v 16 5 == s.f WKE_CTRL_TRIG_SRC
  let s1 :=
    if s.flag WKE_CTRL_EN then (if same then s else s.wakeRej)
    else ((s.setF WKE_CTRL_SINK_MODE (slice v 1 1)).setF WKE_CTRL_TS_LOG2 (slice v 4 4)).setF WKE_CTRL_TRIG_SRC
      (slice v 16 5)
  let s2 := if bitOf v 0 then s1.wakeEnable else s1.wakeDisable
  if bitOf v 2 then s2.wakeTrigger 0 else s2

/-- TRIG_SW (R718): a write of WKE_CTRL. -/
def execTrigSw (p : Path) (v : Word) (s : State) : Result := .next (s.onWrite p WKE_CTRL fun s => s.wakeCtrl v.toNat)

/-- WKE_ENABLE_WRITE (R715, R733, R734): a write of WKE_CTRL. -/
def execWkeEnableWrite (p : Path) (v : Word) (s : State) : Result :=
  .next (s.onWrite p WKE_CTRL fun s => s.wakeCtrl v.toNat)

/-- A write of WKE_CORE_CFG (R715, R734). -/
def State.wakeCoreCfg (s : State) (c : Nat) (v : Word) : State :=
  let off := WKE_CORE_CFG c
  let same := v.toNat / 2 % 4 == (s.reg off).toNat / 2 % 4 && slice v.toNat 16 16 == slice (s.reg off).toNat 16 16
  let s1 :=
    if s.flag WKE_CTRL_EN then (if same then s else s.wakeRej).setF (WKE_CORE_CFG_EN c) (slice v.toNat 0 1)
    else s.writeBits off v
  if s1.flag WKE_CTRL_EN then
    (if bitOf v.toNat 0 then s1.traceStart c
    else if s1.tracing c ∨ s1.trState c = TraceSt.armed then s1.traceHalt c 2
    else s1)
  else s1

/-- A register that R734 guards: the sink's place and size, and the comparators. -/
def isWakeGuarded (off : Nat) : Bool :=
  (Nat.ble WKE_SINK_BASE off && Nat.blt off (WKE_SINK_LEN + 8)) ||
    (Nat.ble 0x501000 off && Nat.ble 0x40 (off % 0x100))

/-! ### Authorisation (R725, R726) -/

/-- Bytes of the certificate as a number. -/
def certNat (cert : List Byte) (o n : Nat) : Nat := ofBytesLE ((cert.drop o).take n)

/-- The certificate bytes that VERIFY reads: outside the carve-out they are free values (log entry 3). -/
def State.readCert (s : State) : State :=
  let a := s.f64 WKE_AUTH_ADDR
  if inCarve a 216 then s.setWke { s.wke with cert := s.carveRead a 216 }
  else
    { (s.setWke { s.wke with cert := (List.range 216).map fun i => Config.freeByte (s.free + i) }) with
      free := s.free + 216 }

/-- A write of WKE_AUTH_CMD (R726): dropped while BUSY. -/
def State.wakeAuth (s : State) (v : Nat) : State :=
  if s.flag WKE_AUTH_STAT_BUSY then s
  else
    let s1 := if bitOf v 1 then s.setF WKE_AUTH_STAT_CORES 0 else s
    if bitOf v 0 then
      let s2 := s1.readCert
      (s2.setWke { s2.wke with given := s2.wke.nonce }).setF WKE_AUTH_STAT_BUSY 1
    else s1

/-- AUTH_VERIFY (R725, R726). -/
def execAuthVerify (p : Path) (v : Word) (s : State) : Result :=
  .next (s.onWrite p WKE_AUTH_CMD fun s => s.wakeAuth v.toNat)

/-- REVOKE (R726). -/
def execRevoke (p : Path) (v : Word) (s : State) : Result :=
  .next (s.onWrite p WKE_AUTH_CMD fun s => s.wakeAuth v.toNat)

/-- The RESULT of the certificate checks, in their order (R725). -/
def State.certResult (s : State) : Nat :=
  let x := s.wke.cert
  let slot := certNat x 16 1
  let pub := (x.drop 24).take 96
  if x.take 4 ≠ [0x57, 0x50, 0x54, 0x41] ∨ certNat x 4 8 ≠ s.deviceId ∨ certNat x 17 1 ≠ 0 ∨ certNat x 20 4 ≠ 0 then 2
  else if certNat x 12 4 ≠ (Config.nonce s.wke.given).toNat then 3
  else if Nat.blt 3 slot || bitOf (s.fuse 56) slot || (Config.sha384 pub).toNat != s.keyHash slot then 4
  else if !Config.ecdsaVerify pub (Config.sha384 (x.take 120)) (x.drop 120) then 5
  else 1

/-- AUTH_VERIFY_DONE (R725, R726): it waits while a load uses the ECDSA engine, in phase 2. -/
def execAuthVerifyDone (s : State) : Result :=
  if s.wakeOn && s.flag WKE_AUTH_STAT_BUSY && s.f CFG_STATUS_PHASE != 2 then
    let r := s.certResult
    let s1 :=
      if r = 1 then s.setF WKE_AUTH_STAT_CORES (s.f WKE_AUTH_STAT_CORES ||| certNat s.wke.cert 18 2)
      else s.raise WKE_ERR_AUTH_FAIL 5 0 0 0
    .next (((s1.setF WKE_AUTH_STAT_RESULT r).setF WKE_AUTH_STAT_BUSY 0).setWke
      { s1.wke with cert := [], nonce := s1.wke.nonce + 1 })
  else .next s

end Sys2Proof.Machine
end

