-- ==== Sys2Proof/Machine/Access.lean ====
section
/-! DEFINITION. One register access at a window offset (R7 to R19, R33, R34, R820): what a write of any register does, and
what a read of any register returns and does. An access that a command row names does what that row does; the measured
outcomes that such a row carries are free values here (log entry 3). -/

namespace Sys2Proof.Machine

open Reg

/-- The state a meaning answers. -/
def State.ran (s : State) : Result → State
  | .next t => t
  | _ => s

/-! ### Outcomes that no operand carries -/

/-- Free values used up. -/
def State.drew (s : State) (n : Nat) : State := { s with free := s.free + n }

/-- An uncorrectable error at a free place, or none. -/
def State.freeEcc (s : State) : Option Nat :=
  let n := (Config.freeWord s.free).toNat
  if n % 2 = 0 then none else some (n / 2)

/-- A packet of Billet that fails, or none. -/
def State.freePacket (s : State) : Option (BitVec 12 × BitVec 4) :=
  let n := (Config.freeWord s.free).toNat
  if n % 2 = 0 then none else some (BitVec.ofNat 12 (n / 2), BitVec.ofNat 4 (1 + n / 8192 % 8))

/-- What a LOAD meets, free. -/
def State.freeImage (s : State) : ImageRead := ⟨⟨s.freeEcc, (s.drew 1).freeEcc⟩, (s.drew 2).freePacket⟩

/-- A free yes or no for each of a row of items. -/
def State.freeFlag (s : State) (i : Nat) : Bool := bitOf (Config.freeWord (s.free + i / 32)).toNat (i % 32)

/-- A command code that its unit does not define: ARG (table of mailbox error codes). -/
def State.badCode (s : State) (u cmd : Nat) : State := s.mbCommand u cmd fun s => s.mbFinish u 2 0 0

/-- A write of BLT_CMD. -/
def State.cmdBillet (s : State) (p : Path) (c : Nat) : State :=
  match c with
  | 1 => (s.ran (execLoad p s.freeImage s)).drew 3
  | 2 => (s.ran (execBilletCheck p s.freeEcc s)).drew 1
  | 3 => s.ran (execUnload p s)
  | 4 => (s.ran (execReload p s.freeImage s)).drew 3
  | 5 => (s.ran (execReplace p ⟨s.freeEcc, (s.drew 1).freeEcc⟩ s)).drew 2
  | 6 => s.ran (execClreset p s)
  | _ => s.badCode 0 c

/-- A write of CFG_CMD. -/
def State.cmdConfig (s : State) (p : Path) (c : Nat) : State :=
  match c with
  | 1 => s.ran (execLoadSlot p s)
  | 2 => s.ran (execLoadMem p s)
  | 3 => s.ran (execVerify p s)
  | 4 => s.ran (execCfgClear p s)
  | 5 => s.ran (execFuseProg p s)
  | _ => s.badCode 40 c

/-- A write of DEV_BIST_CMD. -/
def State.cmdBist (s : State) (p : Path) (c : Nat) : State :=
  match c with
  | 1 => (s.ran (execMbist p ((List.finRange 1088).filter fun i => s.freeFlag i.val) (s.freeFlag 1088) s)).drew 35
  | 2 => (s.ran (execLbist p ((List.finRange 1088).filter fun i => s.freeFlag i.val) s)).drew 34
  | 3 => (s.ran (execHbmBist p ((List.finRange 128).filter fun i => s.freeFlag i.val) s)).drew 4
  | _ => s.badCode 41 c

/-- A write of an HBC_MB_CMD. -/
def State.cmdHbc (s : State) (p : Path) (d : Fin 4) (c : Nat) : State :=
  match c with
  | 1 => (s.ran (execFill p ⟨d, s.freeFlag 0, s.freeFlag 1⟩ s)).drew 1
  | 2 => (s.ran (execCopyOut p d s.freeEcc s)).drew 1
  | 3 => (s.ran (execCopyIn p ⟨d, s.freeFlag 0, s.freeFlag 1⟩ s)).drew 1
  | _ => s.hbcCommand d c fun s => s

/-- A write of an SHR_MB_CMD. -/
def State.cmdQuad (s : State) (p : Path) (q : Fin 32) (c : Nat) : State :=
  match c with
  | 1 => (s.ran (execEyePoint p q (Config.freeWord s.free).toNat s)).drew 1
  | 2 => (s.ran (execEyeWidth p q (Config.freeByte s.free) (Config.freeByte (s.free + 1)) s)).drew 2
  | 3 => s.ran (execLoadSend p q s)
  | _ => s.badCode (6 + q) c

/-- A write of GBK_MB_CMD. -/
def State.cmdGuestbook (s : State) (p : Path) (c : Nat) : State :=
  match c with
  | 1 => s.ran (execExportLog p s)
  | 2 => s.ran (execGbkErase p s)
  | 3 => s.ran (execFlush p s)
  | _ => s.badCode 39 c

/-! ### Writes of registers with a condition of their own -/

/-- A held _LO write is given up with the _HI write of its value. -/
def State.dropHeld (s : State) (p : Path) (off : Nat) : State :=
  let x := s.path p
  if x.heldTag = some (off - 4) then s.setPath p { x with heldTag := none } else s

/-- A write that a condition may refuse: each half of a 64-bit value is a write of its own, and one that is refused is
not held. -/
def State.guarded (s : State) (p : Path) (off : Nat) (v : Word) (locked : Bool) (refuse : State → State) : State :=
  if locked then refuse s else s.writeReg p off v

/-- A write of OST_CMD_HI (R18, R19, R690). -/
def State.ostWrite (s : State) (p : Path) (v : Word) : State :=
  let x := s.path p
  let lo := if x.heldTag = some OST_CMD then x.heldLo else s.reg OST_CMD
  ((((s.dropHeld p (OST_CMD + 4)).setReg OST_CMD lo).setReg (OST_CMD + 4) v)).ostCommit p lo v

/-- A write of FRD_CFG: outside SOLO only JNL_EN is written, and WINDOW takes 1 to 8. -/
def State.frdCfg (s : State) (v : Nat) : State :=
  let en := bitOf v 13
  let s1 := if en && !s.flag FRD_CFG_JNL_EN && s.role != 1 then s.setFrd { s.frd with tail := 0, entries := [] } else s
  let s2 := s1.setF FRD_CFG_JNL_EN (ofBool en)
  if s.f DEV_MODE_ROLE ≠ 0 then s2
  else
    let s3 := ((s2.setF FRD_CFG_LANE (slice v 0 7)).setF FRD_CFG_SIDE (slice v 7 1)).setF FRD_CFG_SH_ACT (slice v 12 1)
    let w := slice v 8 4
    if w = 0 ∨ 8 < w then s3.frdErr FRD_ERR_STREAM else s3.setF FRD_CFG_WINDOW w

/-- A write of TMK_PPS_CFG: OUT_EN = 0 ends a pulse (R523), and WIDTH_MS takes 1 to 999. -/
def State.ppsCfg (s : State) (v : Nat) : State :=
  let s0 := s.setF TMK_PPS_CFG_OUT_EN (slice v 0 1)
  let s1 := if bitOf v 0 then s0 else s0.ppsFall
  let w := slice v 16 10
  if w = 0 ∨ 999 < w then s1.tmkErr TMK_ERR_ARG else s1.setF TMK_PPS_CFG_WIDTH_MS w

/-- A write of CFG_SCRUB_CTRL (R671): a scrubber that starts counts its interval and its heartbeat from now. -/
def State.scrubCtrl (s : State) (v : Nat) : State :=
  let s1 := s.writeBits CFG_SCRUB_CTRL (BitVec.ofNat 32 (clampDiv v))
  if s.flag CFG_SCRUB_CTRL_EN then s1 else s1.setCfg { s1.cfg with scrubAt := s1.hub, frameAt := s1.tmk.steered }

/-! ### A write by block -/

/-- A write of a DEV register. -/
def State.writeDev (s : State) (p : Path) (off : Nat) (v : Word) : State :=
  if off = DEV_CTRL then s.devCtrl p v.toNat
  else if off = DEV_HWDT then (if s.mode = Mode.boot then s.setReg off (v &&& 0x1FFFF) else s)
  else if off = DEV_HWDT_KICK then s.ran (execHwdtKick p v s)
  else if off = DEV_BIST_CMD then s.cmdBist p (slice v.toNat 0 4)
  else s.writeReg p off v

/-- A write of a PWR register. -/
def State.writePwr (s : State) (p : Path) (off : Nat) (v : Word) : State :=
  if PWR_VOTE_SW 0 ≤ off ∧ off ≤ PWR_VOTE_SW 2 then s.voteWrite ((off - PWR_VOTE_SW 0) / 4) v
  else if PWR_DOM 0 ≤ off ∧ off ≤ PWR_DOM 90 then s.domWrite ((off - PWR_DOM 0) / 4) v
  else if PWR_THR_CLS 0 ≤ off ∧ off ≤ PWR_THR_CLS 2 then s.thrWrite ((off - PWR_THR_CLS 0) / 4) v
  else s.writeReg p off v

/-- A write of a TMK register. -/
def State.writeTmk (s : State) (p : Path) (off : Nat) (v : Word) : State :=
  if off = TMK_CMD then s.tmkCmd v
  else if off = TMK_ADJ then s.ran (execAdjWrite p v s)
  else if off = TMK_SRV_CFG then s.ran (execSrcChange p v s)
  else if off = TMK_MEAS + 4 then s.ran (execMeasCommit p v s)
  else if off = TMK_PPS_CFG then s.ppsCfg v.toNat
  else if off = TMK_LB then s.loopWrite p off v
  else if TMK_PO_START_SEC 0 ≤ off ∧ off < TMK_PO_START_SEC 8 then
    let n := (off - TMK_PO_START_SEC 0) / 32
    if off = TMK_PO_CTRL n then s.ran (execPulseEnable p (Fin.ofNat 8 n) v s)
    else s.guarded p off v (s.flag (TMK_PO_CTRL_ENABLE n) && Nat.blt off (TMK_PO_CTRL n)) fun s => s.tmkErr TMK_ERR_ARG
  else s.writeReg p off v

/-- A write of a GBK register. -/
def State.writeGbk (s : State) (p : Path) (off : Nat) (v : Word) : State :=
  if off = GBK_SEV_DATA then s.ran (execSevDataWrite p v s)
  else if off = GBK_MB_CMD then s.cmdGuestbook p (slice v.toNat 0 4)
  else s.writeReg p off v

/-- A write of an OST register. -/
def State.writeOst (s : State) (p : Path) (off : Nat) (v : Word) : State :=
  let c := (off - 0x401000) / 0x100
  if off = OST_CMD + 4 then s.ostWrite p v
  else if off = OST_TASK_D0 then s.taskWrite 0 v
  else if off = OST_TASK_D1 then s.taskWrite 1 v
  else if off = OST_TASK_D2 then s.taskWrite 2 v
  else if off = OST_DOORBELL then s.ran (execDoorbell p v s)
  else if 0x401000 ≤ off ∧ off = OST_CORE_CTRL c then s.coreCtrl c v
  else if 0x401000 ≤ off ∧ off = OST_CORE_WDT c then s.ran (execKick p (Fin.ofNat 16 c) v s)
  else s.writeReg p off v

/-- A write of a WKE register. -/
def State.writeWke (s : State) (p : Path) (off : Nat) (v : Word) : State :=
  let c := (off - 0x501000) / 0x100
  if off = WKE_CTRL then s.wakeCtrl v.toNat
  else if off = WKE_AUTH_CMD then s.wakeAuth v.toNat
  else if 0x501000 ≤ off ∧ off = WKE_CORE_CFG c then s.wakeCoreCfg c v
  else s.guarded p off v (s.flag WKE_CTRL_EN && isWakeGuarded off) State.wakeRej

/-- A write of a BLT register. -/
def State.writeBlt (s : State) (p : Path) (off : Nat) (v : Word) : State :=
  if off = BLT_CMD then s.cmdBillet p (slice v.toNat 0 4)
  else if off = BLT_CFG then (if slice v.toNat 0 16 = 0 then s else s.writeReg p off v)
  else if off = BLT_LDCH_CTRL then s.ran (execLdchEnable p v s)
  else s.writeReg p off v

/-- A write of a CFG register. -/
def State.writeCfg (s : State) (p : Path) (off : Nat) (v : Word) : State :=
  if off = CFG_CMD then s.cmdConfig p (slice v.toNat 0 4)
  else if off = CFG_SCRUB_CTRL then s.scrubCtrl v.toNat
  else if off = CFG_BBKEY_CTRL then s.bbCtrl v.toNat
  else if off = CFG_MRAM_DATA then s.ran (execMramDataAccess p (some v) s)
  else s.writeReg p off v

/-- A write of a FAB register. -/
def State.writeFab (s : State) (p : Path) (off : Nat) (v : Word) : State :=
  if off = FAB_TBL_DATA then s.ran (execFabTableWrite p v s)
  else if FAB_PROBE 0 ≤ off ∧ off ≤ FAB_PROBE 15 then
    s.ran (execProbeSelectWrite p (Fin.ofNat 16 ((off - FAB_PROBE 0) / 4)) v s)
  else if off = FAB_MB_CMD then
    (if slice v.toNat 0 4 = 1 then s.ran (execSnap p s) else s.badCode 38 (slice v.toNat 0 4))
  else if off = FAB_IO_LB then s.loopWrite p off v
  else s.writeReg p off v

/-- A write of an MGE register. -/
def State.writeMge (s : State) (p : Path) (off : Nat) (v : Word) : State :=
  if off = MGE_MDIO_CMD then s.mdioWrite v
  else if off = MGE_LB then s.loopWrite p off v
  else s.guarded p off v (s.ringLocked off) id

/-- A write of an FRD register. -/
def State.writeFrd (s : State) (p : Path) (off : Nat) (v : Word) : State :=
  if off = FRD_CTRL then s.frdCtrl v.toNat
  else if off = FRD_CFG then s.frdCfg v.toNat
  else
    s.guarded p off v (s.flag FRD_CFG_JNL_EN && Nat.ble FRD_JNL_BASE off && Nat.blt off (FRD_JNL_LEN + 8)) fun s =>
      s.frdErr FRD_ERR_STREAM

/-- A write of an ACQ register. -/
def State.writeAcq (s : State) (p : Path) (off : Nat) (v : Word) : State :=
  if isAcqConfig off then s.acqConfig p off v
  else if off = ACQ_TAP_NUM ∨ off = ACQ_TAP_DATA then s.tapWrite off v.toNat
  else if ACQ_PIN_DLY 0 ≤ off ∧ off ≤ ACQ_PIN_DLY 383 then s.pinDly ((off - ACQ_PIN_DLY 0) / 4) v.toNat
  else if off = ACQ_MB_CMD then
    (if slice v.toNat 0 4 = 1 then s.ran (execCopy p s) else s.badCode 5 (slice v.toNat 0 4))
  else s.writeReg p off v

/-- A write of a register of a quad or one of its lanes. -/
def State.writeShr (s : State) (p : Path) (off : Nat) (v : Word) : State :=
  let q := (off - 0x1000000) / 0x10000
  let o := off % 0x10000
  if o < 0x1000 then
    (if off = SHR_MB_CMD q then s.cmdQuad p (Fin.ofNat 32 q) (slice v.toNat 0 4) else s.writeReg p off v)
  else
    let l := 4 * q + (o - 0x1000) / 0x400
    if off = SHR_LCTRL l then s.laneCtl l v.toNat
    else if off = SHR_PRBS_CFG l then s.prbsCfg l v
    else if SHR_TXFFE l 0 ≤ off ∧ off ≤ SHR_TXFFE l 6 then s.ffeSet l ((off - SHR_TXFFE l 0) / 4) v
    else s.writeReg p off v

/-- A write of an HBC register. -/
def State.writeHbc (s : State) (p : Path) (off : Nat) (v : Word) : State :=
  let d := Fin.ofNat 4 ((off - 0x2000000) / 0x100000)
  if off = HBC_MB_CMD d then s.cmdHbc p d (slice v.toNat 0 4)
  else if off = HBC_TBL_CMD d then s.hbcTblCommand d v.toNat
  else if off = HBC_WIN d then s.ran (execWinPeriodWrite p d v s)
  else if off = HBC_ACQ_BASE d then s.ran (execAcqBaseWrite p d v s)
  else s.writeReg p off v

/-- A write of an MLR register. -/
def State.writeMlr (s : State) (p : Path) (off : Nat) (v : Word) : State :=
  let d := Fin.ofNat 4 ((off - 0x3000000) / 0x400000)
  let o := off % 0x400000
  let r := (o - 0x10000) / 0x1000
  let pos := o % 0x1000 / 0x40
  if off = MLR_GEN_CTRL d then s.genCtrl d v.toNat
  else if off = MLR_TBL_CMD d then s.tblCommand d v.toNat
  else if off = MLR_UTO d then s.ran (execUtoWrite p d v s)
  else if 0x10000 ≤ o ∧ o < 0x18000 ∧ pos < 36 ∧ o % 0x40 = 0x14 then s.loopbackWrite d r pos v
  else s.writeReg p off v

/-- A write of a SEQ register. -/
def State.writeSeq (s : State) (p : Path) (off : Nat) (v : Word) : State :=
  if off = SEQ_FRAME_NO then s.ran (execFrameNoWrite p false v s)
  else if off = SEQ_FRAME_NO + 4 then s.ran (execFrameNoWrite p true v s)
  else if isSchedule off then s.guarded p off v (s.mode == Mode.timed) fun s => s.seqErr SEQ_ERR_WR_STATE
  else if off = SEQ_BTO then s.ran (execBtoWrite p v s)
  else if off = SEQ_STEP_CMD then
    (if slice v.toNat 0 2 = 0 then s else s.stepCommand (slice v.toNat 0 2) (slice v.toNat 16 16))
  else s.writeReg p off v

/-- A write of a CLU register. -/
def State.writeClu (s : State) (p : Path) (off : Nat) (v : Word) : State :=
  let c := Fin.ofNat 1088 ((off - 0x8000000) / 0x4000)
  if off = CLU_TRIM c then s.ran (execTrimWrite p c v s)
  else if off = CLU_MA_CMD c then s.maCommand c v.toNat
  else if CLU_MPD c 0 ≤ off ∧ off ≤ CLU_MPD c 15 then
    s.ran (execMpdWrite p c (Fin.ofNat 16 ((off - CLU_MPD c 0) / 4)) v s)
  else if off = CLU_MRT_DATA c then s.mrtWrite c v
  else if off = CLU_SRW_ADDR c then s.ran (execSramFill p c v s)
  else if off = CLU_SRW_DATA c then s.ran (execSrwDataWrite p c v s)
  else s.writeReg p off v

/-- A write of a register that is reached. -/
def State.writeHit (s : State) (p : Path) (off : Nat) (v : Word) : State :=
  if off < 0x1000000 then
    match off / 0x100000 with
    | 0 => s.writeDev p off v
    | 1 => s.writePwr p off v
    | 2 => s.writeTmk p off v
    | 3 => s.writeGbk p off v
    | 4 => s.writeOst p off v
    | 5 => s.writeWke p off v
    | 6 => s.writeBlt p off v
    | 7 => s.writeCfg p off v
    | 8 => s.writeFab p off v
    | 9 => s.writeMge p off v
    | 10 => s.writeFrd p off v
    | _ => s.writeAcq p off v
  else if off < 0x2000000 then s.writeShr p off v
  else if off < 0x3000000 then s.writeHbc p off v
  else if off < 0x4000000 then s.writeMlr p off v
  else if off < 0x8000000 then s.writeSeq p off v
  else s.writeClu p off v

/-- A 32-bit write at a window offset: one at an unassigned offset is dropped (R9). -/
def State.writeAt (s : State) (p : Path) (off : Nat) (v : Word) : State :=
  s.onWrite p off fun s =>
    match regAt off with
    | none => s
    | some _ => s.writeHit p off v

/-! ### Reads: the word a register shows -/

/-- A word with a field set. -/
def withField (w : Nat) (F : Fld) (n : Nat) : Nat := splice w F.lo F.w n

/-- PWR_DOM (R776, R777): WANTED and VOTES follow the votes; domain 89 is always wanted and domain 90 except where the
mode takes it away (R775). -/
def State.domWord (s : State) (i : Nat) : Nat :=
  let w := if i ≤ 88 then ofBool (s.wanted i) else ofBool (i == 89 || s.mode != Mode.standby)
  withField (withField (s.reg (PWR_DOM i)).toNat (PWR_DOM_WANTED i) w) (PWR_DOM_VOTES i) (s.votes i)

/-- Buffers of a class that are not free at a stop. -/
def State.usedBufs (s : State) (node : Nat) (resp : Bool) : Nat :=
  (s.net.recv.filter fun kv => kv.1 / 64 == node * 2 + ofBool resp && kv.2.phase != 0).length

/-- MLR_STOP_STAT (R298, R302): a cluster in reset counts as OFF. -/
def State.stopWord (s : State) (d r pos : Nat) : Nat :=
  let b := stopBase d r pos
  let w := (s.reg (MLR_STOP_STAT b)).toNat
  if pos = 0 ∨ pos = 18 then
    withField (withField (withField w (MLR_STOP_STAT_REQ_FREE b) 0) (MLR_STOP_STAT_RESP_FREE b) 0)
      (MLR_STOP_STAT_DRAINED b) (ofBool (s.stopDrained d r pos))
  else
    let n := stopNode d r pos
    let c := clusterAt d r pos
    let dom := s.f (PWR_DOM_STATE (8 * d + r))
    let seen := if dom = 0 ∧ s.f (CLU_STATUS_STATE c) = 0 then 2 else dom
    withField (withField (withField (withField w (MLR_STOP_STAT_DOM b) seen) (MLR_STOP_STAT_DRAINED b)
      (ofBool (s.stopDrained d r pos))) (MLR_STOP_STAT_REQ_FREE b) (4 - s.usedBufs n false))
      (MLR_STOP_STAT_RESP_FREE b) (4 - s.usedBufs n true)

/-- BLT_VMAP: the cluster of VIRT. -/
def State.vmapWord (s : State) : Nat :=
  match Sparse.get 0 s.blt.place (s.f BLT_VMAP_IDX_VIRT) with
  | 0 => 0
  | n + 1 => n + 2147483648

/-- A BLT_FAILMAP register: what software marked, and what fuses mark (R421, R455). -/
def State.failWord (s : State) (i : Nat) : Nat :=
  s.cfg.failed.foldl (fun w c => if c / 32 = i then putBit w (c % 32) true else w) (s.reg (BLT_FAILMAP i)).toNat

/-- CFG_KEYSTAT (R667, R668). -/
def State.keyWord (s : State) : Nat :=
  ofBool (s.fuseKey != 0) + 2 * ofBool s.cfg.key.isSome + 16 * slice (s.fuse 56) 0 4 + 256 * popcount 32 (s.fuse 57)

/-- GBK_SEV_DATA: the severity of the source in GBK_SEV_ADDR, and whether it is fixed (R738). -/
def State.sevWord (s : State) : Nat :=
  let src := s.f GBK_SEV_ADDR_SRC
  if isSource src then
    withField (withField 0 GBK_SEV_DATA_SEV (s.sevOf src)) GBK_SEV_DATA_FIXED (ofBool (isFatal src))
  else 0

/-- The word that a register of the first 12 MiB shows. -/
def State.liveHub (s : State) (off : Nat) : Nat :=
  let w := (s.reg off).toNat
  if off = DEV_BIST_STATUS then withField w DEV_BIST_STATUS_JTAG_PINS (ofBool s.jtagPins)
  else if PWR_DOM 0 ≤ off ∧ off ≤ PWR_DOM 90 then s.domWord ((off - PWR_DOM 0) / 4)
  else if off = TMK_SEC then s.now.sec
  else if off = TMK_SEC + 4 then s.now.sec / 4294967296
  else if off = TMK_NS then s.now.ns
  else if off = TMK_FRAC then s.now.frac
  else if off = TMK_MEAS ∨ off = TMK_MEAS + 4 ∨ off = OST_CMD ∨ off = OST_CMD + 4 then 0
  else if 0x200A00 ≤ off ∧ off < 0x200B20 ∧ off % 0x20 = 4 then
    let n := (off - 0x200A00) / 0x20
    withField w (TMK_CAP_STAT_COUNT n) (Sparse.get [] s.tmk.caps n).length
  else if off = GBK_STAT then withField (withField w GBK_STAT_OPEN s.gbk.open_.length) GBK_STAT_QUEUE s.gbk.queue.length
  else if off = GBK_SEV_DATA then s.sevWord
  else if off = OST_TICK then s.ost.tick
  else if off = OST_TICK + 4 then s.ost.tick / 4294967296
  else if off = WKE_STAT then
    withField (withField w WKE_STAT_ACTIVE (ofBool ((List.range 16).any s.tracing))) WKE_STAT_DRAINED (ofBool s.drained)
  else if off = WKE_AUTH_NONCE then (Config.nonce s.wke.nonce).toNat
  else if 0x501000 ≤ off ∧ off < 0x502000 ∧ off % 0x100 = 4 then
    let c := (off - 0x501000) / 0x100
    withField w (WKE_CORE_STAT_LEVEL c) (s.tr c).level
  else if off = BLT_VMAP then s.vmapWord
  else if BLT_FAILMAP 0 ≤ off ∧ off ≤ BLT_FAILMAP 33 then s.failWord ((off - BLT_FAILMAP 0) / 4)
  else if off = CFG_DEVID then s.deviceId
  else if off = CFG_DEVID + 4 then s.deviceId / 4294967296
  else if off = CFG_KEYSTAT then s.keyWord
  else if CFG_BBKEY 0 ≤ off ∧ off ≤ CFG_BBKEY 7 then 0
  else if off = FRD_STATUS then withField w FRD_STATUS_LINK_UP (ofBool s.fordUp)
  else w

/-- The word that a register shows (R11): WO bits read zero. -/
def State.live (s : State) (off : Nat) : Word :=
  if off < 0x1000000 then BitVec.ofNat 32 (s.liveHub off)
  else if 0x3000000 ≤ off ∧ off < 0x4000000 then
    let o := off % 0x400000
    if 0x10000 ≤ o ∧ o % 0x40 = 0 then
      BitVec.ofNat 32 (s.stopWord ((off - 0x3000000) / 0x400000) ((o - 0x10000) / 0x1000) (o % 0x1000 / 0x40))
    else s.reg off
  else if 0x8000000 ≤ off ∧ off % 0x4000 = 8 then
    let c := (off - 0x8000000) / 0x4000
    BitVec.ofNat 32 (withField (s.reg off).toNat (CLU_STATUS_HALF_RATE c) (s.f DEV_MODE_CHECK_ACT))
  else s.reg off

/-! ### Reads and their side effects -/

/-- The mailbox unit whose RESULT register an offset is. -/
def resultUnit (off : Nat) : Option Nat := (List.range 42).find? fun u => (mbResults u).contains off

/-- A read of a RESULT register (R26, R27). -/
def State.resultRead (s : State) (p : Path) (off u : Nat) : State :=
  if s.flag (mbDone u) then s.answer p (s.reg off) else (s.setF (mbReadEarly u) 1).answer p 0

/-- A read of a _LO half (R15). -/
def State.readLo (s : State) (p : Path) (off : Nat) : State :=
  s.setPath p { s.path p with
    latchTag := some off, latchHi := s.live (off + 4), latchRest := [], answer := s.live off }

/-- A read of a _HI half (R17). -/
def State.readHi (s : State) (p : Path) (off : Nat) : State :=
  let x := s.path p
  s.answer p (if x.latchTag = some (off - 4) then x.latchHi else s.live off)

/-- A read of a register with RC fields clears them (R11, R13). -/
def State.clearRc (s : State) (off : Nat) : State :=
  match regAt off with
  | none => s
  | some (d, _) => if d.rc = 0 then s else s.setReg off (s.reg off &&& ~~~(BitVec.ofNat 32 d.rc))

/-- PWR_TEMP.MAX is taken afresh from the next reading. -/
def State.tempSeen (s : State) (off : Nat) : State :=
  if PWR_TEMP 0 ≤ off ∧ off ≤ PWR_TEMP 43 then
    s.setPwr { s.pwr with maxSeen := Sparse.put false s.pwr.maxSeen ((off - PWR_TEMP 0) / 4) false }
  else s

/-- A read of a register with no rule of its own. -/
def State.readPlain (s : State) (p : Path) (off : Nat) : State :=
  match halfOf off with
  | 1 => s.readLo p off
  | 2 => s.readHi p off
  | _ => ((s.answer p (s.live off)).clearRc off).tempSeen off

/-- A read of a register that belongs to a latched time (R499, R522): entry i of the latch, and without it the live
word. -/
def State.readTime (s : State) (p : Path) (tag i : Nat) (live : Word) : State :=
  let x := s.path p
  s.answer p (if x.latchTag = some tag then ((x.latchHi :: x.latchRest).getD i 0) else live)

/-- A read of a TMK register. -/
def State.readTmk (s : State) (p : Path) (off : Nat) : State :=
  if off = TMK_SEC then s.ran (execTimeRead p s)
  else if off = TMK_SEC + 4 then s.readTime p TMK_SEC 0 (s.live off)
  else if off = TMK_NS then s.readTime p TMK_SEC 1 (s.live off)
  else if off = TMK_FRAC then s.readTime p TMK_SEC 2 (s.live off)
  else if off = TMK_TXTS_SEC then s.ran (execTxtsPop p s)
  else if TMK_TXTS_SEC < off ∧ off ≤ TMK_TXTS_ID then s.readTime p TMK_TXTS_SEC ((off - TMK_TXTS_SEC) / 4 - 1) 0
  else if 0x200A00 ≤ off ∧ off < 0x200B20 ∧ 8 ≤ off % 0x20 then
    let n := (off - 0x200A00) / 0x20
    if off = TMK_CAP_SEC n then s.ran (execCapturePop p (Fin.ofNat 9 n) s)
    else s.readTime p (TMK_CAP_SEC n) ((off - TMK_CAP_SEC n) / 4 - 1) 0
  else s.readPlain p off

/-- A read of MGE_STAT: the link and its auto-negotiation are free values (log entry 3). -/
def State.readLink (s : State) (p : Path) : State := (s.answer p (Config.freeWord s.free &&& 3)).takeFree

/-- A read of ACQ_TAP_DATA: the addressed entry of the tap table. -/
def State.readTapEntry (s : State) (p : Path) : State :=
  (s.answer p (BitVec.ofNat 32 (Sparse.get 0 s.acq.taps (s.f ACQ_TAP_ADDR_ENTRY)))).tapNext

/-- A read of a register of the first 12 MiB. -/
def State.readHub (s : State) (p : Path) (off : Nat) : State :=
  if off / 0x100000 = 2 then s.readTmk p off
  else if off = OST_TASK_D0 then s.ran (execTaskDescriptorRead p 0 s)
  else if off = OST_TASK_D1 then s.ran (execTaskDescriptorRead p 1 s)
  else if off = OST_TASK_D2 then s.ran (execTaskDescriptorRead p 2 s)
  else if 0x401000 ≤ off ∧ off < 0x402000 ∧ off % 0x100 = 0x10 then
    s.ran (execCoreTake p (Fin.ofNat 16 ((off - 0x401000) / 0x100)) s)
  else if off = CFG_MRAM_DATA then s.ran (execMramDataAccess p none s)
  else if off = FAB_TBL_DATA then (s.answer p (BitVec.ofNat 32 s.fabEntry)).fabStep
  else if off = MGE_STAT then s.readLink p
  else if off = ACQ_TAP_DATA then s.readTapEntry p
  else s.readPlain p off

/-- A read of a register that is reached. -/
def State.readHit (s : State) (p : Path) (off : Nat) : State :=
  match resultUnit off with
  | some u => s.resultRead p off u
  | none =>
    if off < 0x1000000 then s.readHub p off
    else if off < 0x8000000 then s.readPlain p off
    else
      let c := Fin.ofNat 1088 ((off - 0x8000000) / 0x4000)
      if off = CLU_MRT_DATA c then s.ran (execMrtDataAccess p c none s)
      else if off = CLU_SRW_DATA c then s.ran (execSrwDataRead p c s)
      else s.readPlain p off

/-- A 32-bit read at a window offset: one at an unassigned offset returns zero (R9). -/
def State.readAt (s : State) (p : Path) (off : Nat) : State :=
  s.onRead p off fun s =>
    match regAt off with
    | none => s.answer p 0
    | some _ => s.readHit p off

end Sys2Proof.Machine
end

