-- ==== Sys2Proof/Machine/Window.lean ====
section
/-! DEFINITION. The commands that access the register window (R7 to R36, R755, R756, R820), the completion of a mailbox
command (R24), and the two ports that reach the window from outside: the register-access protocol (R700 to R704) and the
I²C port (R706). -/

namespace Sys2Proof.Machine

open Reg

/-! ### Accesses on a path -/

/-- READ_LO_HALF (R15). -/
def execReadLoHalf (p : Path) (off : WinOff) (s : State) : Result := .next (s.readAt p off.toNat)

/-- READ_HI_HALF (R17). -/
def execReadHiHalf (p : Path) (off : WinOff) (s : State) : Result := .next (s.readAt p off.toNat)

/-- WRITE_LO_HALF (R18). -/
def execWriteLoHalf (p : Path) (off : WinOff) (v : Word) (s : State) : Result := .next (s.writeAt p off.toNat v)

/-- WRITE_HI_HALF (R19). -/
def execWriteHiHalf (p : Path) (off : WinOff) (v : Word) (s : State) : Result := .next (s.writeAt p off.toNat v)

/-- A write narrower than 32 bits is dropped (R8); to a block that is off it is an access all the same (R35). -/
def State.narrowWrite (s : State) (p : Path) (off : Nat) : State := s.onWrite p off fun s => s

/-- REGISTER_WRITE (R8, R10, R11, R14). -/
def execRegisterWrite (p : Path) (off : WinOff) (size : Nat) (v : Word) (s : State) : Result :=
  .next (if size = 4 then s.writeAt p off.toNat v else s.narrowWrite p off.toNat)

/-- The addressed bytes of a word (R8). -/
def narrow (w : Word) (at_ size : Nat) : Word := BitVec.ofNat 32 (slice w.toNat (8 * at_) (8 * size))

/-- READ_CLEAR_FIELD (R8, R11, R13): a read of the given size; RC fields of the whole register clear. -/
def execReadClearField (p : Path) (off : WinOff) (size : Nat) (s : State) : Result :=
  let at_ := off.toNat % 4
  let base := off.toNat - at_
  if s.access base = .silent then .next s
  else
    let s1 := s.readAt p base
    .next (if size = 4 then s1 else s1.answer p (narrow (s1.path p).answer at_ size))

/-- An access of either kind. -/
def State.accessAt (s : State) (p : Path) (off : Nat) (wr : Option Word) : State :=
  match wr with
  | some v => s.writeAt p off v
  | none => s.readAt p off

/-- OFF_BLOCK_ACCESS (R33 to R36). -/
def execOffBlockAccess (p : Path) (off : WinOff) (wr : Option Word) (s : State) : Result :=
  .next (s.accessAt p off.toNat wr)

/-- UNMAPPED_WINDOW_ACCESS (R820). -/
def execUnmappedWindowAccess (p : Path) (off : WinOff) (wr : Option Word) (s : State) : Result :=
  .next (s.accessAt p off.toNat wr)

/-- RESULT_READ (R26, R27). -/
def execResultRead (p : Path) (off : WinOff) (s : State) : Result := .next (s.readAt p off.toNat)

/-- What the completion of a unit's command does (R24): a configuration load completes by its phases. -/
def State.unitComplete (s : State) (u : Nat) : State :=
  match u with
  | 0 => s.bltComplete
  | 5 => s.copyEnd.mbComplete 5
  | 40 => if s.cfg.job = 0 then s.mbComplete 40 else s
  | 41 => s.bistComplete
  | _ => s.mbComplete u

/-- MAILBOX_COMPLETION (R24): the unit's RESULT and ERR, and then, one hub cycle or one command later, DONE and BUSY. -/
def execMailboxCompletion (u : Fin 42) (s : State) : Result :=
  .next (if s.mbRuns u then s.unitComplete u else if s.mbBusyNow u then s.mbEnd u else s)

/-! ### Register accesses that time out (R755 to R757) -/

/-- DEV_RAT_CNT and DEV_RAT_INFO take a timed-out access (R757). -/
def State.countTimeout (s : State) (p : Path) (off : Nat) (write : Bool) : State :=
  let s1 := s.bump DEV_RAT_CNT_COUNT 1
  if s1.flag DEV_RAT_INFO_VALID then s1
  else
    (((s1.setF DEV_RAT_INFO_OFFSET (off / 4)).setF DEV_RAT_INFO_PATH p.val).setF DEV_RAT_INFO_VALID 1).setF
      DEV_RAT_CNT_WRITE (ofBool write)

/-- REGISTER_ACCESS_TIMEOUT (R690, R755 to R757): an access to a block that is off never times out, and a command that
waits for its Ostler queue is dropped and never performed. -/
def execRegisterAccessTimeout (p : Path) (off : WinOff) (wr : Option Word) (s : State) : Result :=
  if s.access off.toNat ≠ .reached then .next s
  else
    let s1 := s.countTimeout p off.toNat wr.isSome
    if off.toNat = OST_CMD + 4 ∧ wr.isSome ∧ Sparse.get none s.ost.waiting p ≠ none then .next (s1.ostDrop p)
    else
      let s2 := s1.setRst { s1.rst with late := s1.rst.late ++ [⟨p, off, wr⟩] }
      match wr with
      | some _ => .next s2
      | none => .next (s2.readAs p off.toNat 0xDEAD0A70)

/-- The state after a late access, with the path's latch and answer as they stood: the path discards the late answer. -/
def State.lateDone (s : State) (p : Path) (before : PathState) : State :=
  s.setPath p { s.path p with
    latchTag := before.latchTag, latchHi := before.latchHi, latchRest := before.latchRest, answer := before.answer }

/-- LATE_ACCESS_PERFORM (R756): once, and only while its block is on. -/
def execLateAccessPerform (i : Nat) (s : State) : Result :=
  match s.rst.late[i]? with
  | none => .next s
  | some x =>
    let s1 := s.setRst { s.rst with late := s.rst.late.eraseIdx i }
    if s1.access x.off.toNat = .reached then
      .next ((s1.accessAt x.path x.off.toNat x.wr).lateDone x.path (s1.path x.path))
    else .next s1

/-! ### The register-access protocol (R700 to R704) -/

/-- Path 16, the management port. -/
def pathMge : Path := 16

/-- Path 17, the I²C port. -/
def pathI2c : Path := 17

/-- A little-endian number in a payload. -/
def rapNat (pl : List Byte) (o n : Nat) : Nat := ofBytesLE ((pl.drop o).take n)

/-- A request has the form of R700: its items as CTL and DATA. -/
def rapItems (pl : List Byte) : Option (List (Nat × Nat)) :=
  let count := rapNat pl 8 2
  let items := (List.range count).map fun i => (rapNat pl (16 + 8 * i) 4, rapNat pl (20 + 8 * i) 4)
  if rapNat pl 0 4 = 0x00015257 ∧ 1 ≤ count ∧ count ≤ 182 ∧ pl.length = 16 + 8 * count ∧ rapNat pl 12 4 = 0 ∧
      items.all (fun x => x.1 % 4 == 0) then some items
  else none

/-- The header of a response. -/
def rapHeader (pl : List Byte) (count status : Nat) : List Byte :=
  [0x57, 0x52, 0x01, 0x01] ++ bytesLE 4 (rapNat pl 4 4) ++ bytesLE 2 count ++ bytesLE 2 status ++ bytesLE 4 0

/-- A write that starts a warm reset (R59, R704). -/
def State.startsReset (s : State) (off v : Nat) : Bool :=
  off == DEV_CTRL && bitOf v 8 && slice v 24 8 == 0xA5 && s.access off == .reached

/-- An item's words in the response. -/
def rapItem (ctl data : Nat) : List Byte := bytesLE 4 ctl ++ bytesLE 4 data

/-- The items of a request, in order, with their answers (R701, R704). -/
def State.rapRun (s : State) : List (Nat × Nat) → State × List Byte
  | [] => (s, [])
  | (ctl, data) :: rest =>
    let off := slice ctl 2 26 * 4
    let wr := bitOf ctl 28
    let base := off + 0x10000000 * ofBool wr
    let dark := match s.access off with
      | .off => 0x20000000
      | .draining => 0x20000000
      | _ => 0
    if wr ∧ !s.flag MGE_RAP_CFG_WR_EN then
      let r := State.rapRun s rest
      (r.1, rapItem (base + 0x40000000) data ++ r.2)
    else if wr ∧ s.startsReset off data then
      let skipped := rest.map fun x => rapItem (slice x.1 0 29 + 0x80000000) x.2
      (s.writeAt pathMge off (BitVec.ofNat 32 data), rapItem base data ++ skipped.flatten)
    else if wr then
      let r := State.rapRun (s.writeAt pathMge off (BitVec.ofNat 32 data)) rest
      (r.1, rapItem (base + dark) data ++ r.2)
    else
      let s1 := s.readAt pathMge off
      let r := State.rapRun s1 rest
      (r.1, rapItem (base + dark) (s1.path pathMge).answer.toNat ++ r.2)

/-- A request names the last executed one (R703). -/
def sameRap (a b : RapRequest) : Bool := a.ip == b.ip && a.port == b.port && rapNat a.payload 4 4 == rapNat b.payload 4 4

/-- A response is sent. -/
def State.rapSend (s : State) (bytes : List Byte) : State := s.setMge { s.mge with sent := bytes }

/-- A well-formed request is executed and answered (R701, R703). -/
def State.rapExecute (s : State) (r : RapRequest) (items : List (Nat × Nat)) : State :=
  let run := s.rapRun items
  let resp := rapHeader r.payload items.length 0 ++ run.2
  let s1 := (run.1.bump MGE_RAP_CNT_DONE 1).rapSend resp
  s1.setMge { s1.mge with last := some r, response := resp }

/-- RAP_REQUEST (R701 to R704): the oldest waiting request. -/
def execRapRequest (s : State) : Result :=
  match s.mge.waiting with
  | [] => .next s
  | r :: rest =>
    let s1 := s.setMge { s.mge with waiting := rest }
    match rapItems r.payload with
    | none => .next (s1.rapSend (rapHeader r.payload 0 1))
    | some items =>
      match s.mge.last with
      | some l => if sameRap l r then .next (s1.rapSend s.mge.response) else .next (s1.rapExecute r items)
      | none => .next (s1.rapExecute r items)

/-! ### The I²C port (R706) -/

/-- One byte of the CRC-8 of the SMBus PEC, x^8 + x^2 + x + 1. -/
def pecStep (c : Nat) (b : Byte) : Nat := (bitsMSB 8 b.toNat).foldl (crcBit 8 0x07) c

/-- The SMBus PEC of a message with its address byte. -/
def State.pec (s : State) (read : Bool) (bytes : List Byte) : Byte :=
  BitVec.ofNat 8 ((BitVec.ofNat 8 (2 * (0x58 + s.f DEV_STRAP_I2C_A) + ofBool read) :: bytes).foldl pecStep 0)

/-- A write through the I²C port: the pointer, and the register at it. -/
def State.i2cSet (s : State) (bytes : List Byte) : State :=
  let a := ofBytesLE (bytes.take 4)
  let s1 := s.setMge { s.mge with i2cPtr := a }
  if 8 ≤ bytes.length then s1.writeAt pathI2c a (BitVec.ofNat 32 (ofBytesLE ((bytes.drop 4).take 4))) else s1

/-- I2C_WRITE (R706): a write of any other length is dropped. -/
def execI2cWrite (bytes : List Byte) (s : State) : Result :=
  if s.mode = Mode.reset then .next s
  else if bytes.length = 4 ∨ bytes.length = 8 then .next (s.i2cSet bytes)
  else if bytes.length = 9 ∧ bytes.getD 8 0 = s.pec false (bytes.take 8) then .next (s.i2cSet bytes)
  else .next s

/-- I2C_READ (R706). -/
def execI2cRead (pec : Bool) (s : State) : Result :=
  if s.mode = Mode.reset then .next s
  else
    let s1 := s.readAt pathI2c s.mge.i2cPtr
    let bytes := bytesLE 4 (s1.path pathI2c).answer.toNat
    .next (s1.setMge { s1.mge with i2cOut := if pec then bytes ++ [s1.pec true bytes] else bytes })

end Sys2Proof.Machine
end

