-- ==== Sys2Proof/Machine/Dispatch.lean ====
section
/-! DEFINITION. The one dispatch of a command to its meaning: one arm per constructor of Instr. -/

namespace Sys2Proof.Machine

/-- The effect of a command on everything but the queue. -/
def exec (i : Instr) (s : State) : Host.Outcome State Fault Refusal :=
  match i with
  | .readLoHalf p off => Sys2Proof.Machine.execReadLoHalf p off s
  | .readHiHalf p off => Sys2Proof.Machine.execReadHiHalf p off s
  | .writeLoHalf p off v => Sys2Proof.Machine.execWriteLoHalf p off v s
  | .writeHiHalf p off v => Sys2Proof.Machine.execWriteHiHalf p off v s
  | .registerWrite p off size v => Sys2Proof.Machine.execRegisterWrite p off size v s
  | .readClearField p off size => Sys2Proof.Machine.execReadClearField p off size s
  | .offBlockAccess p off wr => Sys2Proof.Machine.execOffBlockAccess p off wr s
  | .unmappedWindowAccess p off wr => Sys2Proof.Machine.execUnmappedWindowAccess p off wr s
  | .resultRead p off => Sys2Proof.Machine.execResultRead p off s
  | .mailboxCompletion u => Sys2Proof.Machine.execMailboxCompletion u s
  | .modeRequest p v => Sys2Proof.Machine.execModeRequest p v s
  | .warmReset p v => Sys2Proof.Machine.execWarmReset p v s
  | .warmResetAssert => Sys2Proof.Machine.execWarmResetAssert s
  | .warmResetRelease pull i2c => Sys2Proof.Machine.execWarmResetRelease pull i2c s
  | .powerOnReset fallNs => Sys2Proof.Machine.execPowerOnReset fallNs s
  | .porRelease pull i2c => Sys2Proof.Machine.execPorRelease pull i2c s
  | .resetNAssert lowNs => Sys2Proof.Machine.execResetNAssert lowNs s
  | .resetNRelease pull i2c => Sys2Proof.Machine.execResetNRelease pull i2c s
  | .stepCycle c => Sys2Proof.Machine.execStepCycle c s
  | .stallCycle c => Sys2Proof.Machine.execStallCycle c s
  | .arrival c rank rxw due ftag word => Sys2Proof.Machine.execArrival c rank rxw due ftag word s
  | .clusterCommit c => Sys2Proof.Machine.execClusterCommit c s
  | .endMarkerInject c => Sys2Proof.Machine.execEndMarkerInject c s
  | .scrubRead c => Sys2Proof.Machine.execScrubRead c s
  | .clusterResetDone c => Sys2Proof.Machine.execClusterResetDone c s
  | .trimWrite p c v => Sys2Proof.Machine.execTrimWrite p c v s
  | .freqMeasure c meas => Sys2Proof.Machine.execFreqMeasure c meas s
  | .cluMaRead p c v => Sys2Proof.Machine.execCluMaRead p c v s
  | .cluMaWrite p c v => Sys2Proof.Machine.execCluMaWrite p c v s
  | .nop c k => Sys2Proof.Machine.execNop c k s
  | .eval c k dest tt opa opb opc opd => Sys2Proof.Machine.execEval c k dest tt opa opb opc opd s
  | .eval4s c k dest tt opa opb opc opd => Sys2Proof.Machine.execEval4s c k dest tt opa opb opc opd s
  | .latch c k m4 netw dest tt opa opb opc opd => Sys2Proof.Machine.execLatch c k m4 netw dest tt opa opb opc opd s
  | .muxw c k m4 stride dest tt opa opb opc opd => Sys2Proof.Machine.execMuxw c k m4 stride dest tt opa opb opc opd s
  | .send c k m4 dest opa => Sys2Proof.Machine.execSend c k m4 dest opa s
  | .memRead c k m4 dest tt opa => Sys2Proof.Machine.execMemRead c k m4 dest tt opa s
  | .memWrite c k m4 tt opa opb opc => Sys2Proof.Machine.execMemWrite c k m4 tt opa opb opc s
  | .win c k tt => Sys2Proof.Machine.execWin c k tt s
  | .probe c k dest opa => Sys2Proof.Machine.execProbe c k dest opa s
  | .brk c k tt opa => Sys2Proof.Machine.execBrk c k tt opa s
  | .reservedSpecial c k _ => Sys2Proof.Machine.execReservedSpecial c k s
  | .dieMarker d => Sys2Proof.Machine.execDieMarker d s
  | .localBarrier => Sys2Proof.Machine.execLocalBarrier s
  | .endMarkerReceive lane frame haltNotice notice => Sys2Proof.Machine.execEndMarkerReceive lane frame haltNotice notice s
  | .barrierComplete => Sys2Proof.Machine.execBarrierComplete s
  | .timedRelease => Sys2Proof.Machine.execTimedRelease s
  | .releaseMarkerArrival d r pos frame sw => Sys2Proof.Machine.execReleaseMarkerArrival d r pos frame sw s
  | .haltMarkerArrival c => Sys2Proof.Machine.execHaltMarkerArrival c s
  | .barrierTimeout => Sys2Proof.Machine.execBarrierTimeout s
  | .steps p count => Sys2Proof.Machine.execSteps p count s
  | .frames p count => Sys2Proof.Machine.execFrames p count s
  | .frameNoWrite p hi v => Sys2Proof.Machine.execFrameNoWrite p hi v s
  | .timedScheduleWrite p off v => Sys2Proof.Machine.execTimedScheduleWrite p off v s
  | .btoWrite p v => Sys2Proof.Machine.execBtoWrite p v s
  | .segmentGrant d r pos ccw => Sys2Proof.Machine.execSegmentGrant d r pos ccw s
  | .flitExit d r pos ccw flit => Sys2Proof.Machine.execFlitExit d r pos ccw flit s
  | .brtRoute d r k flit => Sys2Proof.Machine.execBrtRoute d r k flit s
  | .crtRoute d port flit => Sys2Proof.Machine.execCrtRoute d port flit s
  | .writeAckAbsorb d ftag => Sys2Proof.Machine.execWriteAckAbsorb d ftag s
  | .resv dnode snode tag resp gen body => Sys2Proof.Machine.execResv dnode snode tag resp gen body s
  | .grant node tag buf => Sys2Proof.Machine.execGrant node tag buf s
  | .nack node tag status => Sys2Proof.Machine.execNack node tag status s
  | .retryGapExpiry node tag => Sys2Proof.Machine.execRetryGapExpiry node tag s
  | .packetReceived node resp buf => Sys2Proof.Machine.execPacketReceived node resp buf s
  | .packetTaken node resp b => Sys2Proof.Machine.execPacketTaken node resp b s
  | .done node tag => Sys2Proof.Machine.execDone node tag s
  | .returnedPacket node tag status => Sys2Proof.Machine.execReturnedPacket node tag status s
  | .holdTimeout node resp buf => Sys2Proof.Machine.execHoldTimeout node resp buf s
  | .srcTimeout node tag => Sys2Proof.Machine.execSrcTimeout node tag s
  | .setGen p d v => Sys2Proof.Machine.execSetGen p d v s
  | .arm p d v => Sys2Proof.Machine.execArm p d v s
  | .now p d v => Sys2Proof.Machine.execNow p d v s
  | .cancel p d v => Sys2Proof.Machine.execCancel p d v s
  | .utoWrite p d v => Sys2Proof.Machine.execUtoWrite p d v s
  | .mlrTblRead p d v => Sys2Proof.Machine.execMlrTblRead p d v s
  | .mlrTblWrite p d v => Sys2Proof.Machine.execMlrTblWrite p d v s
  | .mlrTblClear p d v => Sys2Proof.Machine.execMlrTblClear p d v s
  | .loopbackModeWrite p d r pos v => Sys2Proof.Machine.execLoopbackModeWrite p d r pos v s
  | .loopbackGo p d r pos v => Sys2Proof.Machine.execLoopbackGo p d r pos v s
  | .loopbackReceive d r pos payload => Sys2Proof.Machine.execLoopbackReceive d r pos payload s
  | .loopbackBusyTimeout d r pos => Sys2Proof.Machine.execLoopbackBusyTimeout d r pos s
  | .mreqPartArrival d port flit => Sys2Proof.Machine.execMreqPartArrival d port flit s
  | .partialTimeout d port tag => Sys2Proof.Machine.execPartialTimeout d port tag s
  | .hbmWindow d pc ownerUses overrun ecc => Sys2Proof.Machine.execHbmWindow d pc ownerUses overrun ecc s
  | .fill p w => Sys2Proof.Machine.execFill p w s
  | .copyOut p d eccAt => Sys2Proof.Machine.execCopyOut p d eccAt s
  | .copyIn p w => Sys2Proof.Machine.execCopyIn p w s
  | .hbcTblRead p d v => Sys2Proof.Machine.execHbcTblRead p d v s
  | .hbcTblWrite p d v => Sys2Proof.Machine.execHbcTblWrite p d v s
  | .hbcTblClear p d v => Sys2Proof.Machine.execHbcTblClear p d v s
  | .acqBaseWrite p d v => Sys2Proof.Machine.execAcqBaseWrite p d v s
  | .winPeriodWrite p d v => Sys2Proof.Machine.execWinPeriodWrite p d v s
  | .mpdWrite p c port v => Sys2Proof.Machine.execMpdWrite p c port v s
  | .mrtDataAccess p c wr => Sys2Proof.Machine.execMrtDataAccess p c wr s
  | .sramFill p c v => Sys2Proof.Machine.execSramFill p c v s
  | .sramFillDone c => Sys2Proof.Machine.execSramFillDone c s
  | .srwDataRead p c => Sys2Proof.Machine.execSrwDataRead p c s
  | .srwDataWrite p c v => Sys2Proof.Machine.execSrwDataWrite p c v s
  | .load p r => Sys2Proof.Machine.execLoad p r s
  | .billetCheck p eccAt => Sys2Proof.Machine.execBilletCheck p eccAt s
  | .unload p => Sys2Proof.Machine.execUnload p s
  | .reload p r => Sys2Proof.Machine.execReload p r s
  | .replace p e => Sys2Proof.Machine.execReplace p e s
  | .clreset p => Sys2Proof.Machine.execClreset p s
  | .billetTimeout => Sys2Proof.Machine.execBilletTimeout s
  | .loadChannelBlock lane bytes => Sys2Proof.Machine.execLoadChannelBlock lane bytes s
  | .ldchEnable p v => Sys2Proof.Machine.execLdchEnable p v s
  | .failmapWrite p ix v => Sys2Proof.Machine.execFailmapWrite p ix v s
  | .tapCollection => Sys2Proof.Machine.execTapCollection s
  | .pinSample levels => Sys2Proof.Machine.execPinSample levels s
  | .framePoint => Sys2Proof.Machine.execFramePoint s
  | .acqBlockWrite => Sys2Proof.Machine.execAcqBlockWrite s
  | .acqArm p v => Sys2Proof.Machine.execAcqArm p v s
  | .acqStop p v => Sys2Proof.Machine.execAcqStop p v s
  | .force p v => Sys2Proof.Machine.execForce p v s
  | .acqConfigWrite p off v => Sys2Proof.Machine.execAcqConfigWrite p off v s
  | .tapTableWrite p off v => Sys2Proof.Machine.execTapTableWrite p off v s
  | .skewEdgePair pin dt => Sys2Proof.Machine.execSkewEdgePair pin dt s
  | .pinDlyWrite p pin v => Sys2Proof.Machine.execPinDlyWrite p pin v s
  | .copy p => Sys2Proof.Machine.execCopy p s
  | .timeRead p => Sys2Proof.Machine.execTimeRead p s
  | .set p v => Sys2Proof.Machine.execSet p v s
  | .offset p v => Sys2Proof.Machine.execOffset p v s
  | .adjWrite p v => Sys2Proof.Machine.execAdjWrite p v s
  | .srcChange p v => Sys2Proof.Machine.execSrcChange p v s
  | .servoMeasurement theta => Sys2Proof.Machine.execServoMeasurement theta s
  | .measCommit p v => Sys2Proof.Machine.execMeasCommit p v s
  | .ppsInEdge rising => Sys2Proof.Machine.execPpsInEdge rising s
  | .ref10mEdge => Sys2Proof.Machine.execRef10mEdge s
  | .ref10mPresence hz => Sys2Proof.Machine.execRef10mPresence hz s
  | .holdover => Sys2Proof.Machine.execHoldover s
  | .ptpTimestamp tx msgType seqId oneStep tsReq => Sys2Proof.Machine.execPtpTimestamp tx msgType seqId oneStep tsReq s
  | .txtsPop p => Sys2Proof.Machine.execTxtsPop p s
  | .shxRequest => Sys2Proof.Machine.execShxRequest s
  | .treqReceive lane id => Sys2Proof.Machine.execTreqReceive lane id s
  | .trespReceive lane id t2 t3 => Sys2Proof.Machine.execTrespReceive lane id t2 t3 s
  | .shxTimeout => Sys2Proof.Machine.execShxTimeout s
  | .pulseEnable p n v => Sys2Proof.Machine.execPulseEnable p n v s
  | .pulseFire n => Sys2Proof.Machine.execPulseFire n s
  | .pulseWidthEnd n => Sys2Proof.Machine.execPulseWidthEnd n s
  | .ppsOutPulse => Sys2Proof.Machine.execPpsOutPulse s
  | .captureEdge n rising => Sys2Proof.Machine.execCaptureEdge n rising s
  | .capturePop p n => Sys2Proof.Machine.execCapturePop p n s
  | .start p lane v => Sys2Proof.Machine.execStart p lane v s
  | .stop p lane v => Sys2Proof.Machine.execStop p lane v s
  | .slip p lane v => Sys2Proof.Machine.execSlip p lane v s
  | .test p lane v => Sys2Proof.Machine.execTest p lane v s
  | .pllLock lane => Sys2Proof.Machine.execPllLock lane s
  | .blockReceive lane hdr syls => Sys2Proof.Machine.execBlockReceive lane hdr syls s
  | .negReceive lane s1 s2 => Sys2Proof.Machine.execNegReceive lane s1 s2 s
  | .bringupStepTimeout lane => Sys2Proof.Machine.execBringupStepTimeout lane s
  | .packetTransmit lane => Sys2Proof.Machine.execPacketTransmit lane s
  | .packetReceive lane syls => Sys2Proof.Machine.execPacketReceive lane syls s
  | .laneWordRoute lane => Sys2Proof.Machine.execLaneWordRoute lane s
  | .replayTimeout lane => Sys2Proof.Machine.execReplayTimeout lane s
  | .relockTimeout lane => Sys2Proof.Machine.execRelockTimeout lane s
  | .downBlockReceive lane cause => Sys2Proof.Machine.execDownBlockReceive lane cause s
  | .ffeWrite p lane rate v => Sys2Proof.Machine.execFfeWrite p lane rate v s
  | .inj p lane v => Sys2Proof.Machine.execInj p lane v s
  | .clr p lane v => Sys2Proof.Machine.execClr p lane v s
  | .recenter lane left right => Sys2Proof.Machine.execRecenter lane left right s
  | .eyePoint p q mismatches => Sys2Proof.Machine.execEyePoint p q mismatches s
  | .eyeWidth p q left right => Sys2Proof.Machine.execEyeWidth p q left right s
  | .loadSend p q => Sys2Proof.Machine.execLoadSend p q s
  | .roleReqPrimary p v => Sys2Proof.Machine.execRoleReqPrimary p v s
  | .roleReqShadow p v => Sys2Proof.Machine.execRoleReqShadow p v s
  | .roleReqCatchup p v => Sys2Proof.Machine.execRoleReqCatchup p v s
  | .detach p v => Sys2Proof.Machine.execDetach p v s
  | .ckptGo p v => Sys2Proof.Machine.execCkptGo p v s
  | .ckptAbort p v => Sys2Proof.Machine.execCkptAbort p v s
  | .pairRepeat => Sys2Proof.Machine.execPairRepeat s
  | .pairReceive req crc flen role jnlEn ssig frame => Sys2Proof.Machine.execPairReceive req crc flen role jnlEn ssig frame s
  | .pairTimeout => Sys2Proof.Machine.execPairTimeout s
  | .input frame join words => Sys2Proof.Machine.execInput frame join words s
  | .digest frame halted dig ssig => Sys2Proof.Machine.execDigest frame halted dig ssig s
  | .mode frame target check => Sys2Proof.Machine.execMode frame target check s
  | .join frame => Sys2Proof.Machine.execJoin frame s
  | .leave => Sys2Proof.Machine.execLeave s
  | .ckpt frame kind index offset data => Sys2Proof.Machine.execCkpt frame kind index offset data s
  | .digestTimeout => Sys2Proof.Machine.execDigestTimeout s
  | .ckptPrecopy => Sys2Proof.Machine.execCkptPrecopy s
  | .ckptFinal => Sys2Proof.Machine.execCkptFinal s
  | .contention line group => Sys2Proof.Machine.execContention line group s
  | .contMapWrite p ix v => Sys2Proof.Machine.execContMapWrite p ix v s
  | .outputArrival d flit => Sys2Proof.Machine.execOutputArrival d flit s
  | .probeSelectWrite p k v => Sys2Proof.Machine.execProbeSelectWrite p k v s
  | .fabTableWrite p v => Sys2Proof.Machine.execFabTableWrite p v s
  | .snap p => Sys2Proof.Machine.execSnap p s
  | .loadSlot p => Sys2Proof.Machine.execLoadSlot p s
  | .loadMem p => Sys2Proof.Machine.execLoadMem p s
  | .verify p => Sys2Proof.Machine.execVerify p s
  | .cfgClear p => Sys2Proof.Machine.execCfgClear p s
  | .fuseProg p => Sys2Proof.Machine.execFuseProg p s
  | .cfgPhaseComplete eccAt => Sys2Proof.Machine.execCfgPhaseComplete eccAt s
  | .cfgPhaseTimeout => Sys2Proof.Machine.execCfgPhaseTimeout s
  | .doneLineHigh => Sys2Proof.Machine.execDoneLineHigh s
  | .clocksLocked => Sys2Proof.Machine.execClocksLocked s
  | .commit p v => Sys2Proof.Machine.execCommit p v s
  | .erase p v => Sys2Proof.Machine.execErase p v s
  | .mramDataAccess p wr => Sys2Proof.Machine.execMramDataAccess p wr s
  | .cfgScrubRead voterDiffers => Sys2Proof.Machine.execCfgScrubRead voterDiffers s
  | .scrubHeartbeatTimeout => Sys2Proof.Machine.execScrubHeartbeatTimeout s
  | .ostlerTick => Sys2Proof.Machine.execOstlerTick s
  | .ready p => Sys2Proof.Machine.execReady p s
  | .delay p => Sys2Proof.Machine.execDelay p s
  | .ostCancel p => Sys2Proof.Machine.execOstCancel p s
  | .ostDone p => Sys2Proof.Machine.execOstDone p s
  | .eventCommand => Sys2Proof.Machine.execEventCommand s
  | .taskPlace => Sys2Proof.Machine.execTaskPlace s
  | .coreTake p core => Sys2Proof.Machine.execCoreTake p core s
  | .coreRun p core v => Sys2Proof.Machine.execCoreRun p core v s
  | .coreHold p core v => Sys2Proof.Machine.execCoreHold p core v s
  | .taskDescriptorWrite p ix v => Sys2Proof.Machine.execTaskDescriptorWrite p ix v s
  | .taskDescriptorRead p ix => Sys2Proof.Machine.execTaskDescriptorRead p ix s
  | .doorbell p v => Sys2Proof.Machine.execDoorbell p v s
  | .kick p core v => Sys2Proof.Machine.execKick p core v s
  | .coreWdtNmi core => Sys2Proof.Machine.execCoreWdtNmi core s
  | .coreWdtExpiry core => Sys2Proof.Machine.execCoreWdtExpiry core s
  | .mgeFrameReceive frame fcsOk => Sys2Proof.Machine.execMgeFrameReceive frame fcsOk s
  | .rapRequest => Sys2Proof.Machine.execRapRequest s
  | .mgeTxDescriptor => Sys2Proof.Machine.execMgeTxDescriptor s
  | .goBusy p v => Sys2Proof.Machine.execGoBusy p v s
  | .mdioComplete data => Sys2Proof.Machine.execMdioComplete data s
  | .i2cWrite bytes => Sys2Proof.Machine.execI2cWrite bytes s
  | .i2cRead pec => Sys2Proof.Machine.execI2cRead pec s
  | .i2cSclTimeout => Sys2Proof.Machine.execI2cSclTimeout s
  | .traceBranch core kind taken target cycles => Sys2Proof.Machine.execTraceBranch core kind taken target cycles s
  | .traceCycleOverflow core => Sys2Proof.Machine.execTraceCycleOverflow core s
  | .traceTsPeriod core cycles => Sys2Proof.Machine.execTraceTsPeriod core cycles s
  | .traceSleep core cycles => Sys2Proof.Machine.execTraceSleep core cycles s
  | .traceWake core => Sys2Proof.Machine.execTraceWake core s
  | .comparatorMatch core addr cycles => Sys2Proof.Machine.execComparatorMatch core addr cycles s
  | .wakeTrigger src => Sys2Proof.Machine.execWakeTrigger src s
  | .trigSw p v => Sys2Proof.Machine.execTrigSw p v s
  | .stopDelayExpiry core cycles => Sys2Proof.Machine.execStopDelayExpiry core cycles s
  | .secureTransition core entry cycles => Sys2Proof.Machine.execSecureTransition core entry cycles s
  | .traceStallTimeout core => Sys2Proof.Machine.execTraceStallTimeout core s
  | .mergerLineWrite => Sys2Proof.Machine.execMergerLineWrite s
  | .wkeEnableWrite p v => Sys2Proof.Machine.execWkeEnableWrite p v s
  | .authVerify p v => Sys2Proof.Machine.execAuthVerify p v s
  | .revoke p v => Sys2Proof.Machine.execRevoke p v s
  | .aggregatorClose src => Sys2Proof.Machine.execAggregatorClose src s
  | .gbkRecordWrite => Sys2Proof.Machine.execGbkRecordWrite s
  | .gbkScanDone => Sys2Proof.Machine.execGbkScanDone s
  | .exportLog p => Sys2Proof.Machine.execExportLog p s
  | .gbkErase p => Sys2Proof.Machine.execGbkErase p s
  | .flush p => Sys2Proof.Machine.execFlush p s
  | .sevDataWrite p v => Sys2Proof.Machine.execSevDataWrite p v s
  | .registerAccessTimeout p off wr => Sys2Proof.Machine.execRegisterAccessTimeout p off wr s
  | .lateAccessPerform ix => Sys2Proof.Machine.execLateAccessPerform ix s
  | .hwdtKick p v => Sys2Proof.Machine.execHwdtKick p v s
  | .hubWatchdogExpiry hubClockRuns => Sys2Proof.Machine.execHubWatchdogExpiry hubClockRuns s
  | .wakeStepReady ix => Sys2Proof.Machine.execWakeStepReady ix s
  | .wakeStepTimeout ix => Sys2Proof.Machine.execWakeStepTimeout ix s
  | .powerdownStep ix => Sys2Proof.Machine.execPowerdownStep ix s
  | .voteSwWrite p k v => Sys2Proof.Machine.execVoteSwWrite p k v s
  | .domainReset p ix v => Sys2Proof.Machine.execDomainReset p ix v s
  | .wakeN low => Sys2Proof.Machine.execWakeN low s
  | .standbyEntryStep => Sys2Proof.Machine.execStandbyEntryStep s
  | .standbyExitStep => Sys2Proof.Machine.execStandbyExitStep s
  | .sensorReading sensor quarterDegrees => Sys2Proof.Machine.execSensorReading sensor quarterDegrees s
  | .slowdownEvaluation => Sys2Proof.Machine.execSlowdownEvaluation s
  | .thresholdWrite p k v => Sys2Proof.Machine.execThresholdWrite p k v s
  | .mbist p failed cfgFailed => Sys2Proof.Machine.execMbist p failed cfgFailed s
  | .lbist p failed => Sys2Proof.Machine.execLbist p failed s
  | .hbmBist p failedPc => Sys2Proof.Machine.execHbmBist p failedPc s
  | .bistTimeout => Sys2Proof.Machine.execBistTimeout s
  | .loopbackEnableWrite p off v => Sys2Proof.Machine.execLoopbackEnableWrite p off v s
  | .tapInstructionUpdate code => Sys2Proof.Machine.execTapInstructionUpdate code s
  | .testLogicReset => Sys2Proof.Machine.execTestLogicReset s
  | .vccioLoss bank => Sys2Proof.Machine.execVccioLoss bank s
  | .vccioReturn bank => Sys2Proof.Machine.execVccioReturn bank s
  | .crossbarGrant d port => Sys2Proof.Machine.execCrossbarGrant d port s
  | .userClockEdge k bits => Sys2Proof.Machine.execUserClockEdge k bits s
  | .userClockLock k locked => Sys2Proof.Machine.execUserClockLock k locked s
  | .prbsCheckerBit lane bit => Sys2Proof.Machine.execPrbsCheckerBit lane bit s
  | .secMax => Sys2Proof.Machine.execSecMax s
  | .resumeMarkerArrival c => Sys2Proof.Machine.execResumeMarkerArrival c s
  | .paceGapExpiry => Sys2Proof.Machine.execPaceGapExpiry s
  | .authVerifyDone => Sys2Proof.Machine.execAuthVerifyDone s
  | .vbatLoss => Sys2Proof.Machine.execVbatLoss s
  | .tckEdge rising tms tdi pins => Sys2Proof.Machine.execTckEdge rising tms tdi pins s

end Sys2Proof.Machine
end

