-- ==== Sys2Proof/WellFormed.lean ====
section
/-! DEFINITION. Well-formed commands: the operands that no type bounds lie in the ranges that the spec gives them. -/

namespace Sys2Proof

open Machine Machine.Reg

/-- A register's window offset names a half of a 64-bit value: 1 _LO, 2 _HI (R14). -/
def isHalf (h off : Nat) : Bool :=
  match regAt off with
  | some (d, _) => d.half == h
  | none => false

/-- A window offset is aligned on 4 bytes (R7). -/
def aligned (off : Nat) : Bool := off % 4 == 0

/-- A window offset lies in a block (R819). -/
def inBlock (off : Nat) : Bool := (blockDomain off).isSome

/-- An access of 1, 2 or 4 bytes, aligned on its size (R7, R8). -/
def sizeOk (off size : Nat) : Bool := (size == 1 || size == 2 || size == 4) && off % size == 0

/-- A window offset names a RESULT register (R20). -/
def isResult (off : Nat) : Bool :=
  [BLT_RESULT 0, BLT_RESULT 1, ACQ_MB_RESULT, FAB_MB_RESULT, GBK_MB_RESULT, CFG_RESULT 0, CFG_RESULT 1, DEV_BIST_RESULT 0,
    DEV_BIST_RESULT 1].contains off || (List.range 4).any (fun d => off == HBC_MB_RESULT d) ||
    (List.range 32).any fun q => off == SHR_MB_RESULT q 0 || off == SHR_MB_RESULT q 1

/-- The schedule registers of R226. -/
def scheduleRegs : List Nat :=
  [SEQ_TSTART_SEC, SEQ_TSTART_SEC + 4, SEQ_TSTART_NS, SEQ_TPER_NS, SEQ_TPER_FRAC, SEQ_TLEAD]

/-- The registers of the capture configuration (R479, and the sequencer, comparator and counter registers). -/
def captureReg (off : Nat) : Bool :=
  [ACQ_CTRL, ACQ_DEPTH, ACQ_AUTO_US, ACQ_PIN_EN, ACQ_CMP_FRAME, ACQ_CMP_FRAME + 4, ACQ_SKEW_CFG].contains off ||
    (Nat.ble (ACQ_ST_MASK 0) off && Nat.blt off (ACQ_CNT 4) && aligned off)

/-- A packet of Billet that fails ends with a status of R308 other than OK. -/
def badStatus (x : BitVec 12 × BitVec 4) : Bool := Nat.ble 1 x.2.toNat && Nat.ble x.2.toNat 8

/-- Numbers rise from a bound. -/
def rising : Nat → List Nat → Bool
  | _, [] => true
  | b, k :: ks => Nat.ble b k && rising (k + 1) ks

/-- The operands of a command lie in their ranges. -/
def Instr.wf (i : Instr) : Bool :=
  match i with
  | .readLoHalf _ off => isHalf 1 off.toNat
  | .readHiHalf _ off => isHalf 2 off.toNat
  | .writeLoHalf _ off _ => isHalf 1 off.toNat
  | .writeHiHalf _ off _ => isHalf 2 off.toNat
  | .registerWrite _ off size _ => sizeOk off.toNat size
  | .readClearField _ off size => sizeOk off.toNat size
  | .offBlockAccess _ off _ => inBlock off.toNat && aligned off.toNat
  | .unmappedWindowAccess _ off _ => !inBlock off.toNat && aligned off.toNat
  | .resultRead _ off => isResult off.toNat
  | .mailboxCompletion _ => true
  | .modeRequest _ v => bitOf v.toNat 3
  | .warmReset _ v => bitOf v.toNat 8
  | .warmResetAssert => true
  | .warmResetRelease _ _ => true
  | .powerOnReset _ => true
  | .porRelease _ _ => true
  | .resetNAssert _ => true
  | .resetNRelease _ _ => true
  | .stepCycle _ => true
  | .stallCycle _ => true
  | .arrival _ rank _ _ _ _ => Nat.blt rank 1024 || rank == 1025
  | .clusterCommit _ => true
  | .endMarkerInject _ => true
  | .scrubRead _ => true
  | .clusterResetDone _ => true
  | .trimWrite _ _ _ => true
  | .freqMeasure _ _ => true
  | .cluMaRead _ _ _ => true
  | .cluMaWrite _ _ _ => true
  | .nop _ _ => true
  | .eval _ _ _ _ _ _ _ _ => true
  | .eval4s _ _ _ _ _ _ _ _ => true
  | .latch _ _ _ _ _ _ _ _ _ _ => true
  | .muxw _ _ _ _ _ _ _ _ _ _ => true
  | .send _ _ _ _ _ => true
  | .memRead _ _ _ _ _ _ => true
  | .memWrite _ _ _ _ _ _ _ => true
  | .win _ _ _ => true
  | .probe _ _ _ _ => true
  | .brk _ _ _ _ => true
  | .reservedSpecial _ _ _ => true
  | .dieMarker _ => true
  | .localBarrier => true
  | .endMarkerReceive _ _ _ _ => true
  | .barrierComplete => true
  | .timedRelease => true
  | .releaseMarkerArrival _ _ _ _ _ => true
  | .haltMarkerArrival _ => true
  | .barrierTimeout => true
  | .steps _ _ => true
  | .frames _ _ => true
  | .frameNoWrite _ _ _ => true
  | .timedScheduleWrite _ off _ => scheduleRegs.contains off.toNat
  | .btoWrite _ _ => true
  | .segmentGrant _ _ _ _ => true
  | .flitExit _ _ _ _ _ => true
  | .brtRoute _ _ _ _ => true
  | .crtRoute _ _ _ => true
  | .writeAckAbsorb _ _ => true
  | .resv _ _ _ _ _ body => Nat.ble body.data.length 63
  | .grant _ _ _ => true
  | .nack _ _ _ => true
  | .retryGapExpiry _ _ => true
  | .packetReceived _ _ buf => Nat.blt buf 64
  | .packetTaken _ _ b => Nat.blt b.buf 64
  | .done _ _ => true
  | .returnedPacket _ _ _ => true
  | .holdTimeout _ _ buf => Nat.blt buf 64
  | .srcTimeout _ _ => true
  | .setGen _ _ _ => true
  | .arm _ _ _ => true
  | .now _ _ _ => true
  | .cancel _ _ _ => true
  | .utoWrite _ _ _ => true
  | .mlrTblRead _ _ _ => true
  | .mlrTblWrite _ _ _ => true
  | .mlrTblClear _ _ _ => true
  | .loopbackModeWrite _ _ _ _ _ => true
  | .loopbackGo _ _ _ _ _ => true
  | .loopbackReceive _ _ _ _ => true
  | .loopbackBusyTimeout _ _ _ => true
  | .mreqPartArrival _ _ _ => true
  | .partialTimeout _ _ _ => true
  | .hbmWindow _ _ _ _ _ => true
  | .fill _ _ => true
  | .copyOut _ _ _ => true
  | .copyIn _ _ => true
  | .hbcTblRead _ _ _ => true
  | .hbcTblWrite _ _ _ => true
  | .hbcTblClear _ _ _ => true
  | .acqBaseWrite _ _ _ => true
  | .winPeriodWrite _ _ _ => true
  | .mpdWrite _ _ _ _ => true
  | .mrtDataAccess _ _ _ => true
  | .sramFill _ _ _ => true
  | .sramFillDone _ => true
  | .srwDataRead _ _ => true
  | .srwDataWrite _ _ _ => true
  | .load _ r => r.packet.all badStatus
  | .billetCheck _ _ => true
  | .unload _ => true
  | .reload _ r => r.packet.all badStatus
  | .replace _ _ => true
  | .clreset _ => true
  | .billetTimeout => true
  | .loadChannelBlock _ bytes => Nat.ble 1 bytes.length && Nat.ble bytes.length 64
  | .ldchEnable _ _ => true
  | .failmapWrite _ _ _ => true
  | .tapCollection => true
  | .pinSample _ => true
  | .framePoint => true
  | .acqBlockWrite => true
  | .acqArm _ _ => true
  | .acqStop _ _ => true
  | .force _ _ => true
  | .acqConfigWrite _ off _ => captureReg off.toNat
  | .tapTableWrite _ off _ => off.toNat == ACQ_TAP_NUM || off.toNat == ACQ_TAP_DATA
  | .skewEdgePair _ _ => true
  | .pinDlyWrite _ _ _ => true
  | .copy _ => true
  | .timeRead _ => true
  | .set _ _ => true
  | .offset _ _ => true
  | .adjWrite _ _ => true
  | .srcChange _ _ => true
  | .servoMeasurement _ => true
  | .measCommit _ _ => true
  | .ppsInEdge _ => true
  | .ref10mEdge => true
  | .ref10mPresence _ => true
  | .holdover => true
  | .ptpTimestamp _ _ _ _ _ => true
  | .txtsPop _ => true
  | .shxRequest => true
  | .treqReceive _ _ => true
  | .trespReceive _ _ t2 t3 => t2.length == 4 && t3.length == 4
  | .shxTimeout => true
  | .pulseEnable _ _ _ => true
  | .pulseFire _ => true
  | .pulseWidthEnd _ => true
  | .ppsOutPulse => true
  | .captureEdge _ _ => true
  | .capturePop _ _ => true
  | .start _ _ v => bitOf v.toNat 0
  | .stop _ _ _ => true
  | .slip _ _ _ => true
  | .test _ _ _ => true
  | .pllLock _ => true
  | .blockReceive _ _ syls => syls.length == 16
  | .negReceive _ _ _ => true
  | .bringupStepTimeout _ => true
  | .packetTransmit _ => true
  | .packetReceive _ syls => syls.length == 128
  | .laneWordRoute _ => true
  | .replayTimeout _ => true
  | .relockTimeout _ => true
  | .downBlockReceive _ _ => true
  | .ffeWrite _ _ _ _ => true
  | .inj _ _ _ => true
  | .clr _ _ _ => true
  | .recenter _ _ _ => true
  | .eyePoint _ _ _ => true
  | .eyeWidth _ _ _ _ => true
  | .loadSend _ _ => true
  | .roleReqPrimary _ _ => true
  | .roleReqShadow _ _ => true
  | .roleReqCatchup _ _ => true
  | .detach _ _ => true
  | .ckptGo _ _ => true
  | .ckptAbort _ _ => true
  | .pairRepeat => true
  | .pairReceive _ _ _ _ _ _ _ => true
  | .pairTimeout => true
  | .input _ _ _ => true
  | .digest _ _ _ _ => true
  | .mode _ _ _ => true
  | .join _ => true
  | .leave => true
  | .ckpt _ _ _ _ data => Nat.ble data.length 1048576
  | .digestTimeout => true
  | .ckptPrecopy => true
  | .ckptFinal => true
  | .contention _ _ => true
  | .contMapWrite _ _ _ => true
  | .outputArrival _ _ => true
  | .probeSelectWrite _ _ _ => true
  | .fabTableWrite _ _ => true
  | .snap _ => true
  | .loadSlot _ => true
  | .loadMem _ => true
  | .verify _ => true
  | .cfgClear _ => true
  | .fuseProg _ => true
  | .cfgPhaseComplete _ => true
  | .cfgPhaseTimeout => true
  | .doneLineHigh => true
  | .clocksLocked => true
  | .commit _ _ => true
  | .erase _ _ => true
  | .mramDataAccess _ _ => true
  | .cfgScrubRead _ => true
  | .scrubHeartbeatTimeout => true
  | .ostlerTick => true
  | .ready _ => true
  | .delay _ => true
  | .ostCancel _ => true
  | .ostDone _ => true
  | .eventCommand => true
  | .taskPlace => true
  | .coreTake _ _ => true
  | .coreRun _ _ _ => true
  | .coreHold _ _ _ => true
  | .taskDescriptorWrite _ _ _ => true
  | .taskDescriptorRead _ _ => true
  | .doorbell _ _ => true
  | .kick _ _ _ => true
  | .coreWdtNmi _ => true
  | .coreWdtExpiry _ => true
  | .mgeFrameReceive frame _ => Nat.ble 14 frame.length
  | .rapRequest => true
  | .mgeTxDescriptor => true
  | .goBusy _ _ => true
  | .mdioComplete _ => true
  | .i2cWrite bytes => Nat.ble 1 bytes.length
  | .i2cRead _ => true
  | .i2cSclTimeout => true
  | .traceBranch _ _ _ _ _ => true
  | .traceCycleOverflow _ => true
  | .traceTsPeriod _ _ => true
  | .traceSleep _ _ => true
  | .traceWake _ => true
  | .comparatorMatch _ _ _ => true
  | .wakeTrigger _ => true
  | .trigSw _ _ => true
  | .stopDelayExpiry _ _ => true
  | .secureTransition _ _ _ => true
  | .traceStallTimeout _ => true
  | .mergerLineWrite => true
  | .wkeEnableWrite _ _ => true
  | .authVerify _ _ => true
  | .revoke _ _ => true
  | .aggregatorClose _ => true
  | .gbkRecordWrite => true
  | .gbkScanDone => true
  | .exportLog _ => true
  | .gbkErase _ => true
  | .flush _ => true
  | .sevDataWrite _ _ => true
  | .registerAccessTimeout _ off _ => aligned off.toNat
  | .lateAccessPerform _ => true
  | .hwdtKick _ _ => true
  | .hubWatchdogExpiry _ => true
  | .wakeStepReady _ => true
  | .wakeStepTimeout _ => true
  | .powerdownStep _ => true
  | .voteSwWrite _ _ _ => true
  | .domainReset _ _ _ => true
  | .wakeN _ => true
  | .standbyEntryStep => true
  | .standbyExitStep => true
  | .sensorReading _ _ => true
  | .slowdownEvaluation => true
  | .thresholdWrite _ _ _ => true
  | .mbist _ failed _ => decide failed.Nodup
  | .lbist _ failed => decide failed.Nodup
  | .hbmBist _ failedPc => decide failedPc.Nodup
  | .bistTimeout => true
  | .loopbackEnableWrite _ off _ => [MGE_LB, FAB_IO_LB, TMK_LB].contains off.toNat
  | .tapInstructionUpdate _ => true
  | .testLogicReset => true
  | .vccioLoss _ => true
  | .vccioReturn _ => true
  | .crossbarGrant _ _ => true
  | .userClockEdge _ bits => rising 0 (bits.map (·.1)) && bits.all (fun x => Nat.blt x.1 384)
  | .userClockLock _ _ => true
  | .prbsCheckerBit _ _ => true
  | .secMax => true
  | .resumeMarkerArrival _ => true
  | .paceGapExpiry => true
  | .authVerifyDone => true
  | .vbatLoss => true
  | .tckEdge _ _ _ pins => pins.length == 1613

end Sys2Proof
end

