-- ==== Sys2Proof/Safety.lean ====
section
/-! DEFINITION. The terms in which claims speak of a state and of a step: the canonical form of the memories and of the
register file, a step that goes on, and what a command leaves unchanged. -/

namespace Sys2Proof.Machine

/-- The canonical form of a memory: addresses strictly rising, and no byte listed that an unlisted address reads as. -/
def Memory.wf (m : List Host.Cell) : Bool := Sparse.wf (fun _ => 0) m

/-- The three memories and the register file are in canonical form. -/
def State.canonical (s : State) : Bool :=
  Memory.wf s.hbm && Memory.wf s.mram && Memory.wf s.boot && Sparse.wf resetOf s.regs

/-- The command at the front, or the hub cycle of an empty queue, answers a next state. -/
def SafeStep (s : State) : Prop := ∃ t, step s = .next t

/-- The first k steps answer next states. -/
def SafeRun : Nat → State → Prop
  | 0, _ => True
  | k + 1, s => ∃ t, step s = .next t ∧ SafeRun k t

/-- The register at a window offset is reached by an access (R33, R55, R820): its block is ON and answers. -/
def Reached (s : State) (off : Nat) : Prop := s.access off = .reached

/-- A command completes: it answers a next state, of which P holds. -/
def Completes (c : Instr) (s : State) (P : State → Prop) : Prop := ∃ t, exec c s = .next t ∧ P t

/-- One byte of the HBM stacks, by key. -/
def State.hbmByte (s : State) (a : Nat) : Byte := Sparse.get 0 s.hbm a

/-- One byte of the MRAM. -/
def State.mramByte (s : State) (a : Nat) : Byte := Sparse.get 0 s.mram a

/-- One byte of the hub boot memory. -/
def State.bootByte (s : State) (a : Nat) : Byte := Sparse.get 0 s.boot a

/-- Every byte of the three memories reads as before. -/
def SameMemory (s t : State) : Prop :=
  (∀ a, t.hbmByte a = s.hbmByte a) ∧ (∀ a, t.mramByte a = s.mramByte a) ∧ ∀ a, t.bootByte a = s.bootByte a

/-- Every register of the window outside a list reads as before. -/
def OnlyRegs (offs : List Nat) (s t : State) : Prop := ∀ off, off ∉ offs → t.reg off = s.reg off

/-- Every register outside a list, and every byte of the memories, reads as before. -/
def Frame (offs : List Nat) (s t : State) : Prop := OnlyRegs offs s t ∧ SameMemory s t

/-- The registers that an Ostler event (R691) and an occurrence counted by the Guestbook (R736, R746) may change. -/
def noticeRegs : List Nat := [Reg.OST_EVT_PEND 0, Reg.GBK_ERR, Reg.GBK_DROP]

end Sys2Proof.Machine
end

