-- ==== Sys2Proof/Certificates/Slice0/Obligations.lean ====
section
/-! DEFINITION. The statements about the device that are to be proved. A statement speaks of the command through exec, of a
register through State.reg and State.f, and of a path's read through its answer. Completes says that the command answers a
next state; Frame says which registers may have changed, and that no byte of memory has. -/



open Sys2Proof Sys2Proof.Machine Sys2Proof.Machine.Reg

/-! ### Accesses to the register window (00_scope, 21_register_index) -/

/-- The time values whose halves have read rules of their own (R499, R522). -/
def Sys2Proof.timePair (off : Nat) : Prop := off = TMK_SEC ∨ off = TMK_TXTS_SEC ∨ ∃ n, n < 9 ∧ off = TMK_CAP_SEC n

/-- R15, R17, R499. A read of a _LO half loads the path's latch with the live high half and tags it; a read of a _HI half
returns the latched half while the latch carries its value's tag and the live half otherwise. Nothing else changes. -/
def Obligations.SixtyFourBitReads : Prop :=
  ∀ (s : State) (p : Path) (off : WinOff), Reached s off.toNat →
    (isHalf 1 off.toNat = true → ¬ timePair off.toNat →
      Completes (.readLoHalf p off) s fun t => t = s.setPath p { s.path p with
        latchTag := some off.toNat, latchHi := s.live (off.toNat + 4), latchRest := [], answer := s.live off.toNat }) ∧
    (off.toNat = TMK_SEC →
      Completes (.readLoHalf p off) s fun t =>
        (t.path p).latchTag = some TMK_SEC ∧ (t.path p).latchHi = s.live (TMK_SEC + 4) ∧
          (t.path p).latchRest = [s.live TMK_NS, s.live TMK_FRAC, 0] ∧ (t.path p).answer = s.live TMK_SEC) ∧
    (isHalf 2 off.toNat = true →
      Completes (.readHiHalf p off) s fun t =>
        ((s.path p).latchTag = some (off.toNat - 4) → (t.path p).answer = (s.path p).latchHi) ∧
          ((s.path p).latchTag ≠ some (off.toNat - 4) → ¬ (timePair (off.toNat - 4) ∧ off.toNat - 4 ≠ TMK_SEC) →
            (t.path p).answer = s.live off.toNat) ∧
          t = s.setPath p { s.path p with answer := (t.path p).answer })

/-- Writable 64-bit values of which both halves take every bit and whose writes have no condition of their own. -/
def Sys2Proof.openPairs : List Nat :=
  [TMK_SET_SEC, TMK_OFS, WKE_AUTH_ADDR, BLT_ADDR, BLT_LEN, BLT_SYS, BLT_LDCH_ADDR, FRD_CKPT_FRAME, ACQ_RD_PTR, ACQ_MB_SRC,
    ACQ_MB_DST, SEQ_BRK_FRAME]

/-- R18, R19. A _LO write is held and changes no register; the _HI write of the same value on the path commits both halves,
with the current low half when the path holds no write of that value; a write held for another value stays held. -/
def Obligations.SixtyFourBitWritesCommitTogether : Prop :=
  ∀ (s : State) (p : Path) (off : WinOff) (v : Word),
    (off.toNat ∈ openPairs → Reached s off.toNat →
      Completes (.writeLoHalf p off v) s fun t =>
        t = s.setPath p { s.path p with heldTag := some off.toNat, heldLo := v }) ∧
    (4 ≤ off.toNat → off.toNat - 4 ∈ openPairs → Reached s off.toNat →
      Completes (.writeHiHalf p off v) s fun t =>
        t.reg off.toNat = v ∧
          ((s.path p).heldTag = some (off.toNat - 4) →
            t.reg (off.toNat - 4) = (s.path p).heldLo ∧ (t.path p).heldTag = none) ∧
          ((s.path p).heldTag ≠ some (off.toNat - 4) →
            t.reg (off.toNat - 4) = s.reg (off.toNat - 4) ∧ t.paths = s.paths) ∧
          Frame [off.toNat, off.toNat - 4] s t)

/-- Registers of every block whose write has no rule beyond their access codes. -/
def Sys2Proof.plainRegs : List Nat :=
  [DEV_MODE, DEV_BIST_ARG 0, PWR_CFG, PWR_ERR, PWR_OFFACC, PWR_TMO, TMK_ERR, TMK_SET_NS, GBK_CFG, GBK_ERR, GBK_MB_ARG 0,
    OST_EVT_PEND 0, OST_ERR, WKE_STALL_MAX, BLT_SEL, BLT_LDCH_LEN, CFG_ARG 0, FAB_ERR, FAB_TBL_ADDR, MGE_RAP_CFG,
    MGE_IP, FRD_ERR, ACQ_TAP_ADDR, ACQ_ERR, SEQ_ERR, SEQ_CFG]

/-- R8, R9, R11. A 32-bit write of a register gives RW bits the value, clears W1C bits and sets W1S bits that are written 1,
and leaves the rest; a narrower write is dropped; an unassigned offset drops every write. -/
def Obligations.RegisterWritesFollowAccessCodes : Prop :=
  ∀ (s : State) (p : Path) (off : WinOff) (v : Word), Reached s off.toNat →
    (∀ d i, off.toNat ∈ plainRegs → regAt off.toNat = some (d, i) →
      Completes (.registerWrite p off 4 v) s fun t =>
        (∀ b, b < 32 → (t.reg off.toNat).getLsbD b =
          (if d.rw.testBit b then v.getLsbD b
          else if d.w1c.testBit b then (s.reg off.toNat).getLsbD b && !v.getLsbD b
          else if d.w1s.testBit b then (s.reg off.toNat).getLsbD b || v.getLsbD b
          else (s.reg off.toNat).getLsbD b)) ∧
          Frame [off.toNat] s t ∧ t.paths = s.paths) ∧
    (∀ size, size = 1 ∨ size = 2 → Completes (.registerWrite p off size v) s fun t => t = s) ∧
    (regAt off.toNat = none → Completes (.registerWrite p off 4 v) s fun t => t = s)

/-- R8, R11, R13. A read of a register with RC fields, of any size, clears all of those fields and nothing else: a 32-bit
read returns the word, a narrower one the addressed bytes of it. -/
def Sys2Proof.ReadsClearRcFields : Prop :=
  ∀ (s : State) (p : Path) (off : WinOff) (size : Nat) d i, sizeOk off.toNat size = true →
    Reached s (off.toNat - off.toNat % 4) → regAt (off.toNat - off.toNat % 4) = some (d, i) → d.rc ≠ 0 →
    Completes (.readClearField p off size) s fun t =>
      ((t.path p).answer).toNat =
          (s.live (off.toNat - off.toNat % 4)).toNat / 2 ^ (8 * (off.toNat % 4)) % 2 ^ (8 * size) ∧
        (∀ b, b < 32 → (t.reg (off.toNat - off.toNat % 4)).getLsbD b =
          ((s.reg (off.toNat - off.toNat % 4)).getLsbD b && !d.rc.testBit b)) ∧
        Frame [off.toNat - off.toNat % 4] s t

/-- R8, R9. A read at an unassigned offset reads zero; a narrow read of a register without RC fields returns the addressed
bytes of its word. -/
def Sys2Proof.ReadsOfOtherOffsets : Prop :=
  ∀ (s : State) (p : Path) (off : WinOff) (size : Nat), sizeOk off.toNat size = true →
    Reached s (off.toNat - off.toNat % 4) →
    (regAt (off.toNat - off.toNat % 4) = none →
      Completes (.readClearField p off size) s fun t => (t.path p).answer = 0 ∧ Frame [] s t) ∧
    (off.toNat - off.toNat % 4 ∈ plainRegs →
      Completes (.readClearField p off size) s fun t =>
        ((t.path p).answer).toNat =
            (s.live (off.toNat - off.toNat % 4)).toNat / 2 ^ (8 * (off.toNat % 4)) % 2 ^ (8 * size) ∧ Frame [] s t)

/-- R26, R27. A read of a RESULT register returns it while DONE is 1, and changes nothing; while DONE is 0 it returns zero
and sets READ_EARLY of its unit. -/
def Sys2Proof.ResultReadsBeforeDone : Prop :=
  ∀ (s : State) (p : Path) (off : WinOff) (u : Fin 42), Reached s off.toNat → off.toNat ∈ mbResults u →
    (s.f (mbDone u) = 1 → Completes (.resultRead p off) s fun t => t = s.answer p (s.reg off.toNat)) ∧
    (s.f (mbDone u) = 0 →
      Completes (.resultRead p off) s fun t =>
        (t.path p).answer = 0 ∧ t.f (mbReadEarly u) = 1 ∧ t.f (mbDone u) = 0 ∧ t.f (mbBusy u) = s.f (mbBusy u) ∧
          t.f (mbErr u) = s.f (mbErr u) ∧ t.f (mbTicket u) = s.f (mbTicket u) ∧
          t.f (mbCmdReject u) = s.f (mbCmdReject u) ∧ Frame [mbStatus u] s t)

/-- The rules of ReadsClearRcFields, the rules of ReadsOfOtherOffsets and the rules of ResultReadsBeforeDone. -/
def Obligations.ReadsClearFieldsAndWaitForResults : Prop :=
  ReadsClearRcFields ∧ ReadsOfOtherOffsets ∧ ResultReadsBeforeDone

/-- R15, R33, R34, R35, R55, R820. An access to a block that is off reads 0xDEAD_0FF0 or is dropped, and PWR_OFFACC takes it
when it is the first; a read of a _LO half latches there too; outside every block it reads zero or is dropped and nothing is recorded; in RESET nothing answers. -/
def Obligations.AccessesThatReachNoRegister : Prop :=
  ∀ (s : State) (p : Path) (off : WinOff) (wr : Option Word),
    (s.access off.toNat = .off →
      Completes (.offBlockAccess p off wr) s fun t =>
        (wr = none → (t.path p).answer = 0xDEAD0FF0) ∧
          (wr = none → isHalf 1 off.toNat = true → ¬ timePair off.toNat →
            (t.path p).latchTag = some off.toNat ∧ (t.path p).latchHi = 0xDEAD0FF0) ∧
          t.f PWR_OFFACC_CNT_COUNT = min (s.f PWR_OFFACC_CNT_COUNT + 1) 65535 ∧
          (s.f PWR_OFFACC_VALID = 0 →
            t.f PWR_OFFACC_VALID = 1 ∧ t.f PWR_OFFACC_OFFSET = off.toNat / 4 ∧ t.f PWR_OFFACC_PATH = p.val ∧
              t.f PWR_OFFACC_CNT_WRITE = ofBool wr.isSome) ∧
          (s.f PWR_OFFACC_VALID = 1 → t.reg PWR_OFFACC = s.reg PWR_OFFACC) ∧
          Frame ([PWR_OFFACC, PWR_OFFACC_CNT] ++ noticeRegs) s t) ∧
    (blockDomain off.toNat = none → s.mode ≠ Mode.reset → s.rst.stage ≠ 1 →
      Completes (.unmappedWindowAccess p off wr) s fun t =>
        (wr = none → t = s.answer p 0) ∧ (wr.isSome = true → t = s)) ∧
    (s.mode = Mode.reset →
      Completes (.offBlockAccess p off wr) s (fun t => t = s) ∧ Completes (.unmappedWindowAccess p off wr) s fun t => t = s)

/-! ### The mailbox convention, timed-out accesses, and the ports that reach the window from outside -/

/-- The commands that are a CMD write of a mailbox unit: the unit, and the offset of its CMD register. -/
def Sys2Proof.mailboxRow (c : Instr) : Option (Nat × Nat) :=
  match c with
  | .load _ _ | .billetCheck _ _ | .unload _ | .reload _ _ | .replace _ _ | .clreset _ => some (0, BLT_CMD)
  | .copyOut _ d _ | .fill _ ⟨d, _, _⟩ | .copyIn _ ⟨d, _, _⟩ => some (1 + d.val, HBC_MB_CMD d)
  | .copy _ => some (5, ACQ_MB_CMD)
  | .eyePoint _ q _ | .eyeWidth _ q _ _ | .loadSend _ q => some (6 + q.val, SHR_MB_CMD q)
  | .snap _ => some (38, FAB_MB_CMD)
  | .exportLog _ | .gbkErase _ | .flush _ => some (39, GBK_MB_CMD)
  | .loadSlot _ | .loadMem _ | .verify _ | .cfgClear _ | .fuseProg _ => some (40, CFG_CMD)
  | .mbist _ _ _ | .lbist _ _ | .hbmBist _ _ => some (41, DEV_BIST_CMD)
  | _ => none

/-- The offset of the CMD register of a unit. -/
def Sys2Proof.mbCmd (u : Nat) : Nat :=
  if u = 0 then BLT_CMD
  else if u ≤ 4 then HBC_MB_CMD (u - 1)
  else if u = 5 then ACQ_MB_CMD
  else if u ≤ 37 then SHR_MB_CMD (u - 6)
  else if u = 38 then FAB_MB_CMD
  else if u = 39 then GBK_MB_CMD
  else if u = 40 then CFG_CMD
  else DEV_BIST_CMD

/-- R22, R23. A CMD write while BUSY is 0 is accepted: BUSY is set, DONE and ERR are cleared, TICKET counts it and every
RESULT reads zero. While BUSY is 1 it is dropped, and sets CMD_REJECT alone. -/
def Obligations.MailboxCommandsAreAcceptedOrRejected : Prop :=
  (∀ (s : State) (c : Instr) (u off : Nat), mailboxRow c = some (u, off) → Reached s off →
    (s.f (mbBusy u) = 0 →
      Completes c s fun t =>
        t.f (mbBusy u) = 1 ∧ t.f (mbDone u) = 0 ∧ t.f (mbErr u) = 0 ∧ t.f (mbTicket u) = (s.f (mbTicket u) + 1) % 16 ∧
          ∀ o ∈ mbResults u, t.reg o = 0) ∧
    (s.f (mbBusy u) = 1 → Completes c s fun t => t = s.setF (mbCmdReject u) 1)) ∧
  (∀ (s : State) (p : Path) (off : WinOff) (v : Word) (u : Fin 42), off.toNat = mbCmd u → Reached s off.toNat →
    (s.f (mbBusy u) = 0 →
      Completes (.registerWrite p off 4 v) s fun t =>
        t.f (mbBusy u) = 1 ∧ t.f (mbDone u) = 0 ∧ t.f (mbErr u) = 0 ∧ t.f (mbTicket u) = (s.f (mbTicket u) + 1) % 16 ∧
          ∀ o ∈ mbResults u, t.reg o = 0) ∧
    (s.f (mbBusy u) = 1 →
      Completes (.registerWrite p off 4 v) s fun t =>
        t.regs = (s.setF (mbCmdReject u) 1).regs ∧ t.mbs = s.mbs ∧ SameMemory s t))

/-- R24. A unit ends its command: RESULT and ERR take their values while BUSY is still 1, and a later completion command sets
DONE and clears BUSY, TICKET stays, and the completion event is pending when Ostler runs. -/
def Obligations.MailboxCompletionWritesItsOutcome : Prop :=
  ∀ (s : State) (u : Fin 42), s.f (mbBusy u) = 1 →
    (u ∉ [0, 5, 40, 41] → (Sparse.get Mailbox.reset s.mbs u).ended = false →
      Completes (.mailboxCompletion u) s fun t =>
        t.f (mbBusy u) = 1 ∧ t.f (mbDone u) = s.f (mbDone u) ∧ t.f (mbTicket u) = s.f (mbTicket u) ∧
          t.f (mbErr u) = (Sparse.get Mailbox.reset s.mbs u).err % 16 ∧
          (∀ o, (mbResults u)[0]? = some o → t.reg o = (Sparse.get Mailbox.reset s.mbs u).res0) ∧
          (∀ o, (mbResults u)[1]? = some o → t.reg o = (Sparse.get Mailbox.reset s.mbs u).res1) ∧
          (Sparse.get Mailbox.reset t.mbs u).ended = true ∧ Frame (mbStatus u :: mbResults u) s t) ∧
    ((Sparse.get Mailbox.reset s.mbs u).ended = true →
      Completes (.mailboxCompletion u) s fun t =>
        t.f (mbBusy u) = 0 ∧ t.f (mbDone u) = 1 ∧ t.f (mbErr u) = s.f (mbErr u) ∧ t.f (mbTicket u) = s.f (mbTicket u) ∧
          (∀ e, mbEvent u = some e → s.domainOn 90 = true → (t.reg (OST_EVT_PEND 0)).getLsbD e = true) ∧
          Frame [mbStatus u, OST_EVT_PEND 0] s t)

/-- R755, R756, R757. A timed-out access is counted, the first is recorded, and a read returns 0xDEAD_0A70; its target may
perform it once later with its full effect, and the path discards the late answer. -/
def Obligations.TimedOutAccesses : Prop :=
  (∀ (s : State) (p : Path) (off : WinOff) (wr : Option Word), Reached s off.toNat →
    (off.toNat ≠ OST_CMD + 4 ∨ wr = none ∨ Sparse.get none s.ost.waiting p = none) →
      Completes (.registerAccessTimeout p off wr) s fun t =>
        t.f DEV_RAT_CNT_COUNT = min (s.f DEV_RAT_CNT_COUNT + 1) 65535 ∧
          (s.f DEV_RAT_INFO_VALID = 0 →
            t.f DEV_RAT_INFO_VALID = 1 ∧ t.f DEV_RAT_INFO_OFFSET = off.toNat / 4 ∧ t.f DEV_RAT_INFO_PATH = p.val ∧
              t.f DEV_RAT_CNT_WRITE = ofBool wr.isSome) ∧
          (s.f DEV_RAT_INFO_VALID = 1 → t.reg DEV_RAT_INFO = s.reg DEV_RAT_INFO) ∧
          (wr = none → (t.path p).answer = 0xDEAD0A70) ∧ t.rst.late = s.rst.late ++ [⟨p, off, wr⟩] ∧
          Frame [DEV_RAT_INFO, DEV_RAT_CNT] s t) ∧
  (∀ (s : State) (i : Nat) (x : LateAccess), s.rst.late[i]? = some x →
    (s.access x.off.toNat ≠ .reached →
      Completes (.lateAccessPerform i) s fun t => t = s.setRst { s.rst with late := s.rst.late.eraseIdx i }) ∧
    (∀ v, x.wr = some v → Reached s x.off.toNat →
      Completes (.lateAccessPerform i) s fun t =>
        ∃ u, exec (.registerWrite x.path x.off 4 v) (s.setRst { s.rst with late := s.rst.late.eraseIdx i }) = .next u ∧
          t.regs = u.regs ∧ t.rst = u.rst ∧ (t.path x.path).answer = (s.path x.path).answer) ∧
    (x.wr = none → Reached s x.off.toNat →
      Completes (.lateAccessPerform i) s fun t =>
        t.rst.late = s.rst.late.eraseIdx i ∧ (t.path x.path).answer = (s.path x.path).answer ∧
          (t.path x.path).latchTag = (s.path x.path).latchTag ∧ (t.path x.path).latchHi = (s.path x.path).latchHi))

/-- R700, R701, R703, R704. The oldest waiting request: one of bad form is answered FORMAT and acts on nothing; one that
repeats the last executed request is answered with the stored response and acts on nothing; an item writes only under
WR_EN, and a read item returns what the management path reads. -/
def Sys2Proof.RegisterAccessProtocol : Prop :=
  ∀ (s : State) (r : RapRequest) (rest : List RapRequest), s.mge.waiting = r :: rest →
    (rapItems r.payload = none →
      Completes .rapRequest s fun t =>
        t = s.setMge { s.mge with waiting := rest, sent := rapHeader r.payload 0 1 }) ∧
    (∀ items l, rapItems r.payload = some items → s.mge.last = some l → sameRap l r = true →
      Completes .rapRequest s fun t => t = s.setMge { s.mge with waiting := rest, sent := s.mge.response }) ∧
    (∀ (off : WinOff) (v : Word) ctl, rapItems r.payload = some [(ctl, v.toNat)] → s.mge.last = none →
      slice ctl 2 26 * 4 = off.toNat → Reached s off.toNat →
      (bitOf ctl 28 = true → s.f MGE_RAP_CFG_WR_EN = 0 →
        Completes .rapRequest s fun t =>
          t.mge.sent = rapHeader r.payload 1 0 ++ bytesLE 4 (off.toNat + 0x50000000) ++ bytesLE 4 v.toNat ∧
            Frame [MGE_RAP_CNT] s t ∧ t.mge.last = some r) ∧
      (bitOf ctl 28 = true → s.f MGE_RAP_CFG_WR_EN = 1 → off.toNat ∈ plainRegs →
        Completes .rapRequest s fun t =>
          t.mge.sent = rapHeader r.payload 1 0 ++ bytesLE 4 (off.toNat + 0x10000000) ++ bytesLE 4 v.toNat ∧
            t.reg off.toNat = (s.writeBits off.toNat v).reg off.toNat ∧ Frame [MGE_RAP_CNT, off.toNat] s t) ∧
      (bitOf ctl 28 = false → off.toNat ∈ plainRegs →
        Completes .rapRequest s fun t =>
          t.mge.sent = rapHeader r.payload 1 0 ++ bytesLE 4 off.toNat ++ bytesLE 4 (s.live off.toNat).toNat ∧
            Frame [MGE_RAP_CNT] s t))

/-- R706, R707. An I²C write of four bytes sets the pointer; eight bytes also write the register there as path 17; nine are
checked by their PEC; any other length, or a wrong PEC, changes nothing. A read returns the register's four bytes, with a
PEC when one is asked for. SCL held low ends the transaction. -/
def Sys2Proof.I2cPortAccesses : Prop :=
  ∀ (s : State), s.mode ≠ Mode.reset →
    (∀ off : WinOff, Completes (.i2cWrite (bytesLE 4 off.toNat)) s fun t =>
      t = s.setMge { s.mge with i2cPtr := off.toNat }) ∧
    (∀ (off : WinOff) (v : Word) (pec : List Byte),
      (pec = [] ∨ pec = [s.pec false (bytesLE 4 off.toNat ++ bytesLE 4 v.toNat)]) → off.toNat ∈ plainRegs →
      Reached s off.toNat →
      Completes (.i2cWrite (bytesLE 4 off.toNat ++ bytesLE 4 v.toNat ++ pec)) s fun t =>
        t.mge.i2cPtr = off.toNat ∧ t.reg off.toNat = (s.writeBits off.toNat v).reg off.toNat ∧ Frame [off.toNat] s t) ∧
    (∀ bytes : List Byte, bytes.length ≠ 4 → bytes.length ≠ 8 →
      (bytes.length = 9 → bytes.getD 8 0 ≠ s.pec false (bytes.take 8)) →
      Completes (.i2cWrite bytes) s fun t => t = s) ∧
    (∀ pec : Bool, s.mge.i2cPtr ∈ plainRegs → Reached s s.mge.i2cPtr →
      Completes (.i2cRead pec) s fun t =>
        t.mge.i2cOut.take 4 = bytesLE 4 (s.live s.mge.i2cPtr).toNat ∧
          t.mge.i2cOut.length = (if pec then 5 else 4) ∧ Frame [] s t) ∧
    Completes .i2cSclTimeout s fun t => t = s.setMge { s.mge with i2cOut := [] }

/-- The rules of RegisterAccessProtocol and the rules of I2cPortAccesses. -/
def Obligations.RemoteRegisterAccess : Prop := RegisterAccessProtocol ∧ I2cPortAccesses

/-! ### Mode requests, resets and the hub watchdog (01_architecture, 18_faults_recovery, 22_package_electrical) -/

/-- A write of DEV_CTRL that requests a mode: MODE_GO, and no warm reset. -/
def Sys2Proof.requestsMode (v : Word) (m : Nat) : Prop :=
  bitOf v.toNat 3 = true ∧ slice v.toNat 0 3 = m ∧ ¬ (bitOf v.toNat 8 = true ∧ slice v.toNat 24 8 = 0xA5)

/-- A mode request is refused with a code: MODE_REJ is set, MODE_ERR holds the code, and the mode does not change (R61). -/
def Sys2Proof.RefusedWith (code : Nat) (p : Path) (v : Word) (s : State) : Prop :=
  Completes (.modeRequest p v) s fun t =>
    t.f DEV_MODE_MODE_REJ = 1 ∧ t.f DEV_MODE_MODE_ERR = code ∧ t.mode = s.mode ∧
      t.f DEV_MODE_PENDING = s.f DEV_MODE_PENDING ∧ Frame ([DEV_CTRL, DEV_MODE] ++ noticeRegs) s t

/-- The conditions of IDLE to RUN, TIMED or STEP: a program is placed, no Billet or configuration command is BUSY, and every
lane the program uses is UP. -/
def Sys2Proof.FramesReady (s : State) : Prop :=
  s.f DEV_MODE_PROG_VALID = 1 ∧ s.f (mbBusy 0) = 0 ∧ s.f (mbBusy 40) = 0 ∧
    (List.range 128).all (fun l => !bitOf s.blt.lanes l || s.laneUp l) = true

/-- The servo is locked and a start instant and a period are set (R219). -/
def Sys2Proof.TimeReady (s : State) : Prop := s.f TMK_SRV_STAT_LOCKED = 1 ∧ s.schedSet = true

/-- The pairs of modes between which a request finds no row in the transition table (R67, R68). -/
def Sys2Proof.NoTransition (a m : Nat) : Prop :=
  (a = Mode.boot ∧ m ≠ Mode.idle) ∨ (a = Mode.standby ∧ m ≠ Mode.standby ∧ m ≠ Mode.idle) ∨
    (a = Mode.diagnose ∧ m ≠ Mode.diagnose ∧ m ≠ Mode.idle) ∨ (a = Mode.step ∧ m = Mode.timed) ∨
    ((a = Mode.run ∨ a = Mode.timed ∨ a = Mode.step) ∧ (m = Mode.standby ∨ m = Mode.diagnose))

/-- R60, R61, R856. The checks of a mode request in their order: ROLE (8), ILLEGAL (1) for RESET and BOOT and for anything
but IDLE under HOLD, PENDING (2), then the conditions of the transition table: NOPROG (3), BUSY (4), LINK (5), NOTIME (6),
CHECK (7), ROLE (8) and CONFIG (9). -/
def Sys2Proof.ModeRequestsRefusedInOrder : Prop :=
  ∀ (s : State) (p : Path) (v : Word) (m : Nat), Reached s DEV_CTRL → requestsMode v m →
    (s.f DEV_MODE_ROLE = 2 → RefusedWith 8 p v s) ∧
    (s.f DEV_MODE_ROLE ≠ 2 →
      (m ≤ 1 → RefusedWith 1 p v s) ∧
      (2 ≤ m → m ≠ Mode.idle → s.f DEV_MODE_HOLD = 1 → RefusedWith 1 p v s) ∧
      (2 ≤ m → m ≠ Mode.idle → s.f DEV_MODE_HOLD = 0 → s.f DEV_MODE_PENDING = 1 → RefusedWith 2 p v s) ∧
      (s.f DEV_MODE_HOLD = 0 → s.f DEV_MODE_PENDING = 0 →
        (2 ≤ m → NoTransition s.mode m → RefusedWith 1 p v s) ∧
        (s.mode = Mode.boot → m = Mode.idle →
          (s.f CFG_STATE_CONFIGURED = 0 ∨ s.f (mbBusy 40) = 1 ∨ s.f (mbErr 40) ≠ 0) → RefusedWith 9 p v s) ∧
        (s.mode = Mode.diagnose → m = Mode.idle → s.f (mbBusy 41) = 1 → RefusedWith 4 p v s) ∧
        (s.mode = Mode.idle → (m = Mode.diagnose ∨ m = Mode.standby) → s.f DEV_MODE_ROLE ≠ 0 → RefusedWith 8 p v s) ∧
        (s.mode = Mode.idle → (m = Mode.diagnose ∨ m = Mode.standby) → s.f DEV_MODE_ROLE = 0 →
          (s.f (mbBusy 0) = 1 ∨ s.f (mbBusy 40) = 1) → RefusedWith 4 p v s) ∧
        (s.mode = Mode.idle → (m = Mode.run ∨ m = Mode.timed ∨ m = Mode.step) →
          (s.f DEV_MODE_PROG_VALID = 0 → RefusedWith 3 p v s) ∧
          (s.f DEV_MODE_PROG_VALID = 1 → (s.f (mbBusy 0) = 1 ∨ s.f (mbBusy 40) = 1) → RefusedWith 4 p v s) ∧
          (s.f DEV_MODE_PROG_VALID = 1 → s.f (mbBusy 0) = 0 → s.f (mbBusy 40) = 0 → ¬ FramesReady s → RefusedWith 5 p v s)) ∧
        (s.mode = Mode.idle → m = Mode.timed → FramesReady s →
          (¬ TimeReady s → RefusedWith 6 p v s) ∧
          (TimeReady s → slice v.toNat 4 1 = 1 → RefusedWith 7 p v s)) ∧
        (s.mode = Mode.run → m = Mode.timed →
          (¬ TimeReady s → RefusedWith 6 p v s) ∧
          (TimeReady s → s.f DEV_MODE_CHECK_ACT = 1 → RefusedWith 7 p v s))))

/-- The rows of the transition table that a request makes at once, with their conditions. -/
def Sys2Proof.AppliesAtOnce (s : State) (v : Word) (m : Nat) : Prop :=
  (s.mode = Mode.boot ∧ m = Mode.idle ∧ s.f CFG_STATE_CONFIGURED = 1 ∧ s.f (mbBusy 40) = 0 ∧ s.f (mbErr 40) = 0) ∨
    (s.mode = Mode.idle ∧ FramesReady s ∧
      (m = Mode.run ∨ m = Mode.step ∨ (m = Mode.timed ∧ TimeReady s ∧ slice v.toNat 4 1 = 0))) ∨
    (s.mode = Mode.step ∧ (m = Mode.run ∨ m = Mode.idle)) ∨
    (s.mode = Mode.idle ∧ m = Mode.diagnose ∧ s.f DEV_MODE_ROLE = 0 ∧ s.f (mbBusy 0) = 0 ∧ s.f (mbBusy 40) = 0) ∨
    (s.mode = Mode.diagnose ∧ m = Mode.idle ∧ s.f (mbBusy 41) = 0)

/-- The rows of the transition table that wait for the next frame barrier, with their conditions. -/
def Sys2Proof.AppliesAtBarrier (s : State) (m : Nat) : Prop :=
  (s.mode = Mode.run ∧
    (m = Mode.step ∨ m = Mode.idle ∨ (m = Mode.timed ∧ TimeReady s ∧ s.f DEV_MODE_CHECK_ACT = 0))) ∨
    (s.mode = Mode.timed ∧ (m = Mode.run ∨ m = Mode.step ∨ m = Mode.idle))

/-- R58, R60, R62, R63, R67, R75. An accepted request of a device that is SOLO or PRIMARY clears MODE_ERR: the current mode
is accepted without effect; a row of the table that applies at once changes MODE, raises MODE_CHANGE and sets CHECK_ACT; one
that the table ties to a barrier waits with PENDING and TARGET; STANDBY is entered and left through its sequence. -/
def Sys2Proof.AcceptedModeRequestsApply : Prop :=
  ∀ (s : State) (p : Path) (v : Word) (m : Nat), Reached s DEV_CTRL → requestsMode v m → s.f DEV_MODE_ROLE ≤ 1 →
    s.f DEV_MODE_HOLD = 0 → s.f DEV_MODE_PENDING = 0 →
    (m = s.mode → 2 ≤ m →
      Completes (.modeRequest p v) s fun t =>
        t.f DEV_MODE_MODE_ERR = 0 ∧ t.mode = s.mode ∧ t.f DEV_MODE_PENDING = 0 ∧ Frame [DEV_CTRL, DEV_MODE] s t) ∧
    (AppliesAtOnce s v m →
      Completes (.modeRequest p v) s fun t =>
        t.f DEV_MODE_MODE_ERR = 0 ∧ t.mode = m ∧ t.f DEV_MODE_PENDING = 0 ∧
          t.f DEV_MODE_CHECK_ACT = (if m = Mode.run ∨ m = Mode.step then slice v.toNat 4 1 else 0) ∧
          (s.domainOn 90 = true → (t.reg (OST_EVT_PEND 0)).getLsbD 0 = true)) ∧
    (AppliesAtBarrier s m →
      Completes (.modeRequest p v) s fun t =>
        t.f DEV_MODE_MODE_ERR = 0 ∧ t.mode = s.mode ∧ t.f DEV_MODE_PENDING = 1 ∧ t.f DEV_MODE_TARGET = m ∧
          t.seq.inFrame = s.seq.inFrame ∧ t.frameNo = s.frameNo ∧ SameMemory s t ∧
          (m = Mode.idle → Frame [DEV_CTRL, DEV_MODE] s t)) ∧
    (s.mode = Mode.idle → m = Mode.standby → s.f DEV_MODE_ROLE = 0 → s.f (mbBusy 0) = 0 → s.f (mbBusy 40) = 0 →
      Completes (.modeRequest p v) s fun t =>
        t.f DEV_MODE_MODE_ERR = 0 ∧ t.mode = Mode.idle ∧ t.f DEV_MODE_PENDING = 1 ∧ t.f DEV_MODE_TARGET = Mode.standby ∧
          t.f DEV_MODE_PROG_VALID = 0) ∧
    (s.mode = Mode.standby → m = Mode.idle → s.pwr.exit = 0 →
      Completes (.modeRequest p v) s fun t =>
        t.f DEV_MODE_MODE_ERR = 0 ∧ t.mode = Mode.standby ∧ t.f DEV_MODE_PENDING = 1 ∧ t.f DEV_MODE_TARGET = Mode.idle)

/-- R64, R72. A request to IDLE replaces one that is pending, and in RUN or TIMED applies at once while HOLD is 1. -/
def Sys2Proof.IdleIsAlwaysHeard : Prop :=
  ∀ (s : State) (p : Path) (v : Word), Reached s DEV_CTRL → requestsMode v Mode.idle → s.f DEV_MODE_ROLE ≤ 1 →
    (s.mode = Mode.run ∨ s.mode = Mode.timed) → s.pwr.entry = 0 →
    (s.f DEV_MODE_HOLD = 1 →
      Completes (.modeRequest p v) s fun t =>
        t.f DEV_MODE_MODE_ERR = 0 ∧ t.mode = Mode.idle ∧ t.f DEV_MODE_HOLD = 0 ∧ t.f DEV_MODE_PENDING = 0 ∧
          t.seq.inFrame = false) ∧
    (s.f DEV_MODE_HOLD = 0 → s.f DEV_MODE_PENDING = 1 →
      Completes (.modeRequest p v) s fun t =>
        t.f DEV_MODE_MODE_ERR = 0 ∧ t.mode = s.mode ∧ t.f DEV_MODE_PENDING = 1 ∧ t.f DEV_MODE_TARGET = Mode.idle ∧
          Frame [DEV_CTRL, DEV_MODE] s t)

/-- The rules of ModeRequestsRefusedInOrder, the rules of AcceptedModeRequestsApply and the rules of IdleIsAlwaysHeard. -/
def Obligations.ModeRequestsAreRefusedOrApply : Prop :=
  ModeRequestsRefusedInOrder ∧ AcceptedModeRequestsApply ∧ IdleIsAlwaysHeard

/-- R59, R765. A warm reset needs KEY = 0xA5: it is recorded with its path, ends the frame in progress and every open
aggregator, and starts the drain. With another KEY the write sets CHECK at most. -/
def Sys2Proof.WarmResetNeedsItsKey : Prop :=
  ∀ (s : State) (p : Path) (v : Word), Reached s DEV_CTRL → bitOf v.toNat 8 = true →
    (slice v.toNat 24 8 = 0xA5 →
      Completes (.warmReset p v) s fun t =>
        t.rst.stage = 1 ∧ t.rst.since = s.tmk.steered ∧ t.f DEV_RST_CAUSE_CAUSE = 2 ∧ t.f DEV_RST_CAUSE_PATH = p.val ∧
          t.seq.inFrame = false ∧ t.gbk.open_ = [] ∧ t.f DEV_MODE_PENDING = 0 ∧ SameMemory s t) ∧
    (slice v.toNat 24 8 ≠ 0xA5 → bitOf v.toNat 3 = false →
      Completes (.warmReset p v) s fun t => t = s.setF DEV_CTRL_CHECK (slice v.toNat 4 1))

/-- Registers whose value a reset other than a power-on reset leaves alone (R768), or that RESET itself sets. -/
def Sys2Proof.resetExceptions : List Nat :=
  [DEV_RST_CAUSE, TMK_ADJ, MGE_MAC, MGE_MAC + 4, MGE_IP, MGE_RAP_CFG, MGE_RAP_ACL, DEV_MODE, PWR_DOM 90, CFG_STATUS]

/-- The state of RESET (R55, R768): MODE is RESET, every register but the exceptions is at its reset value, the commands
that wait are kept, and the MRAM, the fuses and the battery-backed key are untouched. -/
def Sys2Proof.HeldInReset (s t : State) : Prop :=
  t.mode = Mode.reset ∧ (∀ off, off ∉ resetExceptions → t.reg off = resetOf off) ∧ t.pending = s.pending ∧
    t.seq = Sequencer.reset ∧ t.clusters = [] ∧ (∀ a, t.mramByte a = s.mramByte a) ∧ t.cfg.fuses = s.cfg.fuses ∧
    t.cfg.key = s.cfg.key

/-- R764, R765, R767, R768, R833. RESET is entered by a recognised low RESET_N, a supply below its trip level, and the end
of a warm reset's drain; a shorter pulse is ignored; the cause is recorded, and time survives all but a power-on reset. -/
def Sys2Proof.ResetsEnterReset : Prop :=
  ∀ (s : State),
    (∀ ns, 1000 ≤ ns → s.rst.por = false →
      Completes (.resetNAssert ns) s fun t =>
        HeldInReset s t ∧ t.rst.resetN = true ∧ t.f DEV_RST_CAUSE_CAUSE = 1 ∧ t.reg TMK_ADJ = s.reg TMK_ADJ ∧
          t.tmk.time = s.tmk.time) ∧
    (∀ ns, ns < 100 → Completes (.resetNAssert ns) s fun t => t = s) ∧
    (∀ ns, 1000 ≤ ns →
      Completes (.powerOnReset ns) s fun t =>
        HeldInReset s t ∧ t.rst.por = true ∧ t.f DEV_RST_CAUSE_CAUSE = 0 ∧ t.f DEV_RST_CAUSE_HWDT_CNT = 0 ∧
          t.reg TMK_ADJ = resetOf TMK_ADJ ∧ t.tmk.time = 0 ∧ t.tst.tap = TapUnit.reset) ∧
    (∀ ns, ns < 200 → Completes (.powerOnReset ns) s fun t => t = s) ∧
    (s.rst.stage = 1 → s.elapsedSteered s.rst.since 201000 = true →
      Completes .warmResetAssert s fun t =>
        HeldInReset s t ∧ t.rst.stage = 2 ∧ t.reg DEV_RST_CAUSE = s.reg DEV_RST_CAUSE ∧ t.reg TMK_ADJ = s.reg TMK_ADJ ∧
          t.tmk.time = s.tmk.time)

/-- The state in which BOOT begins (R660, R765, R822): the straps are sampled and the power-up load has been accepted. -/
def Sys2Proof.BeginsBoot (pull i2c : BitVec 2) (s t : State) : Prop :=
  t.mode = Mode.boot ∧ t.f DEV_STRAP_PULL = pull.toNat ∧ t.f DEV_STRAP_I2C_A = i2c.toNat ∧ t.f (mbBusy 40) = 1 ∧
    t.f (mbTicket 40) = 1 ∧ t.cfg.job = 1 ∧ t.rst = ResetUnit.reset ∧ t.reg DEV_RST_CAUSE = s.reg DEV_RST_CAUSE ∧
    ∀ a, t.mramByte a = s.mramByte a

/-- R764, R765, R833, R834. RESET ends in BOOT only when neither RESET_N nor power-on reset still holds the device. -/
def Sys2Proof.ResetsReleaseIntoBoot : Prop :=
  ∀ (s : State) (pull i2c : BitVec 2),
    (s.rst.resetN = true → s.rst.por = false → Completes (.resetNRelease pull i2c) s (BeginsBoot pull i2c s)) ∧
    (s.rst.resetN = true → s.rst.por = true →
      Completes (.resetNRelease pull i2c) s fun t => t = s.setRst { s.rst with resetN := false }) ∧
    (s.rst.por = true → s.rst.resetN = false → Completes (.porRelease pull i2c) s (BeginsBoot pull i2c s)) ∧
    (s.rst.por = true → s.rst.resetN = true →
      Completes (.porRelease pull i2c) s fun t => t = s.setRst { s.rst with por := false }) ∧
    (s.rst.stage = 2 → s.elapsedSteered s.rst.since 10000 = true → s.rst.por = false → s.rst.resetN = false →
      Completes (.warmResetRelease pull i2c) s (BeginsBoot pull i2c s))

/-- The rules of ResetsEnterReset and the rules of ResetsReleaseIntoBoot. -/
def Obligations.ResetsEnterAndLeaveReset : Prop := ResetsEnterReset ∧ ResetsReleaseIntoBoot

/-- R758, R759, R760, R761. A kick of 0x5A restarts the hub watchdog's count and any other value does nothing; at its limit
the watchdog resets the device, through the drain when the hub clock runs and at once when it does not. -/
def Sys2Proof.HubWatchdog : Prop :=
  ∀ (s : State),
    (∀ (p : Path) (v : Word), Reached s DEV_HWDT_KICK →
      (slice v.toNat 0 8 = 0x5A →
        Completes (.hwdtKick p v) s fun t => t = s.setRst { s.rst with hwdt := 0, phase := 0 }) ∧
      (slice v.toNat 0 8 ≠ 0x5A → Completes (.hwdtKick p v) s fun t => t = s)) ∧
    (s.hwdtCounts = true → s.f DEV_HWDT_EN = 1 → 25000 * max 1 (s.f DEV_HWDT_TIMEOUT_MS) ≤ s.rst.hwdt →
      Completes (.hubWatchdogExpiry true) s (fun t =>
        t.rst.stage = 1 ∧ t.f DEV_RST_CAUSE_CAUSE = 3 ∧
          t.f DEV_RST_CAUSE_HWDT_CNT = min (s.f DEV_RST_CAUSE_HWDT_CNT + 1) 255 ∧ t.seq.inFrame = false) ∧
      Completes (.hubWatchdogExpiry false) s fun t =>
        HeldInReset s t ∧ t.rst.stage = 2 ∧ t.f DEV_RST_CAUSE_CAUSE = 3) ∧
    (s.rst.hwdt < 25000 * max 1 (s.f DEV_HWDT_TIMEOUT_MS) → ∀ b, Completes (.hubWatchdogExpiry b) s fun t => t = s)

/-- The rules of WarmResetNeedsItsKey and of HubWatchdog. -/
def Obligations.WarmResetAndHubWatchdog : Prop := WarmResetNeedsItsKey ∧ HubWatchdog

/-! ### The Casornol instructions (03_casornol_isa) -/

/-- Processor k of cluster c may issue x, and nothing stands in the way: the cluster issues and the processor has not yet
issued in this step, the arrivals of the step have been taken, and every operand reads a word that has arrived, lies inside
its word and passes its check. -/
def Sys2Proof.IssuesCleanly (s : State) (c k : Nat) (x : Casornol) : Prop :=
  s.canIssue c = true ∧ bitOf (s.cl c).issued k = false ∧ s.f (CLU_STATUS_STEP c) < (s.cl c).dueTo ∧
    ∀ r ∈ (s.issue c k x).reads, (s.cl c).owes r.2 = false ∧ (s.cl c).badRead r.2 = none ∧ (s.cl c).fixRead r.2 = none ∧
      outside r.1 r.2 = false

/-- The issue leaves these results for the end of the step, and changes no store, no register outside a list and no byte of
memory (R112). -/
def Sys2Proof.Leaves (c k : Nat) (ws : List Write) (regs : List Nat) (s t : State) : Prop :=
  (t.cl c).fresh = (s.cl c).fresh ++ ws ∧ bitOf (t.cl c).issued k = true ∧ (t.cl c).net = (s.cl c).net ∧
    (t.cl c).rows = (s.cl c).rows ∧ (t.cl c).sel = (s.cl c).sel ∧ (t.cl c).marks = (s.cl c).marks ∧
    (t.cl c).tx = (s.cl c).tx ∧ (t.cl c).rxb = (s.cl c).rxb ∧ (t.cl c).sram = (s.cl c).sram ∧ (t.cl c).wb = (s.cl c).wb ∧
    (t.cl c).rwin = (s.cl c).rwin ∧ (t.cl c).lwin = (s.cl c).lwin ∧ (∀ d, d ≠ c → t.cl d = s.cl d) ∧ Frame regs s t

/-- What an operand field of processor k of cluster c names (R88, R145). -/
def Sys2Proof.operand (s : State) (c k : Nat) (op : BitVec 14) : ReadRef := refOf (Sparse.get 0 (s.cl c).rwin k) op.toNat

/-- The index that four two-state operands spell: A is bit 0 and D bit 3 (R118). -/
def Sys2Proof.index2 (s : State) (c k : Nat) (a b cc d : BitVec 14) : Nat :=
  (s.cl c).read2 (operand s c k a) + 2 * (s.cl c).read2 (operand s c k b) + 4 * (s.cl c).read2 (operand s c k cc) +
    8 * (s.cl c).read2 (operand s c k d)

/-- An index agrees with every operand that reads 0 or 1 (R119, R164). -/
def Sys2Proof.agreesWith (s : State) (c k : Nat) (a b cc d : BitVec 14) (n : Nat) : Prop :=
  ∀ j op, [a, b, cc, d][j]? = some op → (s.cl c).read4 (operand s c k op) < 2 →
    slice n j 1 = (s.cl c).read4 (operand s c k op)

/-- v is the exact four-state value of a truth table (R119): 0 or 1 when every index that agrees with the known operands
gives it, and X otherwise. -/
def Sys2Proof.Exact4 (s : State) (c k : Nat) (tt : BitVec 16) (a b cc d : BitVec 14) (v : Nat) : Prop :=
  (v = 0 ↔ ∀ n, n < 16 → agreesWith s c k a b cc d n → tt.getLsbD n = false) ∧
    (v = 1 ↔ ∀ n, n < 16 → agreesWith s c k a b cc d n → tt.getLsbD n = true) ∧ (v = 0 ∨ v = 1 ∨ v = 3)

/-- R92, R93, R151, R157, R158. NOP leaves nothing. EVAL leaves the truth-table bit at the index of its operands for net
entry DEST, EVAL4S the exact four-state value; a DEST outside the processor's bank leaves no value but the event BANK_VIOL. -/
def Obligations.EvaluationsWriteTheirEntry : Prop :=
  ∀ (s : State) (c : ClusterId) (k : Fin 64) (dest : BitVec 12) (tt : BitVec 16) (a b cc d : BitVec 14),
    (IssuesCleanly s c k .nop → Completes (.nop c k) s (Leaves c k [] [] s)) ∧
    (IssuesCleanly s c k (.eval false dest.toNat tt.toNat a.toNat b.toNat cc.toNat d.toNat) →
      (dest.toNat / 64 = k.val →
        Completes (.eval c k dest tt a b cc d) s
          (Leaves c k [.net k dest.toNat (tt.getLsbD (index2 s c k a b cc d)).toNat] [] s)) ∧
      (dest.toNat / 64 ≠ k.val →
        Completes (.eval c k dest tt a b cc d) s (Leaves c k [.bankViol] [] s))) ∧
    (IssuesCleanly s c k (.eval true dest.toNat tt.toNat a.toNat b.toNat cc.toNat d.toNat) → dest.toNat / 64 = k.val →
      Completes (.eval4s c k dest tt a b cc d) s fun t =>
        ∃ v, Exact4 s c k tt a b cc d v ∧ Leaves c k [.net k dest.toNat v] [] s t)

/-- R97, R104, R160, R161. LATCH leaves its value for the shadow of the state entry that LWIN and DEST name, and for net
entry DEST as well when NETW is set; a DEST outside the processor's bank leaves no value but the event BANK_VIOL. -/
def Sys2Proof.LatchWritesTheShadow : Prop :=
  ∀ (s : State) (c : ClusterId) (k : Fin 64) (netw : Bool) (dest : BitVec 12) (tt : BitVec 16) (a b cc d : BitVec 14),
    (IssuesCleanly s c k (.latch false netw dest.toNat tt.toNat a.toNat b.toNat cc.toNat d.toNat) →
      (dest.toNat / 64 = k.val →
        Completes (.latch c k false netw dest tt a b cc d) s
          (Leaves c k (.state k (Sparse.get 0 (s.cl c).lwin k * 4096 + dest.toNat)
              (tt.getLsbD (index2 s c k a b cc d)).toNat ::
            if netw then [.net k dest.toNat (tt.getLsbD (index2 s c k a b cc d)).toNat] else []) [] s)) ∧
      (dest.toNat / 64 ≠ k.val →
        Completes (.latch c k false netw dest tt a b cc d) s (Leaves c k [.bankViol] [] s))) ∧
    (IssuesCleanly s c k (.latch true netw dest.toNat tt.toNat a.toNat b.toNat cc.toNat d.toNat) →
      dest.toNat / 64 = k.val →
      Completes (.latch c k true netw dest tt a b cc d) s fun t =>
        ∃ v, Exact4 s c k tt a b cc d v ∧
          Leaves c k (.state k (Sparse.get 0 (s.cl c).lwin k * 4096 + dest.toNat) v ::
            if netw then [.net k dest.toNat v] else []) [] s t)

/-- The candidate n of a MUXW (R163): the base that TT holds, n strides further, within its source. -/
def Sys2Proof.candidate (s : State) (c k : Nat) (stride : Bool) (tt : BitVec 16) (n : Nat) : ReadRef :=
  refAt (Sparse.get 0 (s.cl c).rwin k) (slice tt.toNat 12 2)
    ((slice tt.toNat 0 12 + n * (if stride then (if slice tt.toNat 12 2 = 2 then 32 else 64) else 1)) % 4096)

/-- R163, R164, R167. MUXW in two-state mode leaves the candidate that its select names. In four-state mode it leaves a
value that is not X exactly when every candidate that agrees with the known select operands reads that value. -/
def Sys2Proof.MuxwSelectsACandidate : Prop :=
  ∀ (s : State) (c : ClusterId) (k : Fin 64) (stride : Bool) (dest : BitVec 12) (tt : BitVec 16) (a b cc d : BitVec 14),
    dest.toNat / 64 = k.val →
    (IssuesCleanly s c k (.muxw false stride dest.toNat tt.toNat a.toNat b.toNat cc.toNat d.toNat) →
      Completes (.muxw c k false stride dest tt a b cc d) s
        (Leaves c k [.net k dest.toNat ((s.cl c).read2 (candidate s c k stride tt (index2 s c k a b cc d)))] [] s)) ∧
    (IssuesCleanly s c k (.muxw true stride dest.toNat tt.toNat a.toNat b.toNat cc.toNat d.toNat) →
      Completes (.muxw c k true stride dest tt a b cc d) s fun t =>
        ∃ v, Leaves c k [.net k dest.toNat v] [] s t ∧
          ∀ u, u ≠ 3 → (v = u ↔ ∀ n, n < 16 → agreesWith s c k a b cc d n →
            (s.cl c).read4 (candidate s c k stride tt n) = u))

/-- The rules of LatchWritesTheShadow and the rules of MuxwSelectsACandidate. -/
def Obligations.ShadowLatchesAndMultiplexers : Prop := LatchWritesTheShadow ∧ MuxwSelectsACandidate

/-- R155, R170, R184, R185, R188, R189. SEND leaves the word gather of A for one of the processor's two transmit words; WIN
leaves its windows, PROBE the four-state value of A for a probe latch, BREAK its number when its condition does not read 0,
and a reserved SPECIAL the event RSV_OP. -/
def Sys2Proof.SendAndSpecialsLeaveTheirEffects : Prop :=
  ∀ (s : State) (c : ClusterId) (k : Fin 64) (dest : BitVec 12) (tt : BitVec 16) (a : BitVec 14),
    (∀ m4, IssuesCleanly s c k (.send m4 dest.toNat a.toNat) →
      Completes (.send c k m4 dest a) s fun t =>
        ∃ w, Leaves c k [.tx (2 * k + dest.toNat % 2) w] [] s t ∧ w < 2 ^ 18 ∧
          (slice a.toNat 12 2 = 0 → m4 = false → ∀ j, j < 18 →
            slice w j 1 = (s.cl c).read2 (.net ((slice a.toNat 0 12 + j) % 4096))) ∧
          (slice a.toNat 12 2 = 0 → m4 = true → ∀ j, j < 9 →
            slice w (2 * j) 2 = (s.cl c).read4 (.net ((slice a.toNat 0 12 + j) % 4096)) % 4)) ∧
    (IssuesCleanly s c k (.win tt.toNat) →
      Completes (.win c k tt) s (Leaves c k [.win k (if bitOf tt.toNat 3 then some (slice tt.toNat 0 3) else none)
        (if bitOf tt.toNat 7 then some (slice tt.toNat 4 3) else none)] [] s)) ∧
    (IssuesCleanly s c k (.probe dest.toNat a.toNat) →
      Completes (.probe c k dest a) s
        (Leaves c k [.probe k (dest.toNat % 16) ((s.cl c).read4 (operand s c k a))] [] s)) ∧
    (IssuesCleanly s c k (.brk tt.toNat a.toNat) →
      Completes (.brk c k tt a) s (Leaves c k
        (if (s.cl c).read (bitOf tt.toNat 4) (operand s c k a) = 0 then [] else [.brk k (tt.toNat % 16)]) [] s)) ∧
    (∀ op, IssuesCleanly s c k .reserved → Completes (.reservedSpecial c k op) s (Leaves c k [.isa 0 k] [] s))

/-- R173, R174, R175, R176, R178, R179, R182. A MEM leaves one access of its port: the address gather, none when a bit of it
is X or Z; for a write the data gather, all ones when the enable is X or Z, and whether the enable reads 0. A port of kind
none leaves the event MEM_PORT and reads nothing. -/
def Sys2Proof.MemLeavesOneAccess : Prop :=
  ∀ (s : State) (c : ClusterId) (k : Fin 64) (m4 : Bool) (dest : BitVec 12) (tt : BitVec 16) (a b cc : BitVec 14),
    (IssuesCleanly s c k (.memRead m4 dest.toNat tt.toNat a.toNat) →
      (s.portKindOf c tt.toNat ≠ 0 →
        Completes (.memRead c k m4 dest tt a) s (Leaves c k
          [.mem k (s.portKindOf c tt.toNat) (tt.toNat % 16) m4 false
            (addrOf ((s.cl c).gatherAddr m4 (Sparse.get 0 (s.cl c).rwin k) a.toNat (s.portWidth c tt.toNat))) true 0
            (dest.toNat % 128)] [] s)) ∧
      (s.portKindOf c tt.toNat = 0 →
        Completes (.memRead c k m4 dest tt a) s
          (Leaves c k [.mem k 0 (tt.toNat % 16) m4 false none true 0 (dest.toNat % 128), .isa 3 k] [] s))) ∧
    (IssuesCleanly s c k (.memWrite m4 tt.toNat a.toNat b.toNat cc.toNat) →
      (s.portKindOf c tt.toNat ≠ 0 →
        Completes (.memWrite c k m4 tt a b cc) s (Leaves c k
          [.mem k (s.portKindOf c tt.toNat) (tt.toNat % 16) m4 true
            (addrOf ((s.cl c).gatherAddr m4 (Sparse.get 0 (s.cl c).rwin k) a.toNat (s.portWidth c tt.toNat)))
            ((s.cl c).read m4 (operand s c k cc) != 0)
            (if 2 ≤ (s.cl c).read m4 (operand s c k cc) then 0x3FFFF
              else (s.cl c).gatherWord m4 (Sparse.get 0 (s.cl c).rwin k) b.toNat) 0] [] s)) ∧
      (s.portKindOf c tt.toNat = 0 →
        Completes (.memWrite c k m4 tt a b cc) s
          (Leaves c k [.mem k 0 (tt.toNat % 16) m4 true none false 0 0, .isa 3 k] [] s)))

/-- The rules of SendAndSpecialsLeaveTheirEffects and the rules of MemLeavesOneAccess. -/
def Obligations.SendsMarksAndMemoryAccesses : Prop := SendAndSpecialsLeaveTheirEffects ∧ MemLeavesOneAccess

/-! ### Cycles, arrivals and commits of a cluster (02_step_machine) -/

/-- The cluster is at a step, not the last, whose processors have all issued, with its arrivals taken and nothing else due:
no word to fetch, no transmit entry, no memory part, no limit on steps and no CHECK. -/
def Sys2Proof.QuietStep (s : State) (c : Nat) : Prop :=
  s.canIssue c = true ∧ s.f (CLU_STATUS_STEP c) < (s.cl c).dueTo ∧ (s.cl c).stepWords (s.f (CLU_STATUS_STEP c)) = [] ∧
    (s.cl c).stepWords (s.f (CLU_STATUS_STEP c) + 1) = [] ∧ s.txEntries c (s.f (CLU_STATUS_STEP c)) = [] ∧
    (s.cl c).parts = [] ∧ s.f DEV_MODE_CHECK_ACT = 0 ∧ s.f (CLU_STATUS_STEP c) + 1 < s.frameLen ∧
    s.f (CLU_STATUS_STEP c) < 2047 ∧ (s.cl c).budget = none

/-- R90, R93, R112, R115, R126, R161, R171, R184, R185. A cycle of the step clock ends the step: its results wait for the
next cycle while the results of the step before are written, windows set in the step take effect, the events and the failed
checks of its reads act, and the next step begins unless the cluster faults. -/
def Sys2Proof.StepCycleWritesThePreviousStep : Prop :=
  ∀ (s : State) (c : ClusterId), QuietStep s c →
    (∀ k e v, (s.cl c).fresh = [.net k e v] → (s.cl c).wb = [] →
      Completes (.stepCycle c) s fun t =>
        (t.cl c).wb = [.net k e v] ∧ (t.cl c).net = (s.cl c).net ∧ (t.cl c).fresh = [] ∧
          t.f (CLU_STATUS_STEP c) = s.f (CLU_STATUS_STEP c) + 1 ∧ t.f (CLU_STATUS_STATE c) = Clu.running ∧
          Frame [CLU_STATUS c] s t) ∧
    (∀ k e v, (s.cl c).fresh = [] → (s.cl c).wb = [.net k e v] →
      Completes (.stepCycle c) s fun t =>
        (t.cl c).netRaw e % 4 = v % 4 ∧ (∀ e', e' ≠ e → (t.cl c).netRaw e' = (s.cl c).netRaw e') ∧ (t.cl c).wb = [] ∧
          t.f (CLU_STATUS_STEP c) = s.f (CLU_STATUS_STEP c) + 1 ∧ Frame [CLU_STATUS c] s t) ∧
    (∀ k e v, (s.cl c).fresh = [] → (s.cl c).wb = [.state k e v] → (s.cl c).selBit e ≤ 1 →
      secDecode 7 64 ((s.cl c).row (1 - (s.cl c).selBit e) (e / 32)) = .ok →
      Completes (.stepCycle c) s fun t =>
        (t.cl c).mark e = true ∧ (t.cl c).selBit e = (s.cl c).selBit e ∧
          (t.cl c).row ((s.cl c).selBit e) (e / 32) = (s.cl c).row ((s.cl c).selBit e) (e / 32) ∧
          slice ((t.cl c).row (1 - (s.cl c).selBit e) (e / 32)) (2 * (e % 32)) 2 = v % 4 ∧ Frame [CLU_STATUS c] s t) ∧
    (∀ k w v, (s.cl c).fresh = [] → (s.cl c).wb = [.tx w v, .probe k (w % 16) v] →
      Completes (.stepCycle c) s fun t =>
        (t.cl c).txWord w = v ∧ slice (t.reg (CLU_PLATCH c)).toNat (2 * (w % 16)) 2 = v % 4 ∧
          Frame [CLU_STATUS c, CLU_PLATCH c] s t) ∧
    (∀ k r l, (s.cl c).fresh = [.win k (some r) (some l)] → (s.cl c).wb = [] →
      Completes (.stepCycle c) s fun t =>
        Sparse.get 0 (t.cl c).rwin k = r ∧ Sparse.get 0 (t.cl c).lwin k = l ∧ Frame [CLU_STATUS c] s t) ∧
    ((s.cl c).fresh = [.bankViol] → (s.cl c).wb = [] →
      Completes (.stepCycle c) s fun t =>
        t.f (CLU_ERR_BANK_VIOL c) = 1 ∧ (t.cl c).net = (s.cl c).net ∧ (t.cl c).rows = (s.cl c).rows ∧
          t.f (CLU_STATUS_STEP c) = s.f (CLU_STATUS_STEP c) + 1 ∧ Frame (CLU_STATUS c :: CLU_ERR c :: noticeRegs) s t) ∧
    (∀ k, (s.cl c).fresh = [.bad k 3] → (s.cl c).wb = [] →
      Completes (.stepCycle c) s fun t =>
        t.f (CLU_STATUS_STATE c) = Clu.fault ∧ t.f (CLU_ERR_NS_PE c) = 1 ∧
          t.f (CLU_STATUS_STEP c) = s.f (CLU_STATUS_STEP c) ∧ (t.cl c).net = (s.cl c).net ∧ SameMemory s t)

/-- R176, R178, R182, R328. At the end of a step an access through a cluster-SRAM port acts on the word TARGET + address: a
write whose enable reads 1 stores its data, one whose enable reads 0 stores nothing, and a read gives its reply for step + 8.
A port of kind none replies all ones. -/
def Sys2Proof.StepCycleServesLocalMemory : Prop :=
  ∀ (s : State) (c : ClusterId) (k port a d rxw : Nat) (m4 : Bool), QuietStep s c → (s.cl c).wb = [] →
    s.f (CLU_STATUS_STEP c) + 8 < s.frameLen → s.frd.ckpt = none →
    ((s.cl c).fresh = [.mem k 1 port m4 true (some a) true d 0] →
      Completes (.stepCycle c) s fun t =>
        slice (Sparse.get 0 (t.cl c).sram ((s.f (CLU_MPD_TARGET c port) + a) % 32768)) 0 18 = d % 2 ^ 18 ∧
          (∀ x, x ≠ (s.f (CLU_MPD_TARGET c port) + a) % 32768 →
            Sparse.get 0 (t.cl c).sram x = Sparse.get 0 (s.cl c).sram x) ∧ Frame [CLU_STATUS c] s t) ∧
    ((s.cl c).fresh = [.mem k 1 port m4 true (some a) false d 0] →
      Completes (.stepCycle c) s fun t => (t.cl c).sram = (s.cl c).sram ∧ Frame [CLU_STATUS c] s t) ∧
    ((s.cl c).fresh = [.mem k 1 port m4 false (some a) true 0 rxw] →
      secDecode 5 18 (Sparse.get 0 (s.cl c).sram ((s.f (CLU_MPD_TARGET c port) + a) % 32768)) = .ok →
      Completes (.stepCycle c) s fun t =>
        ∃ r, (t.cl c).self_ = (s.cl c).self_ ++ [r] ∧ r.rxw = rxw ∧ r.frame = (s.cl c).frame ∧
          r.due = s.f (CLU_STATUS_STEP c) + 8 ∧
          r.word = slice (Sparse.get 0 (s.cl c).sram ((s.f (CLU_MPD_TARGET c port) + a) % 32768)) 0 18 ∧
          Frame [CLU_STATUS c] s t) ∧
    ((s.cl c).fresh = [.mem k 0 port m4 false none true 0 rxw] →
      Completes (.stepCycle c) s fun t =>
        ∃ r, (t.cl c).self_ = (s.cl c).self_ ++ [r] ∧ r.rxw = rxw ∧ r.due = s.f (CLU_STATUS_STEP c) + 8 ∧ r.word = 0x3FFFF)

/-- The rules of StepCycleWritesThePreviousStep and of StepCycleServesLocalMemory. -/
def Obligations.StepCyclesRunAndServe : Prop := StepCycleWritesThePreviousStep ∧ StepCycleServesLocalMemory

/-- R114, R115, R153. A step that names an OWED word stalls: nothing issues, the step stays, and the stall is counted. The
cycle after the last step leaves the cluster in BARRIER once its results are written. -/
def Sys2Proof.StallsAndTheEndOfAFrame : Prop :=
  ∀ (s : State) (c : ClusterId),
    (s.canIssue c = true → s.f (CLU_STATUS_STEP c) < (s.cl c).dueTo → s.wouldStall c = true →
      Completes (.stallCycle c) s fun t =>
        t.f (CLU_STATUS_STATE c) = Clu.stalled ∧ (t.cl c).stalls = (s.cl c).stalls + 1 ∧ (t.cl c).fresh = [] ∧
          (t.cl c).issued = 0 ∧ t.f (CLU_STATUS_STEP c) = s.f (CLU_STATUS_STEP c) ∧ (t.cl c).net = (s.cl c).net ∧
          (t.cl c).wb = (s.cl c).wb ∧ Frame [CLU_STATUS c] s t) ∧
    (s.canIssue c = true → s.f (CLU_STATUS_STEP c) < (s.cl c).dueTo → s.wouldStall c = false →
      Completes (.stallCycle c) s fun t => t = s) ∧
    (s.cluState c = Clu.running → (s.cl c).isOver = true → (s.cl c).wb = [] → (s.cl c).parts = [] →
      Completes (.stepCycle c) s fun t =>
        t.f (CLU_STATUS_STATE c) = Clu.barrier ∧ (t.cl c).net = (s.cl c).net ∧ (t.cl c).rows = (s.cl c).rows ∧ SameMemory s t)

/-- R105, R107, R108, R216. An arrival for an OWED word is written at once; one that is early waits in the holding queue,
READY or not; a memory reply is taken only for a read that awaits it; a cluster in reset takes nothing. -/
def Sys2Proof.ArrivalsAreWrittenOrHeld : Prop :=
  ∀ (s : State) (c : ClusterId) (rank : Nat) (rxw : BitVec 7) (due : BitVec 11) (ftag : BitVec 2) (word : Syl)
    (n : Nat) (a : Arrival), n = frameOfTag (s.cluFrame c) ftag.toNat →
    a = mkArrival rank n n due.toNat rxw.toNat word.toNat →
    (1 ≤ s.cluState c → (s.cl c).exit = [] →
      (rank < 1024 → (s.cl c).expect = [] → (s.cl c).owed = [a] → ((s.cl c).rx rxw.toNat).key = (0, 0, 0) →
        ((s.cl c).rx rxw.toNat).state = 2 → 0 < n →
        Completes (.arrival c rank rxw due ftag word) s fun t =>
          (t.cl c).owed = [] ∧ ((t.cl c).rx rxw.toNat).state = 1 ∧ ((t.cl c).rx rxw.toNat).word = word.toNat ∧
            (∀ w, w ≠ rxw.toNat → (t.cl c).rx w = (s.cl c).rx w) ∧ Frame [] s t) ∧
      (rank < 1024 → (s.cl c).expect = [] → (s.cl c).owed = [] → n ≠ (s.cl c).frame ∨ (s.cl c).dueTo ≤ due.toNat →
        (s.cl c).hold.length < 32 →
        Completes (.arrival c rank rxw due ftag word) s fun t =>
          (t.cl c).hold = (s.cl c).hold ++ [a] ∧ (t.cl c).rxb = (s.cl c).rxb ∧ Frame [] s t) ∧
      (rank = 1025 → (s.cl c).ghost = [] → (s.cl c).expect = [] →
        Completes (.arrival c rank rxw due ftag word) s fun t => t = s) ∧
      (∀ e, rank = 1025 → (s.cl c).ghost = [] → (s.cl c).expect = [e] → sameArrival a e = true → (s.cl c).owed = [] →
        n ≠ (s.cl c).frame ∨ (s.cl c).dueTo ≤ due.toNat → (s.cl c).hold.length < 32 →
        Completes (.arrival c rank rxw due ftag word) s fun t =>
          ∃ x, (t.cl c).hold = (s.cl c).hold ++ [x] ∧ sameArrival a x = true ∧ x.word = word.toNat ∧ x.issued = e.issued ∧
            (t.cl c).rxb = (s.cl c).rxb ∧ Frame [] s t)) ∧
    (s.cluState c = 0 → Completes (.arrival c rank rxw due ftag word) s fun t => t = s)

/-- The rules of StallsAndTheEndOfAFrame and of ArrivalsAreWrittenOrHeld. -/
def Obligations.StallsArrivalsAndFrameEnds : Prop := StallsAndTheEndOfAFrame ∧ ArrivalsAreWrittenOrHeld

/-- R48, R100, R105. A cluster in BARRIER to which nothing is owed commits: each marked entry changes halves, so that its
pending value becomes the committed one; every other entry keeps its half; the marks are cleared and the frame's stalls are
recorded. While the state store holds no error, no row changes. -/
def Obligations.ClusterCommitSwapsMarkedEntries : Prop :=
  ∀ (s : State) (c : ClusterId), s.cluState c = Clu.barrier → (s.cl c).owed = [] → (s.cl c).wb = [] →
    (s.cl c).committed = false → (∀ kv ∈ (s.cl c).marks, kv.2 = 1) →
    (Completes (.clusterCommit c) s fun t =>
      (∀ e, (s.cl c).mark e = true → (t.cl c).selBit e = 1 - (s.cl c).selBit e) ∧
        (∀ e, (s.cl c).mark e = false → (t.cl c).selBit e = (s.cl c).selBit e) ∧ (t.cl c).marks = [] ∧
        (t.cl c).committed = true ∧ t.f (CLU_STALL_LAST c) = min (s.cl c).stalls 65535 ∧ SameMemory s t) ∧
    ((∀ h r, secDecode 7 64 ((s.cl c).row h r) = .ok) →
      Completes (.clusterCommit c) s fun t =>
        (∀ e, (s.cl c).mark e = true →
          (t.cl c).stateValue ((t.cl c).selBit e) e = (s.cl c).stateValue (1 - (s.cl c).selBit e) e) ∧
          (t.cl c).rows = (s.cl c).rows ∧ t.f (CLU_STATUS_STATE c) = Clu.barrier)

/-- R126, R127, R259. The end marker of a frame goes out once, when the frame is committed and its flits have left, and not
from a cluster that has faulted. -/
def Sys2Proof.EndMarkersLeaveOnce : Prop :=
  ∀ (s : State) (c : ClusterId),
    ((s.cl c).committed = true → (s.cl c).marked = false → s.cluState c ≠ 0 → s.cluState c ≠ Clu.fault →
      (s.cl c).parts = [] → s.injected (dieOf c) (stopIx (ringOf c) (posOf c)) (s.cl c).frame = true →
      Completes (.endMarkerInject c) s fun t =>
        (t.cl c).marked = true ∧
          (∃ key f, Sparse.get [] (t.die (dieOf c)).marks key = Sparse.get [] (s.die (dieOf c)).marks key ++ [f] ∧
            flitType f = 4 ∧ slice f 38 3 = 0 ∧ slice f 32 6 = posOf c ∧ slice f 16 16 = (s.cl c).frame % 65536) ∧ Frame [] s t) ∧
    ((s.cl c).committed = false ∨ (s.cl c).marked = true ∨ s.cluState c = 0 ∨ s.cluState c = Clu.fault →
      Completes (.endMarkerInject c) s fun t => t = s)

/-- R123, R125, R126, R128. The scrubber reads the words of one step and the rows of one index, and goes on to the next: with
no error it changes nothing else and counts each pass, it writes a corrected word back and counts it, and an uncorrectable
word stops the cluster. With SCRUB_EN = 0 it does nothing. -/
def Sys2Proof.ScrubbingReadsOn : Prop :=
  ∀ (s : State) (c : ClusterId),
    (s.f (CLU_CTRL_SCRUB_EN c) = 1 → s.cluState c ≠ 0 → s.cluState c ≠ Clu.fault →
      ((s.cl c).scrubS < 1024 → secDecode 7 64 ((s.cl c).row 0 (s.cl c).scrubS) = .ok ∧
        secDecode 7 64 ((s.cl c).row 1 (s.cl c).scrubS) = .ok) →
      ((∀ x ∈ (s.cl c).stepWords (s.cl c).scrubI, secDecode 7 90 x.2 = .ok) →
        Completes (.scrubRead c) s fun t =>
          t.cl c = { s.cl c with scrubI := ((s.cl c).scrubI + 1) % 2048, scrubS := ((s.cl c).scrubS + 1) % 2048 } ∧
            t.f (CLU_SCRUB_IS_PASSES c) = (s.f (CLU_SCRUB_IS_PASSES c) + ofBool ((s.cl c).scrubI == 2047)) % 65536 ∧
            t.f (CLU_SCRUB_SS_PASSES c) = (s.f (CLU_SCRUB_SS_PASSES c) + ofBool ((s.cl c).scrubS == 2047)) % 65536 ∧
            Frame [CLU_SCRUB c] s t) ∧
      (∀ k w d, (s.cl c).stepWords (s.cl c).scrubI = [(k, w)] → (s.cl c).scrubI < 2048 → secDecode 7 90 w = .corrected d →
        Completes (.scrubRead c) s fun t =>
          (t.cl c).word k (s.cl c).scrubI = secEncode 7 90 d ∧ t.f (CLU_ERR_IS_CE c) = 1 ∧
            t.f (CLU_CE_CNT_CE_COUNT c) = min (s.f (CLU_CE_CNT_CE_COUNT c) + 1) 65535 ∧
            Frame ([CLU_ERR c, CLU_CE_CNT c, CLU_SCRUB c] ++ noticeRegs) s t) ∧
      (∀ k w, (s.cl c).stepWords (s.cl c).scrubI = [(k, w)] → secDecode 7 90 w = .uncorrectable →
        Completes (.scrubRead c) s fun t =>
          t.f (CLU_STATUS_STATE c) = Clu.fault ∧ t.f (CLU_ERR_IS_UE c) = 1 ∧ (t.cl c).imem = (s.cl c).imem)) ∧
    (s.f (CLU_CTRL_SCRUB_EN c) = 0 ∨ s.cluState c = 0 ∨ s.cluState c = Clu.fault →
      Completes (.scrubRead c) s fun t => t = s)

/-- R131, R806. Cluster reset ends in READY once the domain of the cluster is ON, and only there: a cluster that is marked
failed by fuses or is under test stays in RESET. -/
def Sys2Proof.ClusterResetEndsInReady : Prop :=
  ∀ (s : State) (c : ClusterId),
    (s.cluState c = 0 → s.domainOn (c.val / 34) = true → s.fuseFailed c = false → c.val ∉ s.tst.tested →
      Completes (.clusterResetDone c) s fun t => t.f (CLU_STATUS_STATE c) = Clu.ready ∧ Frame [CLU_STATUS c] s t) ∧
    (s.cluState c ≠ 0 ∨ s.domainOn (c.val / 34) = false ∨ s.fuseFailed c = true ∨ c.val ∈ s.tst.tested →
      Completes (.clusterResetDone c) s fun t => t = s)

/-- R134, R135, R850. A step-rate target outside 600 to 1,400 is ignored and sets OSC_RANGE; one within takes effect at once
unless frames run in the cluster. A measurement is kept, and locks the rate when it lies within 0.2 % of the rate in force
and that rate has not changed since the last one. -/
def Sys2Proof.StepRateIsSetAndMeasured : Prop :=
  ∀ (s : State) (p : Path) (c : ClusterId) (v : Word),
    (Reached s (CLU_TRIM c) → slice v.toNat 0 11 < 600 ∨ 1400 < slice v.toNat 0 11 →
      Completes (.trimWrite p c v) s fun t =>
        t.f (CLU_ERR_OSC_RANGE c) = 1 ∧ t.reg (CLU_TRIM c) = s.reg (CLU_TRIM c) ∧ t.cl c = s.cl c ∧
          Frame (CLU_ERR c :: noticeRegs) s t) ∧
    (Reached s (CLU_TRIM c) → 600 ≤ slice v.toNat 0 11 → slice v.toNat 0 11 ≤ 1400 →
      Completes (.trimWrite p c v) s fun t =>
        t.f (CLU_TRIM_TARGET c) = slice v.toNat 0 11 ∧ Frame [CLU_TRIM c] s t ∧
          (s.cluState c = Clu.ready → (t.cl c).rate = slice v.toNat 0 11) ∧
          (s.cluState c = Clu.running → (t.cl c).rate = (s.cl c).rate)) ∧
    (∀ m : BitVec 16, Completes (.freqMeasure c m) s fun t =>
      t.f (CLU_FREQ_MEAS c) = m.toNat ∧ Frame [CLU_FREQ c, CLU_TRIM c] s t ∧
        (t.f (CLU_TRIM_LOCKED c) = 1 ↔ (s.cl c).rateSeen = s.rateInForce c ∧ (s.cl c).seenAt = s.seq.checks ∧
          1000 * (m.toNat * 32) ≤ 1002 * (10 * s.rateInForce c) ∧
          998 * (10 * s.rateInForce c) ≤ 1000 * (m.toNat * 32)))

/-- The rules of EndMarkersLeaveOnce, of ScrubbingReadsOn, of ClusterResetEndsInReady and of StepRateIsSetAndMeasured. -/
def Obligations.ClusterUpkeepAndStepRate : Prop :=
  EndMarkersLeaveOnce ∧ ScrubbingReadsOn ∧ ClusterResetEndsInReady ∧ StepRateIsSetAndMeasured

/-- R136, R137, R138, R139, R142. Direct access: in READY a net entry and an instruction word are written with
new check bits, and a net entry is read into D0; an address beyond the store is refused with ARG, a cluster in reset with
STATE, and neither changes a store. -/
def Obligations.DirectStoreAccess : Prop :=
  ∀ (s : State) (p : Path) (c : ClusterId) (v : Word), Reached s (CLU_MA_CMD c) →
    (s.cluState c = Clu.ready → s.billetRuns = false → s.f (CLU_MA_ADDR_AUTOINC c) = 0 →
      s.f (CLU_MA_ADDR_ADDR c) ≤ storeLast (s.f (CLU_MA_ADDR_STORE c)) →
      (slice v.toNat 0 2 = 2 → s.f (CLU_MA_ADDR_STORE c) = 1 →
        Completes (.cluMaWrite p c v) s fun t =>
          (t.cl c).netRaw (s.f (CLU_MA_ADDR_ADDR c)) = netEntry (s.reg (CLU_MA_D c 0)).toNat ∧
            t.f (CLU_MA_STAT_ERR c) = 0 ∧ Frame [CLU_MA_STAT c] s t) ∧
      (slice v.toNat 0 2 = 2 → s.f (CLU_MA_ADDR_STORE c) = 0 → s.f (CLU_MA_ADDR_RAW c) = 0 →
        Completes (.cluMaWrite p c v) s fun t =>
          slice ((t.cl c).word (s.f (CLU_MA_ADDR_PROC c)) (s.f (CLU_MA_ADDR_ADDR c))) 0 64 =
              (s.reg (CLU_MA_D c 0)).toNat + 2 ^ 32 * (s.reg (CLU_MA_D c 1)).toNat ∧
            t.f (CLU_MA_STAT_ERR c) = 0 ∧ Frame [CLU_MA_STAT c] s t) ∧
      (slice v.toNat 0 2 = 1 → s.f (CLU_MA_ADDR_STORE c) = 1 →
        parityOf 3 ((s.cl c).netRaw (s.f (CLU_MA_ADDR_ADDR c))) = 0 →
        Completes (.cluMaRead p c v) s fun t =>
          t.reg (CLU_MA_D c 0) = BitVec.ofNat 32 ((s.cl c).netRaw (s.f (CLU_MA_ADDR_ADDR c))) ∧
            t.f (CLU_MA_STAT_ERR c) = 0 ∧ t.clusters = s.clusters ∧
            Frame [CLU_MA_STAT c, CLU_MA_D c 0, CLU_MA_D c 1, CLU_MA_D c 2, CLU_MA_D c 3] s t)) ∧
    (slice v.toNat 0 2 = 1 ∨ slice v.toNat 0 2 = 2 → s.cluState c = Clu.ready → s.billetRuns = false →
      s.f (CLU_MA_ADDR_STORE c) ≤ 4 → storeLast (s.f (CLU_MA_ADDR_STORE c)) < s.f (CLU_MA_ADDR_ADDR c) →
      Completes (.cluMaRead p c v) s (fun t => t = s.setF (CLU_MA_STAT_ERR c) 2) ∧
        Completes (.cluMaWrite p c v) s fun t => t = s.setF (CLU_MA_STAT_ERR c) 2) ∧
    (slice v.toNat 0 2 = 1 ∨ slice v.toNat 0 2 = 2 → s.cluState c = 0 →
      Completes (.cluMaRead p c v) s (fun t => t = s.setF (CLU_MA_STAT_ERR c) 1) ∧
        Completes (.cluMaWrite p c v) s fun t => t = s.setF (CLU_MA_STAT_ERR c) 1)

/-! ### Frames, barriers and halts (04_frames_and_elasticity) -/

/-- A SOLO device that keeps no journal and that no partner holds back. -/
def Sys2Proof.RunsAlone (s : State) : Prop :=
  s.role = 0 ∧ s.f FRD_CFG_JNL_EN = 0 ∧ s.frd.catchup = false ∧ s.frd.final = false ∧ s.frd.frozen = false

/-- The next frame has been released (R205): FRAME_NO counts it, the barrier timer runs unless a neighbour is halted (R212),
and nothing of its barrier has been gathered. -/
def Sys2Proof.Released (s t : State) : Prop :=
  t.frameNo = (s.frameNo + 1) % 2 ^ 64 ∧ t.seq.inFrame = true ∧ t.f SEQ_STATUS_PHASE = Phase.evaluating ∧ t.seq.marks = [] ∧
    t.seq.dies = 0 ∧ t.seq.local_ = false ∧ t.seq.timer = (if s.seq.notices = [] then some s.tmk.steered else none) ∧
    t.mode = s.mode ∧ SameMemory s t

/-- R205, R221, R525. In TIMED the release is issued once the time reaches T_k − TLEAD, and not before. -/
def Sys2Proof.TimedReleaseAtItsInstant : Prop :=
  ∀ (s : State) (k : Nat), s.seq.waitK = some k →
    (s.mode = Mode.timed → s.seq.inFrame = false → s.f DEV_MODE_HOLD = 0 → s.releaseAt k ≤ s.psNow → RunsAlone s →
      Completes .timedRelease s (Released s)) ∧
    (s.psNow < s.releaseAt k → Completes .timedRelease s fun t => t = s)

/-- R102, R112, R200, R280. The first RELEASE marker of the frame that reaches a stop starts a mapped, READY cluster at
step 0 with cleared windows and nothing owed; a further copy is absorbed; with no marker at the stop nothing happens. -/
def Sys2Proof.ReleaseMarkerStartsItsCluster : Prop :=
  ∀ (s : State) (d : Fin 4) (r : Fin 8) (pos : Fin 36) (frame : BitVec 16) (sw : Bool),
    (s.cameAt d (stopIx r pos) = [] → Completes (.releaseMarkerArrival d r pos frame sw) s fun t => t = s) ∧
    (∀ f rest, s.cameAt d (stopIx r pos) = f :: rest → markKind f = 1 → slice f 16 16 = frame.toNat → bitOf f 15 = sw →
      (s.seq.inFrame = false ∨ frame.toNat ≠ s.frameNo % 65536 ∨
        Sparse.get 0 (s.die d).release (stopIx r pos) = s.frameNo + 1 →
        Completes (.releaseMarkerArrival d r pos frame sw) s fun t =>
          t.cameAt d (stopIx r pos) = rest ∧ t.clusters = s.clusters ∧ Frame [] s t) ∧
      (s.seq.inFrame = true → frame.toNat = s.frameNo % 65536 →
        Sparse.get 0 (s.die d).release (stopIx r pos) ≠ s.frameNo + 1 → isBridge pos = false →
        s.isMapped (clusterAt d r pos) = true → s.cluState (clusterAt d r pos) = Clu.ready →
        (s.cl (clusterAt d r pos)).stepWords 0 = [] →
        Completes (.releaseMarkerArrival d r pos frame sw) s fun t =>
          t.cluState (clusterAt d r pos) = Clu.running ∧ t.f (CLU_STATUS_STEP (clusterAt d r pos)) = 0 ∧
            t.f (CLU_STATUS_FPAR (clusterAt d r pos)) = s.frameNo % 2 ∧ (t.cl (clusterAt d r pos)).frame = s.frameNo ∧
            (t.cl (clusterAt d r pos)).rwin = [] ∧ (t.cl (clusterAt d r pos)).lwin = [] ∧
            (t.cl (clusterAt d r pos)).committed = false ∧ (t.cl (clusterAt d r pos)).dueTo = 0 ∧
            Sparse.get 0 (t.die d).release (stopIx r pos) = s.frameNo + 1 ∧ t.cameAt d (stopIx r pos) = rest ∧
            Frame [CLU_STATUS (clusterAt d r pos), CLU_TRIM (clusterAt d r pos)] s t))

/-- The rules of TimedReleaseAtItsInstant and the rules of ReleaseMarkerStartsItsCluster. -/
def Obligations.FramesStartAtTheirRelease : Prop := TimedReleaseAtItsInstant ∧ ReleaseMarkerStartsItsCluster

/-- R201, R202, R340. A die marker needs the end marker of every mapped cluster of its die and the die's write
acknowledgements; the local condition needs every such die and every output arrival, and is met once. -/
def Sys2Proof.LocalBarrierGathersEveryDie : Prop :=
  ∀ (s : State), s.seq.inFrame = true →
    (∀ d : Fin 4, d.val ∈ s.mappedDies →
      (s.unmarked d = none → s.ackDone d = true →
        Completes (.dieMarker d) s fun t => bitOf t.seq.dies d = true ∧ t.regs = s.regs ∧ t.clusters = s.clusters) ∧
      (s.unmarked d ≠ none → Completes (.dieMarker d) s fun t => t = s)) ∧
    (s.seq.local_ = false → (∀ d ∈ s.mappedDies, bitOf s.seq.dies d = true) → s.outMissing s.frameNo = none → RunsAlone s →
      Completes .localBarrier s fun t =>
        t.seq.local_ = true ∧ t.seq.published = true ∧ t.f SEQ_STATUS_PHASE = Phase.gathering ∧
          t.frameNo = s.frameNo ∧ SameMemory s t) ∧
    ((∃ d ∈ s.mappedDies, bitOf s.seq.dies d = false) → Completes .localBarrier s fun t => t = s)

/-- R207, R209, R212, R213. An end marker on a lane of SEQ_INMASK counts when it carries the frame's number; another number
sets FRAME_SKEW and holds the device with cause 2; one of the next frame is kept while no frame runs; a HALT_NOTICE suspends
the barrier timer; a lane outside the mask is not heeded. -/
def Sys2Proof.EndMarkersAreCheckedByFrame : Prop :=
  ∀ (s : State) (l : LaneId) (frame : BitVec 16),
    (s.inMask l = false → ∀ h n, Completes (.endMarkerReceive l frame h n) s fun t => t = s) ∧
    (s.inMask l = true → s.seq.inFrame = false → s.seq.notices = [] → frame.toNat = (s.frameNo + 1) % 65536 →
      Completes (.endMarkerReceive l frame false false) s fun t =>
        t.seq.lanesIn = s.seq.lanesIn ++ [(l.val, frame.toNat)] ∧ t.regs = s.regs) ∧
    (s.inMask l = true →
      Completes (.endMarkerReceive l frame true true) s fun t =>
        t.seq.timer = none ∧ l.val ∈ t.seq.notices ∧ t.seq.lanesIn = s.seq.lanesIn ∧ t.regs = s.regs) ∧
    (s.inMask l = true → s.seq.inFrame = true → s.seq.halted = false → s.seq.timer.isSome = true → s.seq.notices = [] →
      (frame.toNat = s.frameNo % 65536 →
        Completes (.endMarkerReceive l frame false false) s fun t =>
          t.seq.lanesIn = s.seq.lanesIn ++ [(l.val, frame.toNat)] ∧ t.regs = s.regs) ∧
      (frame.toNat ≠ s.frameNo % 65536 → s.framesMode = true →
        Completes (.endMarkerReceive l frame false false) s fun t =>
          t.f SEQ_ERR_FRAME_SKEW = 1 ∧ t.f DEV_MODE_HOLD = 1 ∧ t.f SEQ_STATUS_HOLD_CAUSE = 2 ∧ t.seq.timer = none ∧
            t.f SEQ_STATUS_PHASE = Phase.held ∧ t.frameNo = s.frameNo ∧
            Frame ([SEQ_ERR, DEV_MODE, SEQ_STATUS] ++ noticeRegs) s t))

/-- The rules of LocalBarrierGathersEveryDie and of EndMarkersAreCheckedByFrame. -/
def Obligations.EndMarkersAndTheLocalBarrier : Prop := LocalBarrierGathersEveryDie ∧ EndMarkersAreCheckedByFrame

/-- R71, R72, R203, R204, R237. With the local condition met and every inbound marker in, the barrier completes: in RUN the next
frame is released; a waiting request to IDLE takes the device to IDLE with FRAME_NO unchanged; in STEP the device halts
before the next frame. Without a marker nothing happens. -/
def Sys2Proof.BarrierCompletionReleasesOrStops : Prop :=
  ∀ (s : State), s.seq.inFrame = true → s.seq.local_ = true → s.f DEV_MODE_HOLD = 0 →
    (s.lanesMissing ≠ [] → Completes .barrierComplete s fun t => t = s) ∧
    (s.lanesMissing = [] → RunsAlone s → s.frd.detach = false → s.frd.join = false → s.frd.mismatch = false →
      s.frd.leave = false → s.frd.ckpt = none → s.frameNo < 2 ^ 64 - 1 → s.seq.brkFrame = false → s.f SEQ_CFG_FRAME_EN = 0 →
      (s.mode = Mode.run → s.f DEV_MODE_PENDING = 0 → Completes .barrierComplete s (Released s)) ∧
      (s.framesMode = true → s.f DEV_MODE_PENDING = 1 → s.f DEV_MODE_TARGET = Mode.idle →
        Completes .barrierComplete s fun t =>
          t.mode = Mode.idle ∧ t.frameNo = s.frameNo ∧ t.seq.inFrame = false ∧ t.f DEV_MODE_PENDING = 0 ∧
            t.f SEQ_STATUS_PHASE = Phase.stopped ∧ SameMemory s t) ∧
      (s.mode = Mode.step → s.f DEV_MODE_PENDING = 0 → s.seq.cmd ≠ 2 →
        Completes .barrierComplete s fun t =>
          t.mode = Mode.step ∧ t.frameNo = s.frameNo ∧ t.seq.inFrame = false ∧ t.seq.halted = true ∧
            t.f SEQ_STATUS_PHASE = Phase.halted ∧ SameMemory s t))

/-- R211, R214, R215. When the barrier timer runs out no release follows: HOLD is set with cause 1, BTO is set, the first
missing source is recorded, and SEQ_HALT is raised. A timer that has not run out holds nothing. -/
def Sys2Proof.BarrierTimeoutHoldsTheDevice : Prop :=
  ∀ (s : State), s.seq.inFrame = true → s.f DEV_MODE_HOLD = 0 →
    (s.timerOver = true →
      Completes .barrierTimeout s fun t =>
        t.f DEV_MODE_HOLD = 1 ∧ t.f SEQ_STATUS_HOLD_CAUSE = 1 ∧ t.f SEQ_ERR_BTO = 1 ∧ t.f SEQ_BTO_INFO_VALID = 1 ∧
          (s.f SEQ_BTO_INFO_VALID = 0 → t.f SEQ_BTO_INFO_SRC = s.missingSource.1 ∧
            t.f SEQ_BTO_INFO_INDEX = s.missingSource.2 % 2 ^ SEQ_BTO_INFO_INDEX.w) ∧
          t.seq.timer = none ∧ t.frameNo = s.frameNo ∧
          (s.domainOn 90 = true → (t.reg (OST_EVT_PEND 0)).getLsbD 15 = true) ∧ SameMemory s t) ∧
    (s.timerOver = false → Completes .barrierTimeout s fun t => t = s)

/-- The rules of BarrierCompletionReleasesOrStops and the rules of BarrierTimeoutHoldsTheDevice. -/
def Obligations.BarriersCompleteOrTimeOut : Prop := BarrierCompletionReleasesOrStops ∧ BarrierTimeoutHoldsTheDevice

/-- R230, R235, R237, R280. A HALT marker that has reached a mapped cluster's stop stops the cluster before the step it
would issue next, with what it has issued written; a RESUME marker lets a halted cluster go on from there, under STEPS
only while it has steps to issue. With no marker at the stop nothing happens. -/
def Sys2Proof.HaltAndResumeMarkers : Prop :=
  ∀ (s : State) (c : ClusterId), s.isMapped c = true →
    (s.cameAt (dieOf c) (stopIx (ringOf c) (posOf c)) = [] →
      Completes (.haltMarkerArrival c) s (fun t => t = s) ∧ Completes (.resumeMarkerArrival c) s fun t => t = s) ∧
    (∀ f rest, s.cameAt (dieOf c) (stopIx (ringOf c) (posOf c)) = f :: rest → markKind f = 2 →
      (s.seq.haltSent = true → s.canIssue c = true → (s.cl c).wb = [] →
        Completes (.haltMarkerArrival c) s fun t =>
          t.cluState c = Clu.halted ∧ t.f (CLU_STATUS_STEP c) = s.f (CLU_STATUS_STEP c) ∧ (t.cl c).net = (s.cl c).net ∧
            (t.cl c).fresh = [] ∧ t.frameNo = s.frameNo ∧ SameMemory s t) ∧
      (s.seq.haltSent = false →
        Completes (.haltMarkerArrival c) s fun t =>
          t.cameAt (dieOf c) (stopIx (ringOf c) (posOf c)) = rest ∧ t.clusters = s.clusters ∧ Frame [] s t)) ∧
    (∀ f rest, s.cameAt (dieOf c) (stopIx (ringOf c) (posOf c)) = f :: rest → markKind f = 3 →
      s.cluState c = Clu.halted → s.seq.inFrame = true → s.seq.halted = false → s.seq.haltSent = false →
      (s.cl c).frame = s.frameNo → s.seq.cmd ≠ 1 ∨ (s.cl c).budget.isSome = true →
      Completes (.resumeMarkerArrival c) s fun t =>
        t.cluState c = Clu.running ∧ t.f (CLU_STATUS_STEP c) = s.f (CLU_STATUS_STEP c) ∧ t.clusters = s.clusters ∧
          t.cameAt (dieOf c) (stopIx (ringOf c) (posOf c)) = rest ∧ Frame [CLU_STATUS c] s t)

/-- R213, R236, R237, R238, R239, R280. STEPS grants every halted cluster of the frame COUNT more steps, which it issues once
its RESUME marker has arrived; FRAMES releases the next frame and counts COUNT barriers; a COUNT of zero does nothing;
outside STEP, under HOLD, or while the device is not halted or a command is busy, the command sets CMD_REJECT. -/
def Sys2Proof.StepCommands : Prop :=
  ∀ (s : State) (p : Path) (count : BitVec 16), Reached s SEQ_STEP_CMD →
    (s.mode = Mode.step → s.seq.halted = true → s.f DEV_MODE_HOLD = 0 → s.f SEQ_STATUS_STEP_BUSY = 0 →
      (count ≠ 0 → s.seq.inFrame = true →
        Completes (.steps p count) s fun t =>
          t.f SEQ_STATUS_STEP_BUSY = 1 ∧ t.seq.halted = false ∧ t.seq.cmd = 1 ∧ t.seq.cmdLeft = count.toNat ∧
            (∀ c ∈ s.mapped, s.cluState c = Clu.halted → (t.cl c).budget = some count.toNat) ∧
            t.f SEQ_STATUS_PHASE = Phase.evaluating ∧ SameMemory s t) ∧
      (count ≠ 0 → s.seq.inFrame = false → RunsAlone s →
        Completes (.frames p count) s fun t =>
          t.f SEQ_STATUS_STEP_BUSY = 1 ∧ t.seq.cmd = 2 ∧ t.seq.cmdLeft = count.toNat ∧
            t.frameNo = (s.frameNo + 1) % 2 ^ 64 ∧ t.seq.inFrame = true) ∧
      Completes (.steps p 0) s (fun t => t = s) ∧ Completes (.frames p 0) s fun t => t = s) ∧
    (s.mode ≠ Mode.step ∨ s.seq.halted = false ∨ s.f DEV_MODE_HOLD = 1 ∨ s.f SEQ_STATUS_STEP_BUSY = 1 →
      Completes (.steps p count) s (fun t => t.f SEQ_ERR_CMD_REJECT = 1 ∧ t.seq = s.seq ∧ t.clusters = s.clusters ∧
        Frame (SEQ_ERR :: noticeRegs) s t) ∧
      Completes (.frames p count) s fun t => t.f SEQ_ERR_CMD_REJECT = 1 ∧ t.seq = s.seq ∧ t.clusters = s.clusters ∧
        Frame (SEQ_ERR :: noticeRegs) s t)

/-- The rules of HaltAndResumeMarkers and the rules of StepCommands. -/
def Obligations.HaltsResumesAndSteps : Prop := HaltAndResumeMarkers ∧ StepCommands

/-- R226, R241, R243. FRAME_NO is written only in IDLE, the schedule only outside TIMED, and otherwise the write is dropped
and sets WR_STATE; a zero field of SEQ_BTO leaves that field as it is and sets ARG. -/
def Obligations.SequencerWriteGuards : Prop :=
  ∀ (s : State) (p : Path) (v : Word),
    (Reached s (SEQ_FRAME_NO + 4) → s.mode = Mode.idle → (s.path p).heldTag = some SEQ_FRAME_NO →
      Completes (.frameNoWrite p true v) s fun t =>
        t.frameNo = (s.path p).heldLo.toNat + 2 ^ 32 * v.toNat ∧ (t.path p).heldTag = none ∧
          Frame [SEQ_FRAME_NO, SEQ_FRAME_NO + 4] s t) ∧
    (Reached s SEQ_FRAME_NO → s.mode = Mode.idle →
      Completes (.frameNoWrite p false v) s fun t =>
        t = s.setPath p { s.path p with heldTag := some SEQ_FRAME_NO, heldLo := v }) ∧
    (Reached s SEQ_FRAME_NO → s.mode ≠ Mode.idle → ∀ hi, Completes (.frameNoWrite p hi v) s fun t =>
      t.frameNo = s.frameNo ∧ t.f SEQ_ERR_WR_STATE = 1 ∧ t.paths = s.paths ∧ Frame (SEQ_ERR :: noticeRegs) s t) ∧
    (∀ off : WinOff, off.toNat ∈ scheduleRegs → Reached s off.toNat →
      (s.mode = Mode.timed →
        Completes (.timedScheduleWrite p off v) s fun t =>
          t.f SEQ_ERR_WR_STATE = 1 ∧ t.paths = s.paths ∧ Frame (SEQ_ERR :: noticeRegs) s t) ∧
      (s.mode ≠ Mode.timed → off.toNat ∈ [SEQ_TSTART_NS, SEQ_TPER_NS, SEQ_TPER_FRAC, SEQ_TLEAD] →
        Completes (.timedScheduleWrite p off v) s fun t =>
          t.reg off.toNat = (s.writeBits off.toNat v).reg off.toNat ∧
            (off.toNat = SEQ_TLEAD → t.f SEQ_TLEAD_LEAD_PS = slice v.toNat SEQ_TLEAD_LEAD_PS.lo SEQ_TLEAD_LEAD_PS.w) ∧
            Frame [off.toNat] s t) ∧
      (s.mode ≠ Mode.timed → off.toNat = SEQ_TSTART_SEC →
        Completes (.timedScheduleWrite p off v) s fun t =>
          t = s.setPath p { s.path p with heldTag := some SEQ_TSTART_SEC, heldLo := v }) ∧
      (s.mode ≠ Mode.timed → off.toNat = SEQ_TSTART_SEC + 4 → (s.path p).heldTag = some SEQ_TSTART_SEC →
        Completes (.timedScheduleWrite p off v) s fun t =>
          t.reg SEQ_TSTART_SEC = (s.path p).heldLo ∧ t.reg (SEQ_TSTART_SEC + 4) = v ∧
            Frame [SEQ_TSTART_SEC, SEQ_TSTART_SEC + 4] s t)) ∧
    (Reached s SEQ_BTO →
      Completes (.btoWrite p v) s fun t =>
        t.f SEQ_BTO_TIMEOUT_US = (if slice v.toNat 0 20 = 0 then s.f SEQ_BTO_TIMEOUT_US else slice v.toNat 0 20) ∧
          t.f SEQ_BTO_FIRST_MS = (if slice v.toNat 20 12 = 0 then s.f SEQ_BTO_FIRST_MS else slice v.toNat 20 12) ∧
          (slice v.toNat 0 20 = 0 ∨ slice v.toNat 20 12 = 0 → t.f SEQ_ERR_ARG = 1) ∧
          Frame ([SEQ_BTO, SEQ_ERR] ++ noticeRegs) s t)


/-! ### Millrace (05_millrace_network, 06_memory_system) -/

/-- R265, R267. A segment takes a through flit before the head of the injection queue, which it counts as a collision. -/
def Sys2Proof.SegmentsTakeThroughFlitsFirst : Prop :=
  ∀ (s : State) (d : Fin 4) (r : Fin 8) (pos : Fin 36) (ccw : Bool) (x : Nat × Nat) (q : List (Nat × Nat)),
    s.domainOn (32 + d) = true → s.injQueue d (stopIx r pos) (ofBool ccw) = x :: q →
    s.againAt d (stopIx r pos) (ofBool ccw) = [] →
    ((s.linkAt d (stopIx r pos) (ofBool ccw)).filter (passes pos) = [] → isScheduled x.1 = true →
      (isBridge (nextPos pos (ofBool ccw)) = false ∨ flitDst x.1 ≠ nextPos pos (ofBool ccw)) →
      Completes (.segmentGrant d r pos ccw) s fun t =>
        t.injQueue d (stopIx r pos) (ofBool ccw) = q ∧ t.regs = s.regs ∧
          t.linkAt d (stopIx r (nextPos pos (ofBool ccw))) (ofBool ccw) =
            s.linkAt d (stopIx r (nextPos pos (ofBool ccw))) (ofBool ccw) ++ [x.1]) ∧
    (∀ f rest, s.linkAt d (stopIx r pos) (ofBool ccw) = f :: rest → passes pos f = true →
      (isBridge (nextPos pos (ofBool ccw)) = false ∨ flitDst f ≠ nextPos pos (ofBool ccw)) →
      Completes (.segmentGrant d r pos ccw) s fun t =>
        t.injQueue d (stopIx r pos) (ofBool ccw) = x :: q ∧ t.linkAt d (stopIx r pos) (ofBool ccw) = rest ∧
          t.linkAt d (stopIx r (nextPos pos (ofBool ccw))) (ofBool ccw) =
            s.linkAt d (stopIx r (nextPos pos (ofBool ccw))) (ofBool ccw) ++ [f] ∧
          t.f (MLR_STOP_COLL_COLL (stopBase d r pos)) =
            satAdd (MLR_STOP_COLL_COLL (stopBase d r pos)).w (s.f (MLR_STOP_COLL_COLL (stopBase d r pos))) 1 ∧
          Frame [MLR_STOP_COLL (stopBase d r pos), MLR_STOP_CINFO (stopBase d r pos)] s t)

/-- R246, R268, R269, R301. A SCHED flit that has reached the cluster stop its DST names leaves by the receive entry of its
generation and becomes an arrival of its cluster; a flit for a cluster that is not ON, of no generation, or of no entry
sets the stop's error; one that is not on the link changes nothing. -/
def Sys2Proof.FlitsLeaveByTheReceiveTable : Prop :=
  ∀ (s : State) (d : Fin 4) (r : Fin 8) (pos : Fin 36) (ccw : Bool) (f : BitVec 54), s.domainOn (32 + d) = true →
    (f.toNat ∉ s.linkAt d (stopIx r pos) (ofBool ccw) → Completes (.flitExit d r pos ccw f) s fun t => t = s) ∧
    (f.toNat ∈ s.linkAt d (stopIx r pos) (ofBool ccw) → isBridge pos = false → flitType f.toNat = 1 →
      flitDst f.toNat = pos → s.testsRing d (stopIx r pos) = false →
      (s.clusterOn (clusterAt d r pos) = false →
        Completes (.flitExit d r pos ccw f) s fun t =>
          t.f (MLR_STOP_ERR_OFF_DROP (stopBase d r pos)) = 1 ∧ t.clusters = s.clusters) ∧
      (s.clusterOn (clusterAt d r pos) = true → s.halfFor d (stopIx r pos) (flitGen f.toNat) = none →
        Completes (.flitExit d r pos ccw f) s fun t =>
          t.f (MLR_STOP_ERR_GEN_MISS (stopBase d r pos)) = 1 ∧ t.clusters = s.clusters) ∧
      (∀ h, s.clusterOn (clusterAt d r pos) = true → s.halfFor d (stopIx r pos) (flitGen f.toNat) = some h →
        (entryValid (s.tblEntry d (stopIx r pos) h 1 (flitTag f.toNat)) = false →
          Completes (.flitExit d r pos ccw f) s fun t =>
            t.f (MLR_STOP_ERR_NO_ENTRY (stopBase d r pos)) = 1 ∧ t.clusters = s.clusters) ∧
        (entryValid (s.tblEntry d (stopIx r pos) h 1 (flitTag f.toNat)) = true →
          (s.cl (clusterAt d r pos)).exit = [] → (s.cl (clusterAt d r pos)).owed = [] →
          (s.cl (clusterAt d r pos)).expect = [] → (s.cl (clusterAt d r pos)).hold.length < 32 →
          ((s.cl (clusterAt d r pos)).dueTo ≤ slice (s.tblEntry d (stopIx r pos) h 1 (flitTag f.toNat)) 8 11 ∨
            frameOfTag (s.cluFrame (clusterAt d r pos)) (flitFtag f.toNat) ≠ (s.cl (clusterAt d r pos)).frame) →
          Completes (.flitExit d r pos ccw f) s fun t =>
            (t.cl (clusterAt d r pos)).hold = (s.cl (clusterAt d r pos)).hold ++
              [mkArrival (flitTag f.toNat) (frameOfTag (s.cluFrame (clusterAt d r pos)) (flitFtag f.toNat))
                (frameOfTag (s.cluFrame (clusterAt d r pos)) (flitFtag f.toNat))
                (slice (s.tblEntry d (stopIx r pos) h 1 (flitTag f.toNat)) 8 11)
                (slice (s.tblEntry d (stopIx r pos) h 1 (flitTag f.toNat)) 0 7) (flitWord f.toNat)] ∧
              t.linkAt d (stopIx r pos) (ofBool ccw) =
                removeFirst (· == f.toNat) (s.linkAt d (stopIx r pos) (ofBool ccw)) ∧ SameMemory s t)))

/-- A scheduled flit heads one of the exit buffers of bridge stop k of a ring, or what its Confluence port holds (R272). -/
def Sys2Proof.HeadsBridge (s : State) (d r k f : Nat) : Prop :=
  s.testsRing d (stopIx r (18 * k)) = false ∧ isScheduled f = true ∧
    ((s.exitsAt d (stopIx r (18 * k) * 2)).head? = some f ∨ (s.exitsAt d (stopIx r (18 * k) * 2 + 1)).head? = some f ∨
      ((s.inboundAt d (2 * r + k)).head?.map (·.flit)) = some f)

/-- R272, R852. A bridge stop routes the flit at the head of a queue by its bridge table: to an injection queue, where it
waits while that is full; an entry that is not valid sets NO_ENTRY. -/
def Sys2Proof.BridgesRouteByTheirTable : Prop :=
  ∀ (s : State) (d : Fin 4) (r : Fin 8) (k : Fin 2) (f : BitVec 54) (h : Nat), s.domainOn (32 + d) = true →
    (HeadsBridge s d r k f.toNat → s.halfFor d (stopIx r (18 * k)) (flitGen f.toNat) = none →
      Completes (.brtRoute d r k f) s fun t =>
        t.f (MLR_STOP_ERR_GEN_MISS (stopBase d r (18 * k))) = 1 ∧ t.clusters = s.clusters) ∧
    (HeadsBridge s d r k f.toNat → s.halfFor d (stopIx r (18 * k)) (flitGen f.toNat) = some h →
      (entryValid (s.tblEntry d (stopIx r (18 * k)) h 0 (flitTag f.toNat)) = false →
        Completes (.brtRoute d r k f) s fun t =>
          t.f (MLR_STOP_ERR_NO_ENTRY (stopBase d r (18 * k))) = 1 ∧ t.clusters = s.clusters) ∧
      (∀ dir, dir < 2 → entryValid (s.tblEntry d (stopIx r (18 * k)) h 0 (flitTag f.toNat)) = true →
        slice (s.tblEntry d (stopIx r (18 * k)) h 0 (flitTag f.toNat)) 0 3 = dir + 1 →
        ((s.injQueue d (stopIx r (18 * k)) dir).length < 32 →
          Completes (.brtRoute d r k f) s fun t =>
            t.injQueue d (stopIx r (18 * k)) dir = s.injQueue d (stopIx r (18 * k)) dir ++
              [(withDst (withTag f.toNat (entryTag (s.tblEntry d (stopIx r (18 * k)) h 0 (flitTag f.toNat))))
                (slice (s.tblEntry d (stopIx r (18 * k)) h 0 (flitTag f.toNat)) 8 6),
                slice (s.tblEntry d (stopIx r (18 * k)) h 0 (flitTag f.toNat)) 14 1)] ∧
            ((s.exitsAt d (stopIx r (18 * k) * 2) ++ s.exitsAt d (stopIx r (18 * k) * 2 + 1)).all isScheduled = true →
              t.regs = s.regs)) ∧
        (32 ≤ (s.injQueue d (stopIx r (18 * k)) dir).length → Completes (.brtRoute d r k f) s fun t => t = s)))

/-- R276. The flit at the head of an inbound neighbour or hub port goes to the output port of its CRT entry with its tag
replaced; a generation or an entry that the die does not have is an error of the Confluence. -/
def Sys2Proof.ConfluencePortsRouteByTheirTable : Prop :=
  ∀ (s : State) (d : Fin 4) (port : Fin 3) (f : BitVec 54) (rest : List Nat), s.domainOn (32 + d) = true →
    isScheduled f.toNat = true → s.exitsAt d (592 + port) = f.toNat :: rest →
    (s.dieHalfFor d (flitGen f.toNat) = none →
      Completes (.crtRoute d port f) s fun t => t.f (MLR_CFL_ERR_GEN_MISS d) = 1) ∧
    (∀ h, s.dieHalfFor d (flitGen f.toNat) = some h →
      (entryValid (s.tblEntry d (288 + port) h 0 (flitTag f.toNat)) = false →
        Completes (.crtRoute d port f) s fun t => t.f (MLR_CFL_ERR_ROUTE_MISS d) = 1) ∧
      (entryValid (s.tblEntry d (288 + port) h 0 (flitTag f.toNat)) = true → rest.all isScheduled = true →
        slice (s.tblEntry d (288 + port) h 0 (flitTag f.toNat)) 0 5 ≤ 19 →
        Completes (.crtRoute d port f) s fun t =>
          Sparse.get [] (t.die d).cross (slice (s.tblEntry d (288 + port) h 0 (flitTag f.toNat)) 0 5) =
            Sparse.get [] (s.die d).cross (slice (s.tblEntry d (288 + port) h 0 (flitTag f.toNat)) 0 5) ++
              [⟨16 + port.val, withTag f.toNat (entryTag (s.tblEntry d (288 + port) h 0 (flitTag f.toNat)))⟩] ∧
            t.exitsAt d (592 + port) = rest ∧ t.regs = s.regs))

/-- R275, R279, R274. An output port of the crossbar grants the first flit of the lowest class: a scheduled flit crosses to
a far side that is ON, waits while that side is full, and is lost with PORT_OFF when it is off. -/
def Sys2Proof.TheCrossbarGrantsByClass : Prop :=
  ∀ (s : State) (d : Fin 4) (port : Fin 20) (x : CrossFlit), s.domainOn (32 + d) = true →
    bestCross (Sparse.get [] (s.die d).cross port) = some x → isScheduled x.flit = true →
    (s.domainOn (farDomain d port) = true → s.crossRoom d port x.flit = true → port.val ≠ 16 → port.val ≠ 17 →
      Completes (.crossbarGrant d port) s fun t =>
        t.inboundAt d (farList port) = s.inboundAt d (farList port) ++ [⟨x.from_, x.flit⟩] ∧
          Sparse.get [] (t.die d).cross port = removeFirst (· == x) (Sparse.get [] (s.die d).cross port) ∧
          t.regs = s.regs) ∧
    (s.domainOn (farDomain d port) = true → s.crossRoom d port x.flit = true → port.val = 16 ∨ port.val = 17 →
      (s.exitsAt (farQueue d port).1 (farQueue d port).2).all isScheduled = true →
      Completes (.crossbarGrant d port) s fun t =>
        t.exitsAt (farQueue d port).1 (farQueue d port).2 = s.exitsAt (farQueue d port).1 (farQueue d port).2 ++ [x.flit] ∧
          t.regs = s.regs) ∧
    (s.crossRoom d port x.flit = false → Completes (.crossbarGrant d port) s fun t => t = s) ∧
    (s.domainOn (farDomain d port) = false →
      Completes (.crossbarGrant d port) s fun t =>
        t.f (MLR_CFL_ERR_PORT_OFF d) = 1 ∧
          Sparse.get [] (t.die d).cross port = removeFirst (· == x) (Sparse.get [] (s.die d).cross port))

/-- R340. A Confluence counts the write acknowledgements of a frame tag; the one that makes HBC_WACK.ACT ends the count. -/
def Sys2Proof.WriteAcknowledgementsAreCounted : Prop :=
  ∀ (s : State) (d : Fin 4) (ftag : BitVec 2), s.domainOn (32 + d) = true →
    (Sparse.get 0 s.seq.acks (d.val * 4 + ftag.toNat) + 1 = s.f (HBC_WACK_ACT d) →
      Completes (.writeAckAbsorb d ftag) s fun t =>
        Sparse.get 0 t.seq.acked (d.val * 4 + ftag.toNat) = 1 ∧ Sparse.get 0 t.seq.acks (d.val * 4 + ftag.toNat) = 0 ∧
          t.regs = s.regs) ∧
    (Sparse.get 0 s.seq.acks (d.val * 4 + ftag.toNat) + 1 ≠ s.f (HBC_WACK_ACT d) →
      Completes (.writeAckAbsorb d ftag) s fun t =>
        Sparse.get 0 t.seq.acks (d.val * 4 + ftag.toNat) = Sparse.get 0 s.seq.acks (d.val * 4 + ftag.toNat) + 1 ∧
          t.seq.acked = s.seq.acked ∧ t.regs = s.regs)

/-- The rules of the segments, exits, bridges, Confluence ports, crossbar and acknowledgements above. -/
def Obligations.FlitsMoveByTheirTables : Prop :=
  SegmentsTakeThroughFlitsFirst ∧ FlitsLeaveByTheReceiveTable ∧ BridgesRouteByTheirTable ∧
    ConfluencePortsRouteByTheirTable ∧ TheCrossbarGrantsByClass ∧ WriteAcknowledgementsAreCounted

/-- R281, R286, R296, R299. A destination answers the RESV that has reached it: with GRANT and a buffer, or with NACK while
it has none; with no RESV there, a source with a free tag takes the packet into a send buffer and sends its RESV. -/
def Sys2Proof.ReservationsAreAnswered : Prop :=
  ∀ (s : State) (dn sn : BitVec 12) (g : BitVec 8) (resp any : Bool) (gen : BitVec 4) (data : List Syl) (ex : Bool),
    (∀ f b, s.ctlAt (isRequest dn.toNat sn.toNat g.toNat) = some f →
      (isCluNode dn.toNat = false ∨ s.clusterOn (nodeClu dn.toNat) = true) →
      (bitOf f 46 = true ∨ isBehind (slice f 47 4) (s.nodeGen dn.toNat sn.toNat) = false) →
      (s.bufferFor dn.toNat (bitOf f 42) sn.toNat = some b →
        Completes (.resv dn sn g resp gen ⟨any, data, ex⟩) s fun t =>
          t = ((s.takeCtl f).setRecv dn.toNat (bitOf f 42) b { RecvBuf.reset with
            snode := sn.toNat, tag := g.toNat, gen := slice f 47 4, genAny := bitOf f 46, phase := 1, at_ := s.hub }).netSend
            dn.toNat [mkCtl 1 (slice f 47 4) (bitOf f 46) (bitOf f 42) sn.toNat dn.toNat g.toNat 0 b]) ∧
      (s.bufferFor dn.toNat (bitOf f 42) sn.toNat = none →
        Completes (.resv dn sn g resp gen ⟨any, data, ex⟩) s fun t =>
          t = (s.takeCtl f).sendNack dn.toNat f 0 ∧ (isStopNode dn.toNat = true →
            t.f (MLR_STOP_UCNT_NACK (nodeStop dn.toNat)) =
              satAdd (MLR_STOP_UCNT_NACK (nodeStop dn.toNat)).w (s.f (MLR_STOP_UCNT_NACK (nodeStop dn.toNat))) 1))) ∧
    (s.ctlAt (isRequest dn.toNat sn.toNat g.toNat) = none →
      ((s.sendBuf sn.toNat g.toNat).isSome = true → Completes (.resv dn sn g resp gen ⟨any, data, ex⟩) s fun t => t = s) ∧
      (s.sendBuf sn.toNat g.toNat = none → ex = false →
        (s.net.send.filter fun kv => kv.1 / 256 == sn.toNat).length < bufCount sn.toNat →
        Completes (.resv dn sn g resp gen ⟨any, data, ex⟩) s fun t =>
          t.sendBuf sn.toNat g.toNat =
            some ⟨dn.toNat, resp, gen.toNat, any, (data.take 63).map (·.toNat), 0, 0, s.hub, none⟩ ∧
          t.clusters = s.clusters))

/-- A control flit for a node and tag has arrived: operation, and the bits that the command names. -/
def Sys2Proof.CtlHere (s : State) (op n g f : Nat) (p : Nat → Bool) : Prop :=
  s.ctlAt (fun x => isCtl op n g x && p x) = some f

/-- R282, R283, R306. The source of a packet that waits for its answer: a GRANT sends the packet, a NACK with status 0 is
tried again after the gap until RETRY_MAX, any other ends the packet with its status, and SRC_TIMEOUT with 7. Where no
flit has arrived nothing happens. -/
def Sys2Proof.SourcesFollowTheirAnswers : Prop :=
  ∀ (s : State) (n : BitVec 12) (g : BitVec 8) (b : SendBuf), s.sendBuf n.toNat g.toNat = some b →
    (∀ (buf : Fin 4) f, CtlHere s 1 n.toNat g.toNat f (fun f => slice f 4 2 == buf.val) → b.phase = 0 →
      Completes (.grant n g buf) s fun t =>
        t.sendBuf n.toNat g.toNat = some { b with phase := 2, at_ := s.hub } ∧
          t = ((s.takeCtl f).setSend n.toNat g.toNat (some { b with phase := 2, at_ := s.hub })).netSend n.toNat
            (packetFlits n.toNat g.toNat buf b)) ∧
    (∀ (buf : Fin 4), s.ctlAt (fun f => isCtl 1 n.toNat g.toNat f && slice f 4 2 == buf.val) = none →
      Completes (.grant n g buf) s fun t => t = s) ∧
    (∀ (st : BitVec 4) f, CtlHere s 2 n.toNat g.toNat f (fun f => slice f 6 4 == st.toNat) → b.phase = 0 →
      (st ≠ 0 →
        Completes (.nack n g st) s fun t =>
          t.sendBuf n.toNat g.toNat = none ∧ t.net.last = some ⟨n.toNat, g.toNat, st.toNat⟩ ∧ t.regs = s.regs) ∧
      (st = 0 → s.f (MLR_UCFG_RETRY_MAX (nodeDie n.toNat b.dnode)) ≤ b.nacks + 1 →
        Completes (.nack n g st) s fun t =>
          t.sendBuf n.toNat g.toNat = none ∧ t.net.last = some ⟨n.toNat, g.toNat, 6⟩ ∧ t.regs = s.regs) ∧
      (st = 0 → b.nacks + 1 < s.f (MLR_UCFG_RETRY_MAX (nodeDie n.toNat b.dnode)) →
        s.f (MLR_UCFG_RETRY_GAP (nodeDie n.toNat b.dnode)) ≠ 0 →
        Completes (.nack n g st) s fun t =>
          t.sendBuf n.toNat g.toNat = some { b with nacks := b.nacks + 1, phase := 1, at_ := s.hub } ∧ t.regs = s.regs)) ∧
    (∀ (st : BitVec 4), s.ctlAt (fun f => isCtl 2 n.toNat g.toNat f && slice f 6 4 == st.toNat) = none →
      Completes (.nack n g st) s fun t => t = s) ∧
    (b.phase = 1 → s.elapsedRing b.at_ (s.f (MLR_UCFG_RETRY_GAP (nodeDie n.toNat b.dnode))) = true →
      Completes (.retryGapExpiry n g) s fun t =>
        t.sendBuf n.toNat g.toNat = some { b with phase := 0, at_ := s.hub } ∧ t.clusters = s.clusters) ∧
    (b.phase = 2 → s.elapsedRing b.at_ (s.f (MLR_UTO_SRC (nodeDie n.toNat b.dnode))) = true →
      Completes (.srcTimeout n g) s fun t =>
        t.sendBuf n.toNat g.toNat = none ∧ t.net.last = some ⟨n.toNat, g.toNat, 7⟩ ∧ t.regs = s.regs)

/-- R284, R285, R306, R308. A DONE, or a packet that comes back, ends the packet that its source has sent with the status
it carries; where nothing is outstanding the stop sets STRAY. -/
def Sys2Proof.PacketsEndAtTheirSource : Prop :=
  ∀ (s : State) (n : BitVec 12) (g : BitVec 8),
    (∀ f, s.ctlAt (isCtl 3 n.toNat g.toNat) = some f →
      (s.outstanding n.toNat g.toNat = true →
        Completes (.done n g) s fun t =>
          t.sendBuf n.toNat g.toNat = none ∧ t.net.last = some ⟨n.toNat, g.toNat, slice f 6 4⟩ ∧ t.regs = s.regs) ∧
      (s.outstanding n.toNat g.toNat = false → isStopNode n.toNat = true →
        Completes (.done n g) s fun t => t.f (MLR_STOP_ERR_STRAY (nodeStop n.toNat)) = 1)) ∧
    (s.ctlAt (isCtl 3 n.toNat g.toNat) = none → Completes (.done n g) s fun t => t = s) ∧
    (∀ st : BitVec 4,
      ((n.toNat * 256 + g.toNat, st.toNat) ∈ s.net.ret →
        (s.outstanding n.toNat g.toNat = true →
          Completes (.returnedPacket n g st) s fun t =>
            t.sendBuf n.toNat g.toNat = none ∧ t.net.last = some ⟨n.toNat, g.toNat, st.toNat⟩ ∧ t.regs = s.regs) ∧
        (s.outstanding n.toNat g.toNat = false → isStopNode n.toNat = true →
          Completes (.returnedPacket n g st) s fun t => t.f (MLR_STOP_ERR_STRAY (nodeStop n.toNat)) = 1)) ∧
      ((n.toNat * 256 + g.toNat, st.toNat) ∉ s.net.ret → Completes (.returnedPacket n g st) s fun t => t = s))

/-- R296, R297, R300, R305. A whole packet is delivered when its generation is active or it names none, held when that is
still to come, and returned when it has passed or the cluster has left ON; the unit takes a delivered packet and sends
DONE, with REFUSED where it rejects the packet; a packet held or not taken for MLR_UTO.HOLD is returned. -/
def Sys2Proof.DestinationsDeliverOrReturn : Prop :=
  ∀ (s : State) (n : BitVec 12) (resp : Bool) (buf : Nat) (b : RecvBuf), b = s.recvBuf n.toNat resp buf → buf < 64 →
    (b.full = false → Completes (.packetReceived n resp buf) s fun t => t = s) ∧
    (b.full = true →
      (s.nodeOff n.toNat = true ∨ b.off = true →
        Completes (.packetReceived n resp buf) s fun t => t = s.returnPacket n.toNat resp buf 1) ∧
      (s.nodeOff n.toNat = false → b.off = false →
        (b.genAny = true ∨ b.gen = s.nodeGen n.toNat b.snode →
          Completes (.packetReceived n resp buf) s fun t =>
            t.recvBuf n.toNat resp buf = { b with phase := 3, at_ := s.hub } ∧ t.regs = s.regs) ∧
        (b.genAny = false → b.gen ≠ s.nodeGen n.toNat b.snode → isBehind b.gen (s.nodeGen n.toNat b.snode) = true →
          Completes (.packetReceived n resp buf) s fun t => t = s.returnPacket n.toNat resp buf 3) ∧
        (b.genAny = false → b.gen ≠ s.nodeGen n.toNat b.snode → isBehind b.gen (s.nodeGen n.toNat b.snode) = false →
          Completes (.packetReceived n resp buf) s fun t =>
            t.recvBuf n.toNat resp buf = { b with phase := 2, at_ := s.hub } ∧ t.regs = s.regs))) ∧
    (b.phase = 3 → s.nodeOff n.toNat = false →
      ∀ refused, Completes (.packetTaken n resp ⟨buf, refused⟩) s fun t =>
        t = (s.setRecv n.toNat resp buf RecvBuf.reset).netSend n.toNat
          [mkCtl 3 b.gen b.genAny resp b.snode n.toNat b.tag (if refused then 8 else 0) 0]) ∧
    (b.phase ≠ 3 → ∀ refused, Completes (.packetTaken n resp ⟨buf, refused⟩) s fun t => t = s) ∧
    (b.phase = 2 ∨ b.phase = 3 →
      s.elapsedRing b.at_ (s.f (MLR_UTO_HOLD (nodeDie n.toNat b.snode))) = true →
      Completes (.holdTimeout n resp buf) s fun t =>
        t = s.returnPacket n.toNat resp buf (if b.phase = 2 then 2 else 4))

/-- The rules of ReservationsAreAnswered, SourcesFollowTheirAnswers, PacketsEndAtTheirSource and
DestinationsDeliverOrReturn. -/
def Obligations.PacketsReserveTransferAndComplete : Prop :=
  ReservationsAreAnswered ∧ SourcesFollowTheirAnswers ∧ PacketsEndAtTheirSource ∧ DestinationsDeliverOrReturn

/-- R290 to R294, R315 to R319. A generation that is not ahead, an ARM of nothing or of a frame that has passed, and a NOW
while frames run set GEN_ERR; NOW swaps the tables at once; a table command reads, writes or clears entries of the half
that MLR_TBL_ADDR names and is refused with STATE while Billet runs; a zero field of MLR_UTO is left as it is. -/
def Obligations.GenerationsAndSlotTables : Prop :=
  ∀ (s : State) (p : Path) (d : Fin 4),
    (Reached s (MLR_GEN_CTRL d) → ∀ v : Word, slice v.toNat 4 4 = 8 →
      ((slice v.toNat 0 4 + 16 - s.f (MLR_GEN_STATUS_ACTIVE_GEN d)) % 16 ≠ 0 →
        (slice v.toNat 0 4 + 16 - s.f (MLR_GEN_STATUS_ACTIVE_GEN d)) % 16 < 8 →
        Completes (.setGen p d v) s fun t =>
          t.f (MLR_GEN_STATUS_PEND_GEN d) = slice v.toNat 0 4 ∧ t.f (MLR_GEN_STATUS_PEND_VALID d) = 1 ∧
            Frame [MLR_GEN_STATUS d] s t) ∧
      (8 ≤ (slice v.toNat 0 4 + 16 - s.f (MLR_GEN_STATUS_ACTIVE_GEN d)) % 16 →
        Completes (.setGen p d v) s fun t =>
          t.f (MLR_GEN_STATUS_GEN_ERR d) = 1 ∧ t.f (MLR_GEN_STATUS_PEND_GEN d) = s.f (MLR_GEN_STATUS_PEND_GEN d) ∧
            Frame (MLR_GEN_STATUS d :: noticeRegs) s t)) ∧
    (Reached s (MLR_GEN_CTRL d) → ∀ v : Word, slice v.toNat 4 4 = 1 →
      (s.f (MLR_GEN_STATUS_PEND_VALID d) = 1 → s.frameNo < s.f64 (MLR_GEN_FRAME d) →
        Completes (.arm p d v) s fun t => t.f (MLR_GEN_STATUS_ARMED d) = 1 ∧ Frame [MLR_GEN_STATUS d] s t) ∧
      (s.f (MLR_GEN_STATUS_PEND_VALID d) = 0 ∨ s.f64 (MLR_GEN_FRAME d) ≤ s.frameNo →
        Completes (.arm p d v) s fun t =>
          t.f (MLR_GEN_STATUS_GEN_ERR d) = 1 ∧ t.f (MLR_GEN_STATUS_ARMED d) = s.f (MLR_GEN_STATUS_ARMED d))) ∧
    (Reached s (MLR_GEN_CTRL d) → ∀ v : Word, slice v.toNat 4 4 = 2 →
      (s.framesMode = false → s.f (MLR_GEN_STATUS_PEND_VALID d) = 1 →
        Completes (.now p d v) s fun t =>
          t.f (MLR_GEN_STATUS_ACTIVE_GEN d) = s.f (MLR_GEN_STATUS_PEND_GEN d) ∧ t.f (MLR_GEN_STATUS_PEND_VALID d) = 0 ∧
            t.f (MLR_GEN_STATUS_ARMED d) = 0 ∧ (t.die d).half = 1 - (s.die d).half ∧
            t.f (HBC_WACK_ACT d) = s.f (HBC_WACK_PEND d) ∧ Frame [MLR_GEN_STATUS d, HBC_WACK d] s t) ∧
      (s.framesMode = true →
        Completes (.now p d v) s fun t => t.f (MLR_GEN_STATUS_GEN_ERR d) = 1 ∧ t.mlr = s.mlr)) ∧
    (Reached s (MLR_GEN_CTRL d) → ∀ v : Word, slice v.toNat 4 4 = 4 →
      Completes (.cancel p d v) s fun t =>
        t.f (MLR_GEN_STATUS_ARMED d) = 0 ∧ t.f (MLR_GEN_STATUS_PEND_VALID d) = 0 ∧ t.mlr = s.mlr ∧
          Frame [MLR_GEN_STATUS d] s t) ∧
    (Reached s (MLR_UTO d) → ∀ v : Word,
      Completes (.utoWrite p d v) s fun t =>
        t.f (MLR_UTO_HOLD d) = (if slice v.toNat 0 16 = 0 then s.f (MLR_UTO_HOLD d) else slice v.toNat 0 16) ∧
          t.f (MLR_UTO_SRC d) = (if slice v.toNat 16 16 = 0 then s.f (MLR_UTO_SRC d) else slice v.toNat 16 16) ∧
          (slice v.toNat 0 16 = 0 ∨ slice v.toNat 16 16 = 0 → t.f (MLR_CFL_ERR_ARG d) = 1)) ∧
    (Reached s (MLR_TBL_CMD d) →
      (∀ v : Word, slice v.toNat 0 3 = 1 → s.tblRefusal d 1 = 0 →
        Completes (.mlrTblRead p d v) s fun t =>
          (t.reg (MLR_TBL_D0 d)).toNat + 2 ^ 32 * (t.reg (MLR_TBL_D1 d)).toNat =
            s.tblEntry d (s.tblStop d) (s.tblHalf d) (s.tblTable d) (s.f (MLR_TBL_ADDR_ENTRY d)) % 2 ^ 64 ∧
          t.f (MLR_TBL_STAT_ERR d) = 0 ∧ t.mlr = s.mlr) ∧
      (∀ v : Word, slice v.toNat 0 3 = 2 → s.tblRefusal d 2 = 0 →
        Completes (.mlrTblWrite p d v) s fun t =>
          t.tblEntry d (s.tblStop d) (s.tblHalf d) (s.tblTable d) (s.f (MLR_TBL_ADDR_ENTRY d)) =
            ((s.reg (MLR_TBL_D0 d)).toNat &&& (tblMask (s.f (MLR_TBL_ADDR_TABLE d))).1) +
              ((s.reg (MLR_TBL_D1 d)).toNat &&& (tblMask (s.f (MLR_TBL_ADDR_TABLE d))).2) * 2 ^ 32 ∧
          t.f (MLR_TBL_STAT_ERR d) = 0 ∧ Frame [MLR_TBL_STAT d, MLR_TBL_ADDR d] s t) ∧
      (∀ v : Word, slice v.toNat 0 3 = 4 → s.tblRefusal d 4 = 0 →
        Completes (.mlrTblClear p d v) s fun t =>
          t.validEntries d (s.tblStop d) (s.tblHalf d) (s.tblTable d) = [] ∧ Frame [MLR_TBL_STAT d] s t) ∧
      (∀ v : Word, slice v.toNat 0 3 ≠ 0 → s.billetRuns = true →
        Completes (.mlrTblWrite p d v) s fun t => t.f (MLR_TBL_STAT_ERR d) = 1 ∧ t.mlr = s.mlr))

/-! ### Design memory (06_memory_system) -/

/-- A pseudo-channel holds one request, and nothing waits at the memory port. -/
def Sys2Proof.OneRequest (s : State) (d pc : Nat) (q : HbcReq) : Prop :=
  Sparse.get [] (s.ctl d).queue pc = [q] ∧ (s.ctl d).blocked = [] ∧ windowKind (Sparse.get 0 (s.ctl d).win pc) = 0 ∧
    q.rport ≤ 19

/-- A request leaves its queue with a reply word, which enters the crossbar toward its port. -/
def Sys2Proof.AnsweredWith (s t : State) (d pc : Nat) (q : HbcReq) (word : Nat) : Prop :=
  Sparse.get [] (t.ctl d).queue pc = [] ∧
    Sparse.get [] (t.die d).cross q.rport =
      Sparse.get [] (s.die d).cross q.rport ++ [⟨19, mkFlit 3 q.gen 0 q.rtag q.stamp word⟩]

/-- R323, R325, R327, R335, R336, R337, R341 to R344, R350, R353, R363. The parts of a request are gathered under their MQT
entry, and dropped after 64 ring cycles; each window counts; a design window serves the queue's request by the block's
tag: a read is answered, a write's second half writes its word and the tag; an uncorrected read is tried again. -/
def Obligations.HbmRequestsAreGatheredAndServed : Prop :=
  ∀ (s : State) (d : Fin 4), s.domainOn (36 + d) = true →
    (∀ (port : Fin 18) (f : BitVec 54), flitType f.toNat = 2 →
      ((s.ctl d).blocked = [] → s.mqtEntry d port f.toNat = none →
        Completes (.mreqPartArrival d port f) s fun t =>
          t.f (HBC_ERR_MQT_MISS d) = 1 ∧ (t.ctl d).parts = (s.ctl d).parts ∧ t.hbm = s.hbm) ∧
      (∀ e, (s.ctl d).blocked = [] → s.mqtEntry d port f.toNat = some e → slice e 0 2 = 0 → 2 ≤ slice e 2 2 →
        Completes (.mreqPartArrival d port f) s fun t =>
          (t.ctl d).parts = (s.ctl d).parts ++ [s.openReq port f.toNat e] ∧ t.regs = s.regs ∧ t.hbm = s.hbm) ∧
      ((s.ctl d).blocked ≠ [] →
        Completes (.mreqPartArrival d port f) s fun t =>
          (t.ctl d).blocked = (s.ctl d).blocked ++ [⟨port, f.toNat⟩] ∧ t.regs = s.regs ∧ t.hbm = s.hbm)) ∧
    (∀ (x : HbcParts) (xs : List HbcParts) (port : Fin 18) (tag : BitVec 10), (s.ctl d).parts = x :: xs →
      x.port = port.val → x.tag = tag.toNat → s.elapsedRing x.req.at_ 64 = true →
      Completes (.partialTimeout d port tag) s fun t =>
        (t.ctl d).parts = xs ∧ t.f (HBC_ERR_PARTIAL d) = 1 ∧ t.hbm = s.hbm) ∧
    (∀ (pc : Fin 32) (owner isOver : Bool) (ecc : Fin 3), Sparse.get [] (s.ctl d).queue pc = [] →
      Completes (.hbmWindow d pc owner isOver ecc) s fun t =>
        Sparse.get 0 (t.ctl d).win pc = (Sparse.get 0 (s.ctl d).win pc + 1) % 16 ∧ Frame [HBC_STAT d] s t) ∧
    (∀ (pc : Fin 32) (q : HbcReq) (b : Nat) (pl : Nat × Nat), OneRequest s d pc q → b = q.addr / 28 →
      pl = placeBlock (s.memEntry d q.mid) b →
      (q.half = none → q.wr = false → q.retry = false → tagOk (s.readBlock d pl.1 pl.2) b q.mid = true → ∀ owner,
        Completes (.hbmWindow d pc owner false 0) s fun t =>
          AnsweredWith s t d pc q (blockWord (s.readBlock d pl.1 pl.2) (q.addr % 28)) ∧ t.hbm = s.hbm) ∧
      (q.half = none → q.wr = false → q.retry = false → tagOk (s.readBlock d pl.1 pl.2) b q.mid = false → ∀ owner,
        Completes (.hbmWindow d pc owner false 0) s fun t =>
          AnsweredWith s t d pc q 0x3FFFF ∧ t.f (HBC_ERR_TAG d) = 1 ∧ t.hbm = s.hbm) ∧
      (∀ blk, q.half = some blk → q.wr = true → q.we = true → q.retry = false → ∀ owner,
        Completes (.hbmWindow d pc owner false 0) s fun t =>
          AnsweredWith s t d pc q 0 ∧
            t.hbm = (s.writeBlock d pl.1 pl.2 (putWord blk (q.addr % 28) q.data) (blockTag b q.mid)).hbm) ∧
      (q.half = none → q.retry = false → ∀ owner,
        Completes (.hbmWindow d pc owner false 2) s fun t =>
          Sparse.get [] (t.ctl d).queue pc = [{ q with retry := true }] ∧ t.regs = s.regs ∧ t.hbm = s.hbm)) ∧
    (∀ (p : Path) (v : Word), Reached s (HBC_ACQ_BASE d) →
      (slice v.toNat 0 24 ≤ 0xB00000 →
        (∀ kv ∈ (s.ctl d).mem, entryValid kv.2 = true → memEnd kv.2 ≤ slice v.toNat 0 24) →
        Completes (.acqBaseWrite p d v) s fun t =>
          t.f (HBC_ACQ_BASE_BASE d) = slice v.toNat 0 24 ∧ Frame [HBC_ACQ_BASE d] s t) ∧
      (0xB00000 < slice v.toNat 0 24 →
        Completes (.acqBaseWrite p d v) s fun t =>
          t.f (HBC_ERR_ARG d) = 1 ∧ Frame (HBC_ERR d :: noticeRegs) s t)) ∧
    (∀ (p : Path) (v : Word), Reached s (HBC_WIN d) →
      (2800 ≤ slice v.toNat 0 16 → slice v.toNat 0 16 ≤ 6700 →
        Completes (.winPeriodWrite p d v) s fun t =>
          t.f (HBC_WIN_PERIOD_PS d) = slice v.toNat 0 16 ∧ Frame [HBC_WIN d] s t) ∧
      (slice v.toNat 0 16 < 2800 ∨ 6700 < slice v.toNat 0 16 →
        Completes (.winPeriodWrite p d v) s fun t =>
          t.f (HBC_ERR_ARG d) = 1 ∧ Frame (HBC_ERR d :: noticeRegs) s t))

/-- R360, R361, R364, R851. The tables of a controller and of a cluster's memory ports are read and written through their
address registers; a cluster SRAM word is written with its check bits and read back corrected; a fill writes every word;
outside READY and HALTED a write is dropped with WR_REJ. -/
def Obligations.MemoryTablesAndClusterSram : Prop :=
  ∀ (s : State) (p : Path),
    (∀ (d : Fin 4) (v : Word), Reached s (HBC_TBL_CMD d) →
      (slice v.toNat 0 3 = 1 → s.hbcTblRefusal d 1 = 0 → s.f (HBC_TBL_ADDR_TABLE d) = 0 →
        Completes (.hbcTblRead p d v) s fun t =>
          (t.reg (HBC_TBL_D0 d)).toNat + 2 ^ 32 * (t.reg (HBC_TBL_D1 d)).toNat =
            s.memEntry d (s.f (HBC_TBL_ADDR_ENTRY d)) % 2 ^ 64 ∧ t.f (HBC_TBL_STAT_ERR d) = 0 ∧ t.hbc = s.hbc) ∧
      (slice v.toNat 0 3 = 2 → s.hbcTblRefusal d 2 = 0 → s.f (HBC_TBL_ADDR_TABLE d) = 0 →
        Completes (.hbcTblWrite p d v) s fun t =>
          t.memEntry d (s.f (HBC_TBL_ADDR_ENTRY d)) =
            (s.reg (HBC_TBL_D0 d)).toNat + ((s.reg (HBC_TBL_D1 d)).toNat &&& 0x8FFFFFFF) * 2 ^ 32 ∧
          t.f (HBC_TBL_STAT_ERR d) = 0 ∧ Frame [HBC_TBL_STAT d, HBC_TBL_ADDR d] s t) ∧
      (slice v.toNat 0 3 = 4 → s.hbcTblRefusal d 4 = 0 → s.f (HBC_TBL_ADDR_TABLE d) = 0 →
        Completes (.hbcTblClear p d v) s fun t =>
          (∀ mid, mid < 1024 → entryValid (t.memEntry d mid) = false) ∧ Frame [HBC_TBL_STAT d] s t)) ∧
    (∀ (c : ClusterId) (port : Fin 16) (v : Word), Reached s (CLU_MPD c port) →
      (s.billetRuns = false → s.cluIdle c = true → 1 ≤ slice v.toNat 2 6 → slice v.toNat 2 6 ≤ 32 → slice v.toNat 8 2 ≠ 3 →
        Completes (.mpdWrite p c port v) s fun t =>
          t.f (CLU_MPD_AW c port) = slice v.toNat 2 6 ∧ Frame [CLU_MPD c port] s t) ∧
      (s.cluIdle c = false →
        Completes (.mpdWrite p c port v) s fun t =>
          t.f (CLU_MEM_ERR_WR_REJ c) = 1 ∧ Frame (CLU_MEM_ERR c :: noticeRegs) s t)) ∧
    (∀ (c : ClusterId) (v : Word), Reached s (CLU_MRT_DATA c) → s.f (CLU_MRT_ADDR_AUTOINC c) = 0 →
      (s.billetRuns = false → s.cluIdle c = true → s.framesMode = false →
        Completes (.mrtDataAccess p c (some v)) s fun t =>
          t.mrtEntry c (s.mrtHalf c) (s.f (CLU_MRT_ADDR_STEP c)) = (v.toNat &&& 0x80000FFF) ∧ t.regs = s.regs) ∧
      Completes (.mrtDataAccess p c none) s fun t =>
        (t.path p).answer = BitVec.ofNat 32 (s.mrtEntry c (s.mrtHalf c) (s.f (CLU_MRT_ADDR_STEP c))) ∧
          t.regs = s.regs ∧ t.clusters = s.clusters) ∧
    (∀ (c : ClusterId) (v : Word), Reached s (CLU_SRW_ADDR c) → bitOf v.toNat 16 = true →
      (s.srwWritable c = true →
        Completes (.sramFill p c v) s fun t =>
          t.f (CLU_SRW_ADDR_FILL_BUSY c) = 1 ∧ (t.cl c).fill = some (s.f (CLU_SRW_DATA_DATA c)) ∧
            (t.cl c).sram = (s.cl c).sram ∧ Frame [CLU_SRW_ADDR c] s t) ∧
      (s.srwWritable c = false →
        Completes (.sramFill p c v) s fun t => t.f (CLU_MEM_ERR_WR_REJ c) = 1 ∧ t.clusters = s.clusters)) ∧
    (∀ (c : ClusterId) (v : Nat), (s.cl c).fill = some v →
      Completes (.sramFillDone c) s fun t =>
        (t.cl c).fill = none ∧ t.f (CLU_SRW_ADDR_FILL_BUSY c) = 0 ∧
          (∀ a, a < 32768 → Sparse.get 0 (t.cl c).sram a = secEncode 5 18 v) ∧ Frame [CLU_SRW_ADDR c] s t) ∧
    (∀ (c : ClusterId) (v : Word), Reached s (CLU_SRW_DATA c) →
      (s.srwWritable c = true → s.f (CLU_SRW_ADDR_AUTOINC c) = 0 →
        Completes (.srwDataWrite p c v) s fun t =>
          Sparse.get 0 (t.cl c).sram (s.f (CLU_SRW_ADDR_ADDR c)) = secEncode 5 18 (slice v.toNat 0 18) ∧
            (∀ a, a ≠ s.f (CLU_SRW_ADDR_ADDR c) → Sparse.get 0 (t.cl c).sram a = Sparse.get 0 (s.cl c).sram a) ∧
            Frame [CLU_SRW_DATA c] s t) ∧
      (s.srwReadable c = true → s.f (CLU_SRW_ADDR_AUTOINC c) = 0 →
        secDecode 5 18 (Sparse.get 0 (s.cl c).sram (s.f (CLU_SRW_ADDR_ADDR c))) = .ok →
        Completes (.srwDataRead p c) s fun t =>
          (t.path p).answer = BitVec.ofNat 32 (slice (Sparse.get 0 (s.cl c).sram (s.f (CLU_SRW_ADDR_ADDR c))) 0 18) ∧
            t.regs = s.regs ∧ t.clusters = s.clusters) ∧
      (s.srwReadable c = false →
        Completes (.srwDataRead p c) s fun t => (t.path p).answer = 0 ∧ t.f (CLU_MEM_ERR_WR_REJ c) = 1))

/-! ### Billet and the configuration controller (08_billet_loading, 14_boot_configuration) -/

/-- The ERR value that the running command of a mailbox unit will complete with. -/
def Sys2Proof.pendingErr (t : State) (u : Nat) : Nat := (Sparse.get Mailbox.reset t.mbs u).err

/-- The state in which a Billet command acts, once its mailbox has accepted it: phase 1 of an image at addr. -/
def Sys2Proof.billetAt (s : State) (cmd addr len : Nat) : State :=
  ((s.mbCommand 0 cmd id).bltStart addr len).setF BLT_STATUS_PHASE 1

/-- Billet accepts a command that reads an image: the unit is free, the device is in IDLE with BIST at rest, and the image
lies in the carve-out on an 8-byte boundary and does not name the lane of an open load channel (R404, R409, R410). -/
def Sys2Proof.ImageReadable (s : State) (addr len : Nat) : Prop :=
  Reached s BLT_CMD ∧ s.f (mbBusy 0) = 0 ∧ s.mode = Mode.idle ∧ s.f (mbBusy 41) = 0 ∧ len ≠ 0 ∧ inCarve addr len = true ∧
    addr % 8 = 0 ∧ s.ldchClash addr len = false

/-- The running command will end in phase n with an error (R412). -/
def Sys2Proof.StopsWith (t : State) (n : Nat) (e : BErr) : Prop :=
  t.blt.image = none ∧ t.blt.last = n ∧ pendingErr t 0 = e.code ∧
    (Sparse.get Mailbox.reset t.mbs 0).res0 = BitVec.ofNat 32 e.res0 ∧
    (Sparse.get Mailbox.reset t.mbs 0).res1 = BitVec.ofNat 32 e.res1

/-- Phases 1 to 4 of LOAD and RELOAD found an image and its placement, which phases 5 and 6 are to write, or an error. -/
def Sys2Proof.PlansWith (t : State) : Except (Nat × BErr) (Image × Plan) → Prop
  | .ok (g, pl) => t.blt.image = some g ∧ t.blt.plan = some pl ∧ t.blt.last = 6 ∧ pendingErr t 0 = 0
  | .error (n, e) => StopsWith t n e

/-- CHECK reports the clusters and spare stops of the placement, or the error (R412). -/
def Sys2Proof.ReportsOn (t : State) : Except (Nat × BErr) (Image × Plan) → Prop
  | .ok (_, pl) =>
    pendingErr t 0 = 0 ∧ t.blt.last = 4 ∧ t.blt.image = none ∧
      (Sparse.get Mailbox.reset t.mbs 0).res0 = BitVec.ofNat 32 (useCount (pl.map.map (·.2)))
  | .error (n, e) => StopsWith t n e

/-- REPLACE has an image whose partitions it is to stream, or the error of phase 1. -/
def Sys2Proof.ReplacesWith (t : State) : Except BErr Image → Prop
  | .ok g => t.blt.image = some g ∧ t.blt.plan = none ∧ t.blt.last = 6 ∧ pendingErr t 0 = 0
  | .error e => StopsWith t 1 e

/-- R403, R405, R412, R413, R447, R448, R857. LOAD and RELOAD check the image and plan its placement: an image that passes
phases 1 to 4 is the one that phases 5 and 6 will write, and a failed check is the error that the command ends with, in its
phase. CHECK reports the clusters and spare stops that the placement uses; REPLACE clears PROG_VALID while it runs. -/
def Sys2Proof.ImagesAreCheckedThenPlaced : Prop :=
  ∀ (s : State) (p : Path) (ecc late : Option Nat) (packet : Option (BitVec 12 × BitVec 4)),
    (ImageReadable s (s.f64 BLT_ADDR) (s.f64 BLT_LEN) →
      (Completes (.load p ⟨⟨ecc, late⟩, packet⟩) s fun t =>
        PlansWith t ((billetAt s 1 (s.f64 BLT_ADDR) (s.f64 BLT_LEN)).phasesRead (s.f64 BLT_ADDR) (s.f64 BLT_LEN) ecc
            false) ∧
          t.f (mbBusy 0) = 1 ∧ t.f BLT_STATUS_PHASE = 1 ∧ t.clusters = s.clusters ∧ SameMemory s t) ∧
      (Completes (.billetCheck p ecc) s fun t =>
        ReportsOn t ((billetAt s 2 (s.f64 BLT_ADDR) (s.f64 BLT_LEN)).phasesRead (s.f64 BLT_ADDR) (s.f64 BLT_LEN) ecc
            false) ∧
          t.f (mbBusy 0) = 1 ∧ t.f BLT_STATUS_PHASE = 1 ∧ t.clusters = s.clusters ∧ SameMemory s t) ∧
      (s.f BLT_LOADED_LOADED = 1 →
        Completes (.replace p ⟨ecc, late⟩) s fun t =>
          ReplacesWith t ((((billetAt s 5 (s.f64 BLT_ADDR) (s.f64 BLT_LEN)).setBlt
              { (billetAt s 5 (s.f64 BLT_ADDR) (s.f64 BLT_LEN)).blt with
                validBefore := s.flag DEV_MODE_PROG_VALID }).setF DEV_MODE_PROG_VALID 0).checkReplace (s.f64 BLT_ADDR)
              (s.f64 BLT_LEN) ecc) ∧
            t.f DEV_MODE_PROG_VALID = 0 ∧ t.f (mbBusy 0) = 1 ∧ t.clusters = s.clusters ∧ SameMemory s t)) ∧
    (ImageReadable s s.blt.addr s.blt.len → s.f BLT_LOADED_LOADED = 1 →
      Completes (.reload p ⟨⟨ecc, late⟩, packet⟩) s fun t =>
        PlansWith t ((billetAt s 4 s.blt.addr s.blt.len).phasesRead s.blt.addr s.blt.len ecc true) ∧
          t.f (mbBusy 0) = 1 ∧ t.f BLT_STATUS_PHASE = 1 ∧ t.clusters = s.clusters ∧ SameMemory s t)

/-- R24, R29, R404, R406, R407, R408, R410, R412, R443, R444, R446, R451, R454, R455. Billet refuses a command by its mode, an empty
image is a no-op in every mode, UNLOAD removes the program, CLRESET checks its cluster; a command that runs into BLT_CFG.TMO
ends with TIMEOUT, in phases 5 and 6 through phase 7, which is not timed;
a load-channel byte goes to its place in the buffer or sets OVF; LDCH_CTRL.EN rises only over a good buffer. -/
def Sys2Proof.BilletRefusesEndsAndTimesOut : Prop :=
  ∀ (s : State) (p : Path),
    (Reached s BLT_CMD → s.f (mbBusy 0) = 0 →
      (s.mode ≠ Mode.idle ∨ s.f (mbBusy 41) = 1 → ∀ ecc late packet,
        (s.f64 BLT_LEN ≠ 0 →
          Completes (.load p ⟨⟨ecc, late⟩, packet⟩) s fun t => pendingErr t 0 = 3 ∧ t.hbm = s.hbm ∧ t.clusters = s.clusters) ∧
        Completes (.unload p) s (fun t => pendingErr t 0 = 3 ∧ t.hbm = s.hbm ∧ t.clusters = s.clusters) ∧
        Completes (.reload p ⟨⟨ecc, late⟩, packet⟩) s (fun t => pendingErr t 0 = 3 ∧ t.hbm = s.hbm ∧ t.clusters = s.clusters) ∧
        Completes (.replace p ⟨ecc, late⟩) s fun t => pendingErr t 0 = 3 ∧ t.hbm = s.hbm ∧ t.clusters = s.clusters) ∧
      (s.framesMode = false → s.mode ≠ Mode.idle → s.f64 BLT_LEN ≠ 0 → ∀ ecc,
        Completes (.billetCheck p ecc) s fun t => pendingErr t 0 = 3 ∧ t.hbm = s.hbm ∧ t.clusters = s.clusters) ∧
      (s.f64 BLT_LEN = 0 → ∀ ecc late packet,
        Completes (.billetCheck p ecc) s (fun t => pendingErr t 0 = 0 ∧ t.hbm = s.hbm ∧ t.clusters = s.clusters) ∧
        Completes (.load p ⟨⟨ecc, late⟩, packet⟩) s fun t =>
          pendingErr t 0 = 0 ∧ t.hbm = s.hbm ∧ t.clusters = s.clusters ∧ t.blt.place = s.blt.place) ∧
      (s.mode = Mode.idle → s.f (mbBusy 41) = 0 → s.pwr.billet ≠ 0 →
        Completes (.unload p) s fun t =>
          pendingErr t 0 = 0 ∧ t.f DEV_MODE_PROG_VALID = 0 ∧ t.f BLT_LOADED_LOADED = 0 ∧ t.pwr.billet = 0 ∧
            t.blt.place = [] ∧ t.blt.mems = []) ∧
      (s.mode = Mode.idle → s.f (mbBusy 41) = 0 → 1087 < s.f BLT_SEL_CLUSTER →
        Completes (.clreset p) s fun t => pendingErr t 0 = 2 ∧ t.clusters = s.clusters) ∧
      (s.mode = Mode.idle → s.f (mbBusy 41) = 0 → s.f BLT_SEL_CLUSTER ≤ 1087 → s.fuseFailed (s.f BLT_SEL_CLUSTER) = false →
        s.isMapped (s.f BLT_SEL_CLUSTER) = true → s.domainOn (s.f BLT_SEL_CLUSTER / 34) = true →
        Completes (.clreset p) s fun t =>
          pendingErr t 0 = 0 ∧ t.f DEV_MODE_PROG_VALID = 0 ∧ t.cluState (s.f BLT_SEL_CLUSTER) = 0 ∧
            (t.cl (s.f BLT_SEL_CLUSTER)).imem = [])) ∧
    (s.mbRuns 0 = true → s.elapsedSteered s.blt.startAt (s.f BLT_CFG_TMO_MS * 1000000) = true →
      (s.f BLT_STATUS_PHASE ∉ [5, 6, 7] →
        Completes .billetTimeout s fun t =>
          t.f (mbBusy 0) = 1 ∧ t.f (mbErr 0) = 4 ∧ t.f BLT_STATUS_PHASE = 0 ∧
            (Sparse.get Mailbox.reset t.mbs 0).ended = true ∧ (∀ i, i < 2 → t.reg (BLT_RESULT i) = 0) ∧ SameMemory s t) ∧
      (s.f BLT_STATUS_PHASE = 5 ∨ s.f BLT_STATUS_PHASE = 6 → s.blt.image.isSome = true → s.blt.plan.isSome = true →
        Completes .billetTimeout s fun t =>
          t.f BLT_STATUS_PHASE = 7 ∧ pendingErr t 0 = 4 ∧ t.f DEV_MODE_PROG_VALID = 0 ∧ t.f BLT_LOADED_LOADED = 0 ∧
            t.blt.place = [] ∧ t.pwr.billet = 0)) ∧
    (s.mbRuns 0 = false ∨ s.f BLT_STATUS_PHASE = 7 ∨
      s.elapsedSteered s.blt.startAt (s.f BLT_CFG_TMO_MS * 1000000) = false →
      Completes .billetTimeout s fun t => t = s) ∧
    (∀ (lane : LaneId) (b : Byte), s.f BLT_LDCH_CTRL_EN = 1 → s.f BLT_LDCH_CTRL_LANE = lane →
      ((s.reg BLT_LDCH_CNT).toNat < (s.reg BLT_LDCH_LEN).toNat →
        Completes (.loadChannelBlock lane [b]) s fun t =>
          t.hbmByte (carveKey (s.f64 BLT_LDCH_ADDR + (s.reg BLT_LDCH_CNT).toNat - carveBase)) = b ∧
            t.reg BLT_LDCH_CNT = s.reg BLT_LDCH_CNT + 1 ∧ OnlyRegs [BLT_LDCH_CNT] s t) ∧
      (∀ bytes : List Byte, s.ldchGood = true → (s.reg BLT_LDCH_CNT).toNat + bytes.length ≤ (s.reg BLT_LDCH_LEN).toNat →
        Completes (.loadChannelBlock lane bytes) s fun t =>
          (∀ i b, bytes[i]? = some b →
            t.hbmByte (carveKey (s.f64 BLT_LDCH_ADDR + (s.reg BLT_LDCH_CNT).toNat + i - carveBase)) = b) ∧
          (t.reg BLT_LDCH_CNT).toNat = (s.reg BLT_LDCH_CNT).toNat + bytes.length ∧ OnlyRegs [BLT_LDCH_CNT] s t) ∧
      ((s.reg BLT_LDCH_LEN).toNat ≤ (s.reg BLT_LDCH_CNT).toNat →
        Completes (.loadChannelBlock lane [b]) s fun t =>
          t.f BLT_LDCH_CTRL_OVF = 1 ∧ Frame [BLT_LDCH_CTRL] s t)) ∧
    (∀ v : Word, Reached s BLT_LDCH_CTRL → s.f BLT_LDCH_CTRL_EN = 0 → bitOf v.toNat 8 = true →
      (s.ldchGood = true →
        Completes (.ldchEnable p v) s fun t =>
          t.f BLT_LDCH_CTRL_EN = 1 ∧ t.f BLT_LDCH_CTRL_LANE = slice v.toNat 0 7 ∧ t.f BLT_LDCH_CTRL_OVF = 0 ∧
            t.reg BLT_LDCH_CNT = 0 ∧ Frame [BLT_LDCH_CTRL, BLT_LDCH_CNT] s t) ∧
      (s.ldchGood = false →
        Completes (.ldchEnable p v) s fun t => t = s.setF BLT_LDCH_CTRL_ADDR_REJ 1)) ∧
    (∀ (i : Fin 34) (v : Word), Reached s (BLT_FAILMAP i) →
      Completes (.failmapWrite p i v) s fun t => t.reg (BLT_FAILMAP i) = v ∧ Frame [BLT_FAILMAP i] s t)

/-- The rules of ImagesAreCheckedThenPlaced and the rules of BilletRefusesEndsAndTimesOut. -/
def Obligations.BilletCommandsTimeoutAndLoadChannel : Prop := ImagesAreCheckedThenPlaced ∧ BilletRefusesEndsAndTimesOut

/-- The registers that the end of a configuration command writes. -/
def Sys2Proof.cfgEnds (s t : State) (err : Nat) : Prop :=
  t.f (mbErr 40) = err ∧ (Sparse.get Mailbox.reset t.mbs 40).ended = true ∧ t.f CFG_STATUS_PHASE = 0 ∧ t.cfg.job = 0 ∧
    SameMemory s t

/-- R29, R652, R653, R657, R658, R664, R665, R666, R667, R668, R669. A load goes from phase to phase; a failure in the header
ends it, one in a later phase clears the frames first; a phase that runs into its limit fails with TIMEOUT, DONE with 15;
the fabric runs 128 hub cycles after its clocks locked; commands act only in their modes; a fuse row only gains bits. -/
def Obligations.ConfigurationPhasesAndCommands : Prop :=
  ∀ (s : State) (p : Path),
    (s.f CFG_STATUS_PHASE = 1 →
      (s.headerErr = none →
        Completes (.cfgPhaseComplete none) s fun t =>
          t.f CFG_STATUS_PHASE = 2 ∧ t.cfg.at_ = s.tmk.steered ∧ Frame [CFG_STATUS] s t) ∧
      (∀ e, s.headerErr = some e → e < 16 → s.cfg.job ≠ 1 → Completes (.cfgPhaseComplete none) s fun t => cfgEnds s t e) ∧
      (s.cfg.job ≠ 1 → s.elapsedSteered s.cfg.at_ (max 1 (s.f CFG_TMO_STEP_MS) * 1000000) = true →
        Completes .cfgPhaseTimeout s fun t => cfgEnds s t 4)) ∧
    (s.f CFG_STATUS_PHASE = 4 →
      (s.elapsedSteered s.cfg.at_ (max 1 (s.f CFG_TMO_DONE_MS) * 1000000) = true → s.cfg.job ≠ 5 →
        Completes .cfgPhaseTimeout s fun t =>
          t.f CFG_STATUS_PHASE = 6 ∧ t.cfg.fail = (15, 0, 0) ∧ t.f CFG_STATE_CONFIGURED = 0 ∧ SameMemory s t) ∧
      (s.elapsed s.cfg.hubAt 1000 = true → s.cfg.doneLow = false →
        Completes .doneLineHigh s fun t =>
          t.f CFG_STATE_DONE_LINE = 1 ∧ t.f CFG_STATUS_PHASE = 5 ∧ Frame [CFG_STATE, CFG_STATUS] s t)) ∧
    (s.cfg.doneLow = true → Completes .doneLineHigh s fun t => t = s) ∧
    (s.cfg.doneLow = false → s.f CFG_STATUS_PHASE ≠ 4 →
      Completes .doneLineHigh s fun t => t = s.setF CFG_STATE_DONE_LINE 1) ∧
    (s.f CFG_STATUS_PHASE = 5 → s.domainOn 72 = true →
      (s.cfg.lockedAt = none →
        Completes .clocksLocked s fun t => t.cfg.lockedAt = some s.hub ∧ t.regs = s.regs) ∧
      (∀ at_, s.cfg.lockedAt = some at_ →
        (s.elapsed at_ 128 = true →
          Completes (.cfgPhaseComplete none) s fun t =>
            cfgEnds s t 0 ∧ t.f CFG_STATE_CONFIGURED = 1 ∧ t.f CFG_STATE_GSR = 0 ∧ t.f FAB_STATUS_CONFIGURED = 1) ∧
        (s.elapsed at_ 128 = false → Completes (.cfgPhaseComplete none) s fun t => t = s))) ∧
    (s.f CFG_STATUS_PHASE = 6 → s.cfg.job ≠ 1 → s.cfg.fail.1 < 16 → ∀ ecc,
      Completes (.cfgPhaseComplete ecc) s fun t => cfgEnds s t s.cfg.fail.1 ∧ t.cfg.frames = []) ∧
    (Reached s CFG_CMD → s.f (mbBusy 40) = 0 →
      (s.mode = Mode.boot ∨ s.mode = Mode.idle →
        Completes (.loadSlot p) s (fun t =>
          t.f CFG_STATUS_PHASE = 1 ∧ t.cfg.job = 2 ∧ t.cfg.slot = slice (s.reg (CFG_ARG 0)).toNat 0 1) ∧
        Completes (.verify p) s (fun t =>
          t.f CFG_STATUS_PHASE = 1 ∧ t.cfg.job = 5 ∧ t.cfg.slot = slice (s.reg (CFG_ARG 0)).toNat 0 1) ∧
        Completes (.cfgClear p) s fun t =>
          t.f CFG_STATUS_PHASE = 6 ∧ t.cfg.fail = (0, 0, 0) ∧ t.f CFG_STATE_CONFIGURED = 0) ∧
      (s.reg (CFG_ARG 0) = 0 → Completes (.loadMem p) s fun t => pendingErr t 40 = 0 ∧ t.cfg = s.cfg) ∧
      (s.mode = Mode.idle →
        (s.reg (CFG_ARG 0) ≠ 0 → inCarve (s.f64 (CFG_ARG 1)) (s.reg (CFG_ARG 0)).toNat = true →
          Completes (.loadMem p) s fun t =>
            t.f CFG_STATUS_PHASE = 1 ∧ t.cfg.job = 3 ∧ t.cfg.addr = s.f64 (CFG_ARG 1))) ∧
      (s.mode = Mode.run →
        Completes (.loadSlot p) s (fun t => pendingErr t 40 = 3 ∧ t.cfg = s.cfg) ∧
        (s.reg (CFG_ARG 0) ≠ 0 → Completes (.loadMem p) s fun t => pendingErr t 40 = 3 ∧ t.cfg = s.cfg) ∧
        Completes (.cfgClear p) s (fun t => pendingErr t 40 = 3 ∧ t.cfg = s.cfg) ∧
        Completes (.fuseProg p) s fun t => pendingErr t 40 = 3 ∧ t.cfg = s.cfg) ∧
      (s.mode = Mode.boot → (s.reg (CFG_ARG 0)).toNat ≤ 61 → 8 ≤ (s.reg (CFG_ARG 0)).toNat ∨ bitOf (s.fuse 56) 10 = false →
        Completes (.fuseProg p) s fun t =>
          t.fuse (s.reg (CFG_ARG 0)).toNat = (s.fuse (s.reg (CFG_ARG 0)).toNat ||| (s.reg (CFG_ARG 1)).toNat) ∧
            (∀ r, r ≠ (s.reg (CFG_ARG 0)).toNat → t.fuse r = s.fuse r) ∧ pendingErr t 40 = 0) ∧
      (s.mode = Mode.boot → 61 < (s.reg (CFG_ARG 0)).toNat →
        Completes (.fuseProg p) s fun t => pendingErr t 40 = 2 ∧ t.cfg = s.cfg))

/-- R643, R668, R671, R672, R674, R675, R677. The battery-backed key is written and erased only in BOOT, and is lost with VBAT; a
window access to the MRAM never reaches the Guestbook partition; the scrubber reads one syllable at a time, reports an
uncorrectable one, and stops at the third restart without a pass between. -/
def Obligations.KeysMramAndScrubbing : Prop :=
  ∀ (s : State) (p : Path),
    (Reached s CFG_BBKEY_CTRL → ∀ v : Word,
      (s.mode = Mode.boot → slice v.toNat 0 2 = 1 →
        Completes (.commit p v) s fun t =>
          t.cfg.key = some s.bbKey ∧ (∀ i, i < 8 → t.reg (CFG_BBKEY i) = 0) ∧ SameMemory s t) ∧
      (s.mode = Mode.boot → slice v.toNat 0 2 = 2 →
        Completes (.erase p v) s fun t =>
          t.cfg.key = none ∧ (∀ i, i < 8 → t.reg (CFG_BBKEY i) = 0) ∧ SameMemory s t) ∧
      (s.mode ≠ Mode.boot → Completes (.commit p v) s (fun t => t = s) ∧ Completes (.erase p v) s fun t => t = s)) ∧
    Completes .vbatLoss s (fun t => t.cfg.key = none ∧ t.cfg.fuses = s.cfg.fuses ∧ Frame [] s t) ∧
    (Reached s CFG_MRAM_DATA → s.f CFG_MRAM_ADDR_AUTOINC = 0 →
      (inGuestbook (4 * s.f CFG_MRAM_ADDR_ADDR) = true →
        Completes (.mramDataAccess p none) s (fun t => (t.path p).answer = 0 ∧ Frame [] s t) ∧
        ∀ v, Completes (.mramDataAccess p (some v)) s fun t => t = s) ∧
      (inGuestbook (4 * s.f CFG_MRAM_ADDR_ADDR) = false →
        Completes (.mramDataAccess p none) s (fun t =>
          (t.path p).answer = BitVec.ofNat 32 (readNat s.mram (4 * s.f CFG_MRAM_ADDR_ADDR) 4) ∧ Frame [] s t) ∧
        (s.slotRead (4 * s.f CFG_MRAM_ADDR_ADDR) = false → ∀ v : Word,
          Completes (.mramDataAccess p (some v)) s fun t =>
            readNat t.mram (4 * s.f CFG_MRAM_ADDR_ADDR) 4 = v.toNat ∧ t.regs = s.regs ∧ t.hbm = s.hbm ∧
              (∀ a, a < 4 * s.f CFG_MRAM_ADDR_ADDR ∨ 4 * s.f CFG_MRAM_ADDR_ADDR + 4 ≤ a → t.mramByte a = s.mramByte a)))) ∧
    (s.scrubs = true →
      (s.elapsed s.cfg.scrubAt (2 ^ s.f CFG_SCRUB_CTRL_DIV) = true →
        (secDecode 5 18 (Sparse.get 0 s.cfg.frames (frameKey s.cfg.scrubFrame * 128 + s.cfg.scrubSyl)) = .ok →
          s.cfg.scrubSyl < 127 →
          Completes (.cfgScrubRead false) s (fun t => t.cfg.scrubSyl = s.cfg.scrubSyl + 1 ∧ t.regs = s.regs) ∧
          Completes (.cfgScrubRead true) s fun t =>
            t.f CFG_SCRUB_CNT_TMR = min (s.f CFG_SCRUB_CNT_TMR + 1) 65535 ∧ Frame [CFG_SCRUB_CNT] s t) ∧
        (secDecode 5 18 (Sparse.get 0 s.cfg.frames (frameKey s.cfg.scrubFrame * 128 + s.cfg.scrubSyl)) = .uncorrectable →
          Completes (.cfgScrubRead false) s fun t =>
            t.f CFG_SCRUB_ERR_UE = 1 ∧ t.f CFG_SCRUB_INFO_VALID = 1 ∧
              (s.f CFG_SCRUB_INFO_VALID = 0 → frameKey s.cfg.scrubFrame < 2 ^ 18 →
                t.f CFG_SCRUB_INFO_KEY = frameKey s.cfg.scrubFrame))) ∧
      (s.elapsedSteered s.cfg.frameAt 1000000 = true →
        (s.cfg.restarts < 2 →
          Completes .scrubHeartbeatTimeout s fun t =>
            t.f CFG_SCRUB_ERR_RESTART = 1 ∧ t.cfg.restarts = s.cfg.restarts + 1 ∧ t.cfg.scrubFrame = 0 ∧
              t.f CFG_SCRUB_CTRL_EN = 1) ∧
        (2 ≤ s.cfg.restarts →
          Completes .scrubHeartbeatTimeout s fun t =>
            t.f CFG_SCRUB_ERR_DEAD = 1 ∧ t.f CFG_SCRUB_CTRL_EN = 0)))

/-! ### The trigger and acquisition engine (09_acquisition_trigger) -/

/-- R457, R458, R482, R483, R484, R486. Tap values that wait are collected with their frame; the oldest frame point is
evaluated once the taps of its frame are collected; a forced trigger is taken there; the capture ends at the frame point of
the last frame after the trigger. -/
def Sys2Proof.FramePointsWaitForTheirTaps : Prop :=
  ∀ (s : State),
    (∀ k, oldestWait s.acq.wait = some k →
      Completes .tapCollection s fun t =>
        t.acq.collected.map (·.1) = s.acq.collected.map (·.1) ++ [k - 1] ∧ (∀ kv ∈ t.acq.wait, kv.2 ≠ k) ∧
          ((∀ x ∈ s.tapList, slice x.2 11 2 ≠ 1) →
            t.acq.collected = s.acq.collected ++ [(k - 1, s.tapList.map (s.tapValue (k - 1)))] ∧ t.regs = s.regs)) ∧
    (oldestWait s.acq.wait = none → Completes .tapCollection s fun t => t = s) ∧
    (s.acq.points = [] → Completes .framePoint s fun t => t = s) ∧
    (∀ x rest, s.acq.points = x :: rest →
      ((∃ kv ∈ s.acq.wait, kv.2 = x.frame + 1) → Completes .framePoint s fun t => t = s) ∧
      ((∀ kv ∈ s.acq.wait, kv.2 ≠ x.frame + 1) →
        Completes .framePoint s fun t => t.acq.points = rest ∧ t.acq.force = false ∧ t.clusters = s.clusters ∧
          (s.f ACQ_STATUS_STATE ∉ [1, 2] → t.f ACQ_STATUS_STATE = s.f ACQ_STATUS_STATE ∧ SameMemory s t)) ∧
      ((∀ kv ∈ s.acq.wait, kv.2 ≠ x.frame + 1) → s.f ACQ_STATUS_STATE = 1 → s.acq.force = true →
        Completes .framePoint s fun t =>
          t.f ACQ_STATUS_TRIGGERED = 1 ∧ t.f ACQ_STATUS_KIND = 3 ∧ t.f64 ACQ_TRIG_FRAME = x.frame % 2 ^ 64 ∧
            t.f ACQ_STATUS_STATE = (if x.frame % 2 ^ 64 + s.f ACQ_DEPTH_POST ≤ x.frame then 3 else 2) ∧
            (s.domainOn 90 = true → (t.reg (OST_EVT_PEND 0)).getLsbD 16 = true)) ∧
      ((∀ kv ∈ s.acq.wait, kv.2 ≠ x.frame + 1) → s.f ACQ_STATUS_STATE = 2 →
        s.f64 ACQ_TRIG_FRAME + s.f ACQ_DEPTH_POST ≤ x.frame →
        Completes .framePoint s fun t =>
          t.f ACQ_STATUS_STATE = 3 ∧ t.f ACQ_STATUS_STOP_CAUSE = 1 ∧
            (s.domainOn 90 = true → (t.reg (OST_EVT_PEND 0)).getLsbD 17 = true)))

/-- R461, R466, R835. The pin levels that are sampled are held; at a sample instant during a capture, an enabled group
begins or extends its record, and no other does. -/
def Sys2Proof.PinSamplesJoinTheirRecord : Prop :=
  ∀ (s : State) (levels : BitVec 384),
    (s.capturing = false ∨ s.sampleDue = none →
      Completes (.pinSample levels) s fun t =>
        t.fab.pins = s.pinLevels levels.toNat ∧ t.acq = s.acq ∧ t.regs = s.regs ∧ SameMemory s t) ∧
    (∀ (g : Fin 24) (n : Nat), s.capturing = true → s.sampleDue = some n → s.f ACQ_PIN_EN_EN = 2 ^ g.val →
      (s.acq.pins = [] →
        Completes (.pinSample levels) s fun t =>
          t.acq.pins = [⟨g, s.frameNo, n, s.pinStepAt (n - s.tmk.time), [slice (s.pinLevels levels.toNat) (16 * g) 16]⟩] ∧
            t.acq.sampledAt = n ∧ t.regs = s.regs ∧ t.acq.stage = s.acq.stage) ∧
      (∀ (r : PinRecord), s.acq.pins = [r] → r.group = g → r.frame = s.frameNo → r.samples.length < 47 →
        Completes (.pinSample levels) s fun t =>
          t.acq.pins = [{ r with samples := r.samples ++ [slice (s.pinLevels levels.toNat) (16 * g) 16] }] ∧
            t.acq.stage = s.acq.stage))

/-- R471, R472. A whole block of the staging buffer goes to the next block of the stream, in a window of its pseudo-channel
that acquisition may use; otherwise nothing is written. -/
def Sys2Proof.AcquisitionBlocksUseTheirWindow : Prop :=
  ∀ (s : State),
    (64 ≤ s.acq.stage.length → Sparse.get 0 (s.ctl s.blockTarget.1).acqSlot s.blockTarget.2 = 1 →
      Completes .acqBlockWrite s fun t =>
        t.hbm = writeBytes s.hbm (s.streamKey (s.f64 ACQ_WR_PTR)) (s.acq.stage.take 64) ∧
          t.acq.stage = s.acq.stage.drop 64 ∧ t.f64 ACQ_WR_PTR = (s.f64 ACQ_WR_PTR + 64) % 2 ^ 64 ∧
          Sparse.get 0 (t.ctl s.blockTarget.1).acqSlot s.blockTarget.2 = 0) ∧
    (s.acq.stage.length < 64 ∨ Sparse.get 0 (s.ctl s.blockTarget.1).acqSlot s.blockTarget.2 ≠ 1 →
      Completes .acqBlockWrite s fun t => t = s)

/-- The rules of FramePointsWaitForTheirTaps, PinSamplesJoinTheirRecord and AcquisitionBlocksUseTheirWindow. -/
def Obligations.AcquisitionSamplesTriggersAndStores : Prop :=
  FramePointsWaitForTheirTaps ∧ PinSamplesJoinTheirRecord ∧ AcquisitionBlocksUseTheirWindow

/-- R456, R475 to R479, R483. ARM starts a capture of an empty stream; STOP ends it with cause 2, FORCE asks for a trigger, and during
a capture the configuration and the tap table keep their values with CFG_REJ; COPY runs or is refused by its arguments. -/
def Sys2Proof.CapturesAreArmedStoppedAndForced : Prop :=
  ∀ (s : State) (p : Path) (v : Word),
    (Reached s ACQ_CTRL →
      (slice v.toNat 2 3 = 1 → s.capturing = false → s.mode = Mode.idle ∨ s.framesMode = true → s.acqBases = true →
        Completes (.acqArm p v) s fun t =>
          t.f ACQ_STATUS_STATE = (if slice v.toNat 0 2 = 3 then 4 else 1) ∧ t.f ACQ_CTRL_MODE = slice v.toNat 0 2 ∧
            t.f ACQ_STATUS_TRIGGERED = 0 ∧ t.f64 ACQ_WR_PTR = 0 ∧ t.f64 ACQ_OLDEST = 0 ∧ t.acq.tail = 32 ∧
            t.acq.force = false ∧ SameMemory s t) ∧
      (slice v.toNat 2 3 = 1 → s.capturing = true →
        Completes (.acqArm p v) s fun t =>
          t.f ACQ_ERR_ARM_REJ = 1 ∧ t.f ACQ_ERR_CFG_REJ = 1 ∧ t.acq = s.acq ∧ Frame (ACQ_ERR :: noticeRegs) s t) ∧
      (slice v.toNat 2 3 = 2 → s.capturing = true →
        Completes (.acqStop p v) s fun t =>
          t.f ACQ_STATUS_STATE = 3 ∧ t.f ACQ_STATUS_STOP_CAUSE = 2 ∧ t.f ACQ_CTRL_MODE = s.f ACQ_CTRL_MODE ∧
            (s.domainOn 90 = true → (t.reg (OST_EVT_PEND 0)).getLsbD 17 = true) ∧ t.mram = s.mram ∧
            t.clusters = s.clusters) ∧
      (slice v.toNat 2 3 = 4 → s.f ACQ_STATUS_STATE = 1 →
        Completes (.force p v) s fun t =>
          t.acq.force = true ∧ t.f ACQ_STATUS_STATE = 1 ∧ Frame (ACQ_ERR :: noticeRegs) s t)) ∧
    (∀ off : WinOff, off.toNat = ACQ_DEPTH → Reached s off.toNat →
      (s.capturing = false →
        Completes (.acqConfigWrite p off v) s fun t =>
          t.f ACQ_DEPTH_PRE = slice v.toNat ACQ_DEPTH_PRE.lo ACQ_DEPTH_PRE.w ∧
            t.f ACQ_DEPTH_POST = slice v.toNat ACQ_DEPTH_POST.lo ACQ_DEPTH_POST.w ∧ Frame [ACQ_DEPTH] s t) ∧
      (s.capturing = true →
        Completes (.acqConfigWrite p off v) s fun t =>
          t.f ACQ_ERR_CFG_REJ = 1 ∧ Frame (ACQ_ERR :: noticeRegs) s t)) ∧
    (∀ off : WinOff, Reached s off.toNat →
      (off.toNat = ACQ_TAP_NUM → s.tapOpen = true → slice v.toNat 0 15 ≤ 16384 →
        Completes (.tapTableWrite p off v) s fun t =>
          t.f ACQ_TAP_NUM_NTAP = slice v.toNat 0 15 ∧ Frame [ACQ_TAP_NUM] s t) ∧
      (off.toNat = ACQ_TAP_DATA → s.tapOpen = true → s.tapOk v.toNat = true →
        Completes (.tapTableWrite p off v) s fun t =>
          Sparse.get 0 t.acq.taps (s.f ACQ_TAP_ADDR_ENTRY) = slice v.toNat 0 28 ∧ Frame [ACQ_TAP_ADDR] s t) ∧
      (off.toNat = ACQ_TAP_NUM ∨ off.toNat = ACQ_TAP_DATA → s.tapOpen = false →
        Completes (.tapTableWrite p off v) s fun t =>
          t.f ACQ_ERR_CFG_REJ = 1 ∧ t.acq = s.acq ∧ Frame (ACQ_ERR :: noticeRegs) s t)) ∧
    (Reached s ACQ_MB_CMD → s.f (mbBusy 5) = 0 →
      (∀ e, s.copyRefusal = some e → Completes (.copy p) s fun t => pendingErr t 5 = e ∧ t.hbm = s.hbm) ∧
      (s.copyRefusal = none →
        Completes (.copy p) s fun t =>
          pendingErr t 5 = 0 ∧ (Sparse.get Mailbox.reset t.mbs 5).res0 = s.reg ACQ_MB_LEN ∧
            t.acq.copySrc = s.f64 ACQ_MB_SRC))

/-- R489, R490, R491. Edge pairs are summed up to 2^AVG_LOG2; their mean then steps the delay by one toward the reference, or locks
the pin when it is zero; a write of the delay waits for CAL_EN to be clear. -/
def Sys2Proof.SkewCalibrationStepsOnePin : Prop :=
  ∀ (s : State) (pin : Fin 384),
    (∀ dt : Int, s.f ACQ_SKEW_CFG_EN = 1 → s.f (ACQ_PIN_DLY_CAL_EN pin) = 1 → s.f (ACQ_PIN_DLY_REF pin) ≠ pin.val →
      s.f CFG_STATE_CONFIGURED = 1 → -32 ≤ dt → dt ≤ 32 →
      ((Sparse.get (0, 0) s.acq.skew pin).2 + 1 < 2 ^ s.f ACQ_SKEW_CFG_AVG_LOG2 →
        Completes (.skewEdgePair pin dt) s fun t =>
          Sparse.get (0, 0) t.acq.skew pin =
            ((Sparse.get (0, 0) s.acq.skew pin).1 + dt, (Sparse.get (0, 0) s.acq.skew pin).2 + 1) ∧ t.regs = s.regs) ∧
      ((Sparse.get (0, 0) s.acq.skew pin).2 + 1 = 2 ^ s.f ACQ_SKEW_CFG_AVG_LOG2 →
        (roundDiv ((Sparse.get (0, 0) s.acq.skew pin).1 + dt) (2 ^ s.f ACQ_SKEW_CFG_AVG_LOG2) = 0 →
          Completes (.skewEdgePair pin dt) s fun t =>
            t.f (ACQ_PIN_DLY_LOCK pin) = 1 ∧ t.f (ACQ_PIN_DLY_DLY pin) = s.f (ACQ_PIN_DLY_DLY pin) ∧
              Sparse.get (0, 0) t.acq.skew pin = (0, 0) ∧ Frame [ACQ_PIN_DLY pin] s t) ∧
        (0 < roundDiv ((Sparse.get (0, 0) s.acq.skew pin).1 + dt) (2 ^ s.f ACQ_SKEW_CFG_AVG_LOG2) →
          0 < s.f (ACQ_PIN_DLY_DLY pin) →
          Completes (.skewEdgePair pin dt) s fun t =>
            t.f (ACQ_PIN_DLY_LOCK pin) = 0 ∧ t.f (ACQ_PIN_DLY_DLY pin) = s.f (ACQ_PIN_DLY_DLY pin) - 1 ∧
              Frame [ACQ_PIN_DLY pin] s t))) ∧
    (∀ dt : Int, dt < -32 ∨ 32 < dt → Completes (.skewEdgePair pin dt) s fun t => t = s) ∧
    (∀ (p : Path) (v : Word), Reached s (ACQ_PIN_DLY pin) → slice v.toNat 8 9 ≤ 383 →
      (s.f (ACQ_PIN_DLY_CAL_EN pin) = 0 →
        Completes (.pinDlyWrite p pin v) s fun t =>
          t.f (ACQ_PIN_DLY_DLY pin) = slice v.toNat 0 6 ∧ t.f (ACQ_PIN_DLY_REF pin) = slice v.toNat 8 9 ∧
            t.f (ACQ_PIN_DLY_CAL_EN pin) = slice v.toNat 6 1 ∧ Frame [ACQ_PIN_DLY pin] s t) ∧
      (s.f (ACQ_PIN_DLY_CAL_EN pin) = 1 →
        Completes (.pinDlyWrite p pin v) s fun t =>
          t.f (ACQ_PIN_DLY_DLY pin) = s.f (ACQ_PIN_DLY_DLY pin) ∧ t.f ACQ_ERR_CFG_REJ = 1))

/-- The rules of CapturesAreArmedStoppedAndForced and the rules of SkewCalibrationStepsOnePin. -/
def Obligations.CapturesAndCalibration : Prop := CapturesAreArmedStoppedAndForced ∧ SkewCalibrationStepsOnePin


/-! ### The time base (10_tidemark_time, 19_test_loopback) -/

/-- R498 to R502, R505 to R511, R524. SET and OFFSET step the time, and are refused in TIMED; TMK_ADJ is software's while SRC is
FREE; a measurement is discarded in the hub cycle of a step, steps the time when it is large, and otherwise sets TMK_ADJ;
HOLDOVER follows a silence of the source; the time stops at its end. -/
def Obligations.TimeIsReadSteppedAndSteered : Prop :=
  ∀ (s : State) (p : Path),
    (Reached s TMK_SEC →
      Completes (.timeRead p) s fun t =>
        (t.path p).answer = BitVec.ofNat 32 s.now.sec ∧ (t.path p).latchTag = some TMK_SEC ∧
          (t.path p).latchHi = BitVec.ofNat 32 (s.now.sec / 2 ^ 32) ∧
          (t.path p).latchRest = [BitVec.ofNat 32 s.now.ns, BitVec.ofNat 32 s.now.frac, 0] ∧ t.tmk = s.tmk ∧
          Frame [] s t) ∧
    (Reached s TMK_CMD → ∀ v : Word,
      (slice v.toNat 0 2 = 1 → s.f TMK_SET_NS_NS ≤ 999999999 → s.mode ≠ Mode.timed →
        Completes (.set p v) s fun t =>
          t.tmk.time = timeOf ⟨s.f64 TMK_SET_SEC, s.f TMK_SET_NS_NS, s.f TMK_SET_FRAC_FRAC⟩ ∧
            t.f TMK_SRV_STAT_STEPS = (s.f TMK_SRV_STAT_STEPS + 1) % 65536 ∧ SameMemory s t) ∧
      (slice v.toNat 0 2 = 1 → 999999999 < s.f TMK_SET_NS_NS →
        Completes (.set p v) s fun t => t.f TMK_ERR_ARG = 1 ∧ t.tmk = s.tmk ∧ Frame (TMK_ERR :: noticeRegs) s t) ∧
      (slice v.toNat 0 2 = 1 → s.f TMK_SET_NS_NS ≤ 999999999 → s.mode = Mode.timed →
        Completes (.set p v) s fun t => t.f TMK_ERR_STEP_REJ = 1 ∧ t.tmk = s.tmk ∧ Frame (TMK_ERR :: noticeRegs) s t) ∧
      (slice v.toNat 0 2 = 2 → s.mode ≠ Mode.timed →
        0 ≤ (s.tmk.time : Int) + Machine.signed 64 (s.f64 TMK_OFS) * 4194304 →
        (s.tmk.time : Int) + Machine.signed 64 (s.f64 TMK_OFS) * 4194304 ≤ timeMax →
        Completes (.offset p v) s fun t =>
          (t.tmk.time : Int) = s.tmk.time + Machine.signed 64 (s.f64 TMK_OFS) * 4194304 ∧ SameMemory s t) ∧
      (slice v.toNat 0 2 = 2 → s.mode ≠ Mode.timed →
        (s.tmk.time : Int) + Machine.signed 64 (s.f64 TMK_OFS) * 4194304 < 0 →
        Completes (.offset p v) s fun t => t.tmk.time = 0 ∧ t.f TMK_ERR_ARG = 1)) ∧
    (Reached s TMK_ADJ → ∀ v : Word,
      (srcFree (s.f TMK_SRV_CFG_SRC) = true →
        Completes (.adjWrite p v) s fun t => t.reg TMK_ADJ = v ∧ Frame [TMK_ADJ] s t) ∧
      (srcFree (s.f TMK_SRV_CFG_SRC) = false →
        Completes (.adjWrite p v) s fun t => t.f TMK_ERR_SRC = 1 ∧ Frame (TMK_ERR :: noticeRegs) s t)) ∧
    (Reached s TMK_SRV_CFG → ∀ v : Word, slice v.toNat 0 3 ≠ s.f TMK_SRV_CFG_SRC →
      Completes (.srcChange p v) s fun t =>
        t.f TMK_SRV_CFG_SRC = slice v.toNat 0 3 ∧ t.tmk.integ = 0 ∧ t.tmk.good = 0 ∧
          t.f TMK_SRV_STAT_LOCKED = ofBool (srcFree (slice v.toNat 0 3)) ∧ t.f TMK_SRV_STAT_HOLDOVER = 0) ∧
    (∀ theta : Int, srcFree (s.f TMK_SRV_CFG_SRC) = false →
      (s.tmk.stepAt = some s.hub → Completes (.servoMeasurement theta) s fun t => t = s) ∧
      (s.tmk.stepAt ≠ some s.hub →
        (s.f TMK_SRV_CFG_STEP_EN = 0 ∨ theta.natAbs ≤ (s.reg TMK_STEP_THR).toNat * 262144 →
          Completes (.servoMeasurement theta) s fun t =>
            t.tmk.integ =
              clampInt (-2147483648) 2147483647 (s.tmk.integ + theta / 2 ^ s.f TMK_SRV_CFG_KI_SHIFT) ∧
            t.reg TMK_ADJ = BitVec.ofNat 32 (unsigned 32 (clampInt (-2147483648) 2147483647
              (-(theta / 2 ^ s.f TMK_SRV_CFG_KP_SHIFT + t.tmk.integ)))) ∧
            t.reg TMK_SRV_LAST = BitVec.ofNat 32 (sat32 theta) ∧ t.tmk.time = s.tmk.time ∧
            t.f TMK_SRV_STAT_HOLDOVER = 0) ∧
        (s.f TMK_SRV_CFG_STEP_EN = 1 → (s.reg TMK_STEP_THR).toNat * 262144 < theta.natAbs →
          (s.mode = Mode.timed →
            Completes (.servoMeasurement theta) s fun t =>
              t.f TMK_ERR_STEP_BLOCK = 1 ∧ t.tmk.time = s.tmk.time ∧ t.reg TMK_ADJ = s.reg TMK_ADJ) ∧
          (s.mode ≠ Mode.timed → 0 ≤ (s.tmk.time : Int) + -theta * 4194304 →
            (s.tmk.time : Int) + -theta * 4194304 ≤ timeMax →
            Completes (.servoMeasurement theta) s fun t =>
              (t.tmk.time : Int) = s.tmk.time + -theta * 4194304 ∧ t.tmk.integ = 0 ∧
                t.f TMK_SRV_STAT_LOCKED = 0 ∧ t.reg TMK_ADJ = s.reg TMK_ADJ)))) ∧
    (Reached s TMK_MEAS → ∀ v : Word,
      (s.f TMK_SRV_CFG_SRC ≠ 1 →
        Completes (.measCommit p v) s fun t => t.f TMK_ERR_SRC = 1 ∧ t.tmk = s.tmk ∧ t.reg TMK_MEAS = s.reg TMK_MEAS) ∧
      (s.f TMK_SRV_CFG_SRC = 1 → s.tmk.stepAt ≠ some s.hub → (s.path p).heldTag = some TMK_MEAS →
        Completes (.measCommit p v) s fun t =>
          t.reg TMK_SRV_LAST =
            BitVec.ofNat 32 (sat32 (Machine.signed 64 ((s.path p).heldLo.toNat + 2 ^ 32 * v.toNat))))) ∧
    (s.tmk.stepAt ≠ some s.hub →
      (s.f TMK_SRV_CFG_SRC = 3 → s.f TMK_LB_PPS = 0 →
        Completes (.ppsInEdge true) s fun t =>
          t.reg TMK_SRV_LAST = BitVec.ofNat 32 (sat32 (fold (s.portTime 1 / 4194304) (1000000000 * 262144)))) ∧
      (s.f TMK_SRV_CFG_SRC = 4 → s.f TMK_SRV_STAT_REF_OK = 1 → s.tmk.lastRef = none →
        Completes .ref10mEdge s fun t =>
          t.tmk.lastRef = some s.tmk.steered ∧
            t.reg TMK_SRV_LAST = BitVec.ofNat 32 (sat32 (fold (s.tmk.time / 4194304) (100 * 262144))))) ∧
    (∀ hz, Completes (.ref10mPresence hz) s fun t =>
      t.f TMK_SRV_STAT_REF_OK = ofBool (Nat.ble 9999000 hz && Nat.ble hz 10001000) ∧ Frame [TMK_SRV_STAT] s t) ∧
    (srcFree (s.f TMK_SRV_CFG_SRC) = false → s.f TMK_SRV_STAT_HOLDOVER = 0 →
      s.elapsedSteered s.tmk.since (100 * max 1 (s.f TMK_SRV_LOCK_HOLD_100MS) * 1000000) = true →
      Completes .holdover s fun t =>
        t.f TMK_SRV_STAT_HOLDOVER = 1 ∧ t.f TMK_SRV_STAT_LOCKED = 0 ∧
          t.reg TMK_ADJ = BitVec.ofNat 32 (unsigned 32 (clampInt (-2147483648) 2147483647 (-s.tmk.integ))) ∧
          t.tmk.time = s.tmk.time) ∧
    (timeMax ≤ s.tmk.time + s.advance40 →
      Completes .secMax s fun t => t.tmk.time = timeMax ∧ t.f TMK_ERR_SEC_MAX = 1) ∧
    (s.tmk.time + s.advance40 < timeMax → Completes .secMax s fun t => t = s)

/-- R512, R515, R516, R517, R519, R520, R521, R522, R523. Timestamps, captures and the Shoris exchange queue what they observe up to
their capacity and count what they lose; a pulse output fires at its instant and falls after its width, and a bad width is
refused. -/
def Obligations.TimestampsExchangesAndPulses : Prop :=
  ∀ (s : State) (p : Path),
    (∀ (ty : BitVec 4) (id : BitVec 16),
      (s.tmk.txts.length < 16 → ty ≠ 0 → ty ≠ 3 → ∀ one,
        Completes (.ptpTimestamp true ty id one true) s fun t =>
          t.tmk.txts = s.tmk.txts ++ [⟨stampOf (s.tmk.time + s.f (TMK_PORT_LAT_EGRESS 0) * nsUnit / 1000), id.toNat, ty.toNat⟩] ∧
            (s.tmk.txts = [] → s.domainOn 90 = true → (t.reg (OST_EVT_PEND 0)).getLsbD 19 = true) ∧
            Frame [OST_EVT_PEND 0] s t) ∧
      (16 ≤ s.tmk.txts.length →
        Completes (.ptpTimestamp true ty id false true) s fun t =>
          t.f TMK_ERR_TXTS_OVF = 1 ∧ t.tmk = s.tmk ∧ Frame (TMK_ERR :: noticeRegs) s t)) ∧
    (Reached s TMK_TXTS_SEC → ∀ x rest, s.tmk.txts = x :: rest →
      Completes (.txtsPop p) s fun t =>
        t.tmk.txts = rest ∧ (t.path p).answer = BitVec.ofNat 32 x.stamp.sec ∧
          (t.path p).latchRest = [BitVec.ofNat 32 x.stamp.ns, BitVec.ofNat 32 x.stamp.frac,
            BitVec.ofNat 32 (x.seqId + x.msgType * 65536 + 2147483648)] ∧ Frame [] s t) ∧
    (s.f TMK_SHX_CFG_EN = 1 → s.laneUp (s.f TMK_SHX_CFG_LANE) = true → s.tmk.exchange = none → s.tmk.lastReq = none →
      Completes .shxRequest s fun t =>
        t.tmk.exchange = some ⟨s.tmk.nextId, s.f TMK_SHX_CFG_LANE, s.tmk.time, s.tmk.steered, s.tmk.steps⟩ ∧
          t.tmk.nextId = (s.tmk.nextId + 1) % 256 ∧
          (t.lane (s.f TMK_SHX_CFG_LANE)).q.ctrl = (s.lane (s.f TMK_SHX_CFG_LANE)).q.ctrl ++ [.treq s.tmk.nextId] ∧
          t.regs = s.regs) ∧
    (∀ (l : LaneId) (id : Byte),
      (s.laneUp l = true →
        Completes (.treqReceive l id) s fun t =>
          (t.lane l).q.ctrl = (s.lane l).q.ctrl ++ [.tresp id.toNat s.now] ∧ t.regs = s.regs ∧ t.tmk = s.tmk) ∧
      (s.laneUp l = false → Completes (.treqReceive l id) s fun t => t = s)) ∧
    (∀ x, s.tmk.exchange = some x →
      (∀ (l : LaneId) (id : Byte) (t2 t3 : List Syl), x.id = id.toNat → x.lane = l → x.steps = s.tmk.steps →
        Completes (.trespReceive l id t2 t3) s fun t =>
          t.tmk.exchange = none ∧ t.f TMK_SHX_STAT_DONE = min (s.f TMK_SHX_STAT_DONE + 1) 65535 ∧
            t.reg TMK_SHX_LAST = BitVec.ofNat 32 (sat32 (exchangeTheta (x.t1 / 4194304)
              (trespTime s.now.sec (t2.map (·.toNat))) (trespTime s.now.sec (t3.map (·.toNat))) (s.tmk.time / 4194304)
              (Machine.signed 32 (s.reg (TMK_LANE_ASYM l)).toNat)))) ∧
      (s.elapsedSteered x.at_ 1000000 = true →
        Completes .shxTimeout s fun t =>
          t.tmk.exchange = none ∧ t.f TMK_SHX_STAT_LOST = min (s.f TMK_SHX_STAT_LOST + 1) 65535 ∧
            Frame [TMK_SHX_STAT] s t)) ∧
    (∀ (n : Fin 8) (v : Word), Reached s (TMK_PO_CTRL n) →
      (bitOf v.toNat 0 = false →
        Completes (.pulseEnable p n v) s fun t =>
          t.pulse n = PulseOut.reset ∧ t.f (TMK_PO_CTRL_ENABLE n) = 0 ∧ Frame [TMK_PO_CTRL n] s t) ∧
      (bitOf v.toNat 0 = true → s.f (TMK_PO_CTRL_ENABLE n) = 0 → s.badWidth n (bitOf v.toNat 1) = true →
        Completes (.pulseEnable p n v) s fun t => t.f (TMK_PO_CTRL_ENABLE n) = 0 ∧ t.f TMK_ERR_ARG = 1 ∧ t.tmk = s.tmk) ∧
      (bitOf v.toNat 0 = true → s.f (TMK_PO_CTRL_ENABLE n) = 0 → s.badWidth n (bitOf v.toNat 1) = false →
        s.tmk.time ≤ s.pulseInstant n 0 →
        Completes (.pulseEnable p n v) s fun t =>
          t.f (TMK_PO_CTRL_ENABLE n) = 1 ∧ t.pulse n = ⟨false, some 0, 0⟩ ∧ Frame [TMK_PO_CTRL n] s t)) ∧
    (∀ (n : Fin 8) (k : Nat), (s.pulse n).next = some k → s.f (TMK_PO_CTRL_ENABLE n) = 1 →
      (lessPs (s.pulseInstant n k) (s.f (TMK_PORT_LAT_EGRESS (11 + n))) ≤ s.tmk.time →
        Completes (.pulseFire n) s fun t =>
          (t.pulse n).active = true ∧
            (t.pulse n).next = (if s.f (TMK_PO_CTRL_PERIODIC n) = 1 then some (k + 1) else none) ∧
            (t.pulse n).endAt = s.tmk.steered + s.f (TMK_PO_WIDTH_WIDTH_NS n) * nsUnit) ∧
      (s.tmk.time < lessPs (s.pulseInstant n k) (s.f (TMK_PORT_LAT_EGRESS (11 + n))) →
        Completes (.pulseFire n) s fun t => t = s)) ∧
    (∀ n : Fin 8, (s.pulse n).active = true → (s.pulse n).endAt ≤ s.tmk.steered →
      Completes (.pulseWidthEnd n) s fun t =>
        (t.pulse n).active = false ∧ (s.f (TMK_PO_CTRL_PERIODIC n) = 0 → t.f (TMK_PO_CTRL_ENABLE n) = 0)) ∧
    (s.f TMK_PPS_CFG_OUT_EN = 1 → s.tmk.pps = false → s.tmk.time % secUnit < s.advance40 →
      s.tmk.ppsAt ≠ some s.hub →
      Completes .ppsOutPulse s fun t =>
        t.tmk.pps = true ∧ t.tmk.ppsEnd = s.tmk.steered + s.f TMK_PPS_CFG_WIDTH_MS * 1000000 * nsUnit) ∧
    (s.tmk.pps = true → s.tmk.ppsEnd ≤ s.tmk.steered → Completes .ppsOutPulse s fun t => t.tmk.pps = false) ∧
    (∀ (n : Fin 8) (rising : Bool), bitOf (s.f TMK_LB_CAP) n = false →
      edgeTaken (s.f (TMK_CAP_CTRL_EDGE n)) rising = true →
      ((Sparse.get [] s.tmk.caps n).length < 16 →
        Completes (.captureEdge n.castSucc rising) s fun t =>
          Sparse.get [] t.tmk.caps n = Sparse.get [] s.tmk.caps n ++ [stampOf (s.portTime (2 + n))] ∧
            Frame [OST_EVT_PEND 0] s t) ∧
      (16 ≤ (Sparse.get [] s.tmk.caps n).length →
        Completes (.captureEdge n.castSucc rising) s fun t =>
          t.tmk = s.tmk ∧ t.f (TMK_CAP_STAT_OVF n) = min (s.f (TMK_CAP_STAT_OVF n) + 1) 65535 ∧
            Frame [TMK_CAP_STAT n] s t)) ∧
    (∀ n : Fin 9, Reached s (TMK_CAP_SEC n) →
      (∀ x rest, Sparse.get [] s.tmk.caps n = x :: rest →
        Completes (.capturePop p n) s fun t =>
          Sparse.get [] t.tmk.caps n = rest ∧ (t.path p).answer = BitVec.ofNat 32 x.sec ∧ Frame [] s t) ∧
      (Sparse.get [] s.tmk.caps n = [] →
        Completes (.capturePop p n) s fun t =>
          (t.path p).answer = 0 ∧ t.f (TMK_CAP_STAT_EMPTY_RD n) = 1 ∧ t.tmk = s.tmk ∧ Frame [TMK_CAP_STAT n] s t))

/-! ### The Shoris lanes (11_shoris_lanes) -/

/-- A lane has entered DOWN with a cause (R567): its items are discarded and 8 DOWN blocks are due. -/
def Sys2Proof.EnteredDown (s t : State) (l cause : Nat) : Prop :=
  t.laneState l = LaneSt.down ∧ t.f (SHR_LSTAT_DOWN_CAUSE l) = cause ∧ t.f (SHR_LERR_DOWN l) = 1 ∧
    (t.lane l).q = LaneQueue.reset ∧ (t.lane l).link.downLeft = 8 ∧
    (s.domainOn 90 = true → (t.reg (OST_EVT_PEND 0)).getLsbD 5 = true) ∧ SameMemory s t

/-- R533 to R538, R557, R565, R567, R573. A lane goes from OFF through RESET, ACQUIRE and NEGOTIATE; its commands are refused in
the wrong state; block lock follows 64 valid headers; a bring-up step that runs out falls back and bans its rate, or ends
in DOWN; RELOCK and a DOWN block of the peer end in DOWN. -/
def Obligations.LanesBringUpAndGoDown : Prop :=
  ∀ (s : State) (p : Path) (l : LaneId),
    (Reached s (SHR_LCTRL l) → ∀ v : Word,
      (slice v.toNat 0 4 = 1 →
        (s.startRefused l = false →
          Completes (.start p l v) s fun t =>
            t.laneState l = LaneSt.reset ∧ t.f (SHR_LSTAT_RATE l) = 0 ∧ t.f (SHR_LSTAT_BAN l) = 0 ∧
              t.f (SHR_LSTAT_DOWN_CAUSE l) = 0 ∧ (t.lane l).link.cfg = s.reg (SHR_LCFG l) ∧
              (t.lane l).q = LaneQueue.reset ∧ SameMemory s t) ∧
        (s.startRefused l = true →
          Completes (.start p l v) s fun t =>
            t.f (SHR_LERR_START_REJ l) = 1 ∧ t.lanes = s.lanes ∧ Frame (SHR_LERR l :: noticeRegs) s t)) ∧
      (slice v.toNat 0 4 = 2 →
        Completes (.stop p l v) s fun t =>
          t.laneState l = LaneSt.off ∧ t.f (SHR_LSTAT_LOCK l) = 0 ∧ (t.lane l).q = LaneQueue.reset ∧ SameMemory s t) ∧
      (slice v.toNat 0 4 = 4 →
        (bitOf (s.lane l).link.cfg.toNat 8 = false → s.laneState l = LaneSt.acquire →
          Completes (.slip p l v) s fun t =>
            (t.lane l).link.boundary = ((s.lane l).link.boundary + 1) % 290 ∧ t.regs = s.regs) ∧
        (bitOf (s.lane l).link.cfg.toNat 8 = true ∨ s.laneState l ≠ LaneSt.acquire →
          Completes (.slip p l v) s fun t => t.f (SHR_LERR_SLIP_REJ l) = 1 ∧ t.lanes = s.lanes)) ∧
      (slice v.toNat 0 4 = 8 →
        (s.mode = Mode.diagnose → s.laneState l = LaneSt.off ∨ s.laneState l = LaneSt.down →
          Completes (.test p l v) s fun t =>
            t.laneState l = LaneSt.test ∧ t.f (SHR_LSTAT_RATE l) = min 6 (s.f (SHR_TEST_RATE l)) ∧
              t.f (SHR_PRBS_STAT_SYNC l) = 0 ∧ Frame [SHR_LSTAT l, SHR_PRBS_STAT l] s t) ∧
        (s.mode ≠ Mode.diagnose →
          Completes (.test p l v) s fun t => t.f (SHR_LERR_START_REJ l) = 1 ∧ t.lanes = s.lanes))) ∧
    (s.laneState l = LaneSt.reset →
      Completes (.pllLock l) s fun t =>
        t.laneState l = LaneSt.acquire ∧ t.f (SHR_LSTAT_RATE l) = 0 ∧ t.f (SHR_QSTAT_PLL_LOCK (l / 4)) = 1 ∧
          Frame [SHR_LSTAT l, SHR_QSTAT (l / 4)] s t) ∧
    (∀ s1 s2 : Syl,
      (slice s1.toNat 0 3 = s.f (SHR_LSTAT_RATE l) → s.f (SHR_LSTAT_LOCK l) = 1 → s.laneState l = LaneSt.acquire →
        Completes (.negReceive l s1 s2) s fun t =>
          t.laneState l = LaneSt.negotiate ∧ t.f (SHR_LSTAT_BAN l) = (s.f (SHR_LSTAT_BAN l) ||| slice s1.toNat 6 7) ∧
            t.f (SHR_PEER_DEV_INDEX l) = slice s2.toNat 0 8 ∧ t.f (SHR_PEER_LANE l) = slice s2.toNat 8 7 ∧
            t.f (SHR_PEER_VALID l) = 1 ∧ Frame [SHR_LSTAT l, SHR_PEER l] s t) ∧
      (slice s1.toNat 0 3 ≠ s.f (SHR_LSTAT_RATE l) → s.f (SHR_LSTAT_LOCK l) = 1 → s.laneState l = LaneSt.acquire →
        Completes (.negReceive l s1 s2) s fun t =>
          t.f (SHR_PEER_DEV_INDEX l) = slice s2.toNat 0 8 ∧ t.f (SHR_PEER_LANE l) = slice s2.toNat 8 7 ∧
            t.f (SHR_PEER_VALID l) = 1 ∧ t.lanes = s.lanes ∧ Frame [SHR_PEER l] s t) ∧
      (s.f (SHR_LSTAT_LOCK l) = 0 → Completes (.negReceive l s1 s2) s fun t => t = s)) ∧
    (s.laneState l = LaneSt.acquire → s.f (SHR_LSTAT_RATE l) ≠ 0 → s.f (SHR_LSTAT_RATE l) < 7 →
      s.elapsedSteered (s.lane l).link.at_ (max 1 (slice (s.lane l).link.cfg.toNat 10 10) * 1000) = true →
      ((s.lane l).link.fellBack = false →
        Completes (.bringupStepTimeout l) s fun t =>
          t.laneState l = LaneSt.acquire ∧ bitOf (t.f (SHR_LSTAT_BAN l)) (s.f (SHR_LSTAT_RATE l)) = true ∧
            t.f (SHR_LSTAT_RATE l) = (s.lane l).link.prev % 8 ∧ Frame [SHR_LSTAT l] s t) ∧
      ((s.lane l).link.fellBack = true → Completes (.bringupStepTimeout l) s fun t => EnteredDown s t l 5)) ∧
    (s.laneState l = LaneSt.relock →
      s.elapsedSteered (s.lane l).link.at_ (max 1 (slice (s.lane l).link.cfg.toNat 20 12) * 1000) = true →
      Completes (.relockTimeout l) s fun t => EnteredDown s t l 2) ∧
    (∀ cause,
      (s.laneTakes l = true → Completes (.downBlockReceive l cause) s fun t => EnteredDown s t l 3) ∧
      (s.laneTakes l = false → Completes (.downBlockReceive l cause) s fun t => t = s)) ∧
    (∀ (hdr : BitVec 2) (syls : List Syl),
      (s.laneReceives l = false → Completes (.blockReceive l hdr syls) s fun t => t = s) ∧
      (s.laneState l = LaneSt.acquire → s.f (SHR_LSTAT_LOCK l) = 0 → s.jtagPins = false → hdr = 1 ∨ hdr = 2 →
        (s.lane l).link.headers = List.replicate 63 true →
        Completes (.blockReceive l hdr syls) s fun t =>
          t.f (SHR_LSTAT_LOCK l) = 1 ∧ t.f (SHR_LSTAT_HDR_OK l) = 64 ∧ t.laneState l = LaneSt.acquire) ∧
      (s.laneState l = LaneSt.up → s.f (SHR_LSTAT_LOCK l) = 1 → hdr = 0 ∨ hdr = 3 → ∀ (hs : List Bool),
        hs = (false :: (s.lane l).link.headers).take 64 →
        (16 ≤ hs.length - (hs.filter id).length →
          Completes (.blockReceive l hdr syls) s fun t =>
            t.f (SHR_LSTAT_LOCK l) = 0 ∧ t.laneState l = LaneSt.relock ∧ t.f (SHR_LERR_LOCK_LOSS l) = 1 ∧
              (t.lane l).q = (s.lane l).q) ∧
        (hs.length - (hs.filter id).length < 16 →
          Completes (.blockReceive l hdr syls) s fun t =>
            t.f (SHR_LSTAT_LOCK l) = 1 ∧ t.laneState l = LaneSt.up ∧ (t.lane l).link.headers = hs ∧
              Frame [SHR_LSTAT l, SHR_LCNT2 l] s t)))

/-- R539, R540, R547, R559 to R562, R564, R567, R569. What a lane sends next. In UP a control block goes first, but not after
another; then the packets to be sent again; then a new packet of the items that wait, which takes the next SEQ and is kept
for replay; a lane with nothing to send, or with 128 packets kept, sends an IDLE packet. Every unit leaves with the filter
coefficients of the rate in use. A lane in DOWN sends its DOWN blocks; one that is OFF sends nothing. -/
def Sys2Proof.LanesSendByPrecedence : Prop :=
  ∀ (s : State) (l : LaneId),
    (s.laneState l = LaneSt.off ∨ s.laneState l = LaneSt.reset → Completes (.packetTransmit l) s fun t => t = s) ∧
    (s.laneState l = LaneSt.up →
      (∀ c, firstCtrl (s.lane l).q.ctrl = some c → (s.lane l).q.lastCtrl = false →
        Completes (.packetTransmit l) s fun t =>
          (t.lane l).q = { (s.lane l).q with ctrl := removeFirst (· == c) (s.lane l).q.ctrl, lastCtrl := true } ∧
            (t.lane l).link.ffe = s.ffeNow l ∧ t.regs = s.regs) ∧
      ((s.lane l).q.ctrl = [] ∨ (s.lane l).q.lastCtrl = true →
        (∀ n rest, (s.lane l).q.resend = n :: rest →
          Completes (.packetTransmit l) s fun t =>
            (t.lane l).q.resend = rest ∧ (t.lane l).q.seq = (s.lane l).q.seq ∧ (t.lane l).q.lastCtrl = false ∧
              (t.lane l).q.buffer.map (·.seq) = (s.lane l).q.buffer.map (·.seq) ∧ (t.lane l).link.ffe = s.ffeNow l ∧
              t.regs = s.regs) ∧
        (∀ items q1, (s.lane l).q.resend = [] → (s.lane l).q.buffer.length < 128 →
          (s.lane l).q.fill 125 125 = (items, q1) → items ≠ [] →
          Completes (.packetTransmit l) s fun t =>
            (t.lane l).q = { q1 with
              seq := ((s.lane l).q.seq + 1) % 1024
              buffer := (s.lane l).q.buffer ++ [⟨(s.lane l).q.seq, items, s.hub, 0⟩]
              nak := false, lastCtrl := false } ∧
            (t.lane l).link.ffe = s.ffeNow l ∧ (t.lane l).link.ffeOld = (s.lane l).link.ffe ∧ t.regs = s.regs) ∧
        ((s.lane l).q.resend = [] → 128 ≤ (s.lane l).q.buffer.length ∨ ((s.lane l).q.fill 125 125).1 = [] →
          Completes (.packetTransmit l) s fun t =>
            (t.lane l).q = { (s.lane l).q with nak := false, lastCtrl := false } ∧
              (t.lane l).link.ffe = s.ffeNow l ∧ t.regs = s.regs))) ∧
    (s.laneState l = LaneSt.down →
      Completes (.packetTransmit l) s fun t =>
        (t.lane l).link.downLeft = (s.lane l).link.downLeft - 1 ∧ (t.lane l).link.ffe = s.ffeNow l ∧ t.regs = s.regs)

/-- R545, R560, R561. A received packet with a good CRC is taken in sequence, whatever it carries; a gap, a repeated packet
and a bad CRC leave the sequence; a valid ACK frees what it acknowledges. -/
def Sys2Proof.PacketsAreTakenInSequence : Prop :=
  ∀ (s : State) (l : LaneId) (syls : List Syl) (n : List Nat), n = syls.map (·.toNat) → s.laneState l = LaneSt.up →
    s.jtagPins = false →
    (crc16 (n.take 127) ≠ n.getD 127 0 % 65536 →
      Completes (.packetReceive l syls) s fun t =>
        t.f (SHR_LCNT_CRC l) = min (s.f (SHR_LCNT_CRC l) + 1) 65535 ∧ (t.lane l).q.expect = (s.lane l).q.expect ∧
          ((s.lane l).q.nakArmed = true → (t.lane l).q.nak = true ∧ (t.lane l).q.nakArmed = false) ∧
          Frame [SHR_LCNT l] s t) ∧
    (crc16 (n.take 127) = n.getD 127 0 % 65536 → slice (n.getD 1 0) 6 2 = 0 →
      (slice (n.getD 0 0) 8 10 = (s.lane l).q.expect → (s.lane l).q.expect < 1024 → bitOf (n.getD 0 0) 7 = false →
        (Completes (.packetReceive l syls) s fun t =>
          (t.lane l).q.expect = ((s.lane l).q.expect + 1) % 1024 ∧ (t.lane l).q.ackV = true) ∧
        ((n.drop 2).take 125 = List.replicate 125 0 →
          Completes (.packetReceive l syls) s fun t =>
            (t.lane l).q = { (s.lane l).q with
              expect := ((s.lane l).q.expect + 1) % 1024, ackV := true, nakArmed := true } ∧ t.regs = s.regs)) ∧
      ((slice (n.getD 0 0) 8 10 + 1024 - (s.lane l).q.expect) % 1024 ≠ 0 →
        (slice (n.getD 0 0) 8 10 + 1024 - (s.lane l).q.expect) % 1024 < 512 →
        Completes (.packetReceive l syls) s fun t =>
          t.f (SHR_LERR_SEQ_GAP l) = 1 ∧ (t.lane l).q.expect = (s.lane l).q.expect) ∧
      (512 ≤ (slice (n.getD 0 0) 8 10 + 1024 - (s.lane l).q.expect) % 1024 →
        Completes (.packetReceive l syls) s fun t => t = s)) ∧
    (crc16 (n.take 127) = n.getD 127 0 % 65536 → slice (n.getD 1 0) 6 2 = 2 → bitOf (n.getD 0 0) 7 = true →
      slice (n.getD 0 0) 8 10 = (s.lane l).q.expect → (s.lane l).q.expect < 1024 → ∀ x,
      (s.lane l).q.buffer.find? (fun y => y.seq == slice (n.getD 1 0) 8 10) = some x →
      Completes (.packetReceive l syls) s fun t =>
        (t.lane l).q.buffer = ((s.lane l).q.buffer.dropWhile fun y => y.seq != slice (n.getD 1 0) 8 10).drop 1 ∧
          (t.lane l).q.expect = (s.lane l).q.expect ∧ t.f (SHR_RTT_LAST l) = min 65535 ((s.hub - x.at_) * 5 / 2) ∧
          Frame [SHR_RTT l] s t)

/-- R552, R562, R567. A received word of the frame in progress is routed through the BRT of its bridge, and waits while there
is no room; a packet that is not acknowledged is sent again with all that follow it, up to MAX times. -/
def Sys2Proof.WordsAreRoutedAndPacketsReplayed : Prop :=
  ∀ (s : State) (l : LaneId),
    (s.readyWord l = none → Completes (.laneWordRoute l) s fun t => t = s) ∧
    (∀ (w : LaneWord) (d stop f h : Nat), s.readyWord l = some w → d = l.val / 32 →
      stop = stopIx (l.val % 32 / 4) (18 * (l.val % 4 / 2)) →
      f = mkFlit 1 (s.f (MLR_GEN_STATUS_ACTIVE_GEN d)) 0 ((s.f (SHR_RXBASE_BASE l) + w.pos) % 1024)
        (w.ftag * 2048 + w.step) w.word →
      s.halfFor d stop (flitGen f) = some h →
      (entryValid (s.tblEntry d stop h 0 (flitTag f)) = false →
        Completes (.laneWordRoute l) s fun t =>
          t.f (MLR_STOP_ERR_NO_ENTRY (stopBase d (l.val % 32 / 4) (18 * (l.val % 4 / 2)))) = 1 ∧
            (t.lane l).q.rx = removeFirst (· == w) (s.lane l).q.rx) ∧
      (∀ e dir, e = s.tblEntry d stop h 0 (flitTag f) → entryValid e = true → slice e 0 3 = dir + 1 → dir < 2 →
        ((s.injQueue d stop dir).length < 32 →
          Completes (.laneWordRoute l) s fun t =>
            t.injQueue d stop dir = s.injQueue d stop dir ++
              [(withDst (withTag f (entryTag e)) (slice e 8 6), slice e 14 1)] ∧
              (t.lane l).q.rx = removeFirst (· == w) (s.lane l).q.rx ∧ t.regs = s.regs) ∧
        (32 ≤ (s.injQueue d stop dir).length → Completes (.laneWordRoute l) s fun t => t = s))) ∧
    (∀ (x : LanePacket) (rest : List LanePacket), (s.lane l).q.buffer = x :: rest → s.laneState l = LaneSt.up →
      s.elapsedRing x.at_ (max 1 (s.f (SHR_REPLAY_CFG_TMO l)) * 16) = true →
      (x.count + 1 < max 1 (s.f (SHR_REPLAY_CFG_MAX l)) →
        Completes (.replayTimeout l) s fun t =>
          (t.lane l).q.resend = (s.lane l).q.buffer.map (·.seq) ∧
            t.f (SHR_LCNT_REPLAYS l) = min (s.f (SHR_LCNT_REPLAYS l) + 1) 65535 ∧ Frame [SHR_LCNT l] s t) ∧
      (max 1 (s.f (SHR_REPLAY_CFG_MAX l)) ≤ x.count + 1 →
        Completes (.replayTimeout l) s fun t => EnteredDown s t l 1))

/-- The rules of LanesSendByPrecedence, PacketsAreTakenInSequence and WordsAreRoutedAndPacketsReplayed. -/
def Obligations.LanesCarryPackets : Prop :=
  LanesSendByPrecedence ∧ PacketsAreTakenInSequence ∧ WordsAreRoutedAndPacketsReplayed

/-- R29, R540, R541, R575, R576, R577, R578. Transmit settings outside their bounds are refused; INJ and CLR act on the test generators, and the
checker counts each bit and each mismatch in SYNC; recentering moves the phase by one; the quad commands need a lane in UP
or TEST. -/
def Obligations.LaneSettingsAndTests : Prop :=
  ∀ (s : State) (p : Path),
    (∀ (l : LaneId) (rate : Fin 7) (v : Word), Reached s (SHR_TXFFE l rate) →
      (slice v.toNat 0 4 + slice v.toNat 4 6 + slice v.toNat 10 5 ≤ 63 → 20 ≤ slice v.toNat 4 6 →
        Completes (.ffeWrite p l rate v) s fun t =>
          t.f (SHR_TXFFE_PRE l rate) = slice v.toNat 0 4 ∧ t.f (SHR_TXFFE_MAIN l rate) = slice v.toNat 4 6 ∧
            t.f (SHR_TXFFE_POST l rate) = slice v.toNat 10 5 ∧ Frame [SHR_TXFFE l rate] s t ∧
            (t.lane l).link.ffe = (if s.laneState l = LaneSt.test ∧ s.f (SHR_LSTAT_RATE l) = rate then t.ffeNow l
              else (s.lane l).link.ffe)) ∧
      (63 < slice v.toNat 0 4 + slice v.toNat 4 6 + slice v.toNat 10 5 ∨ slice v.toNat 4 6 < 20 →
        Completes (.ffeWrite p l rate v) s fun t =>
          t.f (SHR_LERR_FFE_REJ l) = 1 ∧ Frame (SHR_LERR l :: noticeRegs) s t)) ∧
    (∀ (l : LaneId) (v : Word), Reached s (SHR_PRBS_CFG l) →
      (bitOf v.toNat 9 = true → bitOf v.toNat 10 = false → s.laneState l = LaneSt.test →
        Completes (.inj p l v) s fun t =>
          (t.lane l).link.inject = (s.lane l).link.inject + 1 ∧ Frame [SHR_PRBS_CFG l] s t) ∧
      (bitOf v.toNat 10 = true →
        Completes (.clr p l v) s fun t =>
          t.f64 (SHR_PRBS_ERR l) = 0 ∧ t.f64 (SHR_PRBS_BITS l) = 0 ∧ t.f (SHR_PRBS_STAT_RESYNC l) = 0 ∧
            t.f (SHR_PRBS_STAT_SYNC l) = s.f (SHR_PRBS_STAT_SYNC l) ∧ SameMemory s t)) ∧
    (∀ (l : LaneId) (left right : Byte), s.laneUp l = true → s.f (SHR_LCFG_RECENTER_EN l) = 1 → s.eyeRuns l = false →
      Completes (.recenter l left right) s fun t =>
        t.f (SHR_EYE_L l) = left.toNat ∧ t.f (SHR_EYE_R l) = right.toNat ∧
          t.f (SHR_EYE_PHASE l) = (if left.toNat + 1 < right.toNat then (s.f (SHR_EYE_PHASE l) + 1) % 256
            else if right.toNat + 1 < left.toNat then (s.f (SHR_EYE_PHASE l) + 255) % 256 else s.f (SHR_EYE_PHASE l)) ∧
          Frame [SHR_EYE l] s t) ∧
    (∀ (l : LaneId) (bit : Bool) (taps : Nat × Nat) (b : Bool), prbsTaps (s.f (SHR_PRBS_CFG_RX_PAT l)) = some taps →
      s.laneState l = LaneSt.test → s.f (SHR_PRBS_CFG_RX_EN l) = 1 → s.f (SHR_PRBS_STAT_SYNC l) = 1 →
      b = ((bit ^^ bitOf (s.lane l).link.cfg.toNat 7) ^^
        prbsInverts (s.f (SHR_PRBS_CFG_RX_PAT l)) (s.flag (SHR_PRBS_CFG_INV l))) →
      Completes (.prbsCheckerBit l bit) s fun t =>
        t.f64 (SHR_PRBS_BITS l) = min (s.f64 (SHR_PRBS_BITS l) + 1) (2 ^ 48 - 1) ∧
          t.f64 (SHR_PRBS_ERR l) =
            (if b = prbsNext taps (s.lane l).link.prbsRx then s.f64 (SHR_PRBS_ERR l)
              else min (s.f64 (SHR_PRBS_ERR l) + 1) (2 ^ 48 - 1)) ∧ SameMemory s t) ∧
    (∀ (l : LaneId) (bit : Bool) (taps : Nat × Nat) (b : Bool), prbsTaps (s.f (SHR_PRBS_CFG_RX_PAT l)) = some taps →
      s.laneState l = LaneSt.test → s.f (SHR_PRBS_CFG_RX_EN l) = 1 → s.f (SHR_PRBS_STAT_SYNC l) = 0 →
      b = ((bit ^^ bitOf (s.lane l).link.cfg.toNat 7) ^^
        prbsInverts (s.f (SHR_PRBS_CFG_RX_PAT l)) (s.flag (SHR_PRBS_CFG_INV l))) →
      b = prbsNext taps (s.lane l).link.prbsRx →
      Completes (.prbsCheckerBit l bit) s fun t =>
        t.f (SHR_PRBS_STAT_SYNC l) = ofBool (Nat.ble (taps.1 + 64) ((s.lane l).link.prbsRun + 1)) ∧
          (t.lane l).link.prbsRun = (s.lane l).link.prbsRun + 1 ∧ Frame [SHR_PRBS_STAT l] s t) ∧
    (∀ q : Fin 32, Reached s (SHR_MB_CMD q) → s.f (mbBusy (6 + q)) = 0 →
      (s.laneState (s.eyeLane q) ≠ LaneSt.up → s.laneState (s.eyeLane q) ≠ LaneSt.test →
        (∀ m, Completes (.eyePoint p q m) s fun t => pendingErr t (6 + q) = 8) ∧
        (∀ a b, Completes (.eyeWidth p q a b) s fun t => pendingErr t (6 + q) = 8) ∧
        ((s.reg (SHR_MB_ARG q 3)).toNat ≠ 0 →
          Completes (.loadSend p q) s fun t => pendingErr t (6 + q) = 8 ∧ t.lanes = s.lanes)) ∧
      ((s.reg (SHR_MB_ARG q 3)).toNat = 0 →
        Completes (.loadSend p q) s fun t => pendingErr t (6 + q) = 0 ∧ t.lanes = s.lanes) ∧
      (s.laneState (s.eyeLane q) = LaneSt.up ∨ s.laneState (s.eyeLane q) = LaneSt.test → 10 ≤ s.eyeBits q → s.eyeBits q ≤ 40 →
        (∀ m, Completes (.eyePoint p q m) s fun t =>
          pendingErr t (6 + q) = 0 ∧ (Sparse.get Mailbox.reset t.mbs (6 + q)).res0 = BitVec.ofNat 32 (min 0xFFFFFFFF m) ∧
            (Sparse.get Mailbox.reset t.mbs (6 + q)).res1 = BitVec.ofNat 32 (2 ^ (s.eyeBits q - 10))) ∧
        ∀ a b, Completes (.eyeWidth p q a b) s fun t =>
          pendingErr t (6 + q) = 0 ∧
            (Sparse.get Mailbox.reset t.mbs (6 + q)).res0 = BitVec.ofNat 32 (a.toNat + 256 * b.toNat)) ∧
      (s.laneUp (s.eyeLane q) = true → s.anchor (s.eyeLane q) = s.eyeLane q →
        0 < (s.reg (SHR_MB_ARG q 3)).toNat →
        inCarve (s.f64 (SHR_MB_ARG q 1)) (s.reg (SHR_MB_ARG q 3)).toNat = true →
        Completes (.loadSend p q) s fun t =>
          pendingErr t (6 + q) = 0 ∧
            (t.lane (s.eyeLane q)).q.load = (s.lane (s.eyeLane q)).q.load ++
              chunks 64 (s.reg (SHR_MB_ARG q 3)).toNat
                (s.carveRead (s.f64 (SHR_MB_ARG q 1)) (s.reg (SHR_MB_ARG q 3)).toNat)))

/-! ### Ford (12_ford_twin) -/

/-- A role request is refused with a code (R586). -/
def Sys2Proof.RoleRefused (s t : State) (code : Nat) : Prop :=
  t.f FRD_ERR_REQ_REJ = 1 ∧ t.f FRD_STATUS_REQ_ERR = code ∧ t.frd.req = 0 ∧ t.role = s.role ∧
    Frame ([FRD_ERR, FRD_STATUS] ++ noticeRegs) s t

/-- The command that a write of FRD_CTRL with ROLE_REQ = r is. -/
def Sys2Proof.roleReqOf (r : Nat) (p : Path) (v : Word) : Instr :=
  if r = 1 then .roleReqPrimary p v else if r = 2 then .roleReqShadow p v else .roleReqCatchup p v

/-- R586 to R588, R600, R603, R612. A role request waits for the partner's PAIR, which accepts it or refuses it with its code;
without an answer in time it is refused. DETACH, LEAVE and a failed catch-up return the device to SOLO. -/
def Obligations.FordRolesAreRequestedAndLeft : Prop :=
  ∀ (s : State) (p : Path),
    (Reached s FRD_CTRL → ∀ (v : Word) (r : Nat), 1 ≤ r → r ≤ 3 → slice v.toNat 0 5 = r →
      (s.mode = Mode.idle → s.role = 0 → s.f DEV_MODE_PROG_VALID = 1 → s.fordUp = true →
        Completes (roleReqOf r p v) s fun t =>
          t.frd.req = r ∧ t.frd.reqAt = s.tmk.steered ∧ t.frd.pairAt = s.tmk.steered ∧ t.role = 0 ∧ t.regs = s.regs) ∧
      (s.mode ≠ Mode.idle ∨ s.role ≠ 0 ∨ s.f DEV_MODE_PROG_VALID = 0 →
        Completes (roleReqOf r p v) s fun t => RoleRefused s t 1) ∧
      (s.mode = Mode.idle → s.role = 0 → s.f DEV_MODE_PROG_VALID = 1 → s.fordUp = false →
        Completes (roleReqOf r p v) s fun t => RoleRefused s t 2)) ∧
    (Reached s FRD_CTRL → ∀ v : Word,
      (slice v.toNat 0 5 = 4 →
        (s.role = 0 → Completes (.detach p v) s fun t => RoleRefused s t 1) ∧
        (s.role ≠ 0 → s.seq.inFrame = true →
          Completes (.detach p v) s fun t => t.frd.detach = true ∧ t.role = s.role ∧ t.regs = s.regs) ∧
        (s.role ≠ 0 → s.seq.inFrame = false → s.frd.due = false →
          Completes (.detach p v) s fun t =>
            t.role = 0 ∧ t.f FRD_STATUS_ROLE = 0 ∧ t.f FRD_STATUS_SEP_CAUSE = 1 ∧ t.f FRD_CFG_JNL_EN = 1)) ∧
      (slice v.toNat 0 5 = 8 →
        (s.role = 0 → s.frd.catchup = true → s.frameNo < s.f64 FRD_CKPT_FRAME →
          Completes (.ckptGo p v) s fun t =>
            t.frd.ckpt = some (s.f64 FRD_CKPT_FRAME) ∧ t.f FRD_STATUS_CKPT = 1 ∧ SameMemory s t) ∧
        (s.role ≠ 0 ∨ s.frd.catchup = false ∨ s.f64 FRD_CKPT_FRAME ≤ s.frameNo →
          Completes (.ckptGo p v) s fun t => t.f FRD_ERR_CKPT_FAIL = 1 ∧ t.frd = s.frd)) ∧
      (slice v.toNat 0 5 = 16 →
        (s.role = 3 →
          Completes (.ckptAbort p v) s fun t =>
            t.role = 0 ∧ t.f DEV_MODE_PROG_VALID = 0 ∧ t.f FRD_STATUS_CKPT = 4 ∧ t.f FRD_STATUS_SEP_CAUSE = 5) ∧
        (s.role = 0 → s.frd.catchup = true ∨ s.frd.ckpt.isSome = true → s.frd.due = false →
          Completes (.ckptAbort p v) s fun t =>
            t.role = 0 ∧ t.frd.catchup = false ∧ t.frd.ckpt = none ∧ t.frd.stream = none ∧ t.f FRD_STATUS_CKPT = 4 ∧
              SameMemory s t) ∧
        (s.role = 1 ∨ s.role = 2 → Completes (.ckptAbort p v) s fun t => t = s))) ∧
    (s.frd.req ≠ 0 →
      (s.elapsedSteered s.frd.pairAt 100000 = true →
        Completes .pairRepeat s fun t => t.frd = { s.frd with pairAt := s.tmk.steered } ∧ t.regs = s.regs) ∧
      (s.elapsedSteered s.frd.reqAt s.fordWait = true → Completes .pairTimeout s fun t => RoleRefused s t 4)) ∧
    (∀ (crc : Word) (flen : Byte) (ssig frame : BitVec 64) (r : Nat), r = 1 ∨ r = 2 → s.frd.req = r →
      s.mode = Mode.idle → s.role = 0 → s.f DEV_MODE_PROG_VALID = 1 → ∀ jnl,
      (crc = s.reg BLT_IMG_CRC → flen.toNat = s.f BLT_LOADED_FLEN → frame.toNat = s.frameNo →
        ssig.toNat = s.f64 FRD_SSIG →
        Completes (.pairReceive (BitVec.ofNat 2 (3 - r)) crc flen 0 jnl ssig frame) s fun t =>
          t.role = r ∧ t.f FRD_STATUS_ROLE = r ∧ t.f FRD_STATUS_REQ_ERR = 0 ∧ t.frd.req = 0 ∧ t.frd.peer = [] ∧
            t.frd.digests = []) ∧
      (crc ≠ s.reg BLT_IMG_CRC →
        Completes (.pairReceive (BitVec.ofNat 2 (3 - r)) crc flen 0 jnl ssig frame) s fun t => RoleRefused s t 3)) ∧
    (∀ (crc : Word) (flen : Byte) (ssig frame : BitVec 64), crc = s.reg BLT_IMG_CRC → flen.toNat = s.f BLT_LOADED_FLEN →
      (s.frd.req = 3 → s.mode = Mode.idle → s.role = 0 → s.f DEV_MODE_PROG_VALID = 1 →
        Completes (.pairReceive 0 crc flen 0 true ssig frame) s fun t =>
          t.role = 3 ∧ t.f FRD_STATUS_ROLE = 3 ∧ t.f FRD_STATUS_REQ_ERR = 0 ∧ t.frd.req = 0) ∧
      (s.frd.req = 0 → s.role = 0 → s.f FRD_CFG_JNL_EN = 1 → ∀ role jnl,
        Completes (.pairReceive 3 crc flen role jnl ssig frame) s fun t =>
          t.frd.catchup = true ∧ t.role = 0 ∧ t.regs = s.regs)) ∧
    (s.seq.inFrame = true → Completes .leave s fun t => t.frd.leave = true ∧ t.role = s.role ∧ t.regs = s.regs) ∧
    (s.seq.inFrame = false →
      Completes .leave s fun t => t.role = 0 ∧ t.f FRD_STATUS_SEP_CAUSE = 2 ∧ t.f FRD_STATUS_EVICTED = 1)

/-- R589, R594 to R596, R598, R599, R604 to R606, R608, R610, R611. A SHADOW holds inputs and mode changes in FRAME_NO order; a
digest that differs holds the device; a lost partner separates the twins; a checkpoint is sent from the dirty sets and
taken word by word on the CATCHUP device. -/
def Obligations.FordTwinsExchangeAndCheckpoint : Prop :=
  ∀ (s : State), s.frd.due = false →
    (∀ (frame : BitVec 64) (join : Bool) (words : List Syl),
      (s.role < 2 → Completes (.input frame join words) s fun t => t = s) ∧
      (2 ≤ s.role → frame.toNat = s.frd.lastIn →
        Completes (.input frame join words) s fun t =>
          t.frd.inputs = s.frd.inputs ++ [⟨frame.toNat, join, words.map (·.toNat)⟩] ∧
            t.frd.lastIn = frame.toNat + 1 ∧ t.regs = s.regs) ∧
      (s.role = 2 → frame.toNat ≠ s.frd.lastIn →
        Completes (.input frame join words) s fun t => t.f FRD_ERR_STREAM = 1 ∧ t.frd = s.frd)) ∧
    (∀ (frame dig ssig : BitVec 64) (halted : Bool),
      (s.role = 0 → Completes (.digest frame halted dig ssig) s fun t => t = s) ∧
      (s.role = 1 → frame.toNat ≤ s.frameNo → s.frd.peerHalted = halted →
        (digestOf s.frd.digests frame.toNat = none →
          Completes (.digest frame halted dig ssig) s fun t =>
            t.frd.peer = ((frame.toNat, dig.toNat) :: s.frd.peer.filter fun x => x.1 != frame.toNat).take 16 ∧
              t.regs = s.regs) ∧
        (∀ a, digestOf s.frd.digests frame.toNat = some a → a ≠ dig.toNat →
          Completes (.digest frame halted dig ssig) s fun t => t.f FRD_ERR_MISMATCH = 1 ∧ t.frd.mismatch = true)) ∧
      (s.role = 1 → s.frameNo < frame.toNat →
        Completes (.digest frame halted dig ssig) s fun t => t.f FRD_ERR_STREAM = 1 ∧ t.frd = s.frd)) ∧
    (∀ (frame : BitVec 64) (target : BitVec 3) (check : Bool),
      (s.role < 2 → Completes (.mode frame target check) s fun t => t = s) ∧
      (s.role = 2 → s.frameNo < frame.toNat ∨ (s.frameNo = frame.toNat ∧ s.seq.inFrame = true) → 3 ≤ target.toNat →
        target.toNat ≤ 6 → target.toNat ≠ Mode.idle ∨ s.f DEV_MODE_HOLD = 0 →
        Completes (.mode frame target check) s fun t =>
          t.frd.modes = s.frd.modes ++ [(frame.toNat, target.toNat, check)] ∧ t.regs = s.regs) ∧
      (s.role = 3 → s.frameNo ≤ frame.toNat → 3 ≤ target.toNat → target.toNat ≤ 6 →
        Completes (.mode frame target check) s fun t =>
          t.frd.modes = s.frd.modes ++ [(frame.toNat, target.toNat, check)] ∧ t.regs = s.regs) ∧
      (s.role = 2 → frame.toNat = s.frameNo → s.seq.inFrame = false → target.toNat = Mode.idle →
        Completes (.mode frame target check) s fun t => t.mode = Mode.idle ∧ t.frameNo = s.frameNo ∧ SameMemory s t) ∧
      (s.role = 2 → frame.toNat < s.frameNo →
        Completes (.mode frame target check) s fun t => t.f FRD_ERR_STREAM = 1 ∧ t.frd = s.frd)) ∧
    (∀ frame,
      (s.role = 0 → s.frd.catchup = true → ∀ n, s.frd.stream = some n → frame.toNat < (n + 1) / 2 →
        Completes (.join frame) s fun t => t.frd = { s.frd with join := true } ∧ t.regs = s.regs) ∧
      (s.role ≠ 0 → Completes (.join frame) s fun t => t = s)) ∧
    (∀ (frame : BitVec 64) (index : BitVec 16) (offset : BitVec 32) (data : List Byte),
      (s.role ≠ 3 → ∀ kind, Completes (.ckpt frame kind index offset data) s fun t => t = s) ∧
      (s.role = 3 → s.mode = Mode.idle →
        (Completes (.ckpt frame 3 index offset data) s fun t =>
          t.frameNo = frame.toNat ∧ t.f FRD_STATUS_CKPT = 3 ∧ t.frd.lastIn = frame.toNat + 1 ∧
            t.f64 FRD_SSIG = dataNat data 0 8) ∧
        (∀ c, s.placedAt index.toNat = some c → offset.toNat < 32768 → data.length = 64 →
          Completes (.ckpt frame 1 index offset data) s fun t =>
            (∀ i, i < 28 → offset.toNat + i < 32768 →
              Sparse.get 0 (t.cl c).sram (offset.toNat + i) = secEncode 5 18 (packedWord data i)) ∧ t.regs = s.regs))) ∧
    (s.role = 1 → s.frd.frozen = false → s.fordDown = true →
      Completes .digestTimeout s fun t =>
        t.role = 0 ∧ t.f FRD_STATUS_SEP_CAUSE = 4 ∧ t.f FRD_ERR_DTO = 1 ∧ t.f FRD_CFG_JNL_EN = 1) ∧
    (s.role = 2 → s.frd.frozen = false → s.fordDown = false → s.gateOver = true → s.f FRD_CFG_SH_ACT = 0 →
      Completes .digestTimeout s fun t =>
        t.role = 2 ∧ t.f FRD_STATUS_SEP_CAUSE = 3 ∧ t.f FRD_ERR_DTO = 1 ∧ t.frd.frozen = true) ∧
    (s.role = 0 → s.fordDown = false → Completes .digestTimeout s fun t => t = s) ∧
    (∀ c, s.role = 0 → s.frd.ckpt = some c →
      (s.frd.final = false →
        Completes .ckptPrecopy s fun t => t.frd.dirtyHbm = [] ∧ t.frd.dirtySram = [] ∧ t.frd.ckpt = some c ∧ SameMemory s t) ∧
      (s.frd.final = true → s.repliesIn = true →
        Completes .ckptFinal s fun t =>
          t.frd.final = false ∧ t.frd.ckpt = none ∧ t.frd.stream = some (2 * (c + 1)) ∧ t.f FRD_STATUS_CKPT = 3 ∧
            SameMemory s t)) ∧
    (∀ at_, s.frd.pace = some at_ →
      (s.elapsedSteered at_ (s.f FRD_PACE_GAP_NS) = true →
        Completes .paceGapExpiry s fun t => t.frd = { s.frd with pace := none } ∧ t.regs = s.regs) ∧
      (s.elapsedSteered at_ (s.f FRD_PACE_GAP_NS) = false → Completes .paceGapExpiry s fun t => t = s))
/-! ### The interface fabric (13_interface_fabric) -/

/-- R621, R623, R633, R642, R628, R640. The guard disables a contended line, records the first and counts each; a write of
1 re-arms a line; an arrival is staged as its output entry says; probe and table writes act within their ranges and are
otherwise dropped with an error; SNAP writes two bytes for each tile into the carve-out, and is refused as R640 lists. -/
def Obligations.FabricGuardTablesAndReadback : Prop :=
  ∀ (s : State),
    (∀ (line : Fin 1792) (g : BitVec 10), s.domainOn 72 = true → s.f FAB_STATUS_CONFIGURED = 1 →
      (s.lineOff line = false →
        Completes (.contention line g) s fun t =>
          t.lineOff line = true ∧ (∀ l, l ≠ line.val → l < 1792 → t.lineOff l = s.lineOff l) ∧
            (s.f FAB_CONT_INFO_VALID = 0 →
              t.f FAB_CONT_INFO_LINE = line ∧ t.f FAB_CONT_INFO_GROUP = g.toNat ∧ t.f FAB_CONT_INFO_VALID = 1) ∧
            (s.f FAB_CONT_INFO_VALID = 1 → t.reg FAB_CONT_INFO = s.reg FAB_CONT_INFO) ∧
            t.f FAB_CONT_CNT_COUNT = min (s.f FAB_CONT_CNT_COUNT + 1) 65535 ∧ t.f FAB_ERR_CONTENTION = 1 ∧
            (s.domainOn 90 = true → (t.reg (OST_EVT_PEND 0)).getLsbD 6 = true) ∧
            Frame ([FAB_CONT_MAP (line / 32), FAB_CONT_INFO, FAB_CONT_CNT, FAB_ERR] ++ noticeRegs) s t) ∧
      (s.lineOff line = true → Completes (.contention line g) s fun t => t = s)) ∧
    (∀ (p : Path) (i : Fin 56) (v : Word), Reached s (FAB_CONT_MAP i) →
      Completes (.contMapWrite p i v) s fun t =>
        t.reg (FAB_CONT_MAP i) = s.reg (FAB_CONT_MAP i) &&& ~~~v ∧ Frame [FAB_CONT_MAP i] s t) ∧
    (∀ (d : Fin 4) (f : BitVec 54) (e : Nat), s.domainOn 72 = true → flitType f.toNat = 1 →
      e = d.val * 1024 + flitTag f.toNat →
      (bitOf (Sparse.get 0 s.fab.out e) 31 = true →
        Completes (.outputArrival d f) s fun t =>
          Sparse.get 0 t.fab.got (e * 4 + flitFtag f.toNat) = flitWord f.toNat + 1 ∧ t.regs = s.regs ∧ SameMemory s t) ∧
      (bitOf (Sparse.get 0 s.fab.out e) 31 = false →
        Completes (.outputArrival d f) s fun t =>
          t.fab = s.fab ∧ t.inboundAt d 20 = removeFirst (fun x => x.flit == f.toNat) (s.inboundAt d 20) ∧ t.f FAB_ERR_NO_ENTRY = 1 ∧ Frame (FAB_ERR :: noticeRegs) s t)) ∧
    (∀ (p : Path) (k : Fin 16) (v : Word), Reached s (FAB_PROBE k) →
      (probeInRange (slice v.toNat 0 2) (slice v.toNat 2 19) = true →
        Completes (.probeSelectWrite p k v) s fun t =>
          t.f (FAB_PROBE_SRC k) = slice v.toNat 0 2 ∧ t.f (FAB_PROBE_SEL k) = slice v.toNat 2 19 ∧
            t.f (FAB_PROBE_EN k) = slice v.toNat 31 1 ∧ Frame [FAB_PROBE k] s t) ∧
      (probeInRange (slice v.toNat 0 2) (slice v.toNat 2 19) = false →
        Completes (.probeSelectWrite p k v) s fun t =>
          t.f FAB_ERR_PROBE_REJ = 1 ∧ Frame (FAB_ERR :: noticeRegs) s t)) ∧
    (∀ (p : Path) (v : Word) (e n : Nat), Reached s FAB_TBL_DATA → e = s.f FAB_TBL_ADDR_ENTRY →
      n = s.f FAB_TBL_ADDR_DIE * 1024 + e →
      (s.mode = Mode.idle → s.mbBusyNow 0 = false → e ≤ fabLast (s.f FAB_TBL_ADDR_TABLE) →
        Completes (.fabTableWrite p v) s fun t =>
          (s.f FAB_TBL_ADDR_TABLE = 0 →
            Sparse.get 0 t.fab.send n = slice v.toNat 0 12 + slice v.toNat 31 1 * 2147483648 ∧ t.fab.out = s.fab.out) ∧
            (s.f FAB_TBL_ADDR_TABLE = 1 →
              Sparse.get 0 t.fab.out n = slice v.toNat 0 12 + slice v.toNat 31 1 * 2147483648 ∧ t.fab.send = s.fab.send) ∧
            (s.f FAB_TBL_ADDR_TABLE = 2 → Sparse.get 0 t.fab.park e = slice v.toNat 0 18) ∧
            (s.f FAB_TBL_ADDR_TABLE = 3 → Sparse.get 0 t.fab.clk e = slice v.toNat 0 4) ∧
            t.fab.clkNow = s.fab.clkNow ∧
            t.f FAB_TBL_ADDR_ENTRY = (if s.f FAB_TBL_ADDR_AUTOINC = 1 then (e + 1) % 8192 else e) ∧
            Frame [FAB_TBL_ADDR] s t) ∧
      (s.mode ≠ Mode.idle ∨ s.mbBusyNow 0 = true ∨ fabLast (s.f FAB_TBL_ADDR_TABLE) < e →
        Completes (.fabTableWrite p v) s fun t =>
          t.fab = s.fab ∧ t.f FAB_ERR_WR_STATE = 1 ∧ Frame (FAB_ERR :: noticeRegs) s t)) ∧
    (∀ (p : Path) (x a n : Nat), Reached s FAB_MB_CMD → s.mbBusyNow 38 = false → x = (s.reg (FAB_MB_ARG 0)).toNat →
      a = (s.reg (FAB_MB_ARG 1)).toNat + (s.reg (FAB_MB_ARG 2)).toNat * 4294967296 → n = (s.reg (FAB_MB_ARG 3)).toNat →
      Completes (.snap p) s fun t =>
        t.f (mbBusy 38) = 1 ∧ OnlyRegs [FAB_MB_STATUS, FAB_MB_RESULT] s t ∧
          (∀ e, s.snapRefusal (slice x 0 14) (slice x 16 4) a n = some e →
            (Sparse.get Mailbox.reset t.mbs 38).err = e ∧ SameMemory s t) ∧
          (s.snapRefusal (slice x 0 14) (slice x 16 4) a n = none →
            (Sparse.get Mailbox.reset t.mbs 38).err = 0 ∧
              (Sparse.get Mailbox.reset t.mbs 38).res0 = BitVec.ofNat 32 (2 * n) ∧
              ∀ k, (∀ i, i < 2 * n → k ≠ carveKey (a + i - carveBase)) → t.hbmByte k = s.hbmByte k))

/-- R614, R624, R630, R636, R637, R639, R855. At an edge of a locked user clock its input words register their nets, and its output
words take the published or park values once 3 hub cycles have passed; OUT_TICK and IN_TAKEN show one edge; a clock that
is not locked has no edges, and its two nets are low. -/
def Obligations.UserClockEdgesRegisterAndDrive : Prop :=
  ∀ (s : State) (k : Fin 16), s.domainOn 72 = true →
    (∀ (bits : Sparse (List Bool)), bitOf (s.f FAB_CLK_STAT_LOCK) k = true →
      Completes (.userClockEdge k bits) s fun t =>
        (∀ w, w < 4096 → s.wordClock 0 w = k →
          (Sparse.get [] t.fab.inputs w).head? = some (s.hub, s.portNets w)) ∧
          (∀ w, s.wordClock 0 w ≠ k → Sparse.get [] t.fab.inputs w = Sparse.get [] s.fab.inputs w) ∧
          (∀ src, src = (if s.f FAB_STATUS_PARKED = 1 then s.fab.park else s.fab.pub) →
            Sparse.wf (fun _ => 0) src = true → bitOf s.fab.outPend k = true →
            (s.f FAB_STATUS_PARKED = 1 ∨ s.fab.pubAt + 3 ≤ s.hub) →
            (∀ w, s.wordClock 1 w = k → Sparse.get 0 t.fab.nets w = Sparse.get 0 src w) ∧
              bitOf t.fab.outPend k = false ∧ bitOf t.fab.tick k = (s.f FAB_STATUS_PARKED == 0)) ∧
          (bitOf s.fab.outPend k = false → t.fab.nets = s.fab.nets ∧ bitOf t.fab.tick k = false) ∧
          (∀ w, s.wordClock 1 w ≠ k → Sparse.wf (fun _ => 0) s.fab.nets = true →
            Sparse.get 0 t.fab.nets w = Sparse.get 0 s.fab.nets w) ∧
          (s.f CFG_STATE_GSR = 1 → t.fab.flops = s.fab.flops) ∧ bitOf t.fab.taken k = bitOf s.fab.inPend k ∧ bitOf t.fab.inPend k = false ∧ t.regs = s.regs ∧ SameMemory s t) ∧
    (∀ (bits : Sparse (List Bool)), bitOf (s.f FAB_CLK_STAT_LOCK) k = false →
      Completes (.userClockEdge k bits) s fun t => t = s) ∧
    (∀ (locked : Bool),
      Completes (.userClockLock k locked) s fun t =>
        (∀ j, j < 16 → bitOf (t.f FAB_CLK_STAT_LOCK) j = (if j = k.val then locked else bitOf (s.f FAB_CLK_STAT_LOCK) j)) ∧
          (locked = false → bitOf t.fab.tick k = false ∧ bitOf t.fab.taken k = false) ∧ Frame [FAB_CLK_STAT] s t)

/-! ### Ostler (15_innkeeper_ostler) -/

/-- The registers that the task lists change: the delay count and the status of the cores. -/
def Sys2Proof.ostTaskRegs : List Nat := OST_DLY_CNT :: (List.range 16).map OST_CORE_STAT

/-- A path's queue is empty, or its first command waits for an entry of the full delay list (R689). -/
def Sys2Proof.OstWaits (s : State) (p : Nat) : Prop :=
  ∀ c ∈ (s.ostQueue p).head?, 4096 ≤ s.ost.delay.length ∧
    ((c.op = 2 ∧ c.arg ≠ 0 ∧ (s.task c.task).state ≠ 2 ∧ (s.task c.task).state ≠ 4) ∨
      (c.op = 4 ∧ ∃ n ∈ s.running p, (s.task n).drerun = true))

/-- The command of a path that Ostler executes next (the paths before it have none, R65), with the rest of its queue. -/
def Sys2Proof.OstNext (s : State) (p : Path) (c : OstCmd) (q : List OstCmd) : Prop :=
  s.domainOn 90 = true ∧ s.ost.events = [] ∧ s.ostQueue p = c :: q ∧ Sparse.get none s.ost.waiting p = none ∧
    ∀ p', p' < p.val → OstWaits s p'

/-- R684, R686 to R691. An OST_CMD write joins its path's queue, or waits, or is refused with BAD_OP; READY, DELAY, CANCEL
and DONE move a task as its state gives, and DELAY waits while the delay list is full; event commands go first; a tick
makes due the tasks whose wake tick has come, and they become READY in their order, one a hub cycle. -/
def Obligations.TasksMoveBetweenTheirLists : Prop :=
  ∀ (s : State) (p : Path),
    (∀ (off : WinOff) (v : Word) (c : OstCmd), off.toNat = OST_CMD + 4 → Reached s off.toNat →
      (s.path p).heldTag = some OST_CMD →
      c = ⟨slice (s.path p).heldLo.toNat 16 3, slice (s.path p).heldLo.toNat 0 14, v.toNat⟩ →
      (1 ≤ c.op → c.op ≤ 4 → (c.op = 4 → p.val < 16) → (s.ostQueue p).length < 32 →
        Completes (.writeHiHalf p off v) s fun t =>
          t.ostQueue p = s.ostQueue p ++ [c] ∧ t.ost.tasks = s.ost.tasks ∧ SameMemory s t) ∧
      (1 ≤ c.op → c.op ≤ 4 → (c.op = 4 → p.val < 16) → 32 ≤ (s.ostQueue p).length →
        Sparse.get none s.ost.waiting p = none →
        Completes (.writeHiHalf p off v) s fun t =>
          t.ostQueue p = s.ostQueue p ∧ Sparse.get none t.ost.waiting p = some c ∧ t.ost.tasks = s.ost.tasks) ∧
      (c.op = 0 ∨ 4 < c.op ∨ (c.op = 4 ∧ 16 ≤ p.val) →
        Completes (.writeHiHalf p off v) s fun t => t.f OST_ERR_BAD_OP = 1 ∧ t.ostQueue p = s.ostQueue p)) ∧
    (∀ (c : OstCmd) (q : List OstCmd) (k : Task), OstNext s p c q → k = s.task c.task →
      (c.op = 1 →
        Completes (.ready p) s fun t =>
          t.ostQueue p = q ∧ Frame ostTaskRegs s t ∧
            (k.state = 0 ∨ k.state = 2 →
              t.task c.task = { k with state := 1, core := 0 } ∧ t.readyList k.pri = s.readyList k.pri ++ [c.task] ∧
                t.ost.delay = if k.state = 0 then s.ost.delay else s.ost.delay.filter fun x => x.2 != c.task) ∧
            (k.state = 4 → t.task c.task = { k with rerun := true } ∧ t.ost.ready = s.ost.ready) ∧
            (k.state = 1 ∨ k.state = 3 → t.ost.tasks = s.ost.tasks ∧ t.ost.ready = s.ost.ready)) ∧
      (c.op = 2 → c.arg ≠ 0 → k.state = 0 → s.ost.delay.length < 4096 →
        Completes (.delay p) s fun t =>
          t.ostQueue p = q ∧ t.task c.task = { k with state := 2, core := 0, wake := s.ost.tick + c.arg } ∧
            t.f OST_DLY_CNT_NOW = s.ost.delay.length + 1 ∧ Frame ostTaskRegs s t ∧
            ∃ l1 l2, s.ost.delay = l1 ++ l2 ∧ t.ost.delay = l1 ++ (s.ost.tick + c.arg, c.task) :: l2 ∧
              (∀ x ∈ l1, x.1 ≤ s.ost.tick + c.arg) ∧ (∀ x, l2.head? = some x → s.ost.tick + c.arg < x.1)) ∧
      (c.op = 2 → c.arg ≠ 0 → k.state = 4 →
        Completes (.delay p) s fun t =>
          t.task c.task = { k with drerun := true, wake := s.ost.tick + c.arg } ∧ t.ost.delay = s.ost.delay ∧
            Frame ostTaskRegs s t) ∧
      (c.op = 2 → c.arg ≠ 0 → k.state = 0 ∨ k.state = 1 ∨ k.state = 3 → 4096 ≤ s.ost.delay.length →
        Completes (.delay p) s fun t =>
          t.ostQueue p = s.ostQueue p ∧ t.ost.tasks = s.ost.tasks ∧ t.f OST_ERR_DLY_FULL = 1 ∧
            Frame (OST_ERR :: noticeRegs) s t) ∧
      (c.op = 3 →
        Completes (.ostCancel p) s fun t =>
          t.ostQueue p = q ∧ Frame ostTaskRegs s t ∧
            (1 ≤ k.state → k.state ≤ 3 → (t.task c.task).state = 0) ∧
            (k.state = 1 → t.readyList k.pri = (s.readyList k.pri).filter (· != c.task)) ∧
            (k.state = 2 → t.ost.delay = s.ost.delay.filter fun x => x.2 != c.task) ∧
            (k.state = 3 → t.slot k.core = none) ∧
            (k.state = 4 → t.task c.task = { k with rerun := false, drerun := false })) ∧
      (∀ n r, c.op = 4 → p.val < 16 → s.running p = some n → r = s.task n →
        (r.drerun = false → r.rerun = false →
          Completes (.ostDone p) s fun t =>
            t.running p = none ∧ (t.task n).state = 0 ∧ t.ost.ready = s.ost.ready ∧ Frame ostTaskRegs s t) ∧
        (r.drerun = false → r.rerun = true →
          Completes (.ostDone p) s fun t =>
            t.running p = none ∧ (t.task n).state = 1 ∧ (t.task n).rerun = false ∧
              t.readyList r.pri = s.readyList r.pri ++ [n] ∧ Frame ostTaskRegs s t) ∧
        (r.drerun = true → s.ost.delay.length < 4096 →
          Completes (.ostDone p) s fun t =>
            t.running p = none ∧ (t.task n).state = 2 ∧ (t.task n).wake = r.wake ∧ (r.wake, n) ∈ t.ost.delay ∧
              Frame ostTaskRegs s t)) ∧
      (c.op = 4 → p.val < 16 → s.running p = none →
        Completes (.ostDone p) s fun t => t.f OST_ERR_BAD_OP = 1 ∧ t.ostQueue p = q ∧ t.ost.tasks = s.ost.tasks)) ∧
    (∀ e n es, s.domainOn 90 = true → s.ost.events = (e, some n) :: es →
      (Completes (.ready p) s (fun t => t = s) ∧ Completes (.delay p) s (fun t => t = s)) ∧
      ((s.task n).state = 0 →
        Completes .eventCommand s fun t =>
          Sparse.get none t.ost.events e = none ∧ t.task n = { s.task n with state := 1, core := 0 } ∧
            t.readyList (s.task n).pri = s.readyList (s.task n).pri ++ [n] ∧ Frame ostTaskRegs s t)) ∧
    (∀ n l, s.domainOn 90 = true → s.ost.due = n :: l → (s.task n).state = 2 → (s.task n).wake ≤ s.ost.tick →
      Completes .ostlerTick s fun t =>
        t.ost.due = l ∧ t.ost.delay = (s.ost.delay.filter fun x => x.2 != n) ∧
          t.task n = { s.task n with state := 1, core := 0 } ∧
          t.readyList (s.task n).pri = s.readyList (s.task n).pri ++ [n] ∧ Frame [OST_DLY_CNT] s t) ∧
    (∀ l, s.domainOn 90 = true → s.ost.due = l →
      (∀ n ∈ l, (s.task n).state ≠ 2 ∨ s.ost.tick < (s.task n).wake) →
      Completes .ostlerTick s fun t =>
        t.ost.due = [] ∧ t.ost.delay = s.ost.delay ∧ t.ost.tasks = s.ost.tasks ∧ t.ost.ready = s.ost.ready ∧
          Frame [] s t) ∧
    (999 ≤ s.ost.phase → s.tickOstler.ost.phase = 0 ∧ s.tickOstler.ost.tick = s.ost.tick + 1 ∧
      s.tickOstler.ost.due = (s.ost.delay.takeWhile fun x => x.1 ≤ s.ost.tick + 1).map (·.2))

/-- A core may take a task (R692): its mask names the core, DISPATCH is 1 and the core runs or sleeps. -/
def Sys2Proof.Fits (s : State) (k : Task) (c : Nat) : Prop :=
  bitOf k.mask c = true ∧ s.f (OST_CORE_CTRL_DISPATCH c) = 1 ∧
    (s.f (OST_CORE_STAT_STATE c) = 1 ∨ s.f (OST_CORE_STAT_STATE c) = 2)

/-- The oldest task of the highest priority that is READY. -/
def Sys2Proof.TopTask (s : State) (n : Nat) (l : List Nat) : Prop :=
  s.domainOn 90 = true ∧ (s.task n).pri < 8 ∧ s.readyList (s.task n).pri = n :: l ∧
    ∀ q, (s.task n).pri < q → q < 8 → s.readyList q = []

/-- R692 to R695. The oldest task of the highest priority goes to the first idle core that fits; else to the slot of an
INTERRUPT core that runs a lower priority, which is interrupted; else it displaces a slotted task of lower priority, which
returns to the head of its list; with no core it stays. A core's read of CORE_TAKE gives it its slot's task and word. -/
def Obligations.TasksArePlacedAndTaken : Prop :=
  ∀ (s : State),
    (∀ n l (c : Fin 16), TopTask s n l → Fits s (s.task n) c →
      (s.slot c = none → s.running c = none →
        (∀ c', c' < c.val → Fits s (s.task n) c' → s.slot c' ≠ none ∨ s.running c' ≠ none) →
        Completes .taskPlace s fun t =>
          t.slot c = some n ∧ (t.task n).state = 3 ∧ (t.task n).core = c ∧
            t.readyList (s.task n).pri = (n :: l).filter (· != n) ∧ t.f (OST_CORE_STAT_IRQ c) = 1 ∧
            Frame ostTaskRegs s t) ∧
      (∀ b, s.slot c = none → s.running c = some b → (∀ c', c' ≠ c.val → ¬ Fits s (s.task n) c') →
        s.f (OST_CORE_CTRL_STYLE c) = 0 → (s.task b).pri < (s.task n).pri →
        Completes .taskPlace s fun t =>
          t.slot c = some n ∧ t.running c = some b ∧ t.f (OST_CORE_STAT_IRQ c) = 1 ∧ Frame ostTaskRegs s t) ∧
      (∀ a, s.slot c = some a → (∀ c', c' ≠ c.val → ¬ Fits s (s.task n) c') → (s.task a).pri < (s.task n).pri →
        Completes .taskPlace s fun t =>
          t.slot c = some n ∧ (t.task a).state = 1 ∧ t.readyList (s.task a).pri = a :: s.readyList (s.task a).pri ∧
            Frame ostTaskRegs s t)) ∧
    ((∀ q n c, q < 8 → n ∈ s.readyList q → c < 16 → ¬ Fits s (s.task n) c) →
      Completes .taskPlace s fun t => t = s) ∧
    (∀ (p : Path) (core : Fin 16), Reached s (OST_CORE_TAKE core) →
      (∀ n, p.val = core.val → s.slot core = some n → n < 16384 →
        Completes (.coreTake p core) s fun t =>
          (t.path p).answer.toNat = n + 2147483648 ∧ t.slot core = none ∧ t.running core = some n ∧
            (t.task n).state = 4 ∧ (t.task n).core = core ∧ t.f64 (OST_CORE_WORD core) = (s.task n).word % 2 ^ 64 ∧
            Sparse.get 0 t.ost.wdt core = 0 ∧ t.f (OST_CORE_STAT_IRQ core) = 0 ∧
            (∀ r, r ≠ n → s.running core = some r → s.f (OST_CORE_CTRL_STYLE core) = 0 →
              (t.task r) = { s.task r with state := 1, core := 0 } ∧
                t.readyList (s.task r).pri = r :: s.readyList (s.task r).pri) ∧
            Frame ([OST_CORE_WORD core, OST_CORE_WORD core + 4] ++ ostTaskRegs) s t) ∧
      (p.val ≠ core.val ∨ s.slot core = none → Completes (.coreTake p core) s fun t => t = s.answer p 0))

/-- R681, R691, R696 to R698, R709. A core is released or held by OST_CORE_CTRL, and its tasks return when it is held;
descriptor words are stored together and only while the task is IDLE; the doorbell fires its event; KICK restarts a
watchdog, which interrupts its core at half its timeout and recovers it at the whole. -/
def Obligations.CoresDescriptorsAndWatchdogs : Prop :=
  ∀ (s : State),
    (∀ (p : Path) (c : Fin 16) (v : Word), Reached s (OST_CORE_CTRL c) →
      (v.getLsbD 0 = true → v.getLsbD 1 = false → s.f (OST_CORE_STAT_STATE c) = 0 → s.domainOn (73 + c) = true →
        Completes (.coreRun p c v) s fun t =>
          t.f (OST_CORE_CTRL_RUN c) = 1 ∧ t.f (OST_CORE_STAT_STATE c) = 1 ∧ Sparse.get 0 t.ost.wdt c = 0) ∧
      (v.getLsbD 1 = true →
        Completes (.coreHold p c v) s fun t =>
          t.f (OST_CORE_CTRL_RUN c) = 0 ∧ t.f (OST_CORE_STAT_STATE c) = 0 ∧ t.running c = none ∧ t.slot c = none ∧
            t.f (OST_CORE_CTRL_STYLE c) = slice v.toNat 2 1 ∧ t.f (OST_CORE_CTRL_DISPATCH c) = slice v.toNat 3 1 ∧
            (∀ n, s.slot c = none → s.running c = some n →
              (t.task n).state = 1 ∧ t.readyList (s.task n).pri = n :: s.readyList (s.task n).pri))) ∧
    (∀ (p : Path) (i : Fin 3) (v : Word) (n : Nat), Reached s (OST_TASK_D0 + 4 * i) → n = s.f OST_TASK_ADDR_TASK →
      ((s.task n).state ≠ 0 →
        Completes (.taskDescriptorWrite p i v) s fun t =>
          t.f OST_ERR_TASK_BUSY = 1 ∧ t.ost.tasks = s.ost.tasks ∧ Frame (OST_ERR :: noticeRegs) s t) ∧
      ((s.task n).state = 0 → i = 0 →
        Completes (.taskDescriptorWrite p i v) s fun t =>
          t.ost.d0 = some v ∧ t.ost.tasks = s.ost.tasks ∧ Frame [] s t) ∧
      (∀ w0 w1, (s.task n).state = 0 → i = 2 → s.ost.d0 = some w0 → s.ost.d1 = some w1 →
        Completes (.taskDescriptorWrite p i v) s fun t =>
          (t.task n).mask = w0.toNat % 65536 ∧ (t.task n).pri = slice w0.toNat 16 3 ∧
            (t.task n).word = w1.toNat + v.toNat * 2 ^ 32 ∧ (t.task n).state = 0 ∧
            t.f OST_TASK_ADDR_TASK = (if s.f OST_TASK_ADDR_AUTOINC = 1 then (n + 1) % 16384 else n) ∧
            Frame [OST_TASK_ADDR] s t) ∧
      (i = 0 →
        Completes (.taskDescriptorRead p i) s fun t =>
          (t.path p).answer = BitVec.ofNat 32 (taskWord (s.task n)) ∧
            (t.reg OST_TASK_D1).toNat + 2 ^ 32 * (t.reg OST_TASK_D2).toNat = (s.task n).word % 2 ^ 64 ∧
            Frame [OST_TASK_D1, OST_TASK_D2] s t) ∧
      (i = 2 →
        Completes (.taskDescriptorRead p i) s fun t =>
          (t.path p).answer = s.reg OST_TASK_D2 ∧
            t.f OST_TASK_ADDR_TASK = (if s.f OST_TASK_ADDR_AUTOINC = 1 then (n + 1) % 16384 else n) ∧
            Frame [OST_TASK_ADDR] s t)) ∧
    (∀ (p : Path) (v : Word), Reached s OST_DOORBELL → s.domainOn 90 = true →
      Completes (.doorbell p v) s fun t =>
        t.f OST_DOORBELL_VALUE = v.toNat % 65536 ∧ (t.reg (OST_EVT_PEND 0)).getLsbD 23 = true ∧
          (s.f (OST_EVT_TASK_EN 23) = 1 → Sparse.get none s.ost.events 23 = none →
            Sparse.get none t.ost.events 23 = some (s.f (OST_EVT_TASK_TASK 23))) ∧
          Frame [OST_DOORBELL, OST_EVT_PEND 0] s t) ∧
    (∀ (p : Path) (c : Fin 16) (v : Word), Reached s (OST_CORE_WDT c) →
      Completes (.kick p c v) s fun t =>
        t.f (OST_CORE_WDT_TIMEOUT_MS c) = v.toNat % 65536 ∧ t.f (OST_CORE_WDT_EN c) = slice v.toNat 16 1 ∧
          (v.getLsbD 17 = true → Sparse.get 0 t.ost.wdt c = 0 ∧ Sparse.get false t.ost.nmi c = false) ∧
          (v.getLsbD 17 = false → t.ost = s.ost) ∧ Frame [OST_CORE_WDT c] s t) ∧
    (∀ (c : Fin 16) (limit : Nat), s.domainOn 90 = true → s.f (OST_CORE_STAT_STATE c) = 1 →
      limit = max 1 (s.f (OST_CORE_WDT_TIMEOUT_MS c)) * 1000000 * 2 ^ 40 →
      (limit ≤ 2 * Sparse.get 0 s.ost.wdt c →
        Completes (.coreWdtNmi c) s fun t => Sparse.get false t.ost.nmi c = true ∧ Frame [] s t) ∧
      (2 * Sparse.get 0 s.ost.wdt c < limit → Completes (.coreWdtNmi c) s fun t => t = s) ∧
      (limit ≤ Sparse.get 0 s.ost.wdt c → s.f (OST_CORE_WDT_EN c) = 1 →
        Completes (.coreWdtExpiry c) s fun t =>
          t.f (OST_CORE_WDT_RECOV c) = min (s.f (OST_CORE_WDT_RECOV c) + 1) 255 ∧
            t.f (OST_CORE_STAT_STATE c) = s.f (OST_CORE_CTRL_AUTO_RESTART c) ∧
            t.f (OST_CORE_CTRL_RUN c) = s.f (OST_CORE_CTRL_AUTO_RESTART c) ∧ t.running c = none ∧ t.slot c = none ∧
            Sparse.get 0 t.ost.wdt c = 0 ∧ (t.reg (OST_EVT_PEND 0)).getLsbD 25 = true ∧
            (∀ n, s.slot c = none → s.running c = some n →
              (t.task n).state = 1 ∧ t.readyList (s.task n).pri = n :: s.readyList (s.task n).pri)) ∧
      (s.f (OST_CORE_WDT_EN c) = 0 → Completes (.coreWdtExpiry c) s fun t => t = s))

/-! ### The management port (15_innkeeper_ostler) -/

/-- The port takes frames from outside (R803, R815): not in RESET, not while JTAG owns the pins, and with no loopback. -/
def Sys2Proof.PortOpen (s : State) : Prop := s.jtagPins = false ∧ s.mode ≠ Mode.reset ∧ s.f MGE_LB_MODE = 0

/-- A frame for the receive ring: one with a bad FCS, or one that is no PAUSE, no request and no ARP request. -/
def Sys2Proof.ForRing (s : State) (frame : List Byte) (fcsOk : Bool) : Prop :=
  fcsOk = false ∨ (pauseTime frame = none ∧ s.rapFrame frame = none ∧ s.arpRequest frame = false)

/-- R678, R699, R703, R705, R803. A received frame is a PAUSE, a register-access request, an ARP request or goes to the
receive ring: its bytes and descriptor are written and HEAD advances, or it is counted as dropped; a transmit descriptor
that the ring owns is sent; a ring outside every region is a bus error; the MDIO master runs one frame at a time. -/
def Obligations.ManagementPortFramesAndRings : Prop :=
  ∀ (s : State),
    (∀ frame fcsOk, s.jtagPins = true ∨ s.mode = Mode.reset ∨ s.f MGE_LB_MODE = 1 ∨ s.f MGE_LB_MODE = 2 →
      Completes (.mgeFrameReceive frame fcsOk) s fun t => t = s) ∧
    (∀ frame, PortOpen s →
      (∀ q, pauseTime frame = some q → s.f MGE_CTRL_PAUSE_EN = 1 →
        Completes (.mgeFrameReceive frame true) s fun t =>
          t = s.setMge { s.mge with pauseUntil := s.hub + 512 * q }) ∧
      (∀ r, pauseTime frame = none → s.rapFrame frame = some r → s.rst.stage ≠ 1 →
        (s.mge.waiting.length < 4 →
          Completes (.mgeFrameReceive frame true) s fun t =>
            t = s.setMge { s.mge with waiting := s.mge.waiting ++ [r] }) ∧
        (4 ≤ s.mge.waiting.length →
          Completes (.mgeFrameReceive frame true) s fun t =>
            t.f MGE_RAP_CNT_DROP = min (s.f MGE_RAP_CNT_DROP + 1) 65535 ∧ t.mge = s.mge ∧ Frame [MGE_RAP_CNT] s t)) ∧
      (pauseTime frame = none → s.rapFrame frame = none → s.arpRequest frame = true →
        Completes (.mgeFrameReceive frame true) s fun t =>
          t = s.setMge { s.mge with sent := s.arpReply frame })) ∧
    (∀ frame fcsOk a buf n, PortOpen s → ForRing s frame fcsOk →
      a = s.f64 MGE_RXR_BASE + 32 * s.f MGE_RXR_HEAD_HEAD → buf = s.innNat a 8 →
      n = min frame.length (s.innNat (a + 8) 2) →
      (s.f MGE_CTRL_RX_EN = 0 ∨ s.f MGE_RXR_LEN_LEN = 0 ∨ (innHolds a 32 = true ∧ s.innNat (a + 10) 2 % 2 = 0) →
        Completes (.mgeFrameReceive frame fcsOk) s fun t =>
          (t.reg MGE_RX_DROP).toNat = min ((s.reg MGE_RX_DROP).toNat + 1) 0xFFFFFFFF ∧ Frame [MGE_RX_DROP] s t) ∧
      (s.f MGE_CTRL_RX_EN = 1 → s.f MGE_RXR_LEN_LEN ≠ 0 → innHolds a 32 = false →
        exec (.mgeFrameReceive frame fcsOk) s = .fault .busError) ∧
      (s.f MGE_CTRL_RX_EN = 1 → s.f MGE_RXR_LEN_LEN ≠ 0 → innHolds a 32 = true → s.innNat (a + 10) 2 % 2 = 1 →
        (n = 0 ∨ innHolds buf n = true) → innRegion a ≠ 2 → innRegion buf ≠ 2 → (buf + n ≤ a + 8 ∨ a + 32 ≤ buf) →
        Completes (.mgeFrameReceive frame fcsOk) s fun t =>
          (∀ i, i < n → t.innByte (buf + i) = frame.getD i 0) ∧ t.innNat (a + 8) 2 = n ∧
            t.innNat (a + 10) 2 =
              8 * ofBool (!fcsOk || Nat.blt (s.innNat (a + 8) 2) frame.length || Nat.blt 9212 frame.length) ∧
            t.f MGE_RXR_HEAD_HEAD = (s.f MGE_RXR_HEAD_HEAD + 1) % s.f MGE_RXR_LEN_LEN ∧
            (s.domainOn 90 = true → (t.reg (OST_EVT_PEND 0)).getLsbD 21 = true) ∧
            OnlyRegs [MGE_RXR_HEAD, OST_EVT_PEND 0] s t ∧
            (∀ x, (∀ i, i < n → x ≠ buf + i) → (∀ i, i < 24 → x ≠ a + 8 + i) → t.innByte x = s.innByte x) ∧
            (∀ k, (∀ x, k ≠ carveKey x) → t.hbmByte k = s.hbmByte k) ∧ t.mram = s.mram)) ∧
    (∀ a buf n flags, a = s.f64 MGE_TXR_BASE + 32 * s.f MGE_TXR_HEAD_HEAD → buf = s.innNat a 8 → n = s.innNat (a + 8) 2 →
      flags = s.innNat (a + 10) 2 →
      (s.f MGE_CTRL_TX_EN = 0 ∨ s.f MGE_TXR_LEN_LEN = 0 ∨ s.hub < s.mge.pauseUntil →
        Completes .mgeTxDescriptor s fun t => t = s) ∧
      (s.f MGE_CTRL_TX_EN = 1 → s.f MGE_TXR_LEN_LEN ≠ 0 → s.mge.pauseUntil ≤ s.hub →
        (innHolds a 32 = false → exec .mgeTxDescriptor s = .fault .busError) ∧
        (innHolds a 32 = true → flags % 2 = 0 → Completes .mgeTxDescriptor s fun t => t = s) ∧
        (innHolds a 32 = true → flags % 2 = 1 → n ≠ 0 → innHolds buf n = false →
          exec .mgeTxDescriptor s = .fault .busError) ∧
        (innHolds a 32 = true → flags % 2 = 1 → (n = 0 ∨ innHolds buf n = true) → s.f MGE_LB_MODE = 0 →
          Completes .mgeTxDescriptor s fun t =>
            t.mge.sent = (if bitOf flags 1 then s.oneStepFrame (s.innRead buf n) else s.innRead buf n) ∧
              (innRegion a ≠ 2 → t.innNat (a + 10) 2 = flags - 1) ∧
              t.f MGE_TXR_HEAD_HEAD = (s.f MGE_TXR_HEAD_HEAD + 1) % s.f MGE_TXR_LEN_LEN ∧
              (s.domainOn 90 = true → (t.reg (OST_EVT_PEND 0)).getLsbD 22 = true) ∧
              OnlyRegs [MGE_TXR_HEAD, OST_EVT_PEND 0] s t ∧
              (∀ x, x ≠ a + 10 → x ≠ a + 11 → t.innByte x = s.innByte x) ∧
              (∀ k, (∀ x, k ≠ carveKey x) → t.hbmByte k = s.hbmByte k) ∧ t.mram = s.mram))) ∧
    (∀ (p : Path) (v : Word), Reached s MGE_MDIO_CMD →
      (s.f MGE_MDIO_CMD_GO_BUSY = 0 →
        Completes (.goBusy p v) s fun t => t.reg MGE_MDIO_CMD = v &&& 0x87FFFFFF ||| s.reg MGE_MDIO_CMD &&& 0x78000000 ∧
          Frame [MGE_MDIO_CMD] s t) ∧
      (s.f MGE_MDIO_CMD_GO_BUSY = 1 → v.getLsbD 31 = true → Completes (.goBusy p v) s fun t => t = s)) ∧
    (∀ data : BitVec 16,
      (s.f MGE_MDIO_CMD_GO_BUSY = 1 →
        Completes (.mdioComplete data) s fun t =>
          t.f MGE_MDIO_CMD_GO_BUSY = 0 ∧
            t.f MGE_MDIO_CMD_DATA = (if s.f MGE_MDIO_CMD_READ = 1 then data.toNat else s.f MGE_MDIO_CMD_DATA) ∧
            Frame [MGE_MDIO_CMD] s t) ∧
      (s.f MGE_MDIO_CMD_GO_BUSY = 0 → Completes (.mdioComplete data) s fun t => t = s))

/-! ### Wake Trace (16_wake_trace) -/

/-- A trace with room, and with nothing to emit before the next packet. -/
def Sys2Proof.CalmTrace (s : State) (c : Nat) : Prop :=
  s.domainOn 90 = true ∧ (s.tr c).atoms = [] ∧ (s.tr c).lost = 0 ∧ (s.tr c).tsDue = 0 ∧ (s.tr c).held = [] ∧
    (s.tr c).level ≤ 480

/-- The core's cycles count: it does not sleep (R720). -/
def Sys2Proof.Awake (s : State) (c : Nat) : Prop :=
  s.f (WKE_CORE_STAT_ASLEEP c) = 0 ∧ s.f (OST_CORE_STAT_STATE c) ≠ 2

/-- Packets enter a core's FIFO. -/
def Sys2Proof.Emits (s t : State) (c : Nat) (pkts : List (List Nat)) : Prop := (t.tr c).fifo = (s.tr c).fifo ++ pkts

/-- The first unit of a packet, by the fields of R710: TYPE, CORE, CYC and payload. -/
def Sys2Proof.packetHead (ty c cyc payload : Nat) : Nat := payload + 2 ^ 40 * (cyc + 2 ^ 16 * (c + 16 * ty))

/-- R710 to R714, R716, R719 to R721, R723, R729. A tracing core's branch, sleep, wake, secure transition, periodic
timestamp and count overflow each put their packet into its FIFO, with the core cycles since the last one; outcomes are
gathered by 32; a stop delay ends in STOPPED; a stall that lasts too long ends. -/
def Sys2Proof.TracePacketsOfACore : Prop :=
  ∀ (s : State) (core : Fin 16) (c : Nat), c = core.val → CalmTrace s c →
    (∀ (kind : Fin 4) taken (target : BitVec 64) cycles cyc, s.tracing c = true → s.traceQuiet c = false →
      Awake s c → cyc = min ((s.tr c).count + cycles) 65535 →
      (kind ≠ 3 →
        Completes (.traceBranch core kind taken target cycles) s fun t =>
          Emits s t c [[packetHead 2 c cyc kind, target.toNat]] ∧ (t.tr c).count = 0 ∧ Frame [] s t) ∧
      (kind = 3 →
        Completes (.traceBranch core kind taken target cycles) s fun t =>
          Emits s t c [] ∧ (t.tr c).atoms = [taken] ∧ (t.tr c).count = cyc ∧ Frame [] s t)) ∧
    (∀ kind taken target cycles, s.tracing c = false →
      Completes (.traceBranch core kind taken target cycles) s fun t => t = s) ∧
    ((s.tr c).isOver = false → s.tracing c = true → Awake s c →
      Completes (.traceCycleOverflow core) s fun t =>
        Emits s t c [[packetHead 6 c 65535 0]] ∧ (t.tr c).isOver = true ∧ (t.tr c).tsDue = 1 ∧ Frame [] s t) ∧
    (∀ cycles cyc, s.trState c = TraceSt.active → s.f WKE_CTRL_TS_LOG2 ≠ 0 → Awake s c →
      s.elapsedSteered (s.tr c).tsAt (1000 * 2 ^ s.f WKE_CTRL_TS_LOG2) = true →
      cyc = min ((s.tr c).count + cycles) 65535 →
      Completes (.traceTsPeriod core cycles) s fun t =>
        Emits s t c [[packetHead 3 c cyc s.now.ns, s.now.sec, s.now.frac]] ∧ (t.tr c).count = 0 ∧ Frame [] s t) ∧
    (∀ cycles cyc, s.f (OST_CORE_STAT_STATE c) = 1 → Awake s c →
      cyc = min ((s.tr c).count + cycles) 65535 →
      Completes (.traceSleep core cycles) s fun t =>
        t.f (OST_CORE_STAT_STATE c) = 2 ∧ Frame [OST_CORE_STAT c, WKE_CORE_STAT c] s t ∧
          (s.tracing c = true →
            Emits s t c [[packetHead 4 c cyc s.now.ns, s.now.sec, s.now.frac]] ∧ t.f (WKE_CORE_STAT_ASLEEP c) = 1) ∧
          (s.tracing c = false → t.wke = s.wke)) ∧
    (s.f (OST_CORE_STAT_STATE c) = 2 →
      Completes (.traceWake core) s fun t =>
        t.f (OST_CORE_STAT_STATE c) = 1 ∧ t.f (WKE_CORE_STAT_ASLEEP c) = 0 ∧
          Frame [OST_CORE_STAT c, WKE_CORE_STAT c] s t ∧
          (s.tracing c = true →
            Emits s t c [[packetHead 5 c 0 s.now.ns, s.now.sec, s.now.frac]] ∧ (t.tr c).count = 0)) ∧
    (∀ cycles cyc, s.trState c = TraceSt.stopping → Awake s c →
      cyc = min ((s.tr c).count + cycles) 65535 →
      (s.elapsedSteered (s.tr c).stopAt (1000 * s.f (WKE_CORE_CFG_STOP_DLY_US c)) = true →
        Completes (.stopDelayExpiry core cycles) s fun t =>
          Emits s t c [[packetHead 9 c cyc 1]] ∧ t.trState c = TraceSt.stopped ∧ Frame [WKE_CORE_STAT c] s t) ∧
      (s.elapsedSteered (s.tr c).stopAt (1000 * s.f (WKE_CORE_CFG_STOP_DLY_US c)) = false →
        Completes (.stopDelayExpiry core cycles) s fun t => t = s)) ∧
    (∀ cycles cyc, (s.tr c).secure = false → s.tracing c = true → Awake s c →
      cyc = min ((s.tr c).count + cycles) 65535 →
      Completes (.secureTransition core true cycles) s fun t =>
        Emits s t c [[packetHead 10 c cyc (1 + 2 * ofBool (s.authorised c))]] ∧ (t.tr c).secure = true ∧
          (t.tr c).secCount = 0 ∧ Frame [] s t) ∧
    (∀ cycles, Completes (.secureTransition core (s.tr c).secure cycles) s fun t => t = s) ∧
    (∀ (u : State) t0, u = s.setTr c { s.tr c with stallAt := some t0 } →
      (u.elapsedSteered t0 (1000 * max 1 (u.f WKE_STALL_MAX_US)) = true →
        Completes (.traceStallTimeout core) u fun t =>
          t.f WKE_ERR_STALL_TMO = 1 ∧ (t.tr c).stallAt = none ∧ (t.tr c).dropping = true ∧ Emits u t c [] ∧
            Frame (WKE_ERR :: noticeRegs) u t) ∧
      (u.elapsedSteered t0 (1000 * max 1 (u.f WKE_STALL_MAX_US)) = false →
        Completes (.traceStallTimeout core) u fun t => t = u))

/-- R711, R728, R729. The 32nd outcome emits an ATOM of all 32, the oldest in bit 0; at a stall's timeout the packets that
wait without a reserved place are lost and counted. -/
def Sys2Proof.AtomsAndStalls : Prop :=
  ∀ (s : State) (core : Fin 16) (c : Nat), c = core.val → s.domainOn 90 = true →
    (∀ taken target cycles cyc, s.tracing c = true → s.traceQuiet c = false → Awake s c →
      (s.tr c).held = [] → (s.tr c).level ≤ 480 → cyc = min ((s.tr c).count + cycles) 65535 →
      (0 < (s.tr c).atoms.length → (s.tr c).atoms.length < 31 →
        Completes (.traceBranch core 3 taken target cycles) s fun t =>
          (t.tr c).atoms = (s.tr c).atoms ++ [taken] ∧ (t.tr c).atomAt = cyc ∧ Emits s t c [] ∧ Frame [] s t) ∧
      ((s.tr c).atoms.length = 31 →
        Completes (.traceBranch core 3 taken target cycles) s fun t =>
          (t.tr c).atoms = [] ∧ Frame [] s t ∧
            ∃ bits, Emits s t c [[packetHead 1 c cyc (bits + 31 * 2 ^ 32)]] ∧ bits < 2 ^ 32 ∧
              ∀ i, i < 32 → bitOf bits i = ((s.tr c).atoms ++ [taken]).getD i false)) ∧
    (∀ t0 n, (s.tr c).stallAt = some t0 → s.elapsedSteered t0 (1000 * max 1 (s.f WKE_STALL_MAX_US)) = true →
      n = (((s.tr c).held.filter fun x => !([4, 5, 7, 9].contains (x.headD 0 / 2 ^ 60))).map List.length).sum → 0 < n →
      Completes (.traceStallTimeout core) s fun t =>
        (t.tr c).held = (s.tr c).held.filter (fun x => [4, 5, 7, 9].contains (x.headD 0 / 2 ^ 60)) ∧
          (t.tr c).lost = (s.tr c).lost + n ∧
          t.f (WKE_CORE_STAT_DROPS c) = min (s.f (WKE_CORE_STAT_DROPS c) + n) 65535 ∧ t.f WKE_ERR_DROP = 1 ∧
          t.f WKE_ERR_STALL_TMO = 1 ∧ Frame ([WKE_CORE_STAT c, WKE_ERR] ++ noticeRegs) s t)

/-- The rules of TracePacketsOfACore and the rules of AtomsAndStalls. -/
def Obligations.TracesRecordTheirCores : Prop := TracePacketsOfACore ∧ AtomsAndStalls

/-- Comparator k of core c alone may match, with a given ACT; no comparator is part of a range (R717). -/
def Sys2Proof.OneComparator (s : State) (c k act : Nat) : Prop :=
  k < 8 ∧ s.f (WKE_CMP_CFG_ACT c k) = act ∧
    ∀ j, j < 8 → s.f (WKE_CMP_CFG_RANGE c j) = 0 ∧ (j ≠ k → s.f (WKE_CMP_CFG_ACT c j) = 0)

/-- R715 to R718, R725, R726, R730 to R734. Comparators start, stop and trigger a trace; the first trigger after EN puts a
TRIG packet into every ACTIVE core's FIFO; EN needs a good sink, and starts and stops the cores; a line of the merger goes
to the next sink bytes; a certificate is checked after VERIFY, and REVOKE ends every authorisation. -/
def Obligations.TraceControlSinkAndAuthorisation : Prop :=
  ∀ (s : State), s.domainOn 90 = true →
    (∀ (core : Fin 2) c k (addr : BitVec 64) cycles cyc, c = core.val → CalmTrace s c → s.f WKE_CTRL_EN = 1 →
      s.traceQuiet c = false → Awake s c → cyc = min ((s.tr c).count + cycles) 65535 →
      (OneComparator s c k 2 → s.f64 (WKE_CMP_ADDR c k) = addr.toNat → s.trState c = TraceSt.active →
        Completes (.comparatorMatch core addr cycles) s fun t =>
          Emits s t c [[packetHead 9 c cyc 0]] ∧ t.trState c = TraceSt.armed ∧ Frame [WKE_CORE_STAT c] s t) ∧
      (OneComparator s c k 1 → s.f64 (WKE_CMP_ADDR c k) = addr.toNat → s.trState c = TraceSt.armed →
        Completes (.comparatorMatch core addr cycles) s fun t =>
          t.trState c = TraceSt.active ∧ Frame [WKE_CORE_STAT c] s t ∧
            ∃ n a, Emits s t c [[packetHead 3 c n s.now.ns, s.now.sec, s.now.frac], [packetHead 2 c 0 3, a]]) ∧
      (OneComparator s c k 3 → s.f64 (WKE_CMP_ADDR c k) = addr.toNat → s.trigEnabled (3 + c) = true →
        Completes (.comparatorMatch core addr cycles) s fun t => t.f WKE_STAT_TRIGGERED = 1)) ∧
    (∀ (src : BitVec 3), src.toNat ≤ 5 → s.trigEnabled src.toNat = true →
      (s.f WKE_CTRL_EN = 1 → s.f WKE_STAT_TRIGGERED = 0 →
        Completes (.wakeTrigger src) s fun t =>
          t.f WKE_STAT_TRIGGERED = 1 ∧ SameMemory s t ∧
            ∀ c, c < 16 → CalmTrace s c → s.trState c = TraceSt.active →
              (s.f (WKE_CORE_CFG_STOP_DLY_EN c) = 0 →
                t.trState c = TraceSt.active ∧ ∃ n, Emits s t c [[packetHead 8 c n src.toNat]]) ∧
              (s.f (WKE_CORE_CFG_STOP_DLY_EN c) = 1 → s.f (WKE_CORE_CFG_STOP_DLY_US c) ≠ 0 →
                t.trState c = TraceSt.stopping ∧ (t.tr c).stopAt = s.tmk.steered)) ∧
      (s.f WKE_CTRL_EN = 0 ∨ s.f WKE_STAT_TRIGGERED = 1 → Completes (.wakeTrigger src) s fun t => t = s)) ∧
    (∀ (src : BitVec 3), 5 < src.toNat → Completes (.wakeTrigger src) s fun t => t = s) ∧
    (∀ (p : Path) (v : Word), Reached s WKE_CTRL → s.f WKE_CTRL_EN = 1 → slice v.toNat 1 1 = s.f WKE_CTRL_SINK_MODE →
      slice v.toNat 4 4 = s.f WKE_CTRL_TS_LOG2 → slice v.toNat 16 5 = s.f WKE_CTRL_TRIG_SRC → v.getLsbD 0 = true →
      v.getLsbD 2 = true → Completes (.trigSw p v) s fun t => t.f WKE_STAT_TRIGGERED = 1 ∧ t.f WKE_CTRL_EN = 1) ∧
    (∀ (p : Path) (v : Word), Reached s WKE_CTRL → v.getLsbD 2 = false →
      (s.f WKE_CTRL_EN = 0 → v.getLsbD 0 = true → s.sinkOk = true →
        Completes (.wkeEnableWrite p v) s fun t =>
          t.f WKE_CTRL_EN = 1 ∧ t.f WKE_STAT_TRIGGERED = 0 ∧ t.f WKE_STAT_SINK_FULL = 0 ∧ t.f64 WKE_SINK_WR = 0 ∧
            t.f WKE_CTRL_SINK_MODE = slice v.toNat 1 1 ∧ t.f WKE_CTRL_TS_LOG2 = slice v.toNat 4 4 ∧
            t.f WKE_CTRL_TRIG_SRC = slice v.toNat 16 5 ∧
            ∀ c, 2 ≤ c → c < 16 → s.f (WKE_CORE_CFG_EN c) = 1 →
              s.trState c = TraceSt.off ∨ s.trState c = TraceSt.stopped → t.trState c = TraceSt.active) ∧
      (s.f WKE_CTRL_EN = 0 → v.getLsbD 0 = true → s.sinkOk = false →
        Completes (.wkeEnableWrite p v) s fun t => t.f WKE_CTRL_EN = 0 ∧ t.f WKE_ERR_CFG_REJ = 1 ∧ t.wke = s.wke) ∧
      (s.f WKE_CTRL_EN = 1 → v.getLsbD 0 = false →
        Completes (.wkeEnableWrite p v) s fun t =>
          t.f WKE_CTRL_EN = 0 ∧ t.f WKE_CTRL_SINK_MODE = s.f WKE_CTRL_SINK_MODE ∧
            ∀ c, c < 16 → t.trState c = TraceSt.stopped) ∧
      (s.f WKE_CTRL_EN = 1 → slice v.toNat 1 1 ≠ s.f WKE_CTRL_SINK_MODE →
        Completes (.wkeEnableWrite p v) s fun t => t.f WKE_ERR_CFG_REJ = 1)) ∧
    (∀ a, s.f WKE_STAT_SINK_FULL = 0 → s.f WKE_CTRL_SINK_MODE = 0 →
      a = s.f64 WKE_SINK_BASE + s.f64 WKE_SINK_WR % s.f64 WKE_SINK_LEN → inCarve a 64 = true →
      (s.wke.line.length = 8 → (∀ c, c < 16 → (s.tr c).fifo = []) →
        Completes .mergerLineWrite s fun t =>
          t.carveRead a 64 = s.wke.line.flatMap (bytesLE 8) ∧ t.wke.line = [] ∧
            t.f64 WKE_SINK_WR = (s.f64 WKE_SINK_WR + 64) % 2 ^ 64 ∧ OnlyRegs [WKE_SINK_WR, WKE_SINK_WR + 4] s t ∧
            (∀ k, (∀ i, i < 64 → k ≠ carveKey (a + i - carveBase)) → t.hbmByte k = s.hbmByte k)) ∧
      (∀ c pkt, c < 16 → s.wke.line = [] → s.f WKE_CTRL_EN = 0 → (s.tr c).fifo = [pkt] → (s.tr c).held = [] →
        (s.tr c).lost = 0 → 0 < pkt.length → pkt.length ≤ 8 → (∀ j, j < 16 → j ≠ c → (s.tr j).fifo = []) →
        Completes .mergerLineWrite s fun t =>
          t.carveRead a 64 = (pkt ++ List.replicate (8 - pkt.length) 0).flatMap (bytesLE 8) ∧ (t.tr c).fifo = [] ∧
            OnlyRegs [WKE_SINK_WR, WKE_SINK_WR + 4] s t)) ∧
    (s.f WKE_STAT_SINK_FULL = 1 → Completes .mergerLineWrite s fun t => t = s) ∧
    (∀ (p : Path) (v : Word), Reached s WKE_AUTH_CMD →
      (s.f WKE_AUTH_STAT_BUSY = 0 → v.getLsbD 0 = true → inCarve (s.f64 WKE_AUTH_ADDR) 216 = true →
        Completes (.authVerify p v) s fun t =>
          t.f WKE_AUTH_STAT_BUSY = 1 ∧ t.wke.cert = s.carveRead (s.f64 WKE_AUTH_ADDR) 216 ∧
            t.wke.given = s.wke.nonce ∧
            t.f WKE_AUTH_STAT_CORES = (if v.getLsbD 1 then 0 else s.f WKE_AUTH_STAT_CORES) ∧
            Frame [WKE_AUTH_STAT] s t) ∧
      (s.f WKE_AUTH_STAT_BUSY = 0 → v.getLsbD 0 = false → v.getLsbD 1 = true →
        Completes (.revoke p v) s fun t =>
          t.f WKE_AUTH_STAT_CORES = 0 ∧ t.f WKE_AUTH_STAT_BUSY = 0 ∧ Frame [WKE_AUTH_STAT] s t) ∧
      (s.f WKE_AUTH_STAT_BUSY = 1 → Completes (.authVerify p v) s (fun t => t = s) ∧
        Completes (.revoke p v) s fun t => t = s)) ∧
    (s.f WKE_AUTH_STAT_BUSY = 1 → s.f CFG_STATUS_PHASE ≠ 2 →
      Completes .authVerifyDone s fun t =>
        t.f WKE_AUTH_STAT_BUSY = 0 ∧ t.f WKE_AUTH_STAT_RESULT = s.certResult ∧ t.wke.nonce = s.wke.nonce + 1 ∧
          (s.certResult = 1 →
            t.f WKE_AUTH_STAT_CORES = s.f WKE_AUTH_STAT_CORES ||| certNat s.wke.cert 18 2 ∧ Frame [WKE_AUTH_STAT] s t) ∧
          (s.certResult ≠ 1 →
            t.f WKE_AUTH_STAT_CORES = s.f WKE_AUTH_STAT_CORES ∧ t.f WKE_ERR_AUTH_FAIL = 1 ∧
              Frame ([WKE_AUTH_STAT, WKE_ERR] ++ noticeRegs) s t) ∧
          (s.wke.cert.take 4 ≠ [0x57, 0x50, 0x54, 0x41] → t.f WKE_AUTH_STAT_RESULT = 2))

/-! ### The Guestbook (17_guestbook) -/

/-- A record has room in the write queue (R746). -/
def Sys2Proof.RecordRoom (s : State) (sev : Nat) : Prop :=
  sev = 3 ∨ ((s.gbk.queue.filter fun q => q.sev != 3).length < 24 ∧ s.gbk.queue.length < 32)

/-- R738, R740, R741, R746 to R750. A first occurrence opens an aggregator and a further one within its interval is counted
in it; a closed one becomes a record of the queue; the queue's head is written to the next slot that R747 allows, with its
SEQ and CRC; the scan finds the end of the log; EXPORT, ERASE and FLUSH act on the log as they state. -/
def Obligations.OccurrencesBecomeRecordsOfTheLog : Prop :=
  (∀ (s : State) (p : Path) (off : WinOff), s.access off.toNat = .off → s.f GBK_CFG_EN = 1 →
    ((∀ a ∈ s.gbk.open_, a.src ≠ 224) → s.gbk.open_.length < 64 →
      Completes (.offBlockAccess p off none) s fun t =>
        ∃ a, t.gbk.open_ = s.gbk.open_ ++ [a] ∧ a.src = 224 ∧ a.count = 1 ∧ a.t0 = s.tmk.steered ∧
          a.sec = s.now.sec ∧ a.ns = s.now.ns ∧ a.interval = max 1 (s.f GBK_CFG_INTERVAL_MS) ∧ a.frame = s.frameNo ∧
          a.hist = [1, 0, 0, 0, 0, 0, 0, 0] ∧ t.gbk.queue = s.gbk.queue) ∧
    (∀ a, s.gbk.open_ = [a] → a.src = 224 → s.elapsedSteered a.t0 (a.interval * 1000000) = false →
      a.count < 0xFFFFFFFF →
      Completes (.offBlockAccess p off none) s fun t =>
        ∃ b, t.gbk.open_ = [b] ∧ b.src = 224 ∧ b.count = a.count + 1 ∧ b.t0 = a.t0 ∧ t.gbk.queue = s.gbk.queue)) ∧
  (∀ (s : State) (src : BitVec 12) (a : Aggregator), (s.gbk.open_.find? fun x => x.src == src.toNat) = some a →
    (s.elapsedSteered a.t0 (a.interval * 1000000) = true → RecordRoom s (s.sevOf a.src) →
      Completes (.aggregatorClose src) s fun t =>
        t.gbk.open_ = (s.gbk.open_.filter fun x => x.src != src.toNat) ∧ Frame [] s t ∧
          ∃ r, t.gbk.queue = s.gbk.queue ++ [r] ∧ r.src = a.src ∧ r.sev = s.sevOf a.src ∧ r.inst = a.inst ∧
            r.sec = a.sec ∧ r.ns = a.ns ∧ r.count = a.count ∧ r.frame = a.frame ∧ r.hist = a.hist ∧ r.vmax = a.vmax ∧
            r.vmin = a.vmin ∧ r.durMs = a.interval ∧ r.flags = ofBool a.sat + 4 * ofBool a.multi) ∧
    (s.elapsedSteered a.t0 (a.interval * 1000000) = true → ¬ RecordRoom s (s.sevOf a.src) →
      Completes (.aggregatorClose src) s fun t =>
        t.gbk.queue = s.gbk.queue ∧ t.f GBK_DROP_REC = min (s.f GBK_DROP_REC + 1) 65535 ∧ t.f GBK_ERR_DROP_REC = 1 ∧
          Frame [GBK_ERR, GBK_DROP] s t) ∧
    (s.elapsedSteered a.t0 (a.interval * 1000000) = false → Completes (.aggregatorClose src) s fun t => t = s)) ∧
  (∀ (s : State) (r : Record) (rest : List Record) (k : Nat), s.f GBK_STAT_SCAN_DONE = 1 → s.gbk.writeAt ≤ s.tmk.steered →
    s.mode ≠ Mode.reset → s.gbkCommandRuns = false → s.gbk.queue = r :: rest →
    (k = s.f GBK_STAT_HEAD ∧ (slotValid (s.logSlot k) = false ∨ slotSev (s.logSlot k) ≤ r.sev) ∨
      k = (s.f GBK_STAT_HEAD + 1) % 65536 ∧ slotValid (s.logSlot (s.f GBK_STAT_HEAD)) = true ∧
        r.sev < slotSev (s.logSlot (s.f GBK_STAT_HEAD)) ∧
        (slotValid (s.logSlot k) = false ∨ slotSev (s.logSlot k) ≤ r.sev)) →
    Completes .gbkRecordWrite s fun t =>
      t.gbk.queue = rest ∧ t.gbk.writeAt = s.tmk.steered + 2000 * 2 ^ 40 ∧ t.f GBK_STAT_HEAD = (k + 1) % 65536 ∧
        (t.reg GBK_SEQ).toNat = ((s.reg GBK_SEQ).toNat + 1) % 2 ^ 32 ∧ slotValid (t.logSlot k) = true ∧
        slotSeq (t.logSlot k) = (s.reg GBK_SEQ).toNat ∧
        readNat t.mram (slotAddr k + 4) 2 = r.src % 4096 + r.sev % 4 * 4096 ∧
        readNat t.mram (slotAddr k + 6) 2 = r.inst % 65536 ∧ readNat t.mram (slotAddr k + 8) 8 = r.sec % 2 ^ 64 ∧
        readNat t.mram (slotAddr k + 16) 4 = r.ns % 2 ^ 32 ∧ readNat t.mram (slotAddr k + 20) 4 = r.count % 2 ^ 32 ∧
        readNat t.mram (slotAddr k + 24) 8 = r.frame % 2 ^ 64 ∧
        (∀ a, a < slotAddr k ∨ slotAddr k + 64 ≤ a → t.mramByte a = s.mramByte a) ∧ t.hbm = s.hbm ∧ t.boot = s.boot ∧
        OnlyRegs [GBK_STAT, GBK_SEQ] s t) ∧
  (∀ (s : State), s.f GBK_STAT_SCAN_DONE = 0 → Completes .gbkRecordWrite s fun t => t = s) ∧
  (∀ (s : State), s.mode ≠ Mode.reset → s.f GBK_STAT_SCAN_DONE = 0 →
    ((∀ k, k < 65536 → slotValid (s.logSlot k) = false) →
      Completes .gbkScanDone s fun t =>
        t.f GBK_STAT_SCAN_DONE = 1 ∧ t.f GBK_STAT_HEAD = 0 ∧ t.reg GBK_SEQ = 0 ∧ t.mram = s.mram ∧
          Frame [GBK_STAT, GBK_SEQ, GBK_BAD] s t) ∧
    (∀ k, k < 65536 → Memory.wf s.mram = true → (∀ j, j < 65536 → (slotValid (s.logSlot j) = true ↔ j = k)) →
      Completes .gbkScanDone s fun t =>
        t.f GBK_STAT_SCAN_DONE = 1 ∧ t.f GBK_STAT_HEAD = (k + 1) % 65536 ∧
          (t.reg GBK_SEQ).toNat = (slotSeq (s.logSlot k) + 1) % 2 ^ 32 ∧ Frame [GBK_STAT, GBK_SEQ, GBK_BAD] s t)) ∧
  (∀ (s : State) (p : Path) (first addr n : Nat), Reached s GBK_MB_CMD → s.mbBusyNow 39 = false →
    first = (s.reg (GBK_MB_ARG 0)).toNat → addr = s.f64 (GBK_MB_ARG 1) → n = (s.reg (GBK_MB_ARG 3)).toNat →
    (s.mode ≠ Mode.standby → 0 < n → first + n ≤ 65536 → addr % 64 = 0 → inCarve addr (64 * n) = true →
      Completes (.exportLog p) s fun t =>
        t.f (mbBusy 39) = 1 ∧ (Sparse.get Mailbox.reset t.mbs 39).err = 0 ∧
          (Sparse.get Mailbox.reset t.mbs 39).res0 = BitVec.ofNat 32 n ∧
          (∀ i, i < n → t.carveRead (addr + 64 * i) 64 = s.logSlot (first + i)) ∧ t.mram = s.mram ∧
          (∀ k, (∀ i, i < 64 * n → k ≠ carveKey (addr + i - carveBase)) → t.hbmByte k = s.hbmByte k) ∧
          OnlyRegs [GBK_MB_STATUS, GBK_MB_RESULT] s t) ∧
    (s.mode ≠ Mode.standby → 0 < n → 65536 < first + n →
      Completes (.exportLog p) s fun t =>
        (Sparse.get Mailbox.reset t.mbs 39).err = 1 ∧ Frame [GBK_MB_STATUS, GBK_MB_RESULT] s t) ∧
    (s.mode ≠ Mode.standby → 0 < n → first + n ≤ 65536 → addr % 64 ≠ 0 ∨ inCarve addr (64 * n) = false →
      Completes (.exportLog p) s fun t =>
        (Sparse.get Mailbox.reset t.mbs 39).err = 2 ∧ Frame [GBK_MB_STATUS, GBK_MB_RESULT] s t) ∧
    (n = 0 →
      Completes (.exportLog p) s fun t =>
        (Sparse.get Mailbox.reset t.mbs 39).err = 0 ∧ (Sparse.get Mailbox.reset t.mbs 39).res0 = 0 ∧
          Frame [GBK_MB_STATUS, GBK_MB_RESULT] s t) ∧
    (s.mode = Mode.standby → 0 < n →
      Completes (.exportLog p) s fun t =>
        (Sparse.get Mailbox.reset t.mbs 39).err = 3 ∧ Frame [GBK_MB_STATUS, GBK_MB_RESULT] s t)) ∧
  (∀ (s : State) (p : Path), Reached s GBK_MB_CMD → s.mbBusyNow 39 = false →
    (Completes (.gbkErase p) s fun t =>
      (∀ k, k < 65536 → slotValid (s.logSlot k) = true → slotSev (s.logSlot k) ≤ slice (s.reg (GBK_MB_ARG 0)).toNat 0 2 →
        t.logSlot k = List.replicate 64 0) ∧
        (∀ k, k < 65536 → slotValid (s.logSlot k) = false ∨ slice (s.reg (GBK_MB_ARG 0)).toNat 0 2 < slotSev (s.logSlot k) →
          t.logSlot k = s.logSlot k) ∧
        (Sparse.get Mailbox.reset t.mbs 39).err = 0 ∧ OnlyRegs [GBK_MB_STATUS, GBK_MB_RESULT] s t ∧ t.hbm = s.hbm) ∧
    (Completes (.flush p) s fun t =>
      t.gbk.open_ = [] ∧ (Sparse.get Mailbox.reset t.mbs 39).err = 0 ∧
        (Sparse.get Mailbox.reset t.mbs 39).res0 = BitVec.ofNat 32 (t.gbk.queue.length - s.gbk.queue.length)) ∧
    (∀ a, s.gbk.open_ = [a] → RecordRoom s (s.sevOf a.src) →
      Completes (.flush p) s fun t =>
        (Sparse.get Mailbox.reset t.mbs 39).res0 = 1 ∧ ∃ r, t.gbk.queue = s.gbk.queue ++ [r] ∧ r.src = a.src ∧
          r.count = a.count ∧ r.flags = ofBool a.sat + 2 + 4 * ofBool a.multi)) ∧
  (∀ (s : State) (p : Path) (v : Word), Reached s GBK_SEV_DATA →
    (isFatal (s.f GBK_SEV_ADDR_SRC) = true ∨ slice v.toNat 0 2 = 3 →
      Completes (.sevDataWrite p v) s fun t => t.f GBK_ERR_SEV_REJ = 1 ∧ t.gbk = s.gbk ∧ Frame [GBK_ERR] s t) ∧
    (isFatal (s.f GBK_SEV_ADDR_SRC) = false → isSource (s.f GBK_SEV_ADDR_SRC) = true → slice v.toNat 0 2 ≠ 3 →
      Completes (.sevDataWrite p v) s fun t =>
        t.sevOf (s.f GBK_SEV_ADDR_SRC) = slice v.toNat 0 2 ∧
          (∀ src, src ≠ s.f GBK_SEV_ADDR_SRC → t.sevOf src = s.sevOf src) ∧ Frame [] s t))

/-! ### Power and temperature (19_power_thermal) -/

/-- The 34 stops of a compute domain are drained (R302). -/
def Sys2Proof.RingDrained (s : State) (i : Nat) : Prop :=
  ∀ j, j < 34 → s.stopDrained (dieOf (34 * i + j)) (ringOf (34 * i + j)) (posOf (34 * i + j)) = true

/-- R302, R776 to R778, R781, R783, R784, R787. A vote wakes its domain and its loss powers a ring down; wake steps run in order,
and one that takes too long fails the domain; a power-down step ends in the next, in OFF, or goes back; RST resets a
domain that is ON and free, and is otherwise refused. -/
def Obligations.PowerDomainsFollowVotesAndSteps : Prop :=
  ∀ (s : State),
    (∀ (p : Path) (k : Fin 3) (v : Word), Reached s (PWR_VOTE_SW k) →
      Completes (.voteSwWrite p k v) s fun t =>
        t.reg (PWR_VOTE_SW k) = (if k = 2 then v &&& 0x01FFFFFF else v) ∧
          (∀ i, i < 89 → i / 32 = k.val → v.getLsbD (i % 32) = true → s.f (PWR_DOM_STATE i) = 2 →
            s.f (PWR_DOM_FAIL i) = 0 → s.domainOn (domainParent i) = true →
            t.f (PWR_DOM_STATE i) = 3 ∧ t.wakeSteps i = [1, 2, 3, 4]) ∧
          (∀ i, i < 32 → k = 0 → v.getLsbD i = false → s.votes i / 2 = 0 → s.f (PWR_DOM_STATE i) = 0 →
            t.f (PWR_DOM_STATE i) = 1 ∧ t.f (PWR_DOM_PD_STEP i) = 1)) ∧
    (∀ (i : Fin 91) (step : Nat) (rest : List Nat), s.f (PWR_DOM_STATE i) = 3 → s.wakeSteps i = step :: rest →
      (step ≠ 4 → rest ≠ [] →
        Completes (.wakeStepReady i) s fun t =>
          t.wakeSteps i = rest ∧ t.f (PWR_DOM_STATE i) = 3 ∧ Sparse.get 0 t.pwr.since i = s.tmk.steered ∧
            Frame [PWR_DOM i] s t) ∧
      (rest = [] →
        Completes (.wakeStepReady i) s fun t => t.f (PWR_DOM_STATE i) = 0 ∧ t.wakeSteps i = []) ∧
      (s.elapsedSteered (Sparse.get 0 s.pwr.since i) (1000 * max 1 (s.f PWR_TMO_STEP_US)) = true →
        Completes (.wakeStepTimeout i) s fun t =>
          t.f (PWR_DOM_STATE i) = 2 ∧ t.f (PWR_DOM_FAIL i) = 1 ∧ t.f PWR_ERR_WAKE_FAIL = 1 ∧ t.wakeSteps i = [] ∧
            (s.f PWR_ERR_INFO_VALID = 0 →
              t.f PWR_ERR_INFO_DOMAIN = i ∧ t.f PWR_ERR_INFO_STEP = (step - 1) % 4 ∧ t.f PWR_ERR_INFO_VALID = 1) ∧
            (s.f PWR_ERR_INFO_VALID = 1 → t.reg PWR_ERR_INFO = s.reg PWR_ERR_INFO) ∧
            Frame [PWR_DOM i, PWR_ERR, PWR_ERR_INFO] s t) ∧
      (s.elapsedSteered (Sparse.get 0 s.pwr.since i) (1000 * max 1 (s.f PWR_TMO_STEP_US)) = false →
        Completes (.wakeStepTimeout i) s fun t => t = s)) ∧
    (∀ (i : Fin 91), s.f (PWR_DOM_STATE i) ≠ 3 →
      Completes (.wakeStepReady i) s (fun t => t = s) ∧ Completes (.wakeStepTimeout i) s fun t => t = s) ∧
    (∀ (i : Fin 91) (k : Nat), s.f (PWR_DOM_STATE i) = 1 → k = s.f (PWR_DOM_PD_STEP i) →
      (k < 5 → k ≠ 3 → s.wantedBack i = false → (i.val < 32 → k = 1 → RingDrained s i) →
        Completes (.powerdownStep i) s fun t =>
          t.f (PWR_DOM_PD_STEP i) = k + 1 ∧ t.f (PWR_DOM_STATE i) = 1 ∧ Frame [PWR_DOM i] s t) ∧
      (k = 1 → i.val < 32 → (∃ j, j < 34 ∧ s.stopDrained (dieOf (34 * i + j)) (ringOf (34 * i + j)) (posOf (34 * i + j)) = false) →
        Completes (.powerdownStep i) s fun t => t = s) ∧
      (k = 1 → s.wantedBack i = true → (i.val < 32 → RingDrained s i) →
        Completes (.powerdownStep i) s fun t => t.f (PWR_DOM_STATE i) = 0 ∧ Frame [PWR_DOM i] s t) ∧
      (k = 2 → s.wantedBack i = true →
        Completes (.powerdownStep i) s fun t =>
          t.f (PWR_DOM_STATE i) = 3 ∧ t.wakeSteps i = [2] ∧ Frame [PWR_DOM i] s t) ∧
      (k = 4 → s.wantedBack i = true →
        Completes (.powerdownStep i) s fun t =>
          t.f (PWR_DOM_STATE i) = 3 ∧ t.wakeSteps i = [3, 4] ∧ Frame [PWR_DOM i] s t) ∧
      (k = 5 → i.val < 89 → s.wanted i = false →
        Completes (.powerdownStep i) s fun t => t.f (PWR_DOM_STATE i) = 2 ∧ t.f (PWR_DOM_PD_STEP i) = 0)) ∧
    (∀ (i : Fin 91), s.f (PWR_DOM_STATE i) ≠ 1 → Completes (.powerdownStep i) s fun t => t = s) ∧
    (∀ (p : Path) (i : Fin 91) (v : Word), Reached s (PWR_DOM i) → v.getLsbD 7 = true →
      (s.domainOn i = false ∨ 89 ≤ i.val ∨ (i.val ≤ 72 ∧ s.framesMode = true) →
        Completes (.domainReset p i v) s fun t => t.f PWR_ERR_RST_REJ = 1) ∧
      (i.val = 72 → s.domainOn 72 = true → s.framesMode = false →
        Completes (.domainReset p i v) s fun t =>
          t.fab = Fabric.reset ∧ t.f CFG_STATE_CONFIGURED = 0 ∧
            ∀ off, 0x800000 ≤ off → off < 0x900000 → t.reg off = resetOf off) ∧
      (36 ≤ i.val → i.val < 40 → s.domainOn i = true → s.framesMode = false →
        Completes (.domainReset p i v) s fun t =>
          t.ctl (i.val - 36) = HbmCtl.reset ∧ t.f (HBC_STAT_SELF_REF (i.val - 36)) = 1 ∧
            t.f (HBC_STAT_TRAINED (i.val - 36)) = 0 ∧ t.hbm = s.hbm ∧
            ∀ off, hbcBase (i.val - 36) ≤ off → off < hbcBase (i.val - 36) + 0x100000 → off ≠ HBC_STAT (i.val - 36) →
              t.reg off = resetOf off))

/-- R786, R790, R792. WAKE_N wakes the device from STANDBY and is otherwise only kept; the steps of the STANDBY entry and
exit follow one another when each is done, and end in STANDBY and in IDLE. -/
def Obligations.StandbyEntryAndExit : Prop :=
  ∀ (s : State),
    (∀ low, s.mode ≠ Mode.standby →
      Completes (.wakeN low) s fun t =>
        t.pwr.wakeN = low ∧ (s.pwr.entry = 0 → t.pwr.wakeEdge = s.pwr.wakeEdge) ∧ Frame [] s t) ∧
    (s.mode = Mode.standby → s.pwr.exit = 0 → s.pwr.entry = 0 → s.f PWR_CFG_WAKE_EDGE = 0 →
      (s.f (PWR_DOM_STATE 90) = 2 →
        Completes (.wakeN true) s fun t =>
          t.pwr.exit = 1 ∧ t.f (PWR_DOM_STATE 90) = 3 ∧ t.wakeSteps 90 = [1, 2, 3, 4]) ∧
      (s.pwr.wakeEdge = false → Completes (.wakeN false) s fun t => t.pwr.exit = 0 ∧ Frame [] s t)) ∧
    (s.pwr.entry = 0 → Completes .standbyEntryStep s fun t => t = s) ∧
    (s.pwr.entry ≠ 0 → s.entryDone = false → Completes .standbyEntryStep s fun t => t = s) ∧
    (1 ≤ s.pwr.entry → s.pwr.entry < 7 → s.entryDone = true →
      Completes .standbyEntryStep s fun t => t.pwr.entry = s.pwr.entry + 1) ∧
    (s.pwr.entry = 2 → Completes .standbyEntryStep s fun t =>
      ∀ l, l < 128 → t.laneState l = LaneSt.off) ∧
    (s.pwr.entry = 1 → Completes .standbyEntryStep s fun t =>
      ∀ c, c < 16 → t.f (OST_CORE_STAT_STATE c) = 0 ∧ t.f (OST_CORE_CTRL_RUN c) = 0) ∧
    (s.pwr.entry = 7 → s.f (PWR_DOM_STATE 90) = 2 → s.pwr.exit = 0 → s.pwr.wakeN = false → s.pwr.wakeEdge = false →
      Completes .standbyEntryStep s fun t => t.mode = Mode.standby ∧ t.pwr.entry = 0) ∧
    (s.pwr.exit = 0 → Completes .standbyExitStep s fun t => t = s) ∧
    (s.pwr.exit ≠ 0 → s.exitDone = false → Completes .standbyExitStep s fun t => t = s) ∧
    (1 ≤ s.pwr.exit → s.pwr.exit < 4 → s.exitDone = true →
      Completes .standbyExitStep s fun t => t.pwr.exit = s.pwr.exit + 1) ∧
    (s.pwr.exit = 4 → s.mode = Mode.standby →
      s.cfg.fwEntry = none ∨ s.f (OST_CORE_STAT_STATE 0) ≠ 0 ∨ s.f (PWR_DOM_FAIL 73) = 1 →
      Completes .standbyExitStep s fun t => t.mode = Mode.idle ∧ t.pwr.exit = 0 ∧ t.f DEV_MODE_PROG_VALID = 0)

/-- R793 to R796, R798, R800, R858. A reading is recorded with its maximum, sets and clears its alarm by WARN and HYST, and
asserts THERMTRIP_N from CRIT; an evaluation moves each ring's slowdown level as its temperature says; a threshold write
is taken only when WARN, SLOW and CRIT rise in order. -/
def Obligations.TemperaturesAlarmsAndSlowdown : Prop :=
  ∀ (s : State),
    (∀ (n : Fin 44) (q : BitVec 11) (k : Nat) (temp warn hyst crit : Int), k = sensorClass n →
      temp = Machine.signed 11 q.toNat → warn = 4 * s.f (PWR_THR_CLS_WARN k) → hyst = 4 * s.f (PWR_THR_CLS_HYST k) →
      crit = 4 * s.f (PWR_THR_CLS_CRIT k) → (n.val < 40 ∨ s.domainOn (n.val - 4) = true) →
      Completes (.sensorReading n q) s fun t =>
        t.f (PWR_TEMP_TEMP n) = q.toNat ∧ t.f (PWR_TEMP_VALID n) = 1 ∧
          (Sparse.get false s.pwr.maxSeen n = false → t.f (PWR_TEMP_MAX n) = q.toNat) ∧
          (Sparse.get false s.pwr.maxSeen n = true → temp ≤ Machine.signed 11 (s.f (PWR_TEMP_MAX n)) →
            t.f (PWR_TEMP_MAX n) = s.f (PWR_TEMP_MAX n)) ∧
          (warn ≤ temp → t.f (alarmBit n) = 1 ∧
            (s.f (alarmBit n) = 0 → s.domainOn 90 = true → (t.reg (OST_EVT_PEND 0)).getLsbD 26 = true)) ∧
          (temp < warn → temp < warn - hyst → t.f (alarmBit n) = 0) ∧
          (temp < warn → warn - hyst ≤ temp → t.f (alarmBit n) = s.f (alarmBit n)) ∧
          (crit ≤ temp → t.pwr.thermtrip = true ∧ t.f PWR_THR_STAT_CRIT = 1) ∧
          Frame ([PWR_TEMP n, PWR_THR_STAT, PWR_THR_STAT + 4] ++ noticeRegs) s t) ∧
    (∀ (n : Fin 44) (q : BitVec 11), 40 ≤ n.val → s.domainOn (n.val - 4) = false →
      Completes (.sensorReading n q) s fun t => t = s) ∧
    (s.pwr.evalAt ≤ s.hub →
      Completes .slowdownEvaluation s fun t =>
        t.pwr.evalAt = s.pwr.evalAt + 1000 * max 1 (s.f PWR_THR_CFG_STEP_US) ∧
          ∀ (d : Fin 4) (r : Fin 8) (temp crit slow hyst : Int) (old new : Nat),
            s.f (PWR_TEMP_VALID (9 * d + r)) = 1 → s.f (PWR_TEMP_VALID (9 * d + 8)) = 1 →
            temp = max (Machine.signed 11 (s.f (PWR_TEMP_TEMP (9 * d + r))))
              (Machine.signed 11 (s.f (PWR_TEMP_TEMP (9 * d + 8)))) →
            crit = 4 * s.f (PWR_THR_CLS_CRIT 0) → slow = 4 * s.f (PWR_THR_CLS_SLOW 0) →
            hyst = 4 * s.f (PWR_THR_CLS_HYST 0) → old = s.f ⟨PWR_SLOW d, 4 * r, 4⟩ → new = t.f ⟨PWR_SLOW d, 4 * r, 4⟩ →
            (crit ≤ temp → new = 8) ∧ (temp < crit → slow ≤ temp → new = min 8 (old + 1)) ∧
              (temp < crit → temp < slow → temp < slow - hyst → new = old - 1) ∧
              (temp < crit → temp < slow → slow - hyst ≤ temp → new = old)) ∧
    (s.hub < s.pwr.evalAt → Completes .slowdownEvaluation s fun t => t = s) ∧
    (∀ (p : Path) (k : Fin 3) (v : Word) (warn slow crit : Nat), Reached s (PWR_THR_CLS k) → warn = slice v.toNat 0 8 →
      slow = slice v.toNat 8 8 → crit = slice v.toNat 16 8 →
      (k ≠ 1 → warn ≤ slow → slow ≤ crit →
        Completes (.thresholdWrite p k v) s fun t =>
          t.f (PWR_THR_CLS_WARN k) = warn ∧ t.f (PWR_THR_CLS_SLOW k) = slow ∧ t.f (PWR_THR_CLS_CRIT k) = crit ∧
            t.f (PWR_THR_CLS_HYST k) = slice v.toNat 24 4 ∧ Frame [PWR_THR_CLS k] s t) ∧
      (k = 1 → warn ≤ crit →
        Completes (.thresholdWrite p k v) s fun t =>
          t.f (PWR_THR_CLS_WARN k) = warn ∧ t.f (PWR_THR_CLS_CRIT k) = crit ∧
            t.f (PWR_THR_CLS_HYST k) = slice v.toNat 24 4 ∧ Frame [PWR_THR_CLS k] s t) ∧
      ((k ≠ 1 ∧ (slow < warn ∨ crit < slow)) ∨ (k = 1 ∧ crit < warn) →
        Completes (.thresholdWrite p k v) s fun t => t = s))

/-! ### Production and field test (20_test_loopback), and the tests of Millrace (05_millrace_network) -/

/-- A BIST command may run (R805). -/
def Sys2Proof.BistFree (s : State) : Prop :=
  Reached s DEV_BIST_CMD ∧ s.mbBusyNow 41 = false ∧ s.mode = Mode.diagnose ∧ s.mbBusyNow 0 = false

/-- R310, R311, R801, R805 to R809, R811 to R813, R815, R835. A stop's test flits are counted and compared; a loopback mode
is set only in DIAGNOSE; BIST is refused outside it, and its outcome says what failed; the TAP moves and shifts as
IEEE 1149.1 gives; a user I/O bank without VCCIO reads 0. -/
def Obligations.LoopbackBuiltInTestAndTap : Prop :=
  (∀ (s : State) (p : Path) (d : Fin 4) (r : Fin 8) (pos : Fin 36) (v : Word) (b : Nat), b = stopBase d r pos →
    Reached s (MLR_STOP_LB b) →
    (s.mode ≠ Mode.diagnose → slice v.toNat 0 2 ≠ 0 ∨ v.getLsbD 3 = true →
      Completes (.loopbackModeWrite p d r pos v) s fun t =>
        t.f (MLR_STOP_ERR_LB_STATE b) = 1 ∧ t.mlr = s.mlr ∧ Frame (MLR_STOP_ERR b :: noticeRegs) s t) ∧
    (s.mode ≠ Mode.diagnose → slice v.toNat 0 2 ≠ 0 ∨ v.getLsbD 3 = true →
      Completes (.loopbackGo p d r pos v) s fun t =>
        t.f (MLR_STOP_ERR_LB_STATE b) = 1 ∧ t.mlr = s.mlr ∧ Frame (MLR_STOP_ERR b :: noticeRegs) s t) ∧
    (s.mode = Mode.diagnose → v.getLsbD 3 = false →
      Completes (.loopbackModeWrite p d r pos v) s fun t =>
        t.f (MLR_STOP_LB_MODE b) = slice v.toNat 0 2 ∧ t.f (MLR_STOP_LB_DIR b) = slice v.toNat 2 1 ∧
          t.f (MLR_STOP_LB_COUNT b) = slice v.toNat 16 16 ∧ Frame [MLR_STOP_LB b] s t) ∧
    (s.mode = Mode.diagnose → v.getLsbD 3 = true →
      Completes (.loopbackGo p d r pos v) s fun t =>
        (slice v.toNat 16 16 = 0 → Frame [MLR_STOP_LB b] s t) ∧
          (slice v.toNat 16 16 ≠ 0 →
            t.f (MLR_STOP_LBSTAT_BUSY b) = 1 ∧ t.f (MLR_STOP_LBSTAT_RCVD b) = 0 ∧ t.f (MLR_STOP_LBSTAT_ERRS b) = 0 ∧
              (t.loopback d (stopIx r pos)).left = slice v.toNat 16 16 ∧ (t.loopback d (stopIx r pos)).expect = 0 ∧
              Frame [MLR_STOP_LB b, MLR_STOP_LBSTAT b] s t))) ∧
  (∀ (s : State) (d : Fin 4) (r : Fin 8) (pos : Fin 36) (b : Nat) (x : Loopback) (f : Syl), b = stopBase d r pos →
    x = s.loopback d (stopIx r pos) →
    (x.left ≠ 0 → s.domainOn (32 + d) = true → ∀ u, s.testArrives d r pos x = some u →
      Completes (.loopbackReceive d r pos f) s fun t =>
        t.f (MLR_STOP_LBSTAT_RCVD b) = min (u.f (MLR_STOP_LBSTAT_RCVD b) + 1) 65535 ∧
          (t.loopback d (stopIx r pos)).left = (u.loopback d (stopIx r pos)).left - 1 ∧
          (t.loopback d (stopIx r pos)).expect = (u.loopback d (stopIx r pos)).expect + 1 ∧
          t.f (MLR_STOP_LBSTAT_BUSY b) = (if x.left = 1 then 0 else u.f (MLR_STOP_LBSTAT_BUSY b)) ∧
          (f.toNat = x.expect % 262144 →
            t.f (MLR_STOP_LBSTAT_ERRS b) = u.f (MLR_STOP_LBSTAT_ERRS b) ∧ Frame [MLR_STOP_LBSTAT b] u t) ∧
          (f.toNat ≠ x.expect % 262144 →
            t.f (MLR_STOP_LBSTAT_ERRS b) = min (u.f (MLR_STOP_LBSTAT_ERRS b) + 1) 32767 ∧
              t.f (MLR_STOP_ERR_LB_MISMATCH b) = 1 ∧
              Frame ([MLR_STOP_LBSTAT b, MLR_STOP_ERR b] ++ noticeRegs) u t)) ∧
    (x.mode = 1 ∨ (x.mode = 3 ∧ isBridge pos = true) → s.testArrives d r pos x = some s) ∧
    (x.mode = 2 → isBridge pos = false → ∀ g, (s.linkAt d (stopIx r pos) x.dir).find? (fun y => flitDst y == pos.val) = some g →
      s.testArrives d r pos x = some (s.leaveLink d (stopIx r pos) x.dir g)) ∧
    (x.left = 0 ∨ x.mode = 0 → Completes (.loopbackReceive d r pos f) s fun t => t = s) ∧
    (s.f (MLR_STOP_LBSTAT_BUSY b) = 1 → x.sentAt ≤ s.hub → s.elapsedRing x.sentAt 4096 = true →
      x.mode ≠ 2 ∨ x.toSend = 0 →
      Completes (.loopbackBusyTimeout d r pos) s fun t =>
        t.f (MLR_STOP_LBSTAT_BUSY b) = 0 ∧ (t.loopback d (stopIx r pos)).left = 0 ∧ Frame [MLR_STOP_LBSTAT b] s t) ∧
    (s.elapsedRing x.sentAt 4096 = false → Completes (.loopbackBusyTimeout d r pos) s fun t => t = s)) ∧
  (∀ (s : State) (p : Path) (off : WinOff) (v : Word), Reached s off.toNat →
    off.toNat = MGE_LB ∨ off.toNat = FAB_IO_LB ∨ off.toNat = TMK_LB →
    (s.mode = Mode.diagnose → (off.toNat = MGE_LB → p.val ≠ 16) →
      Completes (.loopbackEnableWrite p off v) s fun t =>
        t.reg off.toNat = (s.writeBits off.toNat v).reg off.toNat ∧ Frame [off.toNat] s t) ∧
    (s.mode ≠ Mode.diagnose → slice v.toNat 0 2 ≠ 0 →
      Completes (.loopbackEnableWrite p off v) s fun t => t = s) ∧
    (off.toNat = MGE_LB → p.val = 16 → Completes (.loopbackEnableWrite p off v) s fun t => t = s)) ∧
  (∀ (s : State) (p : Path) (fc : List (Fin 1088)) (pc : List (Fin 128)) (bad : Bool), Reached s DEV_BIST_CMD →
    s.mbBusyNow 41 = false → s.mode ≠ Mode.diagnose ∨ s.mbBusyNow 0 = true →
    Completes (.mbist p fc bad) s (fun t =>
      (Sparse.get Mailbox.reset t.mbs 41).err = 3 ∧ t.clusters = s.clusters ∧ SameMemory s t) ∧
    Completes (.lbist p fc) s (fun t =>
      (Sparse.get Mailbox.reset t.mbs 41).err = 3 ∧ t.clusters = s.clusters ∧ SameMemory s t) ∧
    Completes (.hbmBist p pc) s fun t =>
      (Sparse.get Mailbox.reset t.mbs 41).err = 3 ∧ t.clusters = s.clusters ∧ SameMemory s t) ∧
  (∀ (s : State) (p : Path) (fc : List (Fin 1088)) (bad : Bool) (n : Nat), BistFree s →
    n = (s.testables.filter ((fc.map (·.val)).contains ·)).length →
    (Completes (.lbist p fc) s fun t =>
      (Sparse.get Mailbox.reset t.mbs 41).err = (if n = 0 then 0 else 8) ∧
        (Sparse.get Mailbox.reset t.mbs 41).res0 = BitVec.ofNat 32 n ∧
        ∀ c ∈ s.testables, t.f (CLU_STATUS_STATE c) = 0 ∧ t.tst.tested = s.testables) ∧
    ∀ arg, arg = (s.reg (DEV_BIST_ARG 0)).toNat →
      Completes (.mbist p fc bad) s fun t =>
        (Sparse.get Mailbox.reset t.mbs 41).err =
          (if (bitOf arg 0 = true ∧ n ≠ 0) ∨ (bitOf arg 1 = true ∧ bad = true) then 8 else 0) ∧
        (Sparse.get Mailbox.reset t.mbs 41).res0 = BitVec.ofNat 32 (if bitOf arg 0 then n else 0) ∧
        (Sparse.get Mailbox.reset t.mbs 41).res1 = BitVec.ofNat 32 (ofBool (bitOf arg 1 && bad)) ∧
        (bitOf arg 0 = true → ∀ c ∈ s.testables, t.f (CLU_STATUS_STATE c) = 0) ∧
        (bitOf arg 1 = true → t.f CFG_STATE_CONFIGURED = 0 ∧ t.f FAB_STATUS_CONFIGURED = 0 ∧ t.cfg.frames = [])) ∧
  (∀ (s : State) (p : Path) (pc : List (Fin 128)) (d : Nat), BistFree s → d < 4 →
    (s.reg (DEV_BIST_ARG 0) = BitVec.ofNat 32 (2 ^ d) →
      Completes (.hbmBist p pc) s fun t =>
        t.f (HBC_STAT_TRAINED d) = 0 ∧ t.f (HBC_STAT_SELF_REF d) = 1 ∧ t.hbm = s.hbm ∧
          ((∃ i ∈ pc, i.val / 32 = d) → (Sparse.get Mailbox.reset t.mbs 41).err = 8 ∧
            (Sparse.get Mailbox.reset t.mbs 41).res0 = BitVec.ofNat 32 (2 ^ d)) ∧
          ((∀ i ∈ pc, i.val / 32 ≠ d) → (Sparse.get Mailbox.reset t.mbs 41).err = 0)) ∧
    (slice (s.reg (DEV_BIST_ARG 0)).toNat 4 2 ≤ 1 →
      Completes (.hbmBist p pc) s fun t =>
        (bitOf (s.reg (DEV_BIST_ARG 0)).toNat d = true → t.f (HBC_STAT_TRAINED d) = 0) ∧
          (slice (s.reg (DEV_BIST_ARG 0)).toNat 4 2 = 0 → t.hbm = s.hbm) ∧
          (Sparse.get Mailbox.reset t.mbs 41).res0.getLsbD d =
            (bitOf (s.reg (DEV_BIST_ARG 0)).toNat d && pc.any fun i => i.val / 32 == d)) ∧
    (1 < slice (s.reg (DEV_BIST_ARG 0)).toNat 4 2 →
      Completes (.hbmBist p pc) s fun t => (Sparse.get Mailbox.reset t.mbs 41).err = 2 ∧ t.hbm = s.hbm)) ∧
  (∀ (s : State),
    (s.mbRuns 41 = true → s.elapsedSteered s.tst.bistAt 10000000000 = true →
      Completes .bistTimeout s fun t =>
        t.f DEV_BIST_STATUS_BUSY = 1 ∧ t.f DEV_BIST_STATUS_ERR = 4 ∧ (Sparse.get Mailbox.reset t.mbs 41).ended = true ∧
          t.reg (DEV_BIST_RESULT 0) = 0 ∧ t.reg (DEV_BIST_RESULT 1) = 0 ∧
          Frame [DEV_BIST_STATUS, DEV_BIST_RESULT 0, DEV_BIST_RESULT 1] s t) ∧
    (s.mbRuns 41 = false ∨ s.elapsedSteered s.tst.bistAt 10000000000 = false →
      Completes .bistTimeout s fun t => t = s)) ∧
  (∀ (s : State) (tms tdi : Bool) (pins : List Bool) (code : Byte),
    (Completes (.tckEdge true tms tdi pins) s fun t =>
      (s.tst.tap.st < 16 → t.tst.tap.st =
        (if tms then [0, 2, 9, 5, 5, 8, 7, 8, 2, 0, 12, 12, 15, 14, 15, 2] else
          [1, 1, 3, 4, 4, 6, 6, 4, 1, 10, 11, 11, 13, 13, 11, 1]).getD s.tst.tap.st 0) ∧
        t.tst.tap.ir = s.tst.tap.ir ∧
        (s.tst.tap.st = 3 → s.tst.tap.ir = 1 →
          t.tst.tap.dr = s.f DEV_ID_REV * 2 ^ 28 + s.f DEV_ID_PART * 2 ^ 12 + 0x4D1 * 2 + 1) ∧
        (s.tst.tap.st = 4 → s.tst.tap.ir = 1 → t.tst.tap.dr = s.tst.tap.dr / 2 + ofBool tdi * 2 ^ 31) ∧
        (s.tst.tap.st = 11 → t.tst.tap.irShift = s.tst.tap.irShift / 2 + ofBool tdi * 128) ∧ Frame [] s t) ∧
    (Completes (.tckEdge false tms tdi pins) s fun t =>
      (s.tst.tap.st = 15 → t.tst.tap.ir = s.tst.tap.irShift) ∧ (s.tst.tap.st = 0 → t.tst.tap.ir = 1) ∧
        (s.tst.tap.st = 4 → t.tst.tap.tdo = some (s.tst.tap.dr % 2 == 1)) ∧
        (s.tst.tap.st = 11 → t.tst.tap.tdo = some (s.tst.tap.irShift % 2 == 1)) ∧
        (s.tst.tap.st ≠ 4 → s.tst.tap.st ≠ 11 → t.tst.tap.tdo = none) ∧ t.tst.tap.st = s.tst.tap.st ∧ Frame [] s t) ∧
    (Completes (.tapInstructionUpdate code) s fun t =>
      t.tst.tap.ir = code.toNat ∧ t.jtagPins = [0, 5, 6, 7, 8].contains code.toNat ∧ Frame [] s t) ∧
    (Completes .testLogicReset s fun t =>
      t.tst.tap.st = 0 ∧ t.tst.tap.ir = 1 ∧ t.jtagPins = false ∧ Frame [] s t)) ∧
  (∀ (s : State) (bank : Fin 24) (levels : Nat),
    (Completes (.vccioLoss bank) s fun t =>
      slice (t.pinLevels levels) (16 * bank) 16 = 0 ∧
        (∀ g : Fin 24, g ≠ bank → slice (t.pinLevels levels) (16 * g) 16 = slice (s.pinLevels levels) (16 * g) 16) ∧
        Frame [] s t) ∧
    (Completes (.vccioReturn bank) s fun t =>
      slice (t.pinLevels levels) (16 * bank) 16 = slice levels (16 * bank) 16 ∧
        (∀ g : Fin 24, g ≠ bank → slice (t.pinLevels levels) (16 * g) 16 = slice (s.pinLevels levels) (16 * g) 16) ∧
        Frame [] s t))

/-! ### The HBC commands (06_design_memory) -/

/-- Word a of a memory, as its block holds it (R323, R326). -/
def Sys2Proof.memWord (s : State) (d mid a : Nat) : Nat :=
  blockWord (s.readBlock d (placeBlock (s.memEntry d mid) (a / 28)).1 (placeBlock (s.memEntry d mid) (a / 28)).2) (a % 28)

/-- The block of word a of a memory carries its tag (R327). -/
def Sys2Proof.memTagOk (s : State) (d mid a : Nat) : Bool :=
  tagOk (s.readBlock d (placeBlock (s.memEntry d mid) (a / 28)).1 (placeBlock (s.memEntry d mid) (a / 28)).2) (a / 28) mid

/-- R341, R355 to R358. FILL and COPY_IN write the words of their range, and leave every other word of the memory; COPY_OUT
copies the words of its range to their carve-out units, up to a wrong tag or an uncorrectable error. RESULT counts the words
transferred. -/
def Sys2Proof.HbcCommandsActOnTheirRange : Prop :=
  ∀ (s : State) (p : Path) (d : Fin 4) (mid first len off : Nat), Reached s (HBC_MB_CMD d) → s.mbBusyNow (1 + d) = false →
    mid = s.f (HBC_MB_ARG0_MID d) → first = (s.reg (HBC_MB_ARG1 d)).toNat → len = (s.reg (HBC_MB_ARG2 d)).toNat →
    off = (s.reg (HBC_MB_ARG3 d)).toNat → memNpcLog2 (s.memEntry d mid) ≤ 5 →
    memBasePc (s.memEntry d mid) + 2 ^ memNpcLog2 (s.memEntry d mid) ≤ 32 →
    ((∀ a, first ≤ a → a < first + len → memTagOk s d mid a = true) →
      (s.hbcRefusal d 1 = none →
        Completes (.fill p ⟨d, false, false⟩) s fun t =>
          (∀ a, first ≤ a → a < first + len → memWord t d mid a = off % 262144) ∧
            (∀ a, a < first ∨ first + len ≤ a → memWord t d mid a = memWord s d mid a) ∧
            (Sparse.get Mailbox.reset t.mbs (1 + d)).err = 0 ∧
            (Sparse.get Mailbox.reset t.mbs (1 + d)).res0 = BitVec.ofNat 32 len ∧
            OnlyRegs [HBC_MB_STATUS d, HBC_MB_RESULT d] s t) ∧
      (s.hbcRefusal d 3 = none →
        Completes (.copyIn p ⟨d, false, false⟩) s fun t =>
          (∀ i, i < len → memWord t d mid (first + i) = readNat s.hbm (stackCarve d (off + 4 * i)) 4 % 262144) ∧
            (∀ a, a < first ∨ first + len ≤ a → memWord t d mid a = memWord s d mid a) ∧
            (Sparse.get Mailbox.reset t.mbs (1 + d)).err = 0 ∧
            (Sparse.get Mailbox.reset t.mbs (1 + d)).res0 = BitVec.ofNat 32 len ∧
            OnlyRegs [HBC_MB_STATUS d, HBC_MB_RESULT d] s t) ∧
      (s.hbcRefusal d 2 = none → ∀ k : Option Nat,
        Completes (.copyOut p d k) s fun t =>
          (∀ i, i < min len (k.getD len) → readNat t.hbm (stackCarve d (off + 4 * i)) 4 = memWord s d mid (first + i)) ∧
            (∀ a, a < stackCarve d off ∨ stackCarve d off + 4 * min len (k.getD len) ≤ a → t.hbmByte a = s.hbmByte a) ∧
            (Sparse.get Mailbox.reset t.mbs (1 + d)).err = (if k.getD len < len then 5 else 0) ∧
            (Sparse.get Mailbox.reset t.mbs (1 + d)).res0 = BitVec.ofNat 32 (min len (k.getD len)) ∧
            OnlyRegs [HBC_MB_STATUS d, HBC_MB_RESULT d] s t)) ∧
    (s.hbcRefusal d 1 = none → first % 28 ≠ 0 → ∀ last,
      Completes (.fill p ⟨d, true, last⟩) s fun t => t.f (HBC_ERR_UE d) = 1 ∧
        (∀ a, a / 28 = first / 28 → memWord t d mid a = memWord s d mid a) ∧
        (Sparse.get Mailbox.reset t.mbs (1 + d)).err = 0)

/-- R341, R355 to R358. FILL and COPY_IN of one whole block write its words and its tag and nothing else; COPY_OUT copies
words to their carve-out units, and ends at a wrong tag with TAG and at an uncorrectable error with ECC; a refused command
transfers nothing. -/
def Sys2Proof.HbcCommandsOnOneBlock : Prop :=
  ∀ (s : State) (p : Path) (d : Fin 4), Reached s (HBC_MB_CMD d) → s.mbBusyNow (1 + d) = false →
    (∀ mid b off pl, mid = s.f (HBC_MB_ARG0_MID d) → (s.reg (HBC_MB_ARG1 d)).toNat = 28 * b →
      (s.reg (HBC_MB_ARG2 d)).toNat = 28 → off = (s.reg (HBC_MB_ARG3 d)).toNat →
      pl = placeBlock (s.memEntry d mid) b →
      (s.hbcRefusal d 1 = none →
        Completes (.fill p ⟨d, false, false⟩) s fun t =>
          (∀ w, w < 28 → blockWord (t.readBlock d pl.1 pl.2) w = off % 262144) ∧
            tagOk (t.readBlock d pl.1 pl.2) b mid = true ∧
            (∀ a, a < blockKey d pl.1 pl.2 ∨ blockKey d pl.1 pl.2 + 64 ≤ a → t.hbmByte a = s.hbmByte a) ∧
            (Sparse.get Mailbox.reset t.mbs (1 + d)).err = 0 ∧ (Sparse.get Mailbox.reset t.mbs (1 + d)).res0 = 28 ∧
            OnlyRegs [HBC_MB_STATUS d, HBC_MB_RESULT d] s t) ∧
      (s.hbcRefusal d 3 = none →
        Completes (.copyIn p ⟨d, false, false⟩) s fun t =>
          (∀ w, w < 28 → blockWord (t.readBlock d pl.1 pl.2) w =
            readNat s.hbm (stackCarve d (off + 4 * w)) 4 % 262144) ∧
            tagOk (t.readBlock d pl.1 pl.2) b mid = true ∧
            (∀ a, a < blockKey d pl.1 pl.2 ∨ blockKey d pl.1 pl.2 + 64 ≤ a → t.hbmByte a = s.hbmByte a) ∧
            (Sparse.get Mailbox.reset t.mbs (1 + d)).err = 0 ∧ OnlyRegs [HBC_MB_STATUS d, HBC_MB_RESULT d] s t) ∧
      (s.hbcRefusal d 2 = none → tagOk (s.readBlock d pl.1 pl.2) b mid = true →
        (Completes (.copyOut p d none) s fun t =>
          (∀ w, w < 28 → readNat t.hbm (stackCarve d (off + 4 * w)) 4 = blockWord (s.readBlock d pl.1 pl.2) w) ∧
            (∀ a, a < stackCarve d off ∨ stackCarve d off + 112 ≤ a → t.hbmByte a = s.hbmByte a) ∧
            (Sparse.get Mailbox.reset t.mbs (1 + d)).err = 0 ∧ (Sparse.get Mailbox.reset t.mbs (1 + d)).res0 = 28 ∧
            OnlyRegs [HBC_MB_STATUS d, HBC_MB_RESULT d] s t) ∧
        ∀ k, k < 28 → Completes (.copyOut p d (some k)) s fun t =>
          (Sparse.get Mailbox.reset t.mbs (1 + d)).err = 5 ∧
            (Sparse.get Mailbox.reset t.mbs (1 + d)).res0 = BitVec.ofNat 32 k) ∧
      (s.hbcRefusal d 2 = none → tagOk (s.readBlock d pl.1 pl.2) b mid = false →
        Completes (.copyOut p d none) s fun t =>
          (Sparse.get Mailbox.reset t.mbs (1 + d)).err = 9 ∧ (Sparse.get Mailbox.reset t.mbs (1 + d)).res0 = 0 ∧
            t.f (HBC_ERR_TAG d) = 1 ∧ SameMemory s t)) ∧
    (∀ e ecc ue ul, (s.hbcRefusal d 1 = some e → Completes (.fill p ⟨d, ue, ul⟩) s fun t =>
        (Sparse.get Mailbox.reset t.mbs (1 + d)).err = e ∧ SameMemory s t) ∧
      (s.hbcRefusal d 2 = some e → Completes (.copyOut p d ecc) s fun t =>
        (Sparse.get Mailbox.reset t.mbs (1 + d)).err = e ∧ SameMemory s t) ∧
      (s.hbcRefusal d 3 = some e → Completes (.copyIn p ⟨d, ue, ul⟩) s fun t =>
        (Sparse.get Mailbox.reset t.mbs (1 + d)).err = e ∧ SameMemory s t)) ∧
    (s.mode = Mode.run ∨ s.mode = Mode.timed →
      Completes (.fill p ⟨d, false, false⟩) s fun t => (Sparse.get Mailbox.reset t.mbs (1 + d)).err = 3 ∧ SameMemory s t)

/-- The rules of HbcCommandsActOnTheirRange and the rules of HbcCommandsOnOneBlock. -/
def Obligations.HbcCommandsTransferWords : Prop := HbcCommandsActOnTheirRange ∧ HbcCommandsOnOneBlock
/-! ### The machine as a whole -/

/-- A step takes the command at the front of the queue and runs it on the state with the queue's rest. On an empty queue
one hub cycle passes, which is the model's choice (log entry 2): the hub count rises by one and the memories stay. -/
def Obligations.StepRunsTheFrontCommand : Prop :=
  ∀ (s : State),
    (∀ c rest, step { s with pending := c :: rest } = exec c { s with pending := rest }) ∧
    (s.pending = [] → s.rst.por = false →
      ∃ t, step s = .next t ∧ t.hub = s.hub + 1 ∧ t.pending = [] ∧ SameMemory s t)

/-- R56, R130, R239, R365, R527, R641, R748, R768, R775. Right after reset the device is in BOOT with its frame count 0, no
program, every cluster in RESET, the fabric unconfigured and parked, the scan of the log still to come, domain 90 ON and
the others OFF, nothing counted or pending, and every memory in canonical form (where a power-on reset leaves a memory
undefined, the model lists no byte: log entry 7). -/
def Obligations.ResetLeavesBoot : Prop :=
  State.reset.mode = Mode.boot ∧ State.reset.frameNo = 0 ∧ State.reset.f DEV_MODE_PROG_VALID = 0 ∧
    State.reset.f DEV_MODE_HOLD = 0 ∧ State.reset.f DEV_ID_PART = 7 ∧ State.reset.tmk.time = 0 ∧
    (∀ c, c < 1088 → State.reset.f (CLU_STATUS_STATE c) = 0) ∧ State.reset.f FAB_STATUS_CONFIGURED = 0 ∧
    State.reset.f FAB_STATUS_PARKED = 1 ∧ State.reset.f GBK_STAT_SCAN_DONE = 0 ∧
    (∀ i, i < 89 → State.reset.f (PWR_DOM_STATE i) = 2) ∧ State.reset.domainOn 90 = true ∧ State.reset.pending = [] ∧
    State.reset.gbk.queue = [] ∧ State.reset.gbk.open_ = [] ∧ State.reset.canonical = true

/-- The invariant of the stores: every step keeps the three memories and the register file in canonical form, so that equal
contents are equal data. -/
def Obligations.StepsKeepTheCanonicalForm : Prop :=
  ∀ (s t : State), s.canonical = true → step s = .next t → t.canonical = true

/-- A command touches everything but the queue: exec leaves the commands that wait, and a step removes at most the one at
the front. -/
def Obligations.CommandsLeaveTheQueue : Prop :=
  (∀ (c : Instr) (s t : State), exec c s = .next t → t.pending = s.pending) ∧
    ∀ (s t : State), step s = .next t → t.pending = s.pending.tail
end

