-- ==== Sys2Proof/Laws/Bits.lean ====
section
/-! SUPPORT. The laws of bit fields: what a field reads after a field has been replaced. -/

namespace Sys2Proof.Machine

theorem slice_lt (n lo w : Nat) : slice n lo w < 2 ^ w := Nat.mod_lt _ (Nat.two_pow_pos w)

/-- Bit i of a field is bit lo + i of the number. -/
theorem testBit_slice (n lo w i : Nat) : (slice n lo w).testBit i = (decide (i < w) && n.testBit (lo + i)) := by
  rw [slice, Nat.testBit_mod_two_pow, Nat.testBit_div_two_pow, Nat.add_comm]

/-- Bit i of a number with a field replaced. -/
theorem testBit_splice (n lo w v i : Nat) :
    (splice n lo w v).testBit i = if i < lo then n.testBit i else if i < lo + w then v.testBit (i - lo) else n.testBit i := by
  have h1 : n % 2 ^ lo + (v % 2 ^ w) * 2 ^ lo = 2 ^ lo * (v % 2 ^ w) + n % 2 ^ lo := by ring
  have hlt : 2 ^ lo * (v % 2 ^ w) + n % 2 ^ lo < 2 ^ (lo + w) := by
    have ha : n % 2 ^ lo < 2 ^ lo := Nat.mod_lt _ (Nat.two_pow_pos _)
    have hb : v % 2 ^ w < 2 ^ w := Nat.mod_lt _ (Nat.two_pow_pos _)
    have hc : 2 ^ lo * (v % 2 ^ w + 1) ≤ 2 ^ lo * 2 ^ w := Nat.mul_le_mul_left _ hb
    rw [pow_add]; rw [Nat.mul_add] at hc; omega
  have h2 : splice n lo w v = 2 ^ (lo + w) * (n / 2 ^ (lo + w)) + (2 ^ lo * (v % 2 ^ w) + n % 2 ^ lo) := by
    unfold splice; rw [h1]; ring
  rw [h2, Nat.testBit_two_pow_mul_add _ hlt]
  by_cases hi : i < lo
  · rw [Nat.testBit_two_pow_mul_add _ (Nat.mod_lt _ (Nat.two_pow_pos _))]
    simp [hi, Nat.testBit_mod_two_pow, show i < lo + w by omega]
  · by_cases hw : i < lo + w
    · rw [Nat.testBit_two_pow_mul_add _ (Nat.mod_lt _ (Nat.two_pow_pos _))]
      simp [hi, hw, Nat.testBit_mod_two_pow, show i - lo < w by omega]
    · simp [hi, hw, Nat.testBit_div_two_pow, 
        show i - (lo + w) + (lo + w) = i by omega]

/-- A field reads the value that replaced it. -/
theorem slice_splice_same (n lo w v : Nat) : slice (splice n lo w v) lo w = v % 2 ^ w := by
  apply Nat.eq_of_testBit_eq; intro i
  rw [testBit_slice, testBit_splice, Nat.testBit_mod_two_pow]
  by_cases h : i < w <;> simp [h]

/-- A field that lies apart from the replaced one reads as before. -/
theorem slice_splice_apart (n lo w v lo' w' : Nat) (h : lo' + w' ≤ lo ∨ lo + w ≤ lo') :
    slice (splice n lo w v) lo' w' = slice n lo' w' := by
  apply Nat.eq_of_testBit_eq; intro i
  rw [testBit_slice, testBit_slice, testBit_splice]
  by_cases hi : i < w'
  · rcases h with h | h
    · simp [hi, show lo' + i < lo by omega]
    · simp [hi, show ¬ lo' + i < lo by omega, show ¬ lo' + i < lo + w by omega]
  · simp [hi]

/-- A field replaced within 32 bits leaves a word of 32 bits. -/
theorem splice_lt (n lo w v : Nat) (hn : n < 2 ^ 32) (hw : lo + w ≤ 32) : splice n lo w v < 2 ^ 32 := by
  apply Nat.lt_pow_two_of_testBit; intro i hi
  rw [testBit_splice]
  have : n.testBit i = false := Nat.testBit_lt_two_pow (lt_of_lt_of_le hn (Nat.pow_le_pow_right (by decide) hi))
  simp [show ¬ i < lo by omega, show ¬ i < lo + w by omega, this]

/-- A field replaced by what it already holds changes nothing. -/
theorem splice_slice (n lo w : Nat) : splice n lo w (slice n lo w) = n := by
  apply Nat.eq_of_testBit_eq; intro i
  rw [testBit_splice, testBit_slice]
  by_cases h1 : i < lo
  · simp [h1]
  · by_cases h2 : i < lo + w
    · simp [h1, h2, show i - lo < w by omega, show lo + (i - lo) = i by omega]
    · simp [h1, h2]

theorem ofBool_lt (b : Bool) : ofBool b < 2 := by cases b <;> decide

@[simp] theorem ofBool_true : ofBool true = 1 := rfl
@[simp] theorem ofBool_false : ofBool false = 0 := rfl

theorem satAdd_le (w n k : Nat) : satAdd w n k ≤ 2 ^ w - 1 := Nat.min_le_right _ _

@[simp] theorem bytesLE_length (k n : Nat) : (bytesLE k n).length = k := by
  induction k generalizing n with
  | zero => rfl
  | succ k ih => simp [bytesLE, ih]

/-- The bytes of a number give the number back, modulo their width. -/
theorem ofBytesLE_bytesLE (k n : Nat) : ofBytesLE (bytesLE k n) = n % 256 ^ k := by
  induction k generalizing n with
  | zero => simp [bytesLE, ofBytesLE, Nat.mod_one]
  | succ k ih =>
    have h : (BitVec.ofNat 8 n).toNat = n % 256 := BitVec.toNat_ofNat n 8
    rw [bytesLE, ofBytesLE, ih, h, Nat.pow_succ', Nat.mod_mul]

end Sys2Proof.Machine
end

