-- ==== Sys2Proof/Laws/Sparse.lean ====
section
/-! SUPPORT. The laws of the sparse store: a read after a write, and the canonical form that every operation keeps. -/

namespace Sys2Proof.Machine.Sparse

variable {β : Type}

@[simp] theorem get_nil (d : β) (a : Nat) : get d [] a = d := rfl

@[simp] theorem get_del_same (d : β) (m : Sparse β) (a : Nat) : get d (del m a) a = d := by
  induction m with
  | nil => rfl
  | cons kv m ih =>
    obtain ⟨k, v⟩ := kv
    by_cases h : a = k <;> simp [del, get, h] <;> simpa [h] using ih

theorem get_del_ne (d : β) (m : Sparse β) {a b : Nat} (hab : b ≠ a) : get d (del m a) b = get d m b := by
  induction m with
  | nil => rfl
  | cons kv m ih =>
    obtain ⟨k, v⟩ := kv
    by_cases h : a = k
    · subst h; simp [del, get, hab, ih]
    · by_cases hb : b = k <;> simp [del, get, h, hb, ih]

@[simp] theorem get_ins_same (d : β) (m : Sparse β) (a : Nat) (x : β) : get d (ins m a x) a = x := by
  induction m with
  | nil => simp [ins, get]
  | cons kv m ih =>
    obtain ⟨k, v⟩ := kv
    unfold ins
    split
    · simp [get]
    · split
      · simp [get]
      · next h => simp [get, h, ih]

theorem get_ins_ne (d : β) (m : Sparse β) {a b : Nat} (x : β) (hab : b ≠ a) : get d (ins m a x) b = get d m b := by
  induction m with
  | nil => simp [ins, get, hab]
  | cons kv m ih =>
    obtain ⟨k, v⟩ := kv
    unfold ins
    split
    · simp [get, hab]
    · split
      · next h =>
        have : a = k := by simpa using h
        subst this; simp [get, hab]
      · by_cases hb : b = k <;> simp [get, hb, ih]

variable [DecidableEq β]

@[simp] theorem get_put_same (d : β) (m : Sparse β) (a : Nat) (x : β) : get d (put d m a x) a = x := by
  unfold put; split
  · next h => simp [h]
  · simp

theorem get_put_ne (d : β) (m : Sparse β) {a b : Nat} (x : β) (hab : b ≠ a) : get d (put d m a x) b = get d m b := by
  unfold put; split
  · exact get_del_ne d m hab
  · exact get_ins_ne d m x hab

/-- A read after a write. -/
theorem get_put (d : β) (m : Sparse β) (a b : Nat) (x : β) : get d (put d m a x) b = if b = a then x else get d m b := by
  split
  · next h => subst h; simp
  · next h => exact get_put_ne d m x h

/-- A read after a write that deletes by another rule of what an unlisted key reads as. -/
theorem get_put_other_default (d e : β) (m : Sparse β) {a b : Nat} (x : β) (hab : b ≠ a) :
    get e (put d m a x) b = get e m b := by
  unfold put; split
  · exact get_del_ne e m hab
  · exact get_ins_ne e m x hab

omit [DecidableEq β] in
theorem get_keep (d : β) (p : Nat → Bool) (m : Sparse β) (a : Nat) :
    get d (keep p m) a = if p a then get d m a else d := by
  induction m with
  | nil => simp [keep]
  | cons kv m ih =>
    obtain ⟨k, v⟩ := kv
    simp only [keep, List.filter_cons] at ih ⊢
    by_cases hp : p k = true <;> by_cases ha : a = k <;> simp_all [get]

/-- A read outside the keys of a row of writes. -/
theorem get_putList_of_not_mem (d : β) (m : Sparse β) (xs : List β) (a b : Nat) (h : b < a ∨ a + xs.length ≤ b) :
    get d (putList d m a xs) b = get d m b := by
  induction xs generalizing m a with
  | nil => rfl
  | cons x xs ih =>
    simp only [List.length_cons] at h
    rw [putList, ih _ _ (by omega), get_put_ne d m x (by omega)]

/-- A read of a key that a row of writes has written. -/
theorem get_putList_of_mem (d : β) (m : Sparse β) (xs : List β) (a i : Nat) (h : i < xs.length) :
    get d (putList d m a xs) (a + i) = xs[i] := by
  induction xs generalizing m a i with
  | nil => simp at h
  | cons x xs ih =>
    cases i with
    | zero => rw [putList, get_putList_of_not_mem d _ xs _ _ (by omega)]; simp
    | succ i =>
      have := ih (put d m a x) (a + 1) i (by simpa using h)
      rw [putList]
      simpa [Nat.add_assoc, Nat.add_comm 1 i] using this

omit [DecidableEq β] in
@[simp] theorem getList_length (d : β) (m : Sparse β) (a n : Nat) : (getList d m a n).length = n := by
  induction n generalizing a with
  | zero => rfl
  | succ n ih => simp [getList, ih]

/-! ### The canonical form -/

theorem wfFrom_mono {d : Nat → β} {b c : Nat} {m : Sparse β} (h : wfFrom d c m = true) (hbc : b ≤ c) :
    wfFrom d b m = true := by
  cases m with
  | nil => rfl
  | cons kv m =>
    obtain ⟨k, v⟩ := kv
    simp only [wfFrom, Bool.and_eq_true, Nat.ble_eq] at h ⊢
    exact ⟨⟨by omega, h.1.2⟩, h.2⟩

/-- In canonical form a key below the bound is not listed. -/
theorem get_of_lt {d : Nat → β} {b a : Nat} {m : Sparse β} (e : β) (h : wfFrom d b m = true) (hab : a < b) :
    get e m a = e := by
  induction m generalizing b with
  | nil => rfl
  | cons kv m ih =>
    obtain ⟨k, v⟩ := kv
    simp only [wfFrom, Bool.and_eq_true, Nat.ble_eq] at h
    have hk : a ≠ k := by omega
    simpa [get, hk] using ih h.2 (by omega)

theorem wfFrom_del {d : Nat → β} {b : Nat} {m : Sparse β} (a : Nat) (h : wfFrom d b m = true) :
    wfFrom d b (del m a) = true := by
  induction m generalizing b with
  | nil => rfl
  | cons kv m ih =>
    obtain ⟨k, v⟩ := kv
    simp only [wfFrom, Bool.and_eq_true, Nat.ble_eq] at h
    unfold del; split
    · exact wfFrom_mono (ih h.2) (by omega)
    · simp only [wfFrom, Bool.and_eq_true, Nat.ble_eq]
      exact ⟨h.1, ih h.2⟩

theorem wfFrom_ins {d : Nat → β} {b a : Nat} {m : Sparse β} {x : β} (h : wfFrom d b m = true) (hb : b ≤ a)
    (hx : x ≠ d a) : wfFrom d b (ins m a x) = true := by
  induction m generalizing b with
  | nil => simp [ins, wfFrom, hb, hx]
  | cons kv m ih =>
    obtain ⟨k, v⟩ := kv
    simp only [wfFrom, Bool.and_eq_true, Nat.ble_eq] at h
    unfold ins; split
    · next hlt =>
      simp only [Nat.blt_eq] at hlt
      simp only [wfFrom, Bool.and_eq_true, Nat.ble_eq]
      exact ⟨⟨hb, by simp [hx]⟩, ⟨by omega, h.1.2⟩, h.2⟩
    · next hlt =>
      simp only [Nat.blt_eq] at hlt
      split
      · next he =>
        have he : a = k := by simpa using he
        subst he
        simp only [wfFrom, Bool.and_eq_true, Nat.ble_eq]
        exact ⟨⟨hb, by simp [hx]⟩, h.2⟩
      · next he =>
        have he : a ≠ k := by simpa using he
        simp only [wfFrom, Bool.and_eq_true, Nat.ble_eq]
        exact ⟨h.1, ih h.2 (by omega)⟩

/-- A write keeps the canonical form. -/
theorem wf_put {d : Nat → β} {m : Sparse β} (a : Nat) (x : β) (h : wf d m = true) : wf d (put (d a) m a x) = true := by
  unfold put wf at *; split
  · exact wfFrom_del a h
  · next hx => exact wfFrom_ins h (Nat.zero_le a) hx

theorem wfFrom_filter {d : Nat → β} {b : Nat} {m : Sparse β} (p : Nat × β → Bool) (h : wfFrom d b m = true) :
    wfFrom d b (m.filter p) = true := by
  induction m generalizing b with
  | nil => rfl
  | cons kv m ih =>
    obtain ⟨k, v⟩ := kv
    simp only [wfFrom, Bool.and_eq_true, Nat.ble_eq] at h
    rw [List.filter_cons]; split
    · simp only [wfFrom, Bool.and_eq_true, Nat.ble_eq]
      exact ⟨h.1, ih h.2⟩
    · exact wfFrom_mono (ih h.2) (by omega)

/-- Keeping some keys keeps the canonical form. -/
theorem wf_keep {d : Nat → β} {m : Sparse β} (p : Nat → Bool) (h : wf d m = true) : wf d (keep p m) = true :=
  wfFrom_filter _ h

/-- A row of writes keeps the canonical form. -/
theorem wf_putList {e : β} {m : Sparse β} (a : Nat) (xs : List β) (h : wf (fun _ => e) m = true) :
    wf (fun _ => e) (putList e m a xs) = true := by
  induction xs generalizing m a with
  | nil => exact h
  | cons x xs ih => exact ih (a + 1) (wf_put (d := fun _ => e) a x h)

/-- Writes from a list of keys and items keep the canonical form. -/
theorem wf_putAll {e : β} {m : Sparse β} (kvs : List (Nat × β)) (h : wf (fun _ => e) m = true) :
    wf (fun _ => e) (putAll e m kvs) = true := by
  induction kvs generalizing m with
  | nil => exact h
  | cons kv kvs ih => exact ih (wf_put (d := fun _ => e) kv.1 kv.2 h)

end Sys2Proof.Machine.Sparse
end

