-- ==== Sys2Proof/Laws/State.lean ====
section
/-! SUPPORT. One lemma for each field of State and each update: what the update puts there, or that it leaves it. -/

namespace Sys2Proof.Machine

variable (s : State)

@[simp] theorem State.setReg_pending (off : Nat) (v : Word) : (s.setReg off v).pending = s.pending := rfl
@[simp] theorem State.setReg_paths (off : Nat) (v : Word) : (s.setReg off v).paths = s.paths := rfl
@[simp] theorem State.setReg_mbs (off : Nat) (v : Word) : (s.setReg off v).mbs = s.mbs := rfl
@[simp] theorem State.setReg_hub (off : Nat) (v : Word) : (s.setReg off v).hub = s.hub := rfl
@[simp] theorem State.setReg_free (off : Nat) (v : Word) : (s.setReg off v).free = s.free := rfl
@[simp] theorem State.setReg_hbm (off : Nat) (v : Word) : (s.setReg off v).hbm = s.hbm := rfl
@[simp] theorem State.setReg_mram (off : Nat) (v : Word) : (s.setReg off v).mram = s.mram := rfl
@[simp] theorem State.setReg_boot (off : Nat) (v : Word) : (s.setReg off v).boot = s.boot := rfl
@[simp] theorem State.setReg_clusters (off : Nat) (v : Word) : (s.setReg off v).clusters = s.clusters := rfl
@[simp] theorem State.setReg_seq (off : Nat) (v : Word) : (s.setReg off v).seq = s.seq := rfl
@[simp] theorem State.setReg_mlr (off : Nat) (v : Word) : (s.setReg off v).mlr = s.mlr := rfl
@[simp] theorem State.setReg_net (off : Nat) (v : Word) : (s.setReg off v).net = s.net := rfl
@[simp] theorem State.setReg_hbc (off : Nat) (v : Word) : (s.setReg off v).hbc = s.hbc := rfl
@[simp] theorem State.setReg_acq (off : Nat) (v : Word) : (s.setReg off v).acq = s.acq := rfl
@[simp] theorem State.setReg_fab (off : Nat) (v : Word) : (s.setReg off v).fab = s.fab := rfl
@[simp] theorem State.setReg_blt (off : Nat) (v : Word) : (s.setReg off v).blt = s.blt := rfl
@[simp] theorem State.setReg_frd (off : Nat) (v : Word) : (s.setReg off v).frd = s.frd := rfl
@[simp] theorem State.setReg_cfg (off : Nat) (v : Word) : (s.setReg off v).cfg = s.cfg := rfl
@[simp] theorem State.setReg_stepMhz (off : Nat) (v : Word) : (s.setReg off v).stepMhz = s.stepMhz := rfl
@[simp] theorem State.setReg_gbk (off : Nat) (v : Word) : (s.setReg off v).gbk = s.gbk := rfl
@[simp] theorem State.setReg_rst (off : Nat) (v : Word) : (s.setReg off v).rst = s.rst := rfl
@[simp] theorem State.setReg_pwr (off : Nat) (v : Word) : (s.setReg off v).pwr = s.pwr := rfl
@[simp] theorem State.setReg_ost (off : Nat) (v : Word) : (s.setReg off v).ost = s.ost := rfl
@[simp] theorem State.setReg_mge (off : Nat) (v : Word) : (s.setReg off v).mge = s.mge := rfl
@[simp] theorem State.setReg_tmk (off : Nat) (v : Word) : (s.setReg off v).tmk = s.tmk := rfl
@[simp] theorem State.setReg_lanes (off : Nat) (v : Word) : (s.setReg off v).lanes = s.lanes := rfl
@[simp] theorem State.setReg_wke (off : Nat) (v : Word) : (s.setReg off v).wke = s.wke := rfl
@[simp] theorem State.setReg_tst (off : Nat) (v : Word) : (s.setReg off v).tst = s.tst := rfl
@[simp] theorem State.setNat_pending (off n : Nat) : (s.setNat off n).pending = s.pending := rfl
@[simp] theorem State.setNat_paths (off n : Nat) : (s.setNat off n).paths = s.paths := rfl
@[simp] theorem State.setNat_mbs (off n : Nat) : (s.setNat off n).mbs = s.mbs := rfl
@[simp] theorem State.setNat_hub (off n : Nat) : (s.setNat off n).hub = s.hub := rfl
@[simp] theorem State.setNat_free (off n : Nat) : (s.setNat off n).free = s.free := rfl
@[simp] theorem State.setNat_hbm (off n : Nat) : (s.setNat off n).hbm = s.hbm := rfl
@[simp] theorem State.setNat_mram (off n : Nat) : (s.setNat off n).mram = s.mram := rfl
@[simp] theorem State.setNat_boot (off n : Nat) : (s.setNat off n).boot = s.boot := rfl
@[simp] theorem State.setNat_clusters (off n : Nat) : (s.setNat off n).clusters = s.clusters := rfl
@[simp] theorem State.setNat_seq (off n : Nat) : (s.setNat off n).seq = s.seq := rfl
@[simp] theorem State.setNat_mlr (off n : Nat) : (s.setNat off n).mlr = s.mlr := rfl
@[simp] theorem State.setNat_net (off n : Nat) : (s.setNat off n).net = s.net := rfl
@[simp] theorem State.setNat_hbc (off n : Nat) : (s.setNat off n).hbc = s.hbc := rfl
@[simp] theorem State.setNat_acq (off n : Nat) : (s.setNat off n).acq = s.acq := rfl
@[simp] theorem State.setNat_fab (off n : Nat) : (s.setNat off n).fab = s.fab := rfl
@[simp] theorem State.setNat_blt (off n : Nat) : (s.setNat off n).blt = s.blt := rfl
@[simp] theorem State.setNat_frd (off n : Nat) : (s.setNat off n).frd = s.frd := rfl
@[simp] theorem State.setNat_cfg (off n : Nat) : (s.setNat off n).cfg = s.cfg := rfl
@[simp] theorem State.setNat_stepMhz (off n : Nat) : (s.setNat off n).stepMhz = s.stepMhz := rfl
@[simp] theorem State.setNat_gbk (off n : Nat) : (s.setNat off n).gbk = s.gbk := rfl
@[simp] theorem State.setNat_rst (off n : Nat) : (s.setNat off n).rst = s.rst := rfl
@[simp] theorem State.setNat_pwr (off n : Nat) : (s.setNat off n).pwr = s.pwr := rfl
@[simp] theorem State.setNat_ost (off n : Nat) : (s.setNat off n).ost = s.ost := rfl
@[simp] theorem State.setNat_mge (off n : Nat) : (s.setNat off n).mge = s.mge := rfl
@[simp] theorem State.setNat_tmk (off n : Nat) : (s.setNat off n).tmk = s.tmk := rfl
@[simp] theorem State.setNat_lanes (off n : Nat) : (s.setNat off n).lanes = s.lanes := rfl
@[simp] theorem State.setNat_wke (off n : Nat) : (s.setNat off n).wke = s.wke := rfl
@[simp] theorem State.setNat_tst (off n : Nat) : (s.setNat off n).tst = s.tst := rfl
@[simp] theorem State.setF_pending (F : Fld) (n : Nat) : (s.setF F n).pending = s.pending := rfl
@[simp] theorem State.setF_paths (F : Fld) (n : Nat) : (s.setF F n).paths = s.paths := rfl
@[simp] theorem State.setF_mbs (F : Fld) (n : Nat) : (s.setF F n).mbs = s.mbs := rfl
@[simp] theorem State.setF_hub (F : Fld) (n : Nat) : (s.setF F n).hub = s.hub := rfl
@[simp] theorem State.setF_free (F : Fld) (n : Nat) : (s.setF F n).free = s.free := rfl
@[simp] theorem State.setF_hbm (F : Fld) (n : Nat) : (s.setF F n).hbm = s.hbm := rfl
@[simp] theorem State.setF_mram (F : Fld) (n : Nat) : (s.setF F n).mram = s.mram := rfl
@[simp] theorem State.setF_boot (F : Fld) (n : Nat) : (s.setF F n).boot = s.boot := rfl
@[simp] theorem State.setF_clusters (F : Fld) (n : Nat) : (s.setF F n).clusters = s.clusters := rfl
@[simp] theorem State.setF_seq (F : Fld) (n : Nat) : (s.setF F n).seq = s.seq := rfl
@[simp] theorem State.setF_mlr (F : Fld) (n : Nat) : (s.setF F n).mlr = s.mlr := rfl
@[simp] theorem State.setF_net (F : Fld) (n : Nat) : (s.setF F n).net = s.net := rfl
@[simp] theorem State.setF_hbc (F : Fld) (n : Nat) : (s.setF F n).hbc = s.hbc := rfl
@[simp] theorem State.setF_acq (F : Fld) (n : Nat) : (s.setF F n).acq = s.acq := rfl
@[simp] theorem State.setF_fab (F : Fld) (n : Nat) : (s.setF F n).fab = s.fab := rfl
@[simp] theorem State.setF_blt (F : Fld) (n : Nat) : (s.setF F n).blt = s.blt := rfl
@[simp] theorem State.setF_frd (F : Fld) (n : Nat) : (s.setF F n).frd = s.frd := rfl
@[simp] theorem State.setF_cfg (F : Fld) (n : Nat) : (s.setF F n).cfg = s.cfg := rfl
@[simp] theorem State.setF_stepMhz (F : Fld) (n : Nat) : (s.setF F n).stepMhz = s.stepMhz := rfl
@[simp] theorem State.setF_gbk (F : Fld) (n : Nat) : (s.setF F n).gbk = s.gbk := rfl
@[simp] theorem State.setF_rst (F : Fld) (n : Nat) : (s.setF F n).rst = s.rst := rfl
@[simp] theorem State.setF_pwr (F : Fld) (n : Nat) : (s.setF F n).pwr = s.pwr := rfl
@[simp] theorem State.setF_ost (F : Fld) (n : Nat) : (s.setF F n).ost = s.ost := rfl
@[simp] theorem State.setF_mge (F : Fld) (n : Nat) : (s.setF F n).mge = s.mge := rfl
@[simp] theorem State.setF_tmk (F : Fld) (n : Nat) : (s.setF F n).tmk = s.tmk := rfl
@[simp] theorem State.setF_lanes (F : Fld) (n : Nat) : (s.setF F n).lanes = s.lanes := rfl
@[simp] theorem State.setF_wke (F : Fld) (n : Nat) : (s.setF F n).wke = s.wke := rfl
@[simp] theorem State.setF_tst (F : Fld) (n : Nat) : (s.setF F n).tst = s.tst := rfl
@[simp] theorem State.bump_pending (F : Fld) (k : Nat) : (s.bump F k).pending = s.pending := rfl
@[simp] theorem State.bump_paths (F : Fld) (k : Nat) : (s.bump F k).paths = s.paths := rfl
@[simp] theorem State.bump_mbs (F : Fld) (k : Nat) : (s.bump F k).mbs = s.mbs := rfl
@[simp] theorem State.bump_hub (F : Fld) (k : Nat) : (s.bump F k).hub = s.hub := rfl
@[simp] theorem State.bump_free (F : Fld) (k : Nat) : (s.bump F k).free = s.free := rfl
@[simp] theorem State.bump_hbm (F : Fld) (k : Nat) : (s.bump F k).hbm = s.hbm := rfl
@[simp] theorem State.bump_mram (F : Fld) (k : Nat) : (s.bump F k).mram = s.mram := rfl
@[simp] theorem State.bump_boot (F : Fld) (k : Nat) : (s.bump F k).boot = s.boot := rfl
@[simp] theorem State.bump_clusters (F : Fld) (k : Nat) : (s.bump F k).clusters = s.clusters := rfl
@[simp] theorem State.bump_seq (F : Fld) (k : Nat) : (s.bump F k).seq = s.seq := rfl
@[simp] theorem State.bump_mlr (F : Fld) (k : Nat) : (s.bump F k).mlr = s.mlr := rfl
@[simp] theorem State.bump_net (F : Fld) (k : Nat) : (s.bump F k).net = s.net := rfl
@[simp] theorem State.bump_hbc (F : Fld) (k : Nat) : (s.bump F k).hbc = s.hbc := rfl
@[simp] theorem State.bump_acq (F : Fld) (k : Nat) : (s.bump F k).acq = s.acq := rfl
@[simp] theorem State.bump_fab (F : Fld) (k : Nat) : (s.bump F k).fab = s.fab := rfl
@[simp] theorem State.bump_blt (F : Fld) (k : Nat) : (s.bump F k).blt = s.blt := rfl
@[simp] theorem State.bump_frd (F : Fld) (k : Nat) : (s.bump F k).frd = s.frd := rfl
@[simp] theorem State.bump_cfg (F : Fld) (k : Nat) : (s.bump F k).cfg = s.cfg := rfl
@[simp] theorem State.bump_stepMhz (F : Fld) (k : Nat) : (s.bump F k).stepMhz = s.stepMhz := rfl
@[simp] theorem State.bump_gbk (F : Fld) (k : Nat) : (s.bump F k).gbk = s.gbk := rfl
@[simp] theorem State.bump_rst (F : Fld) (k : Nat) : (s.bump F k).rst = s.rst := rfl
@[simp] theorem State.bump_pwr (F : Fld) (k : Nat) : (s.bump F k).pwr = s.pwr := rfl
@[simp] theorem State.bump_ost (F : Fld) (k : Nat) : (s.bump F k).ost = s.ost := rfl
@[simp] theorem State.bump_mge (F : Fld) (k : Nat) : (s.bump F k).mge = s.mge := rfl
@[simp] theorem State.bump_tmk (F : Fld) (k : Nat) : (s.bump F k).tmk = s.tmk := rfl
@[simp] theorem State.bump_lanes (F : Fld) (k : Nat) : (s.bump F k).lanes = s.lanes := rfl
@[simp] theorem State.bump_wke (F : Fld) (k : Nat) : (s.bump F k).wke = s.wke := rfl
@[simp] theorem State.bump_tst (F : Fld) (k : Nat) : (s.bump F k).tst = s.tst := rfl
@[simp] theorem State.set64_pending (off n : Nat) : (s.set64 off n).pending = s.pending := rfl
@[simp] theorem State.set64_paths (off n : Nat) : (s.set64 off n).paths = s.paths := rfl
@[simp] theorem State.set64_mbs (off n : Nat) : (s.set64 off n).mbs = s.mbs := rfl
@[simp] theorem State.set64_hub (off n : Nat) : (s.set64 off n).hub = s.hub := rfl
@[simp] theorem State.set64_free (off n : Nat) : (s.set64 off n).free = s.free := rfl
@[simp] theorem State.set64_hbm (off n : Nat) : (s.set64 off n).hbm = s.hbm := rfl
@[simp] theorem State.set64_mram (off n : Nat) : (s.set64 off n).mram = s.mram := rfl
@[simp] theorem State.set64_boot (off n : Nat) : (s.set64 off n).boot = s.boot := rfl
@[simp] theorem State.set64_clusters (off n : Nat) : (s.set64 off n).clusters = s.clusters := rfl
@[simp] theorem State.set64_seq (off n : Nat) : (s.set64 off n).seq = s.seq := rfl
@[simp] theorem State.set64_mlr (off n : Nat) : (s.set64 off n).mlr = s.mlr := rfl
@[simp] theorem State.set64_net (off n : Nat) : (s.set64 off n).net = s.net := rfl
@[simp] theorem State.set64_hbc (off n : Nat) : (s.set64 off n).hbc = s.hbc := rfl
@[simp] theorem State.set64_acq (off n : Nat) : (s.set64 off n).acq = s.acq := rfl
@[simp] theorem State.set64_fab (off n : Nat) : (s.set64 off n).fab = s.fab := rfl
@[simp] theorem State.set64_blt (off n : Nat) : (s.set64 off n).blt = s.blt := rfl
@[simp] theorem State.set64_frd (off n : Nat) : (s.set64 off n).frd = s.frd := rfl
@[simp] theorem State.set64_cfg (off n : Nat) : (s.set64 off n).cfg = s.cfg := rfl
@[simp] theorem State.set64_stepMhz (off n : Nat) : (s.set64 off n).stepMhz = s.stepMhz := rfl
@[simp] theorem State.set64_gbk (off n : Nat) : (s.set64 off n).gbk = s.gbk := rfl
@[simp] theorem State.set64_rst (off n : Nat) : (s.set64 off n).rst = s.rst := rfl
@[simp] theorem State.set64_pwr (off n : Nat) : (s.set64 off n).pwr = s.pwr := rfl
@[simp] theorem State.set64_ost (off n : Nat) : (s.set64 off n).ost = s.ost := rfl
@[simp] theorem State.set64_mge (off n : Nat) : (s.set64 off n).mge = s.mge := rfl
@[simp] theorem State.set64_tmk (off n : Nat) : (s.set64 off n).tmk = s.tmk := rfl
@[simp] theorem State.set64_lanes (off n : Nat) : (s.set64 off n).lanes = s.lanes := rfl
@[simp] theorem State.set64_wke (off n : Nat) : (s.set64 off n).wke = s.wke := rfl
@[simp] theorem State.set64_tst (off n : Nat) : (s.set64 off n).tst = s.tst := rfl
@[simp] theorem State.resetRange_pending (lo len : Nat) : (s.resetRange lo len).pending = s.pending := rfl
@[simp] theorem State.resetRange_paths (lo len : Nat) : (s.resetRange lo len).paths = s.paths := rfl
@[simp] theorem State.resetRange_mbs (lo len : Nat) : (s.resetRange lo len).mbs = s.mbs := rfl
@[simp] theorem State.resetRange_hub (lo len : Nat) : (s.resetRange lo len).hub = s.hub := rfl
@[simp] theorem State.resetRange_free (lo len : Nat) : (s.resetRange lo len).free = s.free := rfl
@[simp] theorem State.resetRange_hbm (lo len : Nat) : (s.resetRange lo len).hbm = s.hbm := rfl
@[simp] theorem State.resetRange_mram (lo len : Nat) : (s.resetRange lo len).mram = s.mram := rfl
@[simp] theorem State.resetRange_boot (lo len : Nat) : (s.resetRange lo len).boot = s.boot := rfl
@[simp] theorem State.resetRange_clusters (lo len : Nat) : (s.resetRange lo len).clusters = s.clusters := rfl
@[simp] theorem State.resetRange_seq (lo len : Nat) : (s.resetRange lo len).seq = s.seq := rfl
@[simp] theorem State.resetRange_mlr (lo len : Nat) : (s.resetRange lo len).mlr = s.mlr := rfl
@[simp] theorem State.resetRange_net (lo len : Nat) : (s.resetRange lo len).net = s.net := rfl
@[simp] theorem State.resetRange_hbc (lo len : Nat) : (s.resetRange lo len).hbc = s.hbc := rfl
@[simp] theorem State.resetRange_acq (lo len : Nat) : (s.resetRange lo len).acq = s.acq := rfl
@[simp] theorem State.resetRange_fab (lo len : Nat) : (s.resetRange lo len).fab = s.fab := rfl
@[simp] theorem State.resetRange_blt (lo len : Nat) : (s.resetRange lo len).blt = s.blt := rfl
@[simp] theorem State.resetRange_frd (lo len : Nat) : (s.resetRange lo len).frd = s.frd := rfl
@[simp] theorem State.resetRange_cfg (lo len : Nat) : (s.resetRange lo len).cfg = s.cfg := rfl
@[simp] theorem State.resetRange_stepMhz (lo len : Nat) : (s.resetRange lo len).stepMhz = s.stepMhz := rfl
@[simp] theorem State.resetRange_gbk (lo len : Nat) : (s.resetRange lo len).gbk = s.gbk := rfl
@[simp] theorem State.resetRange_rst (lo len : Nat) : (s.resetRange lo len).rst = s.rst := rfl
@[simp] theorem State.resetRange_pwr (lo len : Nat) : (s.resetRange lo len).pwr = s.pwr := rfl
@[simp] theorem State.resetRange_ost (lo len : Nat) : (s.resetRange lo len).ost = s.ost := rfl
@[simp] theorem State.resetRange_mge (lo len : Nat) : (s.resetRange lo len).mge = s.mge := rfl
@[simp] theorem State.resetRange_tmk (lo len : Nat) : (s.resetRange lo len).tmk = s.tmk := rfl
@[simp] theorem State.resetRange_lanes (lo len : Nat) : (s.resetRange lo len).lanes = s.lanes := rfl
@[simp] theorem State.resetRange_wke (lo len : Nat) : (s.resetRange lo len).wke = s.wke := rfl
@[simp] theorem State.resetRange_tst (lo len : Nat) : (s.resetRange lo len).tst = s.tst := rfl
@[simp] theorem State.setPath_pending (p : Path) (x : PathState) : (s.setPath p x).pending = s.pending := rfl
@[simp] theorem State.setPath_regs (p : Path) (x : PathState) : (s.setPath p x).regs = s.regs := rfl
@[simp] theorem State.setPath_mbs (p : Path) (x : PathState) : (s.setPath p x).mbs = s.mbs := rfl
@[simp] theorem State.setPath_hub (p : Path) (x : PathState) : (s.setPath p x).hub = s.hub := rfl
@[simp] theorem State.setPath_free (p : Path) (x : PathState) : (s.setPath p x).free = s.free := rfl
@[simp] theorem State.setPath_hbm (p : Path) (x : PathState) : (s.setPath p x).hbm = s.hbm := rfl
@[simp] theorem State.setPath_mram (p : Path) (x : PathState) : (s.setPath p x).mram = s.mram := rfl
@[simp] theorem State.setPath_boot (p : Path) (x : PathState) : (s.setPath p x).boot = s.boot := rfl
@[simp] theorem State.setPath_clusters (p : Path) (x : PathState) : (s.setPath p x).clusters = s.clusters := rfl
@[simp] theorem State.setPath_seq (p : Path) (x : PathState) : (s.setPath p x).seq = s.seq := rfl
@[simp] theorem State.setPath_mlr (p : Path) (x : PathState) : (s.setPath p x).mlr = s.mlr := rfl
@[simp] theorem State.setPath_net (p : Path) (x : PathState) : (s.setPath p x).net = s.net := rfl
@[simp] theorem State.setPath_hbc (p : Path) (x : PathState) : (s.setPath p x).hbc = s.hbc := rfl
@[simp] theorem State.setPath_acq (p : Path) (x : PathState) : (s.setPath p x).acq = s.acq := rfl
@[simp] theorem State.setPath_fab (p : Path) (x : PathState) : (s.setPath p x).fab = s.fab := rfl
@[simp] theorem State.setPath_blt (p : Path) (x : PathState) : (s.setPath p x).blt = s.blt := rfl
@[simp] theorem State.setPath_frd (p : Path) (x : PathState) : (s.setPath p x).frd = s.frd := rfl
@[simp] theorem State.setPath_cfg (p : Path) (x : PathState) : (s.setPath p x).cfg = s.cfg := rfl
@[simp] theorem State.setPath_stepMhz (p : Path) (x : PathState) : (s.setPath p x).stepMhz = s.stepMhz := rfl
@[simp] theorem State.setPath_gbk (p : Path) (x : PathState) : (s.setPath p x).gbk = s.gbk := rfl
@[simp] theorem State.setPath_rst (p : Path) (x : PathState) : (s.setPath p x).rst = s.rst := rfl
@[simp] theorem State.setPath_pwr (p : Path) (x : PathState) : (s.setPath p x).pwr = s.pwr := rfl
@[simp] theorem State.setPath_ost (p : Path) (x : PathState) : (s.setPath p x).ost = s.ost := rfl
@[simp] theorem State.setPath_mge (p : Path) (x : PathState) : (s.setPath p x).mge = s.mge := rfl
@[simp] theorem State.setPath_tmk (p : Path) (x : PathState) : (s.setPath p x).tmk = s.tmk := rfl
@[simp] theorem State.setPath_lanes (p : Path) (x : PathState) : (s.setPath p x).lanes = s.lanes := rfl
@[simp] theorem State.setPath_wke (p : Path) (x : PathState) : (s.setPath p x).wke = s.wke := rfl
@[simp] theorem State.setPath_tst (p : Path) (x : PathState) : (s.setPath p x).tst = s.tst := rfl
@[simp] theorem State.setPath_reg (p : Path) (x : PathState) (o : Nat) : (s.setPath p x).reg o = s.reg o := rfl
@[simp] theorem State.setPath_f (p : Path) (x : PathState) (G : Fld) : (s.setPath p x).f G = s.f G := rfl
@[simp] theorem State.setPath_flag (p : Path) (x : PathState) (G : Fld) : (s.setPath p x).flag G = s.flag G := rfl
@[simp] theorem State.setPath_mode (p : Path) (x : PathState) : (s.setPath p x).mode = s.mode := rfl
@[simp] theorem State.answer_pending (p : Path) (v : Word) : (s.answer p v).pending = s.pending := rfl
@[simp] theorem State.answer_regs (p : Path) (v : Word) : (s.answer p v).regs = s.regs := rfl
@[simp] theorem State.answer_mbs (p : Path) (v : Word) : (s.answer p v).mbs = s.mbs := rfl
@[simp] theorem State.answer_hub (p : Path) (v : Word) : (s.answer p v).hub = s.hub := rfl
@[simp] theorem State.answer_free (p : Path) (v : Word) : (s.answer p v).free = s.free := rfl
@[simp] theorem State.answer_hbm (p : Path) (v : Word) : (s.answer p v).hbm = s.hbm := rfl
@[simp] theorem State.answer_mram (p : Path) (v : Word) : (s.answer p v).mram = s.mram := rfl
@[simp] theorem State.answer_boot (p : Path) (v : Word) : (s.answer p v).boot = s.boot := rfl
@[simp] theorem State.answer_clusters (p : Path) (v : Word) : (s.answer p v).clusters = s.clusters := rfl
@[simp] theorem State.answer_seq (p : Path) (v : Word) : (s.answer p v).seq = s.seq := rfl
@[simp] theorem State.answer_mlr (p : Path) (v : Word) : (s.answer p v).mlr = s.mlr := rfl
@[simp] theorem State.answer_net (p : Path) (v : Word) : (s.answer p v).net = s.net := rfl
@[simp] theorem State.answer_hbc (p : Path) (v : Word) : (s.answer p v).hbc = s.hbc := rfl
@[simp] theorem State.answer_acq (p : Path) (v : Word) : (s.answer p v).acq = s.acq := rfl
@[simp] theorem State.answer_fab (p : Path) (v : Word) : (s.answer p v).fab = s.fab := rfl
@[simp] theorem State.answer_blt (p : Path) (v : Word) : (s.answer p v).blt = s.blt := rfl
@[simp] theorem State.answer_frd (p : Path) (v : Word) : (s.answer p v).frd = s.frd := rfl
@[simp] theorem State.answer_cfg (p : Path) (v : Word) : (s.answer p v).cfg = s.cfg := rfl
@[simp] theorem State.answer_stepMhz (p : Path) (v : Word) : (s.answer p v).stepMhz = s.stepMhz := rfl
@[simp] theorem State.answer_gbk (p : Path) (v : Word) : (s.answer p v).gbk = s.gbk := rfl
@[simp] theorem State.answer_rst (p : Path) (v : Word) : (s.answer p v).rst = s.rst := rfl
@[simp] theorem State.answer_pwr (p : Path) (v : Word) : (s.answer p v).pwr = s.pwr := rfl
@[simp] theorem State.answer_ost (p : Path) (v : Word) : (s.answer p v).ost = s.ost := rfl
@[simp] theorem State.answer_mge (p : Path) (v : Word) : (s.answer p v).mge = s.mge := rfl
@[simp] theorem State.answer_tmk (p : Path) (v : Word) : (s.answer p v).tmk = s.tmk := rfl
@[simp] theorem State.answer_lanes (p : Path) (v : Word) : (s.answer p v).lanes = s.lanes := rfl
@[simp] theorem State.answer_wke (p : Path) (v : Word) : (s.answer p v).wke = s.wke := rfl
@[simp] theorem State.answer_tst (p : Path) (v : Word) : (s.answer p v).tst = s.tst := rfl
@[simp] theorem State.answer_reg (p : Path) (v : Word) (o : Nat) : (s.answer p v).reg o = s.reg o := rfl
@[simp] theorem State.answer_f (p : Path) (v : Word) (G : Fld) : (s.answer p v).f G = s.f G := rfl
@[simp] theorem State.answer_flag (p : Path) (v : Word) (G : Fld) : (s.answer p v).flag G = s.flag G := rfl
@[simp] theorem State.answer_mode (p : Path) (v : Word) : (s.answer p v).mode = s.mode := rfl
@[simp] theorem State.takeFree_pending : (s.takeFree).pending = s.pending := rfl
@[simp] theorem State.takeFree_regs : (s.takeFree).regs = s.regs := rfl
@[simp] theorem State.takeFree_paths : (s.takeFree).paths = s.paths := rfl
@[simp] theorem State.takeFree_mbs : (s.takeFree).mbs = s.mbs := rfl
@[simp] theorem State.takeFree_hub : (s.takeFree).hub = s.hub := rfl
@[simp] theorem State.takeFree_free : (s.takeFree).free = s.free + 1 := rfl
@[simp] theorem State.takeFree_hbm : (s.takeFree).hbm = s.hbm := rfl
@[simp] theorem State.takeFree_mram : (s.takeFree).mram = s.mram := rfl
@[simp] theorem State.takeFree_boot : (s.takeFree).boot = s.boot := rfl
@[simp] theorem State.takeFree_clusters : (s.takeFree).clusters = s.clusters := rfl
@[simp] theorem State.takeFree_seq : (s.takeFree).seq = s.seq := rfl
@[simp] theorem State.takeFree_mlr : (s.takeFree).mlr = s.mlr := rfl
@[simp] theorem State.takeFree_net : (s.takeFree).net = s.net := rfl
@[simp] theorem State.takeFree_hbc : (s.takeFree).hbc = s.hbc := rfl
@[simp] theorem State.takeFree_acq : (s.takeFree).acq = s.acq := rfl
@[simp] theorem State.takeFree_fab : (s.takeFree).fab = s.fab := rfl
@[simp] theorem State.takeFree_blt : (s.takeFree).blt = s.blt := rfl
@[simp] theorem State.takeFree_frd : (s.takeFree).frd = s.frd := rfl
@[simp] theorem State.takeFree_cfg : (s.takeFree).cfg = s.cfg := rfl
@[simp] theorem State.takeFree_stepMhz : (s.takeFree).stepMhz = s.stepMhz := rfl
@[simp] theorem State.takeFree_gbk : (s.takeFree).gbk = s.gbk := rfl
@[simp] theorem State.takeFree_rst : (s.takeFree).rst = s.rst := rfl
@[simp] theorem State.takeFree_pwr : (s.takeFree).pwr = s.pwr := rfl
@[simp] theorem State.takeFree_ost : (s.takeFree).ost = s.ost := rfl
@[simp] theorem State.takeFree_mge : (s.takeFree).mge = s.mge := rfl
@[simp] theorem State.takeFree_tmk : (s.takeFree).tmk = s.tmk := rfl
@[simp] theorem State.takeFree_lanes : (s.takeFree).lanes = s.lanes := rfl
@[simp] theorem State.takeFree_wke : (s.takeFree).wke = s.wke := rfl
@[simp] theorem State.takeFree_tst : (s.takeFree).tst = s.tst := rfl
@[simp] theorem State.takeFree_reg (o : Nat) : (s.takeFree).reg o = s.reg o := rfl
@[simp] theorem State.takeFree_f (G : Fld) : (s.takeFree).f G = s.f G := rfl
@[simp] theorem State.takeFree_flag (G : Fld) : (s.takeFree).flag G = s.flag G := rfl
@[simp] theorem State.takeFree_mode : (s.takeFree).mode = s.mode := rfl
@[simp] theorem State.setAcq_pending (x : Acquisition) : (s.setAcq x).pending = s.pending := rfl
@[simp] theorem State.setAcq_regs (x : Acquisition) : (s.setAcq x).regs = s.regs := rfl
@[simp] theorem State.setAcq_paths (x : Acquisition) : (s.setAcq x).paths = s.paths := rfl
@[simp] theorem State.setAcq_mbs (x : Acquisition) : (s.setAcq x).mbs = s.mbs := rfl
@[simp] theorem State.setAcq_hub (x : Acquisition) : (s.setAcq x).hub = s.hub := rfl
@[simp] theorem State.setAcq_free (x : Acquisition) : (s.setAcq x).free = s.free := rfl
@[simp] theorem State.setAcq_hbm (x : Acquisition) : (s.setAcq x).hbm = s.hbm := rfl
@[simp] theorem State.setAcq_mram (x : Acquisition) : (s.setAcq x).mram = s.mram := rfl
@[simp] theorem State.setAcq_boot (x : Acquisition) : (s.setAcq x).boot = s.boot := rfl
@[simp] theorem State.setAcq_clusters (x : Acquisition) : (s.setAcq x).clusters = s.clusters := rfl
@[simp] theorem State.setAcq_seq (x : Acquisition) : (s.setAcq x).seq = s.seq := rfl
@[simp] theorem State.setAcq_mlr (x : Acquisition) : (s.setAcq x).mlr = s.mlr := rfl
@[simp] theorem State.setAcq_net (x : Acquisition) : (s.setAcq x).net = s.net := rfl
@[simp] theorem State.setAcq_hbc (x : Acquisition) : (s.setAcq x).hbc = s.hbc := rfl
@[simp] theorem State.setAcq_acq (x : Acquisition) : (s.setAcq x).acq = x := rfl
@[simp] theorem State.setAcq_fab (x : Acquisition) : (s.setAcq x).fab = s.fab := rfl
@[simp] theorem State.setAcq_blt (x : Acquisition) : (s.setAcq x).blt = s.blt := rfl
@[simp] theorem State.setAcq_frd (x : Acquisition) : (s.setAcq x).frd = s.frd := rfl
@[simp] theorem State.setAcq_cfg (x : Acquisition) : (s.setAcq x).cfg = s.cfg := rfl
@[simp] theorem State.setAcq_stepMhz (x : Acquisition) : (s.setAcq x).stepMhz = s.stepMhz := rfl
@[simp] theorem State.setAcq_gbk (x : Acquisition) : (s.setAcq x).gbk = s.gbk := rfl
@[simp] theorem State.setAcq_rst (x : Acquisition) : (s.setAcq x).rst = s.rst := rfl
@[simp] theorem State.setAcq_pwr (x : Acquisition) : (s.setAcq x).pwr = s.pwr := rfl
@[simp] theorem State.setAcq_ost (x : Acquisition) : (s.setAcq x).ost = s.ost := rfl
@[simp] theorem State.setAcq_mge (x : Acquisition) : (s.setAcq x).mge = s.mge := rfl
@[simp] theorem State.setAcq_tmk (x : Acquisition) : (s.setAcq x).tmk = s.tmk := rfl
@[simp] theorem State.setAcq_lanes (x : Acquisition) : (s.setAcq x).lanes = s.lanes := rfl
@[simp] theorem State.setAcq_wke (x : Acquisition) : (s.setAcq x).wke = s.wke := rfl
@[simp] theorem State.setAcq_tst (x : Acquisition) : (s.setAcq x).tst = s.tst := rfl
@[simp] theorem State.setAcq_reg (x : Acquisition) (o : Nat) : (s.setAcq x).reg o = s.reg o := rfl
@[simp] theorem State.setAcq_f (x : Acquisition) (G : Fld) : (s.setAcq x).f G = s.f G := rfl
@[simp] theorem State.setAcq_flag (x : Acquisition) (G : Fld) : (s.setAcq x).flag G = s.flag G := rfl
@[simp] theorem State.setAcq_mode (x : Acquisition) : (s.setAcq x).mode = s.mode := rfl
@[simp] theorem State.setBlt_pending (x : Billet) : (s.setBlt x).pending = s.pending := rfl
@[simp] theorem State.setBlt_regs (x : Billet) : (s.setBlt x).regs = s.regs := rfl
@[simp] theorem State.setBlt_paths (x : Billet) : (s.setBlt x).paths = s.paths := rfl
@[simp] theorem State.setBlt_mbs (x : Billet) : (s.setBlt x).mbs = s.mbs := rfl
@[simp] theorem State.setBlt_hub (x : Billet) : (s.setBlt x).hub = s.hub := rfl
@[simp] theorem State.setBlt_free (x : Billet) : (s.setBlt x).free = s.free := rfl
@[simp] theorem State.setBlt_hbm (x : Billet) : (s.setBlt x).hbm = s.hbm := rfl
@[simp] theorem State.setBlt_mram (x : Billet) : (s.setBlt x).mram = s.mram := rfl
@[simp] theorem State.setBlt_boot (x : Billet) : (s.setBlt x).boot = s.boot := rfl
@[simp] theorem State.setBlt_clusters (x : Billet) : (s.setBlt x).clusters = s.clusters := rfl
@[simp] theorem State.setBlt_seq (x : Billet) : (s.setBlt x).seq = s.seq := rfl
@[simp] theorem State.setBlt_mlr (x : Billet) : (s.setBlt x).mlr = s.mlr := rfl
@[simp] theorem State.setBlt_net (x : Billet) : (s.setBlt x).net = s.net := rfl
@[simp] theorem State.setBlt_hbc (x : Billet) : (s.setBlt x).hbc = s.hbc := rfl
@[simp] theorem State.setBlt_acq (x : Billet) : (s.setBlt x).acq = s.acq := rfl
@[simp] theorem State.setBlt_fab (x : Billet) : (s.setBlt x).fab = s.fab := rfl
@[simp] theorem State.setBlt_blt (x : Billet) : (s.setBlt x).blt = x := rfl
@[simp] theorem State.setBlt_frd (x : Billet) : (s.setBlt x).frd = s.frd := rfl
@[simp] theorem State.setBlt_cfg (x : Billet) : (s.setBlt x).cfg = s.cfg := rfl
@[simp] theorem State.setBlt_stepMhz (x : Billet) : (s.setBlt x).stepMhz = s.stepMhz := rfl
@[simp] theorem State.setBlt_gbk (x : Billet) : (s.setBlt x).gbk = s.gbk := rfl
@[simp] theorem State.setBlt_rst (x : Billet) : (s.setBlt x).rst = s.rst := rfl
@[simp] theorem State.setBlt_pwr (x : Billet) : (s.setBlt x).pwr = s.pwr := rfl
@[simp] theorem State.setBlt_ost (x : Billet) : (s.setBlt x).ost = s.ost := rfl
@[simp] theorem State.setBlt_mge (x : Billet) : (s.setBlt x).mge = s.mge := rfl
@[simp] theorem State.setBlt_tmk (x : Billet) : (s.setBlt x).tmk = s.tmk := rfl
@[simp] theorem State.setBlt_lanes (x : Billet) : (s.setBlt x).lanes = s.lanes := rfl
@[simp] theorem State.setBlt_wke (x : Billet) : (s.setBlt x).wke = s.wke := rfl
@[simp] theorem State.setBlt_tst (x : Billet) : (s.setBlt x).tst = s.tst := rfl
@[simp] theorem State.setBlt_reg (x : Billet) (o : Nat) : (s.setBlt x).reg o = s.reg o := rfl
@[simp] theorem State.setBlt_f (x : Billet) (G : Fld) : (s.setBlt x).f G = s.f G := rfl
@[simp] theorem State.setBlt_flag (x : Billet) (G : Fld) : (s.setBlt x).flag G = s.flag G := rfl
@[simp] theorem State.setBlt_mode (x : Billet) : (s.setBlt x).mode = s.mode := rfl
@[simp] theorem State.setCfg_pending (x : CfgUnit) : (s.setCfg x).pending = s.pending := rfl
@[simp] theorem State.setCfg_regs (x : CfgUnit) : (s.setCfg x).regs = s.regs := rfl
@[simp] theorem State.setCfg_paths (x : CfgUnit) : (s.setCfg x).paths = s.paths := rfl
@[simp] theorem State.setCfg_mbs (x : CfgUnit) : (s.setCfg x).mbs = s.mbs := rfl
@[simp] theorem State.setCfg_hub (x : CfgUnit) : (s.setCfg x).hub = s.hub := rfl
@[simp] theorem State.setCfg_free (x : CfgUnit) : (s.setCfg x).free = s.free := rfl
@[simp] theorem State.setCfg_hbm (x : CfgUnit) : (s.setCfg x).hbm = s.hbm := rfl
@[simp] theorem State.setCfg_mram (x : CfgUnit) : (s.setCfg x).mram = s.mram := rfl
@[simp] theorem State.setCfg_boot (x : CfgUnit) : (s.setCfg x).boot = s.boot := rfl
@[simp] theorem State.setCfg_clusters (x : CfgUnit) : (s.setCfg x).clusters = s.clusters := rfl
@[simp] theorem State.setCfg_seq (x : CfgUnit) : (s.setCfg x).seq = s.seq := rfl
@[simp] theorem State.setCfg_mlr (x : CfgUnit) : (s.setCfg x).mlr = s.mlr := rfl
@[simp] theorem State.setCfg_net (x : CfgUnit) : (s.setCfg x).net = s.net := rfl
@[simp] theorem State.setCfg_hbc (x : CfgUnit) : (s.setCfg x).hbc = s.hbc := rfl
@[simp] theorem State.setCfg_acq (x : CfgUnit) : (s.setCfg x).acq = s.acq := rfl
@[simp] theorem State.setCfg_fab (x : CfgUnit) : (s.setCfg x).fab = s.fab := rfl
@[simp] theorem State.setCfg_blt (x : CfgUnit) : (s.setCfg x).blt = s.blt := rfl
@[simp] theorem State.setCfg_frd (x : CfgUnit) : (s.setCfg x).frd = s.frd := rfl
@[simp] theorem State.setCfg_cfg (x : CfgUnit) : (s.setCfg x).cfg = x := rfl
@[simp] theorem State.setCfg_stepMhz (x : CfgUnit) : (s.setCfg x).stepMhz = s.stepMhz := rfl
@[simp] theorem State.setCfg_gbk (x : CfgUnit) : (s.setCfg x).gbk = s.gbk := rfl
@[simp] theorem State.setCfg_rst (x : CfgUnit) : (s.setCfg x).rst = s.rst := rfl
@[simp] theorem State.setCfg_pwr (x : CfgUnit) : (s.setCfg x).pwr = s.pwr := rfl
@[simp] theorem State.setCfg_ost (x : CfgUnit) : (s.setCfg x).ost = s.ost := rfl
@[simp] theorem State.setCfg_mge (x : CfgUnit) : (s.setCfg x).mge = s.mge := rfl
@[simp] theorem State.setCfg_tmk (x : CfgUnit) : (s.setCfg x).tmk = s.tmk := rfl
@[simp] theorem State.setCfg_lanes (x : CfgUnit) : (s.setCfg x).lanes = s.lanes := rfl
@[simp] theorem State.setCfg_wke (x : CfgUnit) : (s.setCfg x).wke = s.wke := rfl
@[simp] theorem State.setCfg_tst (x : CfgUnit) : (s.setCfg x).tst = s.tst := rfl
@[simp] theorem State.setCfg_reg (x : CfgUnit) (o : Nat) : (s.setCfg x).reg o = s.reg o := rfl
@[simp] theorem State.setCfg_f (x : CfgUnit) (G : Fld) : (s.setCfg x).f G = s.f G := rfl
@[simp] theorem State.setCfg_flag (x : CfgUnit) (G : Fld) : (s.setCfg x).flag G = s.flag G := rfl
@[simp] theorem State.setCfg_mode (x : CfgUnit) : (s.setCfg x).mode = s.mode := rfl
@[simp] theorem State.setFab_pending (x : Fabric) : (s.setFab x).pending = s.pending := rfl
@[simp] theorem State.setFab_regs (x : Fabric) : (s.setFab x).regs = s.regs := rfl
@[simp] theorem State.setFab_paths (x : Fabric) : (s.setFab x).paths = s.paths := rfl
@[simp] theorem State.setFab_mbs (x : Fabric) : (s.setFab x).mbs = s.mbs := rfl
@[simp] theorem State.setFab_hub (x : Fabric) : (s.setFab x).hub = s.hub := rfl
@[simp] theorem State.setFab_free (x : Fabric) : (s.setFab x).free = s.free := rfl
@[simp] theorem State.setFab_hbm (x : Fabric) : (s.setFab x).hbm = s.hbm := rfl
@[simp] theorem State.setFab_mram (x : Fabric) : (s.setFab x).mram = s.mram := rfl
@[simp] theorem State.setFab_boot (x : Fabric) : (s.setFab x).boot = s.boot := rfl
@[simp] theorem State.setFab_clusters (x : Fabric) : (s.setFab x).clusters = s.clusters := rfl
@[simp] theorem State.setFab_seq (x : Fabric) : (s.setFab x).seq = s.seq := rfl
@[simp] theorem State.setFab_mlr (x : Fabric) : (s.setFab x).mlr = s.mlr := rfl
@[simp] theorem State.setFab_net (x : Fabric) : (s.setFab x).net = s.net := rfl
@[simp] theorem State.setFab_hbc (x : Fabric) : (s.setFab x).hbc = s.hbc := rfl
@[simp] theorem State.setFab_acq (x : Fabric) : (s.setFab x).acq = s.acq := rfl
@[simp] theorem State.setFab_fab (x : Fabric) : (s.setFab x).fab = x := rfl
@[simp] theorem State.setFab_blt (x : Fabric) : (s.setFab x).blt = s.blt := rfl
@[simp] theorem State.setFab_frd (x : Fabric) : (s.setFab x).frd = s.frd := rfl
@[simp] theorem State.setFab_cfg (x : Fabric) : (s.setFab x).cfg = s.cfg := rfl
@[simp] theorem State.setFab_stepMhz (x : Fabric) : (s.setFab x).stepMhz = s.stepMhz := rfl
@[simp] theorem State.setFab_gbk (x : Fabric) : (s.setFab x).gbk = s.gbk := rfl
@[simp] theorem State.setFab_rst (x : Fabric) : (s.setFab x).rst = s.rst := rfl
@[simp] theorem State.setFab_pwr (x : Fabric) : (s.setFab x).pwr = s.pwr := rfl
@[simp] theorem State.setFab_ost (x : Fabric) : (s.setFab x).ost = s.ost := rfl
@[simp] theorem State.setFab_mge (x : Fabric) : (s.setFab x).mge = s.mge := rfl
@[simp] theorem State.setFab_tmk (x : Fabric) : (s.setFab x).tmk = s.tmk := rfl
@[simp] theorem State.setFab_lanes (x : Fabric) : (s.setFab x).lanes = s.lanes := rfl
@[simp] theorem State.setFab_wke (x : Fabric) : (s.setFab x).wke = s.wke := rfl
@[simp] theorem State.setFab_tst (x : Fabric) : (s.setFab x).tst = s.tst := rfl
@[simp] theorem State.setFab_reg (x : Fabric) (o : Nat) : (s.setFab x).reg o = s.reg o := rfl
@[simp] theorem State.setFab_f (x : Fabric) (G : Fld) : (s.setFab x).f G = s.f G := rfl
@[simp] theorem State.setFab_flag (x : Fabric) (G : Fld) : (s.setFab x).flag G = s.flag G := rfl
@[simp] theorem State.setFab_mode (x : Fabric) : (s.setFab x).mode = s.mode := rfl
@[simp] theorem State.setFrd_pending (x : Ford) : (s.setFrd x).pending = s.pending := rfl
@[simp] theorem State.setFrd_regs (x : Ford) : (s.setFrd x).regs = s.regs := rfl
@[simp] theorem State.setFrd_paths (x : Ford) : (s.setFrd x).paths = s.paths := rfl
@[simp] theorem State.setFrd_mbs (x : Ford) : (s.setFrd x).mbs = s.mbs := rfl
@[simp] theorem State.setFrd_hub (x : Ford) : (s.setFrd x).hub = s.hub := rfl
@[simp] theorem State.setFrd_free (x : Ford) : (s.setFrd x).free = s.free := rfl
@[simp] theorem State.setFrd_hbm (x : Ford) : (s.setFrd x).hbm = s.hbm := rfl
@[simp] theorem State.setFrd_mram (x : Ford) : (s.setFrd x).mram = s.mram := rfl
@[simp] theorem State.setFrd_boot (x : Ford) : (s.setFrd x).boot = s.boot := rfl
@[simp] theorem State.setFrd_clusters (x : Ford) : (s.setFrd x).clusters = s.clusters := rfl
@[simp] theorem State.setFrd_seq (x : Ford) : (s.setFrd x).seq = s.seq := rfl
@[simp] theorem State.setFrd_mlr (x : Ford) : (s.setFrd x).mlr = s.mlr := rfl
@[simp] theorem State.setFrd_net (x : Ford) : (s.setFrd x).net = s.net := rfl
@[simp] theorem State.setFrd_hbc (x : Ford) : (s.setFrd x).hbc = s.hbc := rfl
@[simp] theorem State.setFrd_acq (x : Ford) : (s.setFrd x).acq = s.acq := rfl
@[simp] theorem State.setFrd_fab (x : Ford) : (s.setFrd x).fab = s.fab := rfl
@[simp] theorem State.setFrd_blt (x : Ford) : (s.setFrd x).blt = s.blt := rfl
@[simp] theorem State.setFrd_frd (x : Ford) : (s.setFrd x).frd = x := rfl
@[simp] theorem State.setFrd_cfg (x : Ford) : (s.setFrd x).cfg = s.cfg := rfl
@[simp] theorem State.setFrd_stepMhz (x : Ford) : (s.setFrd x).stepMhz = s.stepMhz := rfl
@[simp] theorem State.setFrd_gbk (x : Ford) : (s.setFrd x).gbk = s.gbk := rfl
@[simp] theorem State.setFrd_rst (x : Ford) : (s.setFrd x).rst = s.rst := rfl
@[simp] theorem State.setFrd_pwr (x : Ford) : (s.setFrd x).pwr = s.pwr := rfl
@[simp] theorem State.setFrd_ost (x : Ford) : (s.setFrd x).ost = s.ost := rfl
@[simp] theorem State.setFrd_mge (x : Ford) : (s.setFrd x).mge = s.mge := rfl
@[simp] theorem State.setFrd_tmk (x : Ford) : (s.setFrd x).tmk = s.tmk := rfl
@[simp] theorem State.setFrd_lanes (x : Ford) : (s.setFrd x).lanes = s.lanes := rfl
@[simp] theorem State.setFrd_wke (x : Ford) : (s.setFrd x).wke = s.wke := rfl
@[simp] theorem State.setFrd_tst (x : Ford) : (s.setFrd x).tst = s.tst := rfl
@[simp] theorem State.setFrd_reg (x : Ford) (o : Nat) : (s.setFrd x).reg o = s.reg o := rfl
@[simp] theorem State.setFrd_f (x : Ford) (G : Fld) : (s.setFrd x).f G = s.f G := rfl
@[simp] theorem State.setFrd_flag (x : Ford) (G : Fld) : (s.setFrd x).flag G = s.flag G := rfl
@[simp] theorem State.setFrd_mode (x : Ford) : (s.setFrd x).mode = s.mode := rfl
@[simp] theorem State.setCtl_pending (d : Nat) (x : HbmCtl) : (s.setCtl d x).pending = s.pending := rfl
@[simp] theorem State.setCtl_regs (d : Nat) (x : HbmCtl) : (s.setCtl d x).regs = s.regs := rfl
@[simp] theorem State.setCtl_paths (d : Nat) (x : HbmCtl) : (s.setCtl d x).paths = s.paths := rfl
@[simp] theorem State.setCtl_mbs (d : Nat) (x : HbmCtl) : (s.setCtl d x).mbs = s.mbs := rfl
@[simp] theorem State.setCtl_hub (d : Nat) (x : HbmCtl) : (s.setCtl d x).hub = s.hub := rfl
@[simp] theorem State.setCtl_free (d : Nat) (x : HbmCtl) : (s.setCtl d x).free = s.free := rfl
@[simp] theorem State.setCtl_hbm (d : Nat) (x : HbmCtl) : (s.setCtl d x).hbm = s.hbm := rfl
@[simp] theorem State.setCtl_mram (d : Nat) (x : HbmCtl) : (s.setCtl d x).mram = s.mram := rfl
@[simp] theorem State.setCtl_boot (d : Nat) (x : HbmCtl) : (s.setCtl d x).boot = s.boot := rfl
@[simp] theorem State.setCtl_clusters (d : Nat) (x : HbmCtl) : (s.setCtl d x).clusters = s.clusters := rfl
@[simp] theorem State.setCtl_seq (d : Nat) (x : HbmCtl) : (s.setCtl d x).seq = s.seq := rfl
@[simp] theorem State.setCtl_mlr (d : Nat) (x : HbmCtl) : (s.setCtl d x).mlr = s.mlr := rfl
@[simp] theorem State.setCtl_net (d : Nat) (x : HbmCtl) : (s.setCtl d x).net = s.net := rfl
@[simp] theorem State.setCtl_acq (d : Nat) (x : HbmCtl) : (s.setCtl d x).acq = s.acq := rfl
@[simp] theorem State.setCtl_fab (d : Nat) (x : HbmCtl) : (s.setCtl d x).fab = s.fab := rfl
@[simp] theorem State.setCtl_blt (d : Nat) (x : HbmCtl) : (s.setCtl d x).blt = s.blt := rfl
@[simp] theorem State.setCtl_frd (d : Nat) (x : HbmCtl) : (s.setCtl d x).frd = s.frd := rfl
@[simp] theorem State.setCtl_cfg (d : Nat) (x : HbmCtl) : (s.setCtl d x).cfg = s.cfg := rfl
@[simp] theorem State.setCtl_stepMhz (d : Nat) (x : HbmCtl) : (s.setCtl d x).stepMhz = s.stepMhz := rfl
@[simp] theorem State.setCtl_gbk (d : Nat) (x : HbmCtl) : (s.setCtl d x).gbk = s.gbk := rfl
@[simp] theorem State.setCtl_rst (d : Nat) (x : HbmCtl) : (s.setCtl d x).rst = s.rst := rfl
@[simp] theorem State.setCtl_pwr (d : Nat) (x : HbmCtl) : (s.setCtl d x).pwr = s.pwr := rfl
@[simp] theorem State.setCtl_ost (d : Nat) (x : HbmCtl) : (s.setCtl d x).ost = s.ost := rfl
@[simp] theorem State.setCtl_mge (d : Nat) (x : HbmCtl) : (s.setCtl d x).mge = s.mge := rfl
@[simp] theorem State.setCtl_tmk (d : Nat) (x : HbmCtl) : (s.setCtl d x).tmk = s.tmk := rfl
@[simp] theorem State.setCtl_lanes (d : Nat) (x : HbmCtl) : (s.setCtl d x).lanes = s.lanes := rfl
@[simp] theorem State.setCtl_wke (d : Nat) (x : HbmCtl) : (s.setCtl d x).wke = s.wke := rfl
@[simp] theorem State.setCtl_tst (d : Nat) (x : HbmCtl) : (s.setCtl d x).tst = s.tst := rfl
@[simp] theorem State.setCtl_reg (d : Nat) (x : HbmCtl) (o : Nat) : (s.setCtl d x).reg o = s.reg o := rfl
@[simp] theorem State.setCtl_f (d : Nat) (x : HbmCtl) (G : Fld) : (s.setCtl d x).f G = s.f G := rfl
@[simp] theorem State.setCtl_flag (d : Nat) (x : HbmCtl) (G : Fld) : (s.setCtl d x).flag G = s.flag G := rfl
@[simp] theorem State.setCtl_mode (d : Nat) (x : HbmCtl) : (s.setCtl d x).mode = s.mode := rfl
@[simp] theorem State.setLane_pending (l : Nat) (x : Lane) : (s.setLane l x).pending = s.pending := rfl
@[simp] theorem State.setLane_regs (l : Nat) (x : Lane) : (s.setLane l x).regs = s.regs := rfl
@[simp] theorem State.setLane_paths (l : Nat) (x : Lane) : (s.setLane l x).paths = s.paths := rfl
@[simp] theorem State.setLane_mbs (l : Nat) (x : Lane) : (s.setLane l x).mbs = s.mbs := rfl
@[simp] theorem State.setLane_hub (l : Nat) (x : Lane) : (s.setLane l x).hub = s.hub := rfl
@[simp] theorem State.setLane_free (l : Nat) (x : Lane) : (s.setLane l x).free = s.free := rfl
@[simp] theorem State.setLane_hbm (l : Nat) (x : Lane) : (s.setLane l x).hbm = s.hbm := rfl
@[simp] theorem State.setLane_mram (l : Nat) (x : Lane) : (s.setLane l x).mram = s.mram := rfl
@[simp] theorem State.setLane_boot (l : Nat) (x : Lane) : (s.setLane l x).boot = s.boot := rfl
@[simp] theorem State.setLane_clusters (l : Nat) (x : Lane) : (s.setLane l x).clusters = s.clusters := rfl
@[simp] theorem State.setLane_seq (l : Nat) (x : Lane) : (s.setLane l x).seq = s.seq := rfl
@[simp] theorem State.setLane_mlr (l : Nat) (x : Lane) : (s.setLane l x).mlr = s.mlr := rfl
@[simp] theorem State.setLane_net (l : Nat) (x : Lane) : (s.setLane l x).net = s.net := rfl
@[simp] theorem State.setLane_hbc (l : Nat) (x : Lane) : (s.setLane l x).hbc = s.hbc := rfl
@[simp] theorem State.setLane_acq (l : Nat) (x : Lane) : (s.setLane l x).acq = s.acq := rfl
@[simp] theorem State.setLane_fab (l : Nat) (x : Lane) : (s.setLane l x).fab = s.fab := rfl
@[simp] theorem State.setLane_blt (l : Nat) (x : Lane) : (s.setLane l x).blt = s.blt := rfl
@[simp] theorem State.setLane_frd (l : Nat) (x : Lane) : (s.setLane l x).frd = s.frd := rfl
@[simp] theorem State.setLane_cfg (l : Nat) (x : Lane) : (s.setLane l x).cfg = s.cfg := rfl
@[simp] theorem State.setLane_stepMhz (l : Nat) (x : Lane) : (s.setLane l x).stepMhz = s.stepMhz := rfl
@[simp] theorem State.setLane_gbk (l : Nat) (x : Lane) : (s.setLane l x).gbk = s.gbk := rfl
@[simp] theorem State.setLane_rst (l : Nat) (x : Lane) : (s.setLane l x).rst = s.rst := rfl
@[simp] theorem State.setLane_pwr (l : Nat) (x : Lane) : (s.setLane l x).pwr = s.pwr := rfl
@[simp] theorem State.setLane_ost (l : Nat) (x : Lane) : (s.setLane l x).ost = s.ost := rfl
@[simp] theorem State.setLane_mge (l : Nat) (x : Lane) : (s.setLane l x).mge = s.mge := rfl
@[simp] theorem State.setLane_tmk (l : Nat) (x : Lane) : (s.setLane l x).tmk = s.tmk := rfl
@[simp] theorem State.setLane_wke (l : Nat) (x : Lane) : (s.setLane l x).wke = s.wke := rfl
@[simp] theorem State.setLane_tst (l : Nat) (x : Lane) : (s.setLane l x).tst = s.tst := rfl
@[simp] theorem State.setLane_reg (l : Nat) (x : Lane) (o : Nat) : (s.setLane l x).reg o = s.reg o := rfl
@[simp] theorem State.setLane_f (l : Nat) (x : Lane) (G : Fld) : (s.setLane l x).f G = s.f G := rfl
@[simp] theorem State.setLane_flag (l : Nat) (x : Lane) (G : Fld) : (s.setLane l x).flag G = s.flag G := rfl
@[simp] theorem State.setLane_mode (l : Nat) (x : Lane) : (s.setLane l x).mode = s.mode := rfl
@[simp] theorem State.setMge_pending (x : MgePort) : (s.setMge x).pending = s.pending := rfl
@[simp] theorem State.setMge_regs (x : MgePort) : (s.setMge x).regs = s.regs := rfl
@[simp] theorem State.setMge_paths (x : MgePort) : (s.setMge x).paths = s.paths := rfl
@[simp] theorem State.setMge_mbs (x : MgePort) : (s.setMge x).mbs = s.mbs := rfl
@[simp] theorem State.setMge_hub (x : MgePort) : (s.setMge x).hub = s.hub := rfl
@[simp] theorem State.setMge_free (x : MgePort) : (s.setMge x).free = s.free := rfl
@[simp] theorem State.setMge_hbm (x : MgePort) : (s.setMge x).hbm = s.hbm := rfl
@[simp] theorem State.setMge_mram (x : MgePort) : (s.setMge x).mram = s.mram := rfl
@[simp] theorem State.setMge_boot (x : MgePort) : (s.setMge x).boot = s.boot := rfl
@[simp] theorem State.setMge_clusters (x : MgePort) : (s.setMge x).clusters = s.clusters := rfl
@[simp] theorem State.setMge_seq (x : MgePort) : (s.setMge x).seq = s.seq := rfl
@[simp] theorem State.setMge_mlr (x : MgePort) : (s.setMge x).mlr = s.mlr := rfl
@[simp] theorem State.setMge_net (x : MgePort) : (s.setMge x).net = s.net := rfl
@[simp] theorem State.setMge_hbc (x : MgePort) : (s.setMge x).hbc = s.hbc := rfl
@[simp] theorem State.setMge_acq (x : MgePort) : (s.setMge x).acq = s.acq := rfl
@[simp] theorem State.setMge_fab (x : MgePort) : (s.setMge x).fab = s.fab := rfl
@[simp] theorem State.setMge_blt (x : MgePort) : (s.setMge x).blt = s.blt := rfl
@[simp] theorem State.setMge_frd (x : MgePort) : (s.setMge x).frd = s.frd := rfl
@[simp] theorem State.setMge_cfg (x : MgePort) : (s.setMge x).cfg = s.cfg := rfl
@[simp] theorem State.setMge_stepMhz (x : MgePort) : (s.setMge x).stepMhz = s.stepMhz := rfl
@[simp] theorem State.setMge_gbk (x : MgePort) : (s.setMge x).gbk = s.gbk := rfl
@[simp] theorem State.setMge_rst (x : MgePort) : (s.setMge x).rst = s.rst := rfl
@[simp] theorem State.setMge_pwr (x : MgePort) : (s.setMge x).pwr = s.pwr := rfl
@[simp] theorem State.setMge_ost (x : MgePort) : (s.setMge x).ost = s.ost := rfl
@[simp] theorem State.setMge_mge (x : MgePort) : (s.setMge x).mge = x := rfl
@[simp] theorem State.setMge_tmk (x : MgePort) : (s.setMge x).tmk = s.tmk := rfl
@[simp] theorem State.setMge_lanes (x : MgePort) : (s.setMge x).lanes = s.lanes := rfl
@[simp] theorem State.setMge_wke (x : MgePort) : (s.setMge x).wke = s.wke := rfl
@[simp] theorem State.setMge_tst (x : MgePort) : (s.setMge x).tst = s.tst := rfl
@[simp] theorem State.setMge_reg (x : MgePort) (o : Nat) : (s.setMge x).reg o = s.reg o := rfl
@[simp] theorem State.setMge_f (x : MgePort) (G : Fld) : (s.setMge x).f G = s.f G := rfl
@[simp] theorem State.setMge_flag (x : MgePort) (G : Fld) : (s.setMge x).flag G = s.flag G := rfl
@[simp] theorem State.setMge_mode (x : MgePort) : (s.setMge x).mode = s.mode := rfl
@[simp] theorem State.setDie_pending (d : Nat) (x : Millrace) : (s.setDie d x).pending = s.pending := rfl
@[simp] theorem State.setDie_regs (d : Nat) (x : Millrace) : (s.setDie d x).regs = s.regs := rfl
@[simp] theorem State.setDie_paths (d : Nat) (x : Millrace) : (s.setDie d x).paths = s.paths := rfl
@[simp] theorem State.setDie_mbs (d : Nat) (x : Millrace) : (s.setDie d x).mbs = s.mbs := rfl
@[simp] theorem State.setDie_hub (d : Nat) (x : Millrace) : (s.setDie d x).hub = s.hub := rfl
@[simp] theorem State.setDie_free (d : Nat) (x : Millrace) : (s.setDie d x).free = s.free := rfl
@[simp] theorem State.setDie_hbm (d : Nat) (x : Millrace) : (s.setDie d x).hbm = s.hbm := rfl
@[simp] theorem State.setDie_mram (d : Nat) (x : Millrace) : (s.setDie d x).mram = s.mram := rfl
@[simp] theorem State.setDie_boot (d : Nat) (x : Millrace) : (s.setDie d x).boot = s.boot := rfl
@[simp] theorem State.setDie_clusters (d : Nat) (x : Millrace) : (s.setDie d x).clusters = s.clusters := rfl
@[simp] theorem State.setDie_seq (d : Nat) (x : Millrace) : (s.setDie d x).seq = s.seq := rfl
@[simp] theorem State.setDie_net (d : Nat) (x : Millrace) : (s.setDie d x).net = s.net := rfl
@[simp] theorem State.setDie_hbc (d : Nat) (x : Millrace) : (s.setDie d x).hbc = s.hbc := rfl
@[simp] theorem State.setDie_acq (d : Nat) (x : Millrace) : (s.setDie d x).acq = s.acq := rfl
@[simp] theorem State.setDie_fab (d : Nat) (x : Millrace) : (s.setDie d x).fab = s.fab := rfl
@[simp] theorem State.setDie_blt (d : Nat) (x : Millrace) : (s.setDie d x).blt = s.blt := rfl
@[simp] theorem State.setDie_frd (d : Nat) (x : Millrace) : (s.setDie d x).frd = s.frd := rfl
@[simp] theorem State.setDie_cfg (d : Nat) (x : Millrace) : (s.setDie d x).cfg = s.cfg := rfl
@[simp] theorem State.setDie_stepMhz (d : Nat) (x : Millrace) : (s.setDie d x).stepMhz = s.stepMhz := rfl
@[simp] theorem State.setDie_gbk (d : Nat) (x : Millrace) : (s.setDie d x).gbk = s.gbk := rfl
@[simp] theorem State.setDie_rst (d : Nat) (x : Millrace) : (s.setDie d x).rst = s.rst := rfl
@[simp] theorem State.setDie_pwr (d : Nat) (x : Millrace) : (s.setDie d x).pwr = s.pwr := rfl
@[simp] theorem State.setDie_ost (d : Nat) (x : Millrace) : (s.setDie d x).ost = s.ost := rfl
@[simp] theorem State.setDie_mge (d : Nat) (x : Millrace) : (s.setDie d x).mge = s.mge := rfl
@[simp] theorem State.setDie_tmk (d : Nat) (x : Millrace) : (s.setDie d x).tmk = s.tmk := rfl
@[simp] theorem State.setDie_lanes (d : Nat) (x : Millrace) : (s.setDie d x).lanes = s.lanes := rfl
@[simp] theorem State.setDie_wke (d : Nat) (x : Millrace) : (s.setDie d x).wke = s.wke := rfl
@[simp] theorem State.setDie_tst (d : Nat) (x : Millrace) : (s.setDie d x).tst = s.tst := rfl
@[simp] theorem State.setDie_reg (d : Nat) (x : Millrace) (o : Nat) : (s.setDie d x).reg o = s.reg o := rfl
@[simp] theorem State.setDie_f (d : Nat) (x : Millrace) (G : Fld) : (s.setDie d x).f G = s.f G := rfl
@[simp] theorem State.setDie_flag (d : Nat) (x : Millrace) (G : Fld) : (s.setDie d x).flag G = s.flag G := rfl
@[simp] theorem State.setDie_mode (d : Nat) (x : Millrace) : (s.setDie d x).mode = s.mode := rfl
@[simp] theorem State.setNet_pending (x : PacketNet) : (s.setNet x).pending = s.pending := rfl
@[simp] theorem State.setNet_regs (x : PacketNet) : (s.setNet x).regs = s.regs := rfl
@[simp] theorem State.setNet_paths (x : PacketNet) : (s.setNet x).paths = s.paths := rfl
@[simp] theorem State.setNet_mbs (x : PacketNet) : (s.setNet x).mbs = s.mbs := rfl
@[simp] theorem State.setNet_hub (x : PacketNet) : (s.setNet x).hub = s.hub := rfl
@[simp] theorem State.setNet_free (x : PacketNet) : (s.setNet x).free = s.free := rfl
@[simp] theorem State.setNet_hbm (x : PacketNet) : (s.setNet x).hbm = s.hbm := rfl
@[simp] theorem State.setNet_mram (x : PacketNet) : (s.setNet x).mram = s.mram := rfl
@[simp] theorem State.setNet_boot (x : PacketNet) : (s.setNet x).boot = s.boot := rfl
@[simp] theorem State.setNet_clusters (x : PacketNet) : (s.setNet x).clusters = s.clusters := rfl
@[simp] theorem State.setNet_seq (x : PacketNet) : (s.setNet x).seq = s.seq := rfl
@[simp] theorem State.setNet_mlr (x : PacketNet) : (s.setNet x).mlr = s.mlr := rfl
@[simp] theorem State.setNet_net (x : PacketNet) : (s.setNet x).net = x := rfl
@[simp] theorem State.setNet_hbc (x : PacketNet) : (s.setNet x).hbc = s.hbc := rfl
@[simp] theorem State.setNet_acq (x : PacketNet) : (s.setNet x).acq = s.acq := rfl
@[simp] theorem State.setNet_fab (x : PacketNet) : (s.setNet x).fab = s.fab := rfl
@[simp] theorem State.setNet_blt (x : PacketNet) : (s.setNet x).blt = s.blt := rfl
@[simp] theorem State.setNet_frd (x : PacketNet) : (s.setNet x).frd = s.frd := rfl
@[simp] theorem State.setNet_cfg (x : PacketNet) : (s.setNet x).cfg = s.cfg := rfl
@[simp] theorem State.setNet_stepMhz (x : PacketNet) : (s.setNet x).stepMhz = s.stepMhz := rfl
@[simp] theorem State.setNet_gbk (x : PacketNet) : (s.setNet x).gbk = s.gbk := rfl
@[simp] theorem State.setNet_rst (x : PacketNet) : (s.setNet x).rst = s.rst := rfl
@[simp] theorem State.setNet_pwr (x : PacketNet) : (s.setNet x).pwr = s.pwr := rfl
@[simp] theorem State.setNet_ost (x : PacketNet) : (s.setNet x).ost = s.ost := rfl
@[simp] theorem State.setNet_mge (x : PacketNet) : (s.setNet x).mge = s.mge := rfl
@[simp] theorem State.setNet_tmk (x : PacketNet) : (s.setNet x).tmk = s.tmk := rfl
@[simp] theorem State.setNet_lanes (x : PacketNet) : (s.setNet x).lanes = s.lanes := rfl
@[simp] theorem State.setNet_wke (x : PacketNet) : (s.setNet x).wke = s.wke := rfl
@[simp] theorem State.setNet_tst (x : PacketNet) : (s.setNet x).tst = s.tst := rfl
@[simp] theorem State.setNet_reg (x : PacketNet) (o : Nat) : (s.setNet x).reg o = s.reg o := rfl
@[simp] theorem State.setNet_f (x : PacketNet) (G : Fld) : (s.setNet x).f G = s.f G := rfl
@[simp] theorem State.setNet_flag (x : PacketNet) (G : Fld) : (s.setNet x).flag G = s.flag G := rfl
@[simp] theorem State.setNet_mode (x : PacketNet) : (s.setNet x).mode = s.mode := rfl
@[simp] theorem State.setCl_pending (c : Nat) (x : Cluster) : (s.setCl c x).pending = s.pending := rfl
@[simp] theorem State.setCl_regs (c : Nat) (x : Cluster) : (s.setCl c x).regs = s.regs := rfl
@[simp] theorem State.setCl_paths (c : Nat) (x : Cluster) : (s.setCl c x).paths = s.paths := rfl
@[simp] theorem State.setCl_mbs (c : Nat) (x : Cluster) : (s.setCl c x).mbs = s.mbs := rfl
@[simp] theorem State.setCl_hub (c : Nat) (x : Cluster) : (s.setCl c x).hub = s.hub := rfl
@[simp] theorem State.setCl_free (c : Nat) (x : Cluster) : (s.setCl c x).free = s.free := rfl
@[simp] theorem State.setCl_hbm (c : Nat) (x : Cluster) : (s.setCl c x).hbm = s.hbm := rfl
@[simp] theorem State.setCl_mram (c : Nat) (x : Cluster) : (s.setCl c x).mram = s.mram := rfl
@[simp] theorem State.setCl_boot (c : Nat) (x : Cluster) : (s.setCl c x).boot = s.boot := rfl
@[simp] theorem State.setCl_seq (c : Nat) (x : Cluster) : (s.setCl c x).seq = s.seq := rfl
@[simp] theorem State.setCl_mlr (c : Nat) (x : Cluster) : (s.setCl c x).mlr = s.mlr := rfl
@[simp] theorem State.setCl_net (c : Nat) (x : Cluster) : (s.setCl c x).net = s.net := rfl
@[simp] theorem State.setCl_hbc (c : Nat) (x : Cluster) : (s.setCl c x).hbc = s.hbc := rfl
@[simp] theorem State.setCl_acq (c : Nat) (x : Cluster) : (s.setCl c x).acq = s.acq := rfl
@[simp] theorem State.setCl_fab (c : Nat) (x : Cluster) : (s.setCl c x).fab = s.fab := rfl
@[simp] theorem State.setCl_blt (c : Nat) (x : Cluster) : (s.setCl c x).blt = s.blt := rfl
@[simp] theorem State.setCl_frd (c : Nat) (x : Cluster) : (s.setCl c x).frd = s.frd := rfl
@[simp] theorem State.setCl_cfg (c : Nat) (x : Cluster) : (s.setCl c x).cfg = s.cfg := rfl
@[simp] theorem State.setCl_stepMhz (c : Nat) (x : Cluster) : (s.setCl c x).stepMhz = s.stepMhz := rfl
@[simp] theorem State.setCl_gbk (c : Nat) (x : Cluster) : (s.setCl c x).gbk = s.gbk := rfl
@[simp] theorem State.setCl_rst (c : Nat) (x : Cluster) : (s.setCl c x).rst = s.rst := rfl
@[simp] theorem State.setCl_pwr (c : Nat) (x : Cluster) : (s.setCl c x).pwr = s.pwr := rfl
@[simp] theorem State.setCl_ost (c : Nat) (x : Cluster) : (s.setCl c x).ost = s.ost := rfl
@[simp] theorem State.setCl_mge (c : Nat) (x : Cluster) : (s.setCl c x).mge = s.mge := rfl
@[simp] theorem State.setCl_tmk (c : Nat) (x : Cluster) : (s.setCl c x).tmk = s.tmk := rfl
@[simp] theorem State.setCl_lanes (c : Nat) (x : Cluster) : (s.setCl c x).lanes = s.lanes := rfl
@[simp] theorem State.setCl_wke (c : Nat) (x : Cluster) : (s.setCl c x).wke = s.wke := rfl
@[simp] theorem State.setCl_tst (c : Nat) (x : Cluster) : (s.setCl c x).tst = s.tst := rfl
@[simp] theorem State.setCl_reg (c : Nat) (x : Cluster) (o : Nat) : (s.setCl c x).reg o = s.reg o := rfl
@[simp] theorem State.setCl_f (c : Nat) (x : Cluster) (G : Fld) : (s.setCl c x).f G = s.f G := rfl
@[simp] theorem State.setCl_flag (c : Nat) (x : Cluster) (G : Fld) : (s.setCl c x).flag G = s.flag G := rfl
@[simp] theorem State.setCl_mode (c : Nat) (x : Cluster) : (s.setCl c x).mode = s.mode := rfl
@[simp] theorem State.setOst_pending (x : Ostler) : (s.setOst x).pending = s.pending := rfl
@[simp] theorem State.setOst_regs (x : Ostler) : (s.setOst x).regs = s.regs := rfl
@[simp] theorem State.setOst_paths (x : Ostler) : (s.setOst x).paths = s.paths := rfl
@[simp] theorem State.setOst_mbs (x : Ostler) : (s.setOst x).mbs = s.mbs := rfl
@[simp] theorem State.setOst_hub (x : Ostler) : (s.setOst x).hub = s.hub := rfl
@[simp] theorem State.setOst_free (x : Ostler) : (s.setOst x).free = s.free := rfl
@[simp] theorem State.setOst_hbm (x : Ostler) : (s.setOst x).hbm = s.hbm := rfl
@[simp] theorem State.setOst_mram (x : Ostler) : (s.setOst x).mram = s.mram := rfl
@[simp] theorem State.setOst_boot (x : Ostler) : (s.setOst x).boot = s.boot := rfl
@[simp] theorem State.setOst_clusters (x : Ostler) : (s.setOst x).clusters = s.clusters := rfl
@[simp] theorem State.setOst_seq (x : Ostler) : (s.setOst x).seq = s.seq := rfl
@[simp] theorem State.setOst_mlr (x : Ostler) : (s.setOst x).mlr = s.mlr := rfl
@[simp] theorem State.setOst_net (x : Ostler) : (s.setOst x).net = s.net := rfl
@[simp] theorem State.setOst_hbc (x : Ostler) : (s.setOst x).hbc = s.hbc := rfl
@[simp] theorem State.setOst_acq (x : Ostler) : (s.setOst x).acq = s.acq := rfl
@[simp] theorem State.setOst_fab (x : Ostler) : (s.setOst x).fab = s.fab := rfl
@[simp] theorem State.setOst_blt (x : Ostler) : (s.setOst x).blt = s.blt := rfl
@[simp] theorem State.setOst_frd (x : Ostler) : (s.setOst x).frd = s.frd := rfl
@[simp] theorem State.setOst_cfg (x : Ostler) : (s.setOst x).cfg = s.cfg := rfl
@[simp] theorem State.setOst_stepMhz (x : Ostler) : (s.setOst x).stepMhz = s.stepMhz := rfl
@[simp] theorem State.setOst_gbk (x : Ostler) : (s.setOst x).gbk = s.gbk := rfl
@[simp] theorem State.setOst_rst (x : Ostler) : (s.setOst x).rst = s.rst := rfl
@[simp] theorem State.setOst_pwr (x : Ostler) : (s.setOst x).pwr = s.pwr := rfl
@[simp] theorem State.setOst_ost (x : Ostler) : (s.setOst x).ost = x := rfl
@[simp] theorem State.setOst_mge (x : Ostler) : (s.setOst x).mge = s.mge := rfl
@[simp] theorem State.setOst_tmk (x : Ostler) : (s.setOst x).tmk = s.tmk := rfl
@[simp] theorem State.setOst_lanes (x : Ostler) : (s.setOst x).lanes = s.lanes := rfl
@[simp] theorem State.setOst_wke (x : Ostler) : (s.setOst x).wke = s.wke := rfl
@[simp] theorem State.setOst_tst (x : Ostler) : (s.setOst x).tst = s.tst := rfl
@[simp] theorem State.setOst_reg (x : Ostler) (o : Nat) : (s.setOst x).reg o = s.reg o := rfl
@[simp] theorem State.setOst_f (x : Ostler) (G : Fld) : (s.setOst x).f G = s.f G := rfl
@[simp] theorem State.setOst_flag (x : Ostler) (G : Fld) : (s.setOst x).flag G = s.flag G := rfl
@[simp] theorem State.setOst_mode (x : Ostler) : (s.setOst x).mode = s.mode := rfl
@[simp] theorem State.setPwr_pending (x : Power) : (s.setPwr x).pending = s.pending := rfl
@[simp] theorem State.setPwr_regs (x : Power) : (s.setPwr x).regs = s.regs := rfl
@[simp] theorem State.setPwr_paths (x : Power) : (s.setPwr x).paths = s.paths := rfl
@[simp] theorem State.setPwr_mbs (x : Power) : (s.setPwr x).mbs = s.mbs := rfl
@[simp] theorem State.setPwr_hub (x : Power) : (s.setPwr x).hub = s.hub := rfl
@[simp] theorem State.setPwr_free (x : Power) : (s.setPwr x).free = s.free := rfl
@[simp] theorem State.setPwr_hbm (x : Power) : (s.setPwr x).hbm = s.hbm := rfl
@[simp] theorem State.setPwr_mram (x : Power) : (s.setPwr x).mram = s.mram := rfl
@[simp] theorem State.setPwr_boot (x : Power) : (s.setPwr x).boot = s.boot := rfl
@[simp] theorem State.setPwr_clusters (x : Power) : (s.setPwr x).clusters = s.clusters := rfl
@[simp] theorem State.setPwr_seq (x : Power) : (s.setPwr x).seq = s.seq := rfl
@[simp] theorem State.setPwr_mlr (x : Power) : (s.setPwr x).mlr = s.mlr := rfl
@[simp] theorem State.setPwr_net (x : Power) : (s.setPwr x).net = s.net := rfl
@[simp] theorem State.setPwr_hbc (x : Power) : (s.setPwr x).hbc = s.hbc := rfl
@[simp] theorem State.setPwr_acq (x : Power) : (s.setPwr x).acq = s.acq := rfl
@[simp] theorem State.setPwr_fab (x : Power) : (s.setPwr x).fab = s.fab := rfl
@[simp] theorem State.setPwr_blt (x : Power) : (s.setPwr x).blt = s.blt := rfl
@[simp] theorem State.setPwr_frd (x : Power) : (s.setPwr x).frd = s.frd := rfl
@[simp] theorem State.setPwr_cfg (x : Power) : (s.setPwr x).cfg = s.cfg := rfl
@[simp] theorem State.setPwr_stepMhz (x : Power) : (s.setPwr x).stepMhz = s.stepMhz := rfl
@[simp] theorem State.setPwr_gbk (x : Power) : (s.setPwr x).gbk = s.gbk := rfl
@[simp] theorem State.setPwr_rst (x : Power) : (s.setPwr x).rst = s.rst := rfl
@[simp] theorem State.setPwr_pwr (x : Power) : (s.setPwr x).pwr = x := rfl
@[simp] theorem State.setPwr_ost (x : Power) : (s.setPwr x).ost = s.ost := rfl
@[simp] theorem State.setPwr_mge (x : Power) : (s.setPwr x).mge = s.mge := rfl
@[simp] theorem State.setPwr_tmk (x : Power) : (s.setPwr x).tmk = s.tmk := rfl
@[simp] theorem State.setPwr_lanes (x : Power) : (s.setPwr x).lanes = s.lanes := rfl
@[simp] theorem State.setPwr_wke (x : Power) : (s.setPwr x).wke = s.wke := rfl
@[simp] theorem State.setPwr_tst (x : Power) : (s.setPwr x).tst = s.tst := rfl
@[simp] theorem State.setPwr_reg (x : Power) (o : Nat) : (s.setPwr x).reg o = s.reg o := rfl
@[simp] theorem State.setPwr_f (x : Power) (G : Fld) : (s.setPwr x).f G = s.f G := rfl
@[simp] theorem State.setPwr_flag (x : Power) (G : Fld) : (s.setPwr x).flag G = s.flag G := rfl
@[simp] theorem State.setPwr_mode (x : Power) : (s.setPwr x).mode = s.mode := rfl
@[simp] theorem State.setRst_pending (x : ResetUnit) : (s.setRst x).pending = s.pending := rfl
@[simp] theorem State.setRst_regs (x : ResetUnit) : (s.setRst x).regs = s.regs := rfl
@[simp] theorem State.setRst_paths (x : ResetUnit) : (s.setRst x).paths = s.paths := rfl
@[simp] theorem State.setRst_mbs (x : ResetUnit) : (s.setRst x).mbs = s.mbs := rfl
@[simp] theorem State.setRst_hub (x : ResetUnit) : (s.setRst x).hub = s.hub := rfl
@[simp] theorem State.setRst_free (x : ResetUnit) : (s.setRst x).free = s.free := rfl
@[simp] theorem State.setRst_hbm (x : ResetUnit) : (s.setRst x).hbm = s.hbm := rfl
@[simp] theorem State.setRst_mram (x : ResetUnit) : (s.setRst x).mram = s.mram := rfl
@[simp] theorem State.setRst_boot (x : ResetUnit) : (s.setRst x).boot = s.boot := rfl
@[simp] theorem State.setRst_clusters (x : ResetUnit) : (s.setRst x).clusters = s.clusters := rfl
@[simp] theorem State.setRst_seq (x : ResetUnit) : (s.setRst x).seq = s.seq := rfl
@[simp] theorem State.setRst_mlr (x : ResetUnit) : (s.setRst x).mlr = s.mlr := rfl
@[simp] theorem State.setRst_net (x : ResetUnit) : (s.setRst x).net = s.net := rfl
@[simp] theorem State.setRst_hbc (x : ResetUnit) : (s.setRst x).hbc = s.hbc := rfl
@[simp] theorem State.setRst_acq (x : ResetUnit) : (s.setRst x).acq = s.acq := rfl
@[simp] theorem State.setRst_fab (x : ResetUnit) : (s.setRst x).fab = s.fab := rfl
@[simp] theorem State.setRst_blt (x : ResetUnit) : (s.setRst x).blt = s.blt := rfl
@[simp] theorem State.setRst_frd (x : ResetUnit) : (s.setRst x).frd = s.frd := rfl
@[simp] theorem State.setRst_cfg (x : ResetUnit) : (s.setRst x).cfg = s.cfg := rfl
@[simp] theorem State.setRst_stepMhz (x : ResetUnit) : (s.setRst x).stepMhz = s.stepMhz := rfl
@[simp] theorem State.setRst_gbk (x : ResetUnit) : (s.setRst x).gbk = s.gbk := rfl
@[simp] theorem State.setRst_rst (x : ResetUnit) : (s.setRst x).rst = x := rfl
@[simp] theorem State.setRst_pwr (x : ResetUnit) : (s.setRst x).pwr = s.pwr := rfl
@[simp] theorem State.setRst_ost (x : ResetUnit) : (s.setRst x).ost = s.ost := rfl
@[simp] theorem State.setRst_mge (x : ResetUnit) : (s.setRst x).mge = s.mge := rfl
@[simp] theorem State.setRst_tmk (x : ResetUnit) : (s.setRst x).tmk = s.tmk := rfl
@[simp] theorem State.setRst_lanes (x : ResetUnit) : (s.setRst x).lanes = s.lanes := rfl
@[simp] theorem State.setRst_wke (x : ResetUnit) : (s.setRst x).wke = s.wke := rfl
@[simp] theorem State.setRst_tst (x : ResetUnit) : (s.setRst x).tst = s.tst := rfl
@[simp] theorem State.setRst_reg (x : ResetUnit) (o : Nat) : (s.setRst x).reg o = s.reg o := rfl
@[simp] theorem State.setRst_f (x : ResetUnit) (G : Fld) : (s.setRst x).f G = s.f G := rfl
@[simp] theorem State.setRst_flag (x : ResetUnit) (G : Fld) : (s.setRst x).flag G = s.flag G := rfl
@[simp] theorem State.setRst_mode (x : ResetUnit) : (s.setRst x).mode = s.mode := rfl
@[simp] theorem State.setSeq_pending (x : Sequencer) : (s.setSeq x).pending = s.pending := rfl
@[simp] theorem State.setSeq_regs (x : Sequencer) : (s.setSeq x).regs = s.regs := rfl
@[simp] theorem State.setSeq_paths (x : Sequencer) : (s.setSeq x).paths = s.paths := rfl
@[simp] theorem State.setSeq_mbs (x : Sequencer) : (s.setSeq x).mbs = s.mbs := rfl
@[simp] theorem State.setSeq_hub (x : Sequencer) : (s.setSeq x).hub = s.hub := rfl
@[simp] theorem State.setSeq_free (x : Sequencer) : (s.setSeq x).free = s.free := rfl
@[simp] theorem State.setSeq_hbm (x : Sequencer) : (s.setSeq x).hbm = s.hbm := rfl
@[simp] theorem State.setSeq_mram (x : Sequencer) : (s.setSeq x).mram = s.mram := rfl
@[simp] theorem State.setSeq_boot (x : Sequencer) : (s.setSeq x).boot = s.boot := rfl
@[simp] theorem State.setSeq_clusters (x : Sequencer) : (s.setSeq x).clusters = s.clusters := rfl
@[simp] theorem State.setSeq_seq (x : Sequencer) : (s.setSeq x).seq = x := rfl
@[simp] theorem State.setSeq_mlr (x : Sequencer) : (s.setSeq x).mlr = s.mlr := rfl
@[simp] theorem State.setSeq_net (x : Sequencer) : (s.setSeq x).net = s.net := rfl
@[simp] theorem State.setSeq_hbc (x : Sequencer) : (s.setSeq x).hbc = s.hbc := rfl
@[simp] theorem State.setSeq_acq (x : Sequencer) : (s.setSeq x).acq = s.acq := rfl
@[simp] theorem State.setSeq_fab (x : Sequencer) : (s.setSeq x).fab = s.fab := rfl
@[simp] theorem State.setSeq_blt (x : Sequencer) : (s.setSeq x).blt = s.blt := rfl
@[simp] theorem State.setSeq_frd (x : Sequencer) : (s.setSeq x).frd = s.frd := rfl
@[simp] theorem State.setSeq_cfg (x : Sequencer) : (s.setSeq x).cfg = s.cfg := rfl
@[simp] theorem State.setSeq_stepMhz (x : Sequencer) : (s.setSeq x).stepMhz = s.stepMhz := rfl
@[simp] theorem State.setSeq_gbk (x : Sequencer) : (s.setSeq x).gbk = s.gbk := rfl
@[simp] theorem State.setSeq_rst (x : Sequencer) : (s.setSeq x).rst = s.rst := rfl
@[simp] theorem State.setSeq_pwr (x : Sequencer) : (s.setSeq x).pwr = s.pwr := rfl
@[simp] theorem State.setSeq_ost (x : Sequencer) : (s.setSeq x).ost = s.ost := rfl
@[simp] theorem State.setSeq_mge (x : Sequencer) : (s.setSeq x).mge = s.mge := rfl
@[simp] theorem State.setSeq_tmk (x : Sequencer) : (s.setSeq x).tmk = s.tmk := rfl
@[simp] theorem State.setSeq_lanes (x : Sequencer) : (s.setSeq x).lanes = s.lanes := rfl
@[simp] theorem State.setSeq_wke (x : Sequencer) : (s.setSeq x).wke = s.wke := rfl
@[simp] theorem State.setSeq_tst (x : Sequencer) : (s.setSeq x).tst = s.tst := rfl
@[simp] theorem State.setSeq_reg (x : Sequencer) (o : Nat) : (s.setSeq x).reg o = s.reg o := rfl
@[simp] theorem State.setSeq_f (x : Sequencer) (G : Fld) : (s.setSeq x).f G = s.f G := rfl
@[simp] theorem State.setSeq_flag (x : Sequencer) (G : Fld) : (s.setSeq x).flag G = s.flag G := rfl
@[simp] theorem State.setSeq_mode (x : Sequencer) : (s.setSeq x).mode = s.mode := rfl
@[simp] theorem State.setTst_pending (x : TestUnit) : (s.setTst x).pending = s.pending := rfl
@[simp] theorem State.setTst_regs (x : TestUnit) : (s.setTst x).regs = s.regs := rfl
@[simp] theorem State.setTst_paths (x : TestUnit) : (s.setTst x).paths = s.paths := rfl
@[simp] theorem State.setTst_mbs (x : TestUnit) : (s.setTst x).mbs = s.mbs := rfl
@[simp] theorem State.setTst_hub (x : TestUnit) : (s.setTst x).hub = s.hub := rfl
@[simp] theorem State.setTst_free (x : TestUnit) : (s.setTst x).free = s.free := rfl
@[simp] theorem State.setTst_hbm (x : TestUnit) : (s.setTst x).hbm = s.hbm := rfl
@[simp] theorem State.setTst_mram (x : TestUnit) : (s.setTst x).mram = s.mram := rfl
@[simp] theorem State.setTst_boot (x : TestUnit) : (s.setTst x).boot = s.boot := rfl
@[simp] theorem State.setTst_clusters (x : TestUnit) : (s.setTst x).clusters = s.clusters := rfl
@[simp] theorem State.setTst_seq (x : TestUnit) : (s.setTst x).seq = s.seq := rfl
@[simp] theorem State.setTst_mlr (x : TestUnit) : (s.setTst x).mlr = s.mlr := rfl
@[simp] theorem State.setTst_net (x : TestUnit) : (s.setTst x).net = s.net := rfl
@[simp] theorem State.setTst_hbc (x : TestUnit) : (s.setTst x).hbc = s.hbc := rfl
@[simp] theorem State.setTst_acq (x : TestUnit) : (s.setTst x).acq = s.acq := rfl
@[simp] theorem State.setTst_fab (x : TestUnit) : (s.setTst x).fab = s.fab := rfl
@[simp] theorem State.setTst_blt (x : TestUnit) : (s.setTst x).blt = s.blt := rfl
@[simp] theorem State.setTst_frd (x : TestUnit) : (s.setTst x).frd = s.frd := rfl
@[simp] theorem State.setTst_cfg (x : TestUnit) : (s.setTst x).cfg = s.cfg := rfl
@[simp] theorem State.setTst_stepMhz (x : TestUnit) : (s.setTst x).stepMhz = s.stepMhz := rfl
@[simp] theorem State.setTst_gbk (x : TestUnit) : (s.setTst x).gbk = s.gbk := rfl
@[simp] theorem State.setTst_rst (x : TestUnit) : (s.setTst x).rst = s.rst := rfl
@[simp] theorem State.setTst_pwr (x : TestUnit) : (s.setTst x).pwr = s.pwr := rfl
@[simp] theorem State.setTst_ost (x : TestUnit) : (s.setTst x).ost = s.ost := rfl
@[simp] theorem State.setTst_mge (x : TestUnit) : (s.setTst x).mge = s.mge := rfl
@[simp] theorem State.setTst_tmk (x : TestUnit) : (s.setTst x).tmk = s.tmk := rfl
@[simp] theorem State.setTst_lanes (x : TestUnit) : (s.setTst x).lanes = s.lanes := rfl
@[simp] theorem State.setTst_wke (x : TestUnit) : (s.setTst x).wke = s.wke := rfl
@[simp] theorem State.setTst_tst (x : TestUnit) : (s.setTst x).tst = x := rfl
@[simp] theorem State.setTst_reg (x : TestUnit) (o : Nat) : (s.setTst x).reg o = s.reg o := rfl
@[simp] theorem State.setTst_f (x : TestUnit) (G : Fld) : (s.setTst x).f G = s.f G := rfl
@[simp] theorem State.setTst_flag (x : TestUnit) (G : Fld) : (s.setTst x).flag G = s.flag G := rfl
@[simp] theorem State.setTst_mode (x : TestUnit) : (s.setTst x).mode = s.mode := rfl
@[simp] theorem State.setTmk_pending (x : Tidemark) : (s.setTmk x).pending = s.pending := rfl
@[simp] theorem State.setTmk_regs (x : Tidemark) : (s.setTmk x).regs = s.regs := rfl
@[simp] theorem State.setTmk_paths (x : Tidemark) : (s.setTmk x).paths = s.paths := rfl
@[simp] theorem State.setTmk_mbs (x : Tidemark) : (s.setTmk x).mbs = s.mbs := rfl
@[simp] theorem State.setTmk_hub (x : Tidemark) : (s.setTmk x).hub = s.hub := rfl
@[simp] theorem State.setTmk_free (x : Tidemark) : (s.setTmk x).free = s.free := rfl
@[simp] theorem State.setTmk_hbm (x : Tidemark) : (s.setTmk x).hbm = s.hbm := rfl
@[simp] theorem State.setTmk_mram (x : Tidemark) : (s.setTmk x).mram = s.mram := rfl
@[simp] theorem State.setTmk_boot (x : Tidemark) : (s.setTmk x).boot = s.boot := rfl
@[simp] theorem State.setTmk_clusters (x : Tidemark) : (s.setTmk x).clusters = s.clusters := rfl
@[simp] theorem State.setTmk_seq (x : Tidemark) : (s.setTmk x).seq = s.seq := rfl
@[simp] theorem State.setTmk_mlr (x : Tidemark) : (s.setTmk x).mlr = s.mlr := rfl
@[simp] theorem State.setTmk_net (x : Tidemark) : (s.setTmk x).net = s.net := rfl
@[simp] theorem State.setTmk_hbc (x : Tidemark) : (s.setTmk x).hbc = s.hbc := rfl
@[simp] theorem State.setTmk_acq (x : Tidemark) : (s.setTmk x).acq = s.acq := rfl
@[simp] theorem State.setTmk_fab (x : Tidemark) : (s.setTmk x).fab = s.fab := rfl
@[simp] theorem State.setTmk_blt (x : Tidemark) : (s.setTmk x).blt = s.blt := rfl
@[simp] theorem State.setTmk_frd (x : Tidemark) : (s.setTmk x).frd = s.frd := rfl
@[simp] theorem State.setTmk_cfg (x : Tidemark) : (s.setTmk x).cfg = s.cfg := rfl
@[simp] theorem State.setTmk_stepMhz (x : Tidemark) : (s.setTmk x).stepMhz = s.stepMhz := rfl
@[simp] theorem State.setTmk_gbk (x : Tidemark) : (s.setTmk x).gbk = s.gbk := rfl
@[simp] theorem State.setTmk_rst (x : Tidemark) : (s.setTmk x).rst = s.rst := rfl
@[simp] theorem State.setTmk_pwr (x : Tidemark) : (s.setTmk x).pwr = s.pwr := rfl
@[simp] theorem State.setTmk_ost (x : Tidemark) : (s.setTmk x).ost = s.ost := rfl
@[simp] theorem State.setTmk_mge (x : Tidemark) : (s.setTmk x).mge = s.mge := rfl
@[simp] theorem State.setTmk_tmk (x : Tidemark) : (s.setTmk x).tmk = x := rfl
@[simp] theorem State.setTmk_lanes (x : Tidemark) : (s.setTmk x).lanes = s.lanes := rfl
@[simp] theorem State.setTmk_wke (x : Tidemark) : (s.setTmk x).wke = s.wke := rfl
@[simp] theorem State.setTmk_tst (x : Tidemark) : (s.setTmk x).tst = s.tst := rfl
@[simp] theorem State.setTmk_reg (x : Tidemark) (o : Nat) : (s.setTmk x).reg o = s.reg o := rfl
@[simp] theorem State.setTmk_f (x : Tidemark) (G : Fld) : (s.setTmk x).f G = s.f G := rfl
@[simp] theorem State.setTmk_flag (x : Tidemark) (G : Fld) : (s.setTmk x).flag G = s.flag G := rfl
@[simp] theorem State.setTmk_mode (x : Tidemark) : (s.setTmk x).mode = s.mode := rfl
@[simp] theorem State.setWke_pending (x : Wake) : (s.setWke x).pending = s.pending := rfl
@[simp] theorem State.setWke_regs (x : Wake) : (s.setWke x).regs = s.regs := rfl
@[simp] theorem State.setWke_paths (x : Wake) : (s.setWke x).paths = s.paths := rfl
@[simp] theorem State.setWke_mbs (x : Wake) : (s.setWke x).mbs = s.mbs := rfl
@[simp] theorem State.setWke_hub (x : Wake) : (s.setWke x).hub = s.hub := rfl
@[simp] theorem State.setWke_free (x : Wake) : (s.setWke x).free = s.free := rfl
@[simp] theorem State.setWke_hbm (x : Wake) : (s.setWke x).hbm = s.hbm := rfl
@[simp] theorem State.setWke_mram (x : Wake) : (s.setWke x).mram = s.mram := rfl
@[simp] theorem State.setWke_boot (x : Wake) : (s.setWke x).boot = s.boot := rfl
@[simp] theorem State.setWke_clusters (x : Wake) : (s.setWke x).clusters = s.clusters := rfl
@[simp] theorem State.setWke_seq (x : Wake) : (s.setWke x).seq = s.seq := rfl
@[simp] theorem State.setWke_mlr (x : Wake) : (s.setWke x).mlr = s.mlr := rfl
@[simp] theorem State.setWke_net (x : Wake) : (s.setWke x).net = s.net := rfl
@[simp] theorem State.setWke_hbc (x : Wake) : (s.setWke x).hbc = s.hbc := rfl
@[simp] theorem State.setWke_acq (x : Wake) : (s.setWke x).acq = s.acq := rfl
@[simp] theorem State.setWke_fab (x : Wake) : (s.setWke x).fab = s.fab := rfl
@[simp] theorem State.setWke_blt (x : Wake) : (s.setWke x).blt = s.blt := rfl
@[simp] theorem State.setWke_frd (x : Wake) : (s.setWke x).frd = s.frd := rfl
@[simp] theorem State.setWke_cfg (x : Wake) : (s.setWke x).cfg = s.cfg := rfl
@[simp] theorem State.setWke_stepMhz (x : Wake) : (s.setWke x).stepMhz = s.stepMhz := rfl
@[simp] theorem State.setWke_gbk (x : Wake) : (s.setWke x).gbk = s.gbk := rfl
@[simp] theorem State.setWke_rst (x : Wake) : (s.setWke x).rst = s.rst := rfl
@[simp] theorem State.setWke_pwr (x : Wake) : (s.setWke x).pwr = s.pwr := rfl
@[simp] theorem State.setWke_ost (x : Wake) : (s.setWke x).ost = s.ost := rfl
@[simp] theorem State.setWke_mge (x : Wake) : (s.setWke x).mge = s.mge := rfl
@[simp] theorem State.setWke_tmk (x : Wake) : (s.setWke x).tmk = s.tmk := rfl
@[simp] theorem State.setWke_lanes (x : Wake) : (s.setWke x).lanes = s.lanes := rfl
@[simp] theorem State.setWke_wke (x : Wake) : (s.setWke x).wke = x := rfl
@[simp] theorem State.setWke_tst (x : Wake) : (s.setWke x).tst = s.tst := rfl
@[simp] theorem State.setWke_reg (x : Wake) (o : Nat) : (s.setWke x).reg o = s.reg o := rfl
@[simp] theorem State.setWke_f (x : Wake) (G : Fld) : (s.setWke x).f G = s.f G := rfl
@[simp] theorem State.setWke_flag (x : Wake) (G : Fld) : (s.setWke x).flag G = s.flag G := rfl
@[simp] theorem State.setWke_mode (x : Wake) : (s.setWke x).mode = s.mode := rfl

end Sys2Proof.Machine
end

