-- ==== Sys2Proof/Laws/Registers.lean ====
section
/-! SUPPORT. The laws of the register file: what a register, a field or a 64-bit pair reads after another has been
written, and the frames of such writes. -/

namespace Sys2Proof.Machine

variable (s : State)

@[simp] theorem State.reg_setReg_same (off : Nat) (v : Word) : (s.setReg off v).reg off = v := by
  simp [State.reg, State.setReg]

theorem State.reg_setReg_ne {a b : Nat} (v : Word) (h : b ≠ a) : (s.setReg a v).reg b = s.reg b :=
  Sparse.get_put_other_default _ _ _ _ h

/-- A register reads what was last written there. -/
theorem State.reg_setReg (a b : Nat) (v : Word) : (s.setReg a v).reg b = if b = a then v else s.reg b := by
  split
  · next h => subst h; simp
  · next h => exact s.reg_setReg_ne v h

@[simp] theorem State.reg_setNat_same (off n : Nat) : (s.setNat off n).reg off = BitVec.ofNat 32 n := by
  simp [State.setNat]

theorem State.reg_setNat_ne {a b : Nat} (n : Nat) (h : b ≠ a) : (s.setNat a n).reg b = s.reg b :=
  s.reg_setReg_ne _ h

theorem State.reg_setF_ne {F : Fld} {b : Nat} (n : Nat) (h : b ≠ F.off) : (s.setF F n).reg b = s.reg b :=
  s.reg_setNat_ne _ h

theorem State.reg_bump_ne {F : Fld} {b : Nat} (n : Nat) (h : b ≠ F.off) : (s.bump F n).reg b = s.reg b :=
  s.reg_setF_ne _ h

/-- The word of a register after one of its fields has been set. -/
theorem State.toNat_reg_setF (F : Fld) (n : Nat) (hw : F.lo + F.w ≤ 32) :
    ((s.setF F n).reg F.off).toNat = splice (s.reg F.off).toNat F.lo F.w n := by
  have h := splice_lt (s.reg F.off).toNat F.lo F.w n (s.reg F.off).isLt hw
  simp only [State.setF, State.reg_setNat_same, BitVec.toNat_ofNat]
  exact Nat.mod_eq_of_lt h

/-- A field reads the value it was set to. -/
theorem State.f_setF_same (F : Fld) (n : Nat) (hw : F.lo + F.w ≤ 32) : (s.setF F n).f F = n % 2 ^ F.w := by
  rw [State.f, s.toNat_reg_setF F n hw, slice_splice_same]

/-- A field of another register reads as before. -/
theorem State.f_setF_off {F G : Fld} (n : Nat) (h : G.off ≠ F.off) : (s.setF F n).f G = s.f G := by
  rw [State.f, s.reg_setF_ne n h, State.f]

/-- A field of the same register that lies apart reads as before. -/
theorem State.f_setF_apart {F G : Fld} (n : Nat) (ho : G.off = F.off) (hw : F.lo + F.w ≤ 32)
    (h : G.lo + G.w ≤ F.lo ∨ F.lo + F.w ≤ G.lo) : (s.setF F n).f G = s.f G := by
  rw [State.f, ho, s.toNat_reg_setF F n hw, slice_splice_apart _ _ _ _ _ _ h, State.f, ho]

/-- A field reads as before when another is set: they lie in different registers or apart. -/
theorem State.f_setF_ne {F G : Fld} (n : Nat) (hw : F.lo + F.w ≤ 32)
    (h : G.off ≠ F.off ∨ G.lo + G.w ≤ F.lo ∨ F.lo + F.w ≤ G.lo) : (s.setF F n).f G = s.f G := by
  by_cases ho : G.off = F.off
  · exact s.f_setF_apart n ho hw (h.resolve_left (by simpa using ho))
  · exact s.f_setF_off n ho

theorem State.f_setReg_ne {a : Nat} {G : Fld} (v : Word) (h : G.off ≠ a) : (s.setReg a v).f G = s.f G := by
  rw [State.f, s.reg_setReg_ne v h, State.f]

theorem State.f_setNat_ne {a : Nat} {G : Fld} (n : Nat) (h : G.off ≠ a) : (s.setNat a n).f G = s.f G :=
  s.f_setReg_ne _ h

/-- A field of a register that was written whole. -/
theorem State.f_setReg_same {a : Nat} {G : Fld} (v : Word) (h : G.off = a) :
    (s.setReg a v).f G = slice v.toNat G.lo G.w := by
  rw [State.f, h, State.reg_setReg_same]

theorem State.flag_iff (F : Fld) : s.flag F = true ↔ s.f F ≠ 0 := by simp [State.flag]

theorem State.f_lt (F : Fld) : s.f F < 2 ^ F.w := slice_lt _ _ _

/-- A read of a range that was returned to reset. -/
theorem State.reg_resetRange (lo len b : Nat) :
    (s.resetRange lo len).reg b = if lo ≤ b ∧ b < lo + len then resetOf b else s.reg b := by
  have h1 : (Nat.ble lo b && Nat.blt b (lo + len)) = true ↔ lo ≤ b ∧ b < lo + len := by
    rw [Bool.and_eq_true, Nat.ble_eq, Nat.blt_eq]
  simp only [State.reg, State.resetRange, Sparse.get_keep]
  by_cases h : lo ≤ b ∧ b < lo + len
  · simp [h, h1.mpr h]
  · have h2 : (Nat.ble lo b && Nat.blt b (lo + len)) = false := by
      rw [← Bool.not_eq_true]; exact fun hc => h (h1.mp hc)
    simp [h, h2]

/-! ### Frames -/

theorem OnlyRegs.rfl' {l : List Nat} {s : State} : OnlyRegs l s s := fun _ _ => rfl

theorem OnlyRegs.trans {l : List Nat} {s t u : State} (h : OnlyRegs l s t) (k : OnlyRegs l t u) : OnlyRegs l s u :=
  fun o ho => (k o ho).trans (h o ho)

theorem OnlyRegs.mono {l l' : List Nat} {s t : State} (h : OnlyRegs l s t) (hs : l ⊆ l') : OnlyRegs l' s t :=
  fun o ho => h o fun hm => ho (hs hm)

theorem onlyRegs_setReg (off : Nat) (v : Word) : OnlyRegs [off] s (s.setReg off v) :=
  fun o ho => s.reg_setReg_ne v (by simpa using ho)

theorem onlyRegs_setF (F : Fld) (n : Nat) : OnlyRegs [F.off] s (s.setF F n) :=
  fun o ho => s.reg_setF_ne n (by simpa using ho)

theorem SameMemory.rfl' {s : State} : SameMemory s s := ⟨fun _ => rfl, fun _ => rfl, fun _ => rfl⟩

theorem SameMemory.trans {s t u : State} (h : SameMemory s t) (k : SameMemory t u) : SameMemory s u :=
  ⟨fun a => (k.1 a).trans (h.1 a), fun a => (k.2.1 a).trans (h.2.1 a), fun a => (k.2.2 a).trans (h.2.2 a)⟩

/-- Equal memories read alike. -/
theorem sameMemory_of_eq {s t : State} (h : t.hbm = s.hbm) (m : t.mram = s.mram) (b : t.boot = s.boot) :
    SameMemory s t :=
  ⟨fun _ => by simp [State.hbmByte, h], fun _ => by simp [State.mramByte, m], fun _ => by simp [State.bootByte, b]⟩

theorem Frame.rfl' {l : List Nat} {s : State} : Frame l s s := ⟨.rfl', .rfl'⟩

theorem Frame.trans {l : List Nat} {s t u : State} (h : Frame l s t) (k : Frame l t u) : Frame l s u :=
  ⟨h.1.trans k.1, h.2.trans k.2⟩

theorem Frame.mono {l l' : List Nat} {s t : State} (h : Frame l s t) (hs : l ⊆ l') : Frame l' s t := ⟨h.1.mono hs, h.2⟩

theorem frame_setReg (off : Nat) (v : Word) : Frame [off] s (s.setReg off v) :=
  ⟨onlyRegs_setReg s off v, sameMemory_of_eq rfl rfl rfl⟩

theorem frame_setF (F : Fld) (n : Nat) : Frame [F.off] s (s.setF F n) :=
  ⟨onlyRegs_setF s F n, sameMemory_of_eq rfl rfl rfl⟩

/-! ### The canonical form -/

theorem wf_regs_setReg (off : Nat) (v : Word) (h : Sparse.wf resetOf s.regs = true) :
    Sparse.wf resetOf (s.setReg off v).regs = true :=
  Sparse.wf_put off v h

theorem wf_regs_resetRange (lo len : Nat) (h : Sparse.wf resetOf s.regs = true) :
    Sparse.wf resetOf (s.resetRange lo len).regs = true := by
  exact Sparse.wf_keep (fun k => !(Nat.ble lo k && Nat.blt k (lo + len))) h

/-! ### Memories -/

/-- Bytes written to a memory keep its canonical form. -/
theorem Memory.wf_writeBytes {m : List Host.Cell} (a : Nat) (bs : List Byte) (h : Memory.wf m = true) :
    Memory.wf (writeBytes m a bs) = true :=
  Sparse.wf_putList a bs h

theorem Memory.wf_put {m : List Host.Cell} (a : Nat) (b : Byte) (h : Memory.wf m = true) :
    Memory.wf (Sparse.put 0 m a b) = true :=
  Sparse.wf_put (d := fun _ => 0) a b h

theorem Memory.wf_keep {m : List Host.Cell} (p : Nat → Bool) (h : Memory.wf m = true) :
    Memory.wf (Sparse.keep p m) = true :=
  Sparse.wf_keep p h

/-- Bytes written to the carve-out keep the canonical form of the stacks. -/
theorem Memory.wf_carveWrite (a : Nat) (bs : List Byte) (s : State) (h : Memory.wf s.hbm = true) :
    Memory.wf (s.carveWrite a bs).hbm = true := by
  induction bs generalizing a s with
  | nil => exact h
  | cons b bs ih => exact ih (a + 1) _ (Memory.wf_put _ b h)

/-- A byte of a memory after bytes have been written to it. -/
theorem get_writeBytes_outside (m : List Host.Cell) (a : Nat) (bs : List Byte) (k : Nat) (h : k < a ∨ a + bs.length ≤ k) :
    Sparse.get 0 (writeBytes m a bs) k = Sparse.get 0 m k :=
  Sparse.get_putList_of_not_mem 0 m bs a k h

/-- The memories are in canonical form at reset: nothing is listed. -/
theorem Memory.wf_reset :
    Memory.wf State.reset.hbm = true ∧ Memory.wf State.reset.mram = true ∧ Memory.wf State.reset.boot = true :=
  ⟨rfl, rfl, rfl⟩

end Sys2Proof.Machine
end

