-- ==== Sys2Proof/Laws/Ops.lean ====
section
/-! SUPPORT. The laws of the shared operations: what an event, a counted occurrence, an error flag, an access and a mailbox
command can do. -/

namespace Sys2Proof.Machine

/-- All that an Ostler event (R691) and a counted occurrence (R736 to R746) can change: the notice registers, the
Guestbook and the event commands that wait. -/
structure Noticed (s t : State) : Prop where
  /-- Only the registers, the Guestbook and the waiting events differ. -/
  rest : t = { s with regs := t.regs, gbk := t.gbk, ost := { s.ost with events := t.ost.events } }
  /-- Only the notice registers differ. -/
  regs : OnlyRegs noticeRegs s t
  /-- The register file stays canonical. -/
  wf : Sparse.wf resetOf s.regs = true → Sparse.wf resetOf t.regs = true

variable {s t u : State}

theorem Noticed.refl (s : State) : Noticed s s := ⟨rfl, .rfl', id⟩

theorem Noticed.trans (h : Noticed s t) (k : Noticed t u) : Noticed s u :=
  ⟨by rw [k.rest, h.rest], h.regs.trans k.regs, fun w => k.wf (h.wf w)⟩

theorem Noticed.sameMemory (h : Noticed s t) : SameMemory s t := by
  rw [h.rest]; exact sameMemory_of_eq rfl rfl rfl

theorem Noticed.frame (h : Noticed s t) : Frame noticeRegs s t := ⟨h.regs, h.sameMemory⟩

theorem Noticed.pending (h : Noticed s t) : t.pending = s.pending := by rw [h.rest]

theorem Noticed.clusters (h : Noticed s t) : t.clusters = s.clusters := by rw [h.rest]

theorem Noticed.mbs (h : Noticed s t) : t.mbs = s.mbs := by rw [h.rest]

theorem Noticed.paths (h : Noticed s t) : t.paths = s.paths := by rw [h.rest]

/-- A write of a notice register. -/
theorem noticed_setReg (off : Nat) (v : Word) (h : off ∈ noticeRegs) : Noticed s (s.setReg off v) :=
  ⟨rfl, (onlyRegs_setReg s off v).mono (by simpa using h), wf_regs_setReg s off v⟩

theorem noticed_setF (F : Fld) (n : Nat) (h : F.off ∈ noticeRegs) : Noticed s (s.setF F n) := noticed_setReg _ _ h

theorem noticed_gbk (g : Guestbook) : Noticed s { s with gbk := g } := ⟨rfl, fun _ _ => rfl, id⟩

theorem noticed_events (e : Sparse (Option Nat)) : Noticed s { s with ost := { s.ost with events := e } } :=
  ⟨rfl, fun _ _ => rfl, id⟩

/-- An event changes its pending register and the waiting events alone (R691). -/
theorem noticed_fire (e : Nat) (h : e < 32) : Noticed s (s.fire e) := by
  have h0 : e / 32 = 0 := by omega
  have h1 : Noticed s (s.setNat (Reg.OST_EVT_PEND 0) (putBit (s.reg (Reg.OST_EVT_PEND 0)).toNat (e % 32) true)) :=
    noticed_setReg _ _ (by simp [noticeRegs])
  unfold State.fire
  rw [h0]
  split
  · dsimp only
    split
    · exact h1.trans (noticed_events _)
    · exact h1
  · exact .refl s

/-- A full queue loses a record in the notice registers alone (R746). -/
theorem noticed_dropRecord : Noticed s s.dropRecord :=
  (noticed_setF Reg.GBK_DROP_REC _ (by decide)).trans (noticed_setF Reg.GBK_ERR_DROP_REC _ (by decide))

theorem noticed_enqueueRecord (r : Record) : Noticed s (s.enqueueRecord r) := by
  unfold State.enqueueRecord
  dsimp only
  split
  · exact noticed_gbk _
  · split
    · exact noticed_gbk _
    · exact noticed_dropRecord

theorem noticed_closeAggregator (src : Nat) (early : Bool) : Noticed s (s.closeAggregator src early) := by
  unfold State.closeAggregator
  split
  · exact .refl s
  · exact (noticed_gbk _).trans (noticed_enqueueRecord _)

theorem noticed_countFatal (src inst value : Nat) : Noticed s (s.countFatal src inst value) := by
  unfold State.countFatal
  dsimp only
  split
  · exact (noticed_gbk _).trans (noticed_fire 27 (by decide))
  · exact (noticed_enqueueRecord _).trans (noticed_fire 27 (by decide))

/-- A counted occurrence changes the notice registers, the Guestbook and the waiting events alone (R740 to R746). -/
theorem noticed_count (src inst value : Nat) : Noticed s (s.count src inst value) := by
  unfold State.count
  split
  · exact .refl s
  split
  · exact noticed_countFatal _ _ _
  split
  · exact .refl s
  extract_lets s1
  have h1 : Noticed s s1 := by
    unfold s1
    split
    · split
      · exact noticed_closeAggregator _ _
      · exact .refl s
    · exact .refl s
  clear_value s1
  refine h1.trans ?_
  split
  · exact noticed_gbk _
  split
  · exact noticed_gbk _
  split
  · exact .refl _
  split
  · exact (noticed_closeAggregator _ _).trans (noticed_gbk _)
  · exact (noticed_setF Reg.GBK_DROP_OCC _ (by decide)).trans (noticed_setF Reg.GBK_ERR_DROP_OCC _ (by decide))

/-- A sticky error bit that is set stays, and nothing is counted (R736). -/
theorem State.raise_set (F : Fld) (b r i v : Nat) (h : s.flag F = true) : s.raise F b r i v = s := by
  unfold State.raise; rw [if_pos h]

/-- An error flag changes its register and what a counted occurrence changes. -/
theorem frame_raise (F : Fld) (b r i v : Nat) : Frame (F.off :: noticeRegs) s (s.raise F b r i v) := by
  unfold State.raise
  split
  · exact .rfl'
  · exact ((frame_setF s F 1).mono (by simp)).trans ((noticed_count _ _ _).frame.mono (by simp))

/-- An error flag leaves the queue, the paths and the clusters. -/
theorem raise_rest (F : Fld) (b r i v : Nat) :
    (s.raise F b r i v).pending = s.pending ∧ (s.raise F b r i v).paths = s.paths ∧
      (s.raise F b r i v).clusters = s.clusters ∧ (s.raise F b r i v).mbs = s.mbs := by
  unfold State.raise
  split
  · exact ⟨rfl, rfl, rfl, rfl⟩
  · have h := noticed_count (s := s.setF F 1) (srcOf b r F.lo) i v
    exact ⟨h.pending, h.paths, h.clusters, h.mbs⟩

/-! ### Accesses -/

/-- A write of a register that is reached acts. -/
@[simp] theorem State.onWrite_reached {p : Path} {off : Nat} {act : State → State} (h : Reached s off) :
    s.onWrite p off act = act s := by
  unfold State.onWrite; rw [show s.access off = .reached from h]

/-- A read of a register that is reached answers. -/
@[simp] theorem State.onRead_reached {p : Path} {off : Nat} {act : State → State} (h : Reached s off) :
    s.onRead p off act = act s := by
  unfold State.onRead; rw [show s.access off = .reached from h]

/-- A path reads what was last stored in it, and the other paths are unchanged. -/
theorem State.path_setPath (p q : Path) (x : PathState) : (s.setPath p x).path q = if q = p then x else s.path q := by
  unfold State.path State.setPath
  rw [Sparse.get_put]
  simp [Fin.ext_iff]

/-- The answer of a read. -/
@[simp] theorem State.answer_answer (p : Path) (v : Word) : ((s.answer p v).path p).answer = v := by
  unfold State.answer; rw [State.path_setPath]; simp

/-- A word written by access codes (R11): the register alone changes. -/
theorem frame_writeBits (off : Nat) (v : Word) : Frame [off] s (s.writeBits off v) := by
  unfold State.writeBits
  split
  · exact .rfl'
  · exact frame_setReg _ _ _

/-! ### Mailboxes -/

/-- A command for a unit that is busy sets CMD_REJECT alone (R23). -/
theorem State.mbCommand_busy {n cmd : Nat} {act : State → State} (h : s.f (mbBusy n) = 1) :
    s.mbCommand n cmd act = s.setF (mbCmdReject n) 1 := by
  unfold State.mbCommand State.mbBusyNow State.flag; simp [h]

/-- Registers of a list written one after the other. -/
theorem onlyRegs_foldl (l : List (Nat × Word)) (os : List Nat) (h : ∀ x ∈ l, x.1 ∈ os) :
    OnlyRegs os s (l.foldl (fun s x => s.setReg x.1 x.2) s) := by
  induction l generalizing s with
  | nil => exact .rfl'
  | cons x xs ih =>
    exact ((onlyRegs_setReg s x.1 x.2).mono (by simpa using h x (by simp))).trans (ih fun y hy => h y (by simp [hy]))

/-- The events of completions are among the first 32. -/
theorem mbEvent_lt {n e : Nat} (h : mbEvent n = some e) : e < 32 := by
  unfold mbEvent at h
  repeat' split at h
  all_goals first | (cases h; decide) | cases h

/-- A completion writes the unit's RESULT and ERR (R24). -/
theorem onlyRegs_mbComplete (n : Nat) : OnlyRegs (mbStatus n :: mbResults n) s (s.mbComplete n) := by
  unfold State.mbComplete
  extract_lets m s1 s2
  have h1 : OnlyRegs (mbStatus n :: mbResults n) s s1 :=
    onlyRegs_foldl _ _ fun x hx => List.mem_cons_of_mem _ (List.of_mem_zip hx).1
  exact h1.trans ((onlyRegs_setF s1 (mbErr n) m.err).mono fun o ho => by
    rw [List.mem_singleton.mp ho]; exact List.mem_cons_self)

/-- The later hub cycle of a completion writes the unit's STATUS and fires its event (R24). -/
theorem onlyRegs_mbEnd (n : Nat) : OnlyRegs (mbStatus n :: noticeRegs) s (s.mbEnd n) := by
  unfold State.mbEnd
  extract_lets s1 s2
  have h1 (F : Fld) (k : Nat) (v : State) (e : F.off = mbStatus n) : OnlyRegs (mbStatus n :: noticeRegs) v (v.setF F k) :=
    (onlyRegs_setF v F k).mono fun o ho => by rw [List.mem_singleton.mp ho, e]; exact List.mem_cons_self
  have h2 : OnlyRegs (mbStatus n :: noticeRegs) s s2 := (h1 (mbDone n) 1 s rfl).trans (h1 (mbBusy n) 0 _ rfl)
  split
  · exact h2
  · rename_i e he
    exact h2.trans ((noticed_fire e (mbEvent_lt he)).regs.mono fun o ho => List.mem_cons_of_mem _ ho)

end Sys2Proof.Machine
end

