-- ==== Sys2Proof/Tests/Slice0.lean ====
section
/-! SUPPORT. The model's own tests: the spec's worked examples, an ill-formed command for each check of Instr.wf, and for
every obligation a state and operands that meet the hypotheses of each of its clauses (test_meets_<obligation>). -/

namespace Sys2Proof.Tests

-- One theorem at a time: each waits for the kernel.
set_option Elab.async false

open Sys2Proof Sys2Proof.Machine Sys2Proof.Machine.Reg

/-- The device after reset with some registers at other values. -/
def withRegs (rs : List (Nat × Nat)) : State := rs.foldl (fun s r => s.setNat r.1 r.2) State.reset

/-! ### The spec's worked examples -/

/-- The outcome of an instruction on a state: what a function of the state is afterwards. -/
def after {α : Type} (c : Instr) (s : State) (f : State → α) : Option α :=
  match exec c s with
  | .next t => some (f t)
  | _ => none

/-- 21_register_index, worked example: four addresses. -/
theorem test_four_addresses :
    SHR_LSTAT 37 = 0x1091408 ∧ MLR_STOP_COLL (stopBase 1 5 8) = 0x3415208 ∧ CLU_STALL 300 = 0x84B0018 ∧
      OST_CORE_TAKE 2 = 0x401210 := by
  and_intros <;> decide +kernel

/-- 00_scope, the example under R17: _LO of A, then _LO of B, then _HI of A, which is live. -/
theorem test_latch_of_another_value :
    (after (.readLoHalf 0 (BitVec.ofNat 28 OST_TICK)) (withRegs [(BLT_ADDR + 4, 7)]) fun t =>
      after (.readLoHalf 0 (BitVec.ofNat 28 BLT_ADDR)) t fun t =>
        ((t.path 0).latchTag, (t.path 0).latchHi)) = some (some (some BLT_ADDR, 7)) := by
  decide +kernel

/-- 02_step_machine, worked example: a 2:1 multiplexer under X, TT 0xCACA (X is 3 and Z is 2). -/
theorem test_mux_under_x :
    eval4 0xCACA [1, 1, 3, 0] = 1 ∧ eval4 0xCACA [0, 1, 3, 0] = 3 ∧ eval4 0xCACA [2, 0, 0, 0] = 3 ∧
      eval4 0xCACA [2, 0, 1, 0] = 0 ∧ eval2 0xCACA [0, 1, 0, 0] = 0 := by
  and_intros <;> decide +kernel

/-- R121, R122. Data bit 89 lies at codeword position 97 and data bit 63 at position 71. -/
theorem test_codeword_positions : secPositional 7 (2 ^ 89) = 97 ∧ secPositional 7 (2 ^ 63) = 71 := by
  and_intros <;> decide +kernel

/-- 06_design_memory, worked example: block 35 of memory 5 (BASE_PC 8, NPC_LOG2 3, BLOCK_BASE 0x1000). -/
theorem test_place_of_a_block :
    placeBlock (8 + 3 * 32 + 0x1000 * 256) 35 = (11, 0x1004) ∧ blockKey 0 11 0x1004 = 0x8022C0 ∧ blockTag 35 5 = 0x26 := by
  and_intros <;> decide +kernel

/-- 08_billet_loading, worked example: two failures in one ring (die 1, ring 5: stop 7 by fuse, stop 30 in BLT_FAILMAP). -/
def twoFailures : State :=
  { withRegs [(BLT_FAILMAP (472 / 32), 2 ^ (472 % 32))] with cfg := { CfgUnit.reset with failed := [449] } }

theorem test_map_around_two_failures :
    movedStop 7 1 = 0 ∧ movedStop 7 7 = 6 ∧ movedStop 7 8 = 8 ∧ movedStop 30 29 = 29 ∧ movedStop 30 30 = 31 ∧
      movedStop 30 32 = 33 ∧ (twoFailures.mapHome 416).toOption = some 442 ∧
      (twoFailures.mapHome 422).toOption = some 448 ∧ (twoFailures.mapHome 423).toOption = some 450 ∧ (twoFailures.mapHome 444).toOption = some 471 ∧
      (twoFailures.mapHome 445).toOption = some 473 ∧ (twoFailures.mapHome 447).toOption = some 475 := by
  and_intros <;> decide +kernel

/-- 08_billet_loading, worked example: from position 6 to 12 clockwise is 6 hops, from 5 to 12 it is 7. -/
theorem test_hops : hops 6 12 0 = 6 ∧ hops 5 12 0 = 7 := by decide +kernel

/-- 10_tidemark_time, worked example: one exchange on lane 5, in units of 2^-18 ns. -/
theorem test_exchange :
    exchangeTheta (500000000 * 262144) (500000017 * 262144 + 65536) (500000057 * 262144 + 131072)
      (500000100 * 262144 + 65536) (-65536) = 3276800 := by
  decide +kernel

/-- 10_tidemark_time, worked example: θ = 12.5 ns gives the integral 800 and TMK_ADJ −7,200. -/
theorem test_servo : (State.reset.servo 3276800).tmk.integ = 800 ∧ (State.reset.servo 3276800).adj = -7200 := by
  and_intros <;> decide +kernel

/-- 15_innkeeper_ostler, worked example: event 5 is bound to task 40 (priority 6, mask 0x000C); core 2 is INTERRUPT-style
and runs task 100 of priority 2, core 3 runs task 101 of priority 4. -/
def twoCores : State :=
  { withRegs [(OST_CORE_CTRL 2, 8), (OST_CORE_CTRL 3, 8), (OST_CORE_STAT 2, 1 + 4 * 100 + 65536),
      (OST_CORE_STAT 3, 1 + 4 * 101 + 65536)] with
    ost := { Ostler.reset with
      events := [(5, some 40)]
      tasks := [(40, { Task.reset with mask := 12, pri := 6 }), (100, { Task.reset with pri := 2, state := 4, core := 2 }),
        (101, { Task.reset with pri := 4, state := 4, core := 3 })] } }

theorem test_event_enters_ready :
    after .eventCommand twoCores (fun t => ((t.task 40).state, t.readyList 6)) = some (1, [40]) := by
  decide +kernel

theorem test_place_beside_a_running_task :
    after .eventCommand twoCores (fun t => after .taskPlace t fun t => (t.slot 2, t.slot 3, t.f (OST_CORE_STAT_IRQ 2))) =
      some (some (some 40, none, 1)) := by
  decide +kernel

/-- 19_power_thermal, worked example: one ring warms up, in quarter degrees. -/
theorem test_slowdown_levels :
    [401, 404, 402, 396, 387, 386].foldl (fun (l : List Nat) t => l ++ [nextLevel (l.getLast?.getD 0) t 1000 400 12]) [0] =
      [0, 1, 2, 3, 3, 2, 1] := by
  decide +kernel

/-- 17_guestbook, worked example: the record is written at slot 5,002, for slots 5,000 and 5,001 hold ERROR records. -/
def errorRecord : Record := ⟨0x6E0, 2, 2, 12, 400000000, 3000, 0, [1200, 1800], 412, 8, 1000, 0⟩

def refreshLog : State :=
  { withRegs [(GBK_STAT, 5000)] with
    mram := writeBytes [] (slotAddr 5000) (recordBytes errorRecord 1 ++ recordBytes errorRecord 2) }

theorem test_record_goes_beyond_errors :
    (refreshLog.writeRecord { errorRecord with sev := 1 }).f GBK_STAT_HEAD = 5003 ∧
      ofBytesLE (((refreshLog.writeRecord { errorRecord with sev := 1 }).logSlot 5002).take 6 |>.drop 4) = 0x16E0 := by
  and_intros <;> decide +kernel

/-- The source of a refresh overrun on a die: 13 × 128 + 3 × 32 + 0. -/
theorem test_source : srcOf 13 3 0 = 0x6E0 ∧ isSource 0x6E0 = true ∧ defaultSev 0x6E0 = 1 := by
  and_intros <;> decide +kernel

/-! ### The machine statements and the well-formed commands -/

theorem test_meets_StepsKeepTheCanonicalForm :
    State.reset.canonical = true ∧ SafeStep { State.reset with pending := [.wakeN true] } := by
  refine ⟨by decide +kernel, ?_⟩
  exact ⟨_, rfl⟩

/-- The opcode table gives no row a word (log entry 1). -/
theorem test_no_word_spells_a_command : decodeTableWord 32 0 = none ∧ State.reset.withFetchWord 32 0 = State.reset :=
  ⟨rfl, rfl⟩

/-- An offset within the window. -/
def at28 (off : Nat) : WinOff := BitVec.ofNat 28 off

/-- Ill-formed: an offset that names no half, no register of the row, no block, or is not aligned. -/
theorem test_refused_offsets :
    (Instr.readLoHalf 0 (at28 DEV_MODE)).wf = false ∧
    (Instr.readHiHalf 0 (at28 OST_TICK)).wf = false ∧
    (Instr.writeLoHalf 0 (at28 (BLT_ADDR + 4)) 0).wf = false ∧
    (Instr.writeHiHalf 0 (at28 BLT_ADDR) 0).wf = false ∧
    (Instr.offBlockAccess 0 (at28 2) none).wf = false ∧
    (Instr.offBlockAccess 0 (at28 0xFFFFFFC) none).wf = false ∧
    (Instr.unmappedWindowAccess 0 (at28 DEV_MODE) none).wf = false ∧
    (Instr.unmappedWindowAccess 0 (at28 0xFFFFFFD) none).wf = false ∧
    (Instr.resultRead 0 (at28 DEV_MODE)).wf = false ∧
    (Instr.timedScheduleWrite 0 (at28 SEQ_CFG) 0).wf = false ∧
    (Instr.acqConfigWrite 0 (at28 ACQ_ERR) 0).wf = false ∧
    (Instr.tapTableWrite 0 (at28 ACQ_ERR) 0).wf = false ∧
    (Instr.registerAccessTimeout 0 (at28 2) none).wf = false ∧
    (Instr.loopbackEnableWrite 0 (at28 DEV_MODE) 0).wf = false := by
  and_intros <;> decide +kernel

/-- Ill-formed: an access of 3 bytes or off its alignment, a list of the wrong length. -/
theorem test_refused_sizes :
    (Instr.registerWrite 0 (at28 DEV_MODE) 3 0).wf = false ∧
    (Instr.registerWrite 0 (at28 1) 2 0).wf = false ∧
    (Instr.readClearField 0 (at28 2) 4).wf = false ∧
    (Instr.loadChannelBlock 0 []).wf = false ∧
    (Instr.loadChannelBlock 0 (List.replicate 65 0)).wf = false ∧
    (Instr.trespReceive 0 0 [] [0, 0, 0, 0]).wf = false ∧
    (Instr.trespReceive 0 0 [0, 0, 0, 0] [0]).wf = false ∧
    (Instr.blockReceive 0 1 [0]).wf = false ∧
    (Instr.packetReceive 0 [0]).wf = false ∧
    (Instr.mgeFrameReceive [0] true).wf = false ∧
    (Instr.i2cWrite []).wf = false ∧
    (Instr.tckEdge true false false []).wf = false := by
  and_intros <;> decide +kernel

/-- Ill-formed: a checkpoint record of more than 1 MiB. -/
theorem test_refused_checkpoint (data : List Byte) (h : data.length = 1048577) : (Instr.ckpt 0 0 0 0 data).wf = false := by
  show Nat.ble data.length 1048576 = false
  rw [h]; rfl

/-- Ill-formed: a value that does not ask for the row's effect, or a number out of range. -/
theorem test_refused_operands :
    (Instr.modeRequest 0 0).wf = false ∧
    (Instr.warmReset 0 0).wf = false ∧
    (Instr.start 0 0 0).wf = false ∧
    (Instr.arrival 0 1026 0 0 0 0).wf = false ∧
    (Instr.resv 0 0 0 false 0 ⟨false, List.replicate 64 0, false⟩).wf = false ∧
    (Instr.packetReceived 0 false 64).wf = false ∧
    (Instr.packetTaken 0 false ⟨64, false⟩).wf = false ∧
    (Instr.holdTimeout 0 false 64).wf = false ∧
    (Instr.load 0 ⟨⟨none, none⟩, some (0, 0)⟩).wf = false ∧
    (Instr.reload 0 ⟨⟨none, none⟩, some (0, 9)⟩).wf = false ∧
    (Instr.mbist 0 [1, 1] false).wf = false ∧
    (Instr.lbist 0 [2, 2]).wf = false ∧
    (Instr.hbmBist 0 [3, 3]).wf = false ∧
    (Instr.userClockEdge 0 [(2, []), (1, [])]).wf = false ∧
    (Instr.userClockEdge 0 [(384, [])]).wf = false := by
  and_intros <;> decide +kernel

/-- Well-formed commands at the ends of their ranges. -/
theorem test_accepted :
    (Instr.readLoHalf 0 (at28 OST_TICK)).wf = true ∧ (Instr.registerWrite 17 (at28 3) 1 0).wf = true ∧
      (Instr.arrival 1087 1025 0 0 0 0).wf = true ∧ (Instr.grant 0 0 3).wf = true ∧ (Instr.modeRequest 0 8).wf = true ∧
      (Instr.userClockEdge 15 [(0, [true]), (383, [false])]).wf = true := by
  and_intros <;> decide +kernel

/-! ### The hypotheses of the obligations are met: each clause by a small state -/

/-- A cluster whose SRAM is being filled. -/
def filling : State := State.reset.setCl 0 { State.reset.cl 0 with fill := some 0x3FFFF }

/-- The program uses lane 0, which is not UP. -/
def laneDown : State := { withRegs [(DEV_MODE, 0x103), (CFG_STATUS, 0)] with blt := { Billet.reset with lanes := 1 } }

/-- Path 3 holds the lower half of the schedule's start. -/
def upperHalf : State := { State.reset with paths := [(3, { PathState.reset with heldTag := some SEQ_TSTART_SEC })] }

/-- A flit of die 0 waits for die 3. -/
def crossing : State :=
  { withRegs [(PWR_DOM 32, 0), (PWR_DOM 35, 0)] with
    mlr := [(0, { Millrace.reset with cross := [(17, [⟨17, 2394736455337692⟩])] })] }

/-- An image of 80 bytes is on record. -/
def placedImage : State :=
  { withRegs [(DEV_MODE, 3), (BLT_LOADED, 0x80000000)] with blt := { Billet.reset with addr := carveBase, len := 80 } }

/-- Compute domain 0 powers down; the last of its stops has a flit to send. -/
def stopBusy : State :=
  { withRegs [(PWR_DOM 0, 0x11)] with
    mlr := [(0, { Millrace.reset with inj := [(stopIx (ringOf 33) (posOf 33) * 2, [5])] })] }

def st1 : State :=
  State.reset

theorem test_meets_SixtyFourBitReads :
    (Reached st1 (BitVec.ofNat 28 OST_TICK).toNat ∧ isHalf 1 (BitVec.ofNat 28 OST_TICK).toNat = true ∧ ¬ timePair
      (BitVec.ofNat 28 OST_TICK).toNat) ∧
    (Reached st1 (BitVec.ofNat 28 TMK_SEC).toNat ∧ (BitVec.ofNat 28 TMK_SEC).toNat = TMK_SEC) ∧
    (Reached st1 (BitVec.ofNat 28 (TMK_SEC + 4)).toNat ∧ isHalf 2 (BitVec.ofNat 28 (TMK_SEC + 4)).toNat = true) := by
  unfold timePair Reached
  and_intros <;> decide +kernel

theorem test_meets_SixtyFourBitWritesCommitTogether :
    ((BitVec.ofNat 28 BLT_SYS).toNat ∈ openPairs ∧ Reached st1 (BitVec.ofNat 28 BLT_SYS).toNat) ∧
    (4 ≤ (BitVec.ofNat 28 (BLT_RESULT 5)).toNat ∧ (BitVec.ofNat 28 (BLT_RESULT 5)).toNat - 4 ∈ openPairs ∧ Reached
      st1 (BitVec.ofNat 28 (BLT_RESULT 5)).toNat) := by
  unfold Reached
  and_intros <;> decide +kernel

theorem test_meets_RegisterWritesFollowAccessCodes :
    (Reached st1 (BitVec.ofNat 28 (GBK_MB_ARG 0)).toNat ∧ (BitVec.ofNat 28 (GBK_MB_ARG 0)).toNat ∈ plainRegs ∧ regAt
      (BitVec.ofNat 28 (GBK_MB_ARG 0)).toNat = some ((⟨144, 4, 4, 0, 0, 4294967295, 0, 0, 0, 0⟩ : RegDef), 0)) ∧
    (Reached st1 (BitVec.ofNat 28 SEQ_CFG).toNat ∧ (1 = 1 ∨ 1 = 2)) ∧
    (Reached st1 (0x104c0#28).toNat ∧ regAt (0x104c0#28).toNat = none) := by
  unfold Reached
  and_intros <;> decide +kernel

def st2 : State :=
  withRegs [(PWR_DOM 68, 0), (SHR_MB_STATUS 28, 2)]

theorem test_meets_ReadsClearFieldsAndWaitForResults :
    (sizeOk (BitVec.ofNat 28 PWR_OFFACC_CNT).toNat (2 : Nat) = true ∧ Reached st1 ((BitVec.ofNat 28
      PWR_OFFACC_CNT).toNat - (BitVec.ofNat 28 PWR_OFFACC_CNT).toNat % 4) ∧ regAt ((BitVec.ofNat 28
      PWR_OFFACC_CNT).toNat - (BitVec.ofNat 28 PWR_OFFACC_CNT).toNat % 4) = some
      ((⟨20, 4, 1, 0, 0, 0, 0, 0, 65535, 0⟩ : RegDef), 0) ∧ (⟨20, 4, 1, 0, 0, 0, 0, 0, 65535, 0⟩ : RegDef).rc ≠ 0) ∧
    (sizeOk (0x104c0#28).toNat (2 : Nat) = true ∧ Reached st1 ((0x104c0#28).toNat - (0x104c0#28).toNat % 4) ∧ regAt
      ((0x104c0#28).toNat - (0x104c0#28).toNat % 4) = none) ∧
    (sizeOk (BitVec.ofNat 28 SEQ_CFG).toNat (2 : Nat) = true ∧ Reached st1 ((BitVec.ofNat 28 SEQ_CFG).toNat -
      (BitVec.ofNat 28 SEQ_CFG).toNat % 4) ∧ (BitVec.ofNat 28 SEQ_CFG).toNat - (BitVec.ofNat 28 SEQ_CFG).toNat % 4 ∈
      plainRegs) ∧
    (Reached st2 (BitVec.ofNat 28 (SHR_MB_RESULT 28 0)).toNat ∧ (BitVec.ofNat 28 (SHR_MB_RESULT 28 0)).toNat ∈
      mbResults (34 : Fin 42) ∧ st2.f (mbDone (34 : Fin 42)) = 1) ∧
    (Reached st1 (BitVec.ofNat 28 (DEV_BIST_RESULT 1)).toNat ∧ (BitVec.ofNat 28 (DEV_BIST_RESULT 1)).toNat ∈
      mbResults (41 : Fin 42) ∧ st1.f (mbDone (41 : Fin 42)) = 0) := by
  unfold Reached
  and_intros <;> decide +kernel

def st3 : State :=
  withRegs [(DEV_MODE, 0)]

theorem test_meets_AccessesThatReachNoRegister :
    (st1.access (BitVec.ofNat 28 (CLU_ID 0)).toNat = .off) ∧
    (blockDomain (0x1300000#28).toNat = none ∧ st1.mode ≠ Mode.reset ∧ st1.rst.stage ≠ 1) ∧
    (st3.mode = Mode.reset) := by
  and_intros <;> decide +kernel

def st4 : State :=
  withRegs [(PWR_DOM 55, 0)]

def st5 : State :=
  withRegs [(PWR_DOM 36, 0), (HBC_MB_STATUS 0, 1)]

theorem test_meets_MailboxCommandsAreAcceptedOrRejected :
    ((BitVec.ofNat 28 (SHR_MB_CMD 15)).toNat = mbCmd (21 : Fin 42) ∧ Reached st4 (BitVec.ofNat 28 (SHR_MB_CMD
      15)).toNat ∧ st4.f (mbBusy (21 : Fin 42)) = 0) ∧
    ((BitVec.ofNat 28 (HBC_MB_CMD 0)).toNat = mbCmd (1 : Fin 42) ∧ Reached st5 (BitVec.ofNat 28 (HBC_MB_CMD
      0)).toNat ∧ st5.f (mbBusy (1 : Fin 42)) = 1) ∧
    (mailboxRow (.fill (0 : Fin 18) ⟨0, false, false⟩) = some (1, HBC_MB_CMD 0) ∧ Reached (withRegs [(PWR_DOM 36, 0)])
      (HBC_MB_CMD 0) ∧ (withRegs [(PWR_DOM 36, 0)]).f (mbBusy 1) = 0) ∧
    (mailboxRow (.fill (0 : Fin 18) ⟨0, false, false⟩) = some (1, HBC_MB_CMD 0) ∧ Reached (withRegs [(PWR_DOM 36, 0),
      (HBC_MB_STATUS 0, 1)]) (HBC_MB_CMD 0) ∧ (withRegs [(PWR_DOM 36, 0), (HBC_MB_STATUS 0, 1)]).f (mbBusy 1) = 1) := by
  unfold Reached
  and_intros <;> decide +kernel

def st6 : State :=
  withRegs [(SHR_MB_STATUS 24, 1)]

def st7 : State :=
  { withRegs [(DEV_BIST_STATUS, 1)] with
    mbs := [(41, { Mailbox.reset with res0 := (0x8219df6b#32), res1 := (0xb39ec648#32), ended := true })] }

theorem test_meets_MailboxCompletionWritesItsOutcome :
    (st6.f (mbBusy (30 : Fin 42)) = 1 ∧ (30 : Fin 42) ∉ [0, 5, 40, 41] ∧ (Sparse.get Mailbox.reset st6.mbs (30 : Fin
      42)).ended = false) ∧
    (st7.f (mbBusy (41 : Fin 42)) = 1 ∧ (Sparse.get Mailbox.reset st7.mbs (41 : Fin 42)).ended = true) := by
  and_intros <;> decide +kernel

def st8 : State :=
  { State.reset with
    rst := { ResetUnit.reset with late := [⟨3, (0x800040#28), some (5#32)⟩] } }

def st9 : State :=
  { State.reset with
    rst := { ResetUnit.reset with late := [⟨16, (0x10000c#28), some (0x32ce44f6#32)⟩] } }

def st10 : State :=
  { State.reset with
    rst := { ResetUnit.reset with late := [⟨0, (64#28), none⟩] } }

theorem test_meets_TimedOutAccesses :
    (Reached st1 (BitVec.ofNat 28 OST_CMD).toNat ∧ (((BitVec.ofNat 28 OST_CMD).toNat ≠ OST_CMD + 4 ∨ (none : Option
      Word) = none ∨ Sparse.get none st1.ost.waiting (5 : Path) = none))) ∧
    (st8.rst.late[(0 : Nat)]? = some (⟨3, (0x800040#28), some (5#32)⟩ : LateAccess) ∧ st8.access
      (⟨3, (0x800040#28), some (5#32)⟩ : LateAccess).off.toNat ≠ .reached) ∧
    (st9.rst.late[(0 : Nat)]? = some (⟨16, (0x10000c#28), some (0x32ce44f6#32)⟩ : LateAccess) ∧
      (⟨16, (0x10000c#28), some (0x32ce44f6#32)⟩ : LateAccess).wr = some (0x32ce44f6#32) ∧ Reached st9
      (⟨16, (0x10000c#28), some (0x32ce44f6#32)⟩ : LateAccess).off.toNat) ∧
    (st10.rst.late[(0 : Nat)]? = some (⟨0, (64#28), none⟩ : LateAccess) ∧ (⟨0, (64#28), none⟩ : LateAccess).wr =
      none ∧ Reached st10 (⟨0, (64#28), none⟩ : LateAccess).off.toNat) := by
  unfold Reached
  and_intros <;> decide +kernel

def st11 : State :=
  { State.reset with
    mge := { MgePort.reset with waiting := [⟨1, 2, 3, []⟩] } }

def st12 : State :=
  { State.reset with
    mge := { MgePort.reset with waiting := [⟨1, 2, 3, [87, 82, 1, 0, 1, 0, 0, 0, 1, 0, 0, 0, 0, 0, 0, 0, 4, 0, 16, 0, 205, 171, 0, 0]⟩], last := some ⟨1, 2, 3, [87, 82, 1, 0, 1, 0, 0, 0, 1, 0, 0, 0, 0, 0, 0, 0, 4, 0, 16, 0, 205, 171, 0, 0]⟩ } }

def st13 : State :=
  { withRegs [(MGE_RAP_CFG, 0x11e21)] with
    mge := { MgePort.reset with waiting := [⟨1, 2, 3, [87, 82, 1, 0, 0, 0, 0, 0, 1, 0, 0, 0, 0, 0, 0, 0, 20, 0, 144, 16, 205, 171, 0, 0]⟩] } }

def st14 : State :=
  { State.reset with
    mge := { MgePort.reset with waiting := [⟨1, 2, 3, [87, 82, 1, 0, 0, 0, 0, 0, 1, 0, 0, 0, 0, 0, 0, 0, 24, 0, 32, 16, 205, 171, 0, 0]⟩] } }

def st15 : State :=
  { State.reset with
    mge := { MgePort.reset with waiting := [⟨1, 2, 3, [87, 82, 1, 0, 0, 0, 0, 0, 1, 0, 0, 0, 0, 0, 0, 0, 4, 0, 16, 0, 205, 171, 0, 0]⟩] } }

def st16 : State :=
  { withRegs [(PWR_DOM 72, 0)] with
    mge := { MgePort.reset with i2cPtr := 8388612 } }

theorem test_meets_RemoteRegisterAccess :
    (st11.mge.waiting = (⟨1, 2, 3, []⟩ : RapRequest) :: ([] : List RapRequest) ∧ rapItems (⟨1, 2, 3, []⟩ :
      RapRequest).payload = none) ∧
    (st12.mge.waiting = (⟨1, 2, 3, [87, 82, 1, 0, 1, 0, 0, 0, 1, 0, 0, 0, 0, 0, 0, 0, 4, 0, 16, 0, 205, 171, 0, 0]⟩
      : RapRequest) :: ([] : List RapRequest) ∧ rapItems
      (⟨1, 2, 3, [87, 82, 1, 0, 1, 0, 0, 0, 1, 0, 0, 0, 0, 0, 0, 0, 4, 0, 16, 0, 205, 171, 0, 0]⟩ :
      RapRequest).payload = some [(1048580, 43981)] ∧ st12.mge.last = some
      (⟨1, 2, 3, [87, 82, 1, 0, 1, 0, 0, 0, 1, 0, 0, 0, 0, 0, 0, 0, 4, 0, 16, 0, 205, 171, 0, 0]⟩ : RapRequest) ∧
      sameRap (⟨1, 2, 3, [87, 82, 1, 0, 1, 0, 0, 0, 1, 0, 0, 0, 0, 0, 0, 0, 4, 0, 16, 0, 205, 171, 0, 0]⟩ :
      RapRequest) (⟨1, 2, 3, [87, 82, 1, 0, 1, 0, 0, 0, 1, 0, 0, 0, 0, 0, 0, 0, 4, 0, 16, 0, 205, 171, 0, 0]⟩ :
      RapRequest) = true) ∧
    (st13.mge.waiting =
      (⟨1, 2, 3, [87, 82, 1, 0, 0, 0, 0, 0, 1, 0, 0, 0, 0, 0, 0, 0, 20, 0, 144, 16, 205, 171, 0, 0]⟩ : RapRequest)
      :: ([] : List RapRequest) ∧ rapItems
      (⟨1, 2, 3, [87, 82, 1, 0, 0, 0, 0, 0, 1, 0, 0, 0, 0, 0, 0, 0, 20, 0, 144, 16, 205, 171, 0, 0]⟩ :
      RapRequest).payload = some [(277872660, (0xabcd#32).toNat)] ∧ st13.mge.last = none ∧ slice 277872660 2 26 * 4
      = (BitVec.ofNat 28 MGE_RAP_CFG).toNat ∧ Reached st13 (BitVec.ofNat 28 MGE_RAP_CFG).toNat ∧ bitOf 277872660 28
      = true ∧ st13.f MGE_RAP_CFG_WR_EN = 0) ∧
    (st14.mge.waiting =
      (⟨1, 2, 3, [87, 82, 1, 0, 0, 0, 0, 0, 1, 0, 0, 0, 0, 0, 0, 0, 24, 0, 32, 16, 205, 171, 0, 0]⟩ : RapRequest) ::
      ([] : List RapRequest) ∧ rapItems
      (⟨1, 2, 3, [87, 82, 1, 0, 0, 0, 0, 0, 1, 0, 0, 0, 0, 0, 0, 0, 24, 0, 32, 16, 205, 171, 0, 0]⟩ :
      RapRequest).payload = some [(270532632, (0xabcd#32).toNat)] ∧ st14.mge.last = none ∧ slice 270532632 2 26 * 4
      = (BitVec.ofNat 28 TMK_SET_NS).toNat ∧ Reached st14 (BitVec.ofNat 28 TMK_SET_NS).toNat ∧ bitOf 270532632 28 =
      true ∧ st14.f MGE_RAP_CFG_WR_EN = 1 ∧ (BitVec.ofNat 28 TMK_SET_NS).toNat ∈ plainRegs) ∧
    (st15.mge.waiting = (⟨1, 2, 3, [87, 82, 1, 0, 0, 0, 0, 0, 1, 0, 0, 0, 0, 0, 0, 0, 4, 0, 16, 0, 205, 171, 0, 0]⟩
      : RapRequest) :: ([] : List RapRequest) ∧ rapItems
      (⟨1, 2, 3, [87, 82, 1, 0, 0, 0, 0, 0, 1, 0, 0, 0, 0, 0, 0, 0, 4, 0, 16, 0, 205, 171, 0, 0]⟩ :
      RapRequest).payload = some [(1048580, (0xabcd#32).toNat)] ∧ st15.mge.last = none ∧ slice 1048580 2 26 * 4 =
      (BitVec.ofNat 28 PWR_ERR).toNat ∧ Reached st15 (BitVec.ofNat 28 PWR_ERR).toNat ∧ bitOf 1048580 28 = false ∧
      (BitVec.ofNat 28 PWR_ERR).toNat ∈ plainRegs) ∧
    (st1.mode ≠ Mode.reset) ∧
    (st1.mode ≠ Mode.reset ∧ ((([] : List Byte) = [] ∨ ([] : List Byte) = [st1.pec false (bytesLE 4 (BitVec.ofNat 28
      SEQ_CFG).toNat ++ bytesLE 4 (0x80000000#32).toNat)])) ∧ (BitVec.ofNat 28 SEQ_CFG).toNat ∈ plainRegs ∧ Reached
      st1 (BitVec.ofNat 28 SEQ_CFG).toNat) ∧
    (st1.mode ≠ Mode.reset ∧ ([] : List Byte).length ≠ 4 ∧ ([] : List Byte).length ≠ 8 ∧ ((([] : List Byte).length =
      9 → ([] : List Byte).getD 8 0 ≠ st1.pec false (([] : List Byte).take 8)))) ∧
    (st16.mode ≠ Mode.reset ∧ st16.mge.i2cPtr ∈ plainRegs ∧ Reached st16 st16.mge.i2cPtr) := by
  unfold Reached
  and_intros <;> decide +kernel

def st17 : State :=
  withRegs [(DEV_MODE, 0xa06)]

def st18 : State :=
  withRegs [(DEV_MODE, 0x60b)]

def st19 : State :=
  withRegs [(DEV_MODE, 0x40b)]

def st20 : State :=
  withRegs [(DEV_MODE, 0xc03)]

def st21 : State :=
  withRegs [(DEV_MODE, 387)]

def st22 : State :=
  withRegs [(DEV_MODE, 3)]

def st23 : State :=
  withRegs [(DEV_MODE, 0x503)]

def st24 : State :=
  withRegs [(DEV_MODE, 259), (CFG_STATUS, 0x10040)]

def st25 : State :=
  withRegs [(DEV_MODE, 4)]

def st26 : State :=
  withRegs [(DEV_MODE, 387), (CFG_STATUS, 0x10040)]

def st27 : State :=
  withRegs [(DEV_MODE, 133)]

def st28 : State :=
  withRegs [(DEV_MODE, 3), (CFG_STATUS, 0x10040)]

def st29 : State :=
  withRegs [(DEV_MODE, 2)]

def st30 : State :=
  withRegs [(DEV_MODE, 524)]

def st31 : State :=
  withRegs [(DEV_MODE, 13)]

theorem test_meets_ModeRequestsAreRefusedOrApply :
    (Reached st17 DEV_CTRL ∧ requestsMode (15#32) (7 : Nat) ∧ st17.f DEV_MODE_ROLE = 2) ∧
    (Reached st1 DEV_CTRL ∧ requestsMode (8#32) (0 : Nat) ∧ st1.f DEV_MODE_ROLE ≠ 2 ∧ (0 : Nat) ≤ 1) ∧
    (Reached st18 DEV_CTRL ∧ requestsMode (10#32) (2 : Nat) ∧ st18.f DEV_MODE_ROLE ≠ 2 ∧ 2 ≤ (2 : Nat) ∧ (2 : Nat) ≠
      Mode.idle ∧ st18.f DEV_MODE_HOLD = 1) ∧
    (Reached st19 DEV_CTRL ∧ requestsMode (10#32) (2 : Nat) ∧ st19.f DEV_MODE_ROLE ≠ 2 ∧ 2 ≤ (2 : Nat) ∧ (2 : Nat) ≠
      Mode.idle ∧ st19.f DEV_MODE_HOLD = 0 ∧ st19.f DEV_MODE_PENDING = 1) ∧
    (Reached st1 DEV_CTRL ∧ requestsMode (14#32) (6 : Nat) ∧ st1.f DEV_MODE_ROLE ≠ 2 ∧ st1.f DEV_MODE_HOLD = 0 ∧
      st1.f DEV_MODE_PENDING = 0 ∧ 2 ≤ (6 : Nat) ∧ NoTransition st1.mode (6 : Nat)) ∧
    (Reached st1 DEV_CTRL ∧ requestsMode (0x29a6e3b#32) (3 : Nat) ∧ st1.f DEV_MODE_ROLE ≠ 2 ∧ st1.f DEV_MODE_HOLD =
      0 ∧ st1.f DEV_MODE_PENDING = 0 ∧ st1.mode = Mode.boot ∧ (3 : Nat) = Mode.idle ∧ ((st1.f CFG_STATE_CONFIGURED =
      0 ∨ st1.f (mbBusy 40) = 1 ∨ st1.f (mbErr 40) ≠ 0))) ∧
    (Reached st20 DEV_CTRL ∧ requestsMode (10#32) (2 : Nat) ∧ st20.f DEV_MODE_ROLE ≠ 2 ∧ st20.f DEV_MODE_HOLD = 0 ∧
      st20.f DEV_MODE_PENDING = 0 ∧ st20.mode = Mode.idle ∧ (((2 : Nat) = Mode.diagnose ∨ (2 : Nat) = Mode.standby))
      ∧ st20.f DEV_MODE_ROLE ≠ 0) ∧
    (Reached st21 DEV_CTRL ∧ requestsMode (15#32) (7 : Nat) ∧ st21.f DEV_MODE_ROLE ≠ 2 ∧ st21.f DEV_MODE_HOLD = 0 ∧
      st21.f DEV_MODE_PENDING = 0 ∧ st21.mode = Mode.idle ∧ (((7 : Nat) = Mode.diagnose ∨ (7 : Nat) = Mode.standby))
      ∧ st21.f DEV_MODE_ROLE = 0 ∧ ((st21.f (mbBusy 0) = 1 ∨ st21.f (mbBusy 40) = 1))) ∧
    (Reached st22 DEV_CTRL ∧ requestsMode (12#32) (4 : Nat) ∧ st22.f DEV_MODE_ROLE ≠ 2 ∧ st22.f DEV_MODE_HOLD = 0 ∧
      st22.f DEV_MODE_PENDING = 0 ∧ st22.mode = Mode.idle ∧ (((4 : Nat) = Mode.run ∨ (4 : Nat) = Mode.timed ∨ (4 :
      Nat) = Mode.step)) ∧ st22.f DEV_MODE_PROG_VALID = 0) ∧
    (Reached st23 DEV_CTRL ∧ requestsMode (12#32) (4 : Nat) ∧ st23.f DEV_MODE_ROLE ≠ 2 ∧ st23.f DEV_MODE_HOLD = 0 ∧
      st23.f DEV_MODE_PENDING = 0 ∧ st23.mode = Mode.idle ∧ (((4 : Nat) = Mode.run ∨ (4 : Nat) = Mode.timed ∨ (4 :
      Nat) = Mode.step)) ∧ st23.f DEV_MODE_PROG_VALID = 1 ∧ ((st23.f (mbBusy 0) = 1 ∨ st23.f (mbBusy 40) = 1))) ∧
    (Reached st24 DEV_CTRL ∧ requestsMode (13#32) (5 : Nat) ∧ st24.f DEV_MODE_ROLE ≠ 2 ∧ st24.f DEV_MODE_HOLD = 0 ∧
      st24.f DEV_MODE_PENDING = 0 ∧ st24.mode = Mode.idle ∧ (5 : Nat) = Mode.timed ∧ FramesReady st24 ∧ ¬ TimeReady
      st24) ∧
    (Reached st25 DEV_CTRL ∧ requestsMode (0xdd124b5d#32) (5 : Nat) ∧ st25.f DEV_MODE_ROLE ≠ 2 ∧ st25.f
      DEV_MODE_HOLD = 0 ∧ st25.f DEV_MODE_PENDING = 0 ∧ st25.mode = Mode.run ∧ (5 : Nat) = Mode.timed ∧ ¬ TimeReady
      st25) ∧
    (Reached st22 DEV_CTRL ∧ requestsMode (0x7bcd36db#32) (3 : Nat) ∧ st22.f DEV_MODE_ROLE ≤ 1 ∧ st22.f
      DEV_MODE_HOLD = 0 ∧ st22.f DEV_MODE_PENDING = 0 ∧ (3 : Nat) = st22.mode ∧ 2 ≤ (3 : Nat)) ∧
    (Reached st26 DEV_CTRL ∧ requestsMode (12#32) (4 : Nat) ∧ st26.f DEV_MODE_ROLE ≤ 1 ∧ st26.f DEV_MODE_HOLD = 0 ∧
      st26.f DEV_MODE_PENDING = 0 ∧ AppliesAtOnce st26 (12#32) (4 : Nat)) ∧
    (Reached st27 DEV_CTRL ∧ requestsMode (14#32) (6 : Nat) ∧ st27.f DEV_MODE_ROLE ≤ 1 ∧ st27.f DEV_MODE_HOLD = 0 ∧
      st27.f DEV_MODE_PENDING = 0 ∧ AppliesAtBarrier st27 (6 : Nat)) ∧
    (Reached st28 DEV_CTRL ∧ requestsMode (0x1b57d73a#32) (2 : Nat) ∧ st28.f DEV_MODE_ROLE ≤ 1 ∧ st28.f
      DEV_MODE_HOLD = 0 ∧ st28.f DEV_MODE_PENDING = 0 ∧ st28.mode = Mode.idle ∧ (2 : Nat) = Mode.standby ∧ st28.f
      DEV_MODE_ROLE = 0 ∧ st28.f (mbBusy 0) = 0 ∧ st28.f (mbBusy 40) = 0) ∧
    (Reached st29 DEV_CTRL ∧ requestsMode (0xea23c1ab#32) (3 : Nat) ∧ st29.f DEV_MODE_ROLE ≤ 1 ∧ st29.f
      DEV_MODE_HOLD = 0 ∧ st29.f DEV_MODE_PENDING = 0 ∧ st29.mode = Mode.standby ∧ (3 : Nat) = Mode.idle ∧
      st29.pwr.exit = 0) ∧
    (Reached st30 DEV_CTRL ∧ requestsMode (11#32) Mode.idle ∧ st30.f DEV_MODE_ROLE ≤ 1 ∧ ((st30.mode = Mode.run ∨
      st30.mode = Mode.timed)) ∧ st30.pwr.entry = 0 ∧ st30.f DEV_MODE_HOLD = 1) ∧
    (Reached st31 DEV_CTRL ∧ requestsMode (0xbaebf63b#32) Mode.idle ∧ st31.f DEV_MODE_ROLE ≤ 1 ∧ ((st31.mode =
      Mode.run ∨ st31.mode = Mode.timed)) ∧ st31.pwr.entry = 0 ∧ st31.f DEV_MODE_HOLD = 0 ∧ st31.f DEV_MODE_PENDING
      = 1) ∧
    ((Reached (withRegs [(DEV_MODE, 7), (DEV_BIST_STATUS, 1)]) DEV_CTRL ∧ requestsMode (11#32) Mode.idle ∧ (withRegs
      [(DEV_MODE, 7), (DEV_BIST_STATUS, 1)]).f DEV_MODE_ROLE ≠ 2 ∧ (withRegs [(DEV_MODE, 7), (DEV_BIST_STATUS,
      1)]).f DEV_MODE_HOLD = 0 ∧ (withRegs [(DEV_MODE, 7), (DEV_BIST_STATUS, 1)]).f DEV_MODE_PENDING = 0 ∧ (withRegs
      [(DEV_MODE, 7), (DEV_BIST_STATUS, 1)]).mode = Mode.diagnose ∧ (withRegs [(DEV_MODE, 7), (DEV_BIST_STATUS,
      1)]).f (mbBusy 41) = 1)) ∧
    ((Reached laneDown DEV_CTRL ∧ requestsMode (12#32) Mode.run ∧ laneDown.f DEV_MODE_ROLE ≠ 2 ∧ laneDown.f
      DEV_MODE_HOLD = 0 ∧ laneDown.f DEV_MODE_PENDING = 0 ∧ laneDown.mode = Mode.idle ∧ laneDown.f
      DEV_MODE_PROG_VALID = 1 ∧ laneDown.f (mbBusy 0) = 0 ∧ laneDown.f (mbBusy 40) = 0 ∧ ¬ FramesReady laneDown)) ∧
    ((Reached (withRegs [(DEV_MODE, 0x103), (CFG_STATUS, 0), (TMK_SRV_STAT, 1), (SEQ_TSTART_NS, 0x80000000),
      (SEQ_TPER_NS, 1)]) DEV_CTRL ∧ requestsMode (29#32) Mode.timed ∧ (withRegs [(DEV_MODE, 0x103), (CFG_STATUS, 0),
      (TMK_SRV_STAT, 1), (SEQ_TSTART_NS, 0x80000000), (SEQ_TPER_NS, 1)]).f DEV_MODE_ROLE ≠ 2 ∧ (withRegs [(DEV_MODE,
      0x103), (CFG_STATUS, 0), (TMK_SRV_STAT, 1), (SEQ_TSTART_NS, 0x80000000), (SEQ_TPER_NS, 1)]).f DEV_MODE_HOLD =
      0 ∧ (withRegs [(DEV_MODE, 0x103), (CFG_STATUS, 0), (TMK_SRV_STAT, 1), (SEQ_TSTART_NS, 0x80000000),
      (SEQ_TPER_NS, 1)]).f DEV_MODE_PENDING = 0 ∧ (withRegs [(DEV_MODE, 0x103), (CFG_STATUS, 0), (TMK_SRV_STAT, 1),
      (SEQ_TSTART_NS, 0x80000000), (SEQ_TPER_NS, 1)]).mode = Mode.idle ∧ FramesReady (withRegs [(DEV_MODE, 0x103),
      (CFG_STATUS, 0), (TMK_SRV_STAT, 1), (SEQ_TSTART_NS, 0x80000000), (SEQ_TPER_NS, 1)]) ∧ TimeReady (withRegs
      [(DEV_MODE, 0x103), (CFG_STATUS, 0), (TMK_SRV_STAT, 1), (SEQ_TSTART_NS, 0x80000000), (SEQ_TPER_NS, 1)]) ∧
      slice (29#32).toNat 4 1 = 1)) ∧
    ((Reached (withRegs [(DEV_MODE, 0x184), (TMK_SRV_STAT, 1), (SEQ_TSTART_NS, 0x80000000), (SEQ_TPER_NS, 1)])
      DEV_CTRL ∧ requestsMode (13#32) Mode.timed ∧ (withRegs [(DEV_MODE, 0x184), (TMK_SRV_STAT, 1), (SEQ_TSTART_NS,
      0x80000000), (SEQ_TPER_NS, 1)]).f DEV_MODE_ROLE ≠ 2 ∧ (withRegs [(DEV_MODE, 0x184), (TMK_SRV_STAT, 1),
      (SEQ_TSTART_NS, 0x80000000), (SEQ_TPER_NS, 1)]).f DEV_MODE_HOLD = 0 ∧ (withRegs [(DEV_MODE, 0x184),
      (TMK_SRV_STAT, 1), (SEQ_TSTART_NS, 0x80000000), (SEQ_TPER_NS, 1)]).f DEV_MODE_PENDING = 0 ∧ (withRegs
      [(DEV_MODE, 0x184), (TMK_SRV_STAT, 1), (SEQ_TSTART_NS, 0x80000000), (SEQ_TPER_NS, 1)]).mode = Mode.run ∧
      TimeReady (withRegs [(DEV_MODE, 0x184), (TMK_SRV_STAT, 1), (SEQ_TSTART_NS, 0x80000000), (SEQ_TPER_NS, 1)]) ∧
      (withRegs [(DEV_MODE, 0x184), (TMK_SRV_STAT, 1), (SEQ_TSTART_NS, 0x80000000), (SEQ_TPER_NS, 1)]).f
      DEV_MODE_CHECK_ACT = 1)) := by
  unfold AppliesAtBarrier AppliesAtOnce TimeReady FramesReady NoTransition requestsMode Reached
  and_intros <;> decide +kernel

def st32 : State :=
  { State.reset with
    rst := { ResetUnit.reset with stage := 1 },
    tmk := { Tidemark.reset with steered := 1099511627776000000000 } }

def st33 : State :=
  { State.reset with
    rst := { ResetUnit.reset with resetN := true } }

def st34 : State :=
  { State.reset with
    rst := { ResetUnit.reset with resetN := true, por := true } }

def st35 : State :=
  { State.reset with
    rst := { ResetUnit.reset with por := true } }

def st36 : State :=
  { State.reset with
    rst := { ResetUnit.reset with stage := 2 },
    tmk := { Tidemark.reset with steered := 1099511627776000000000 } }

theorem test_meets_ResetsEnterAndLeaveReset :
    (1000 ≤ 1000 ∧ st1.rst.por = false) ∧
    (5 < 100) ∧
    (1000 ≤ 5000) ∧
    (5 < 200) ∧
    (st32.rst.stage = 1 ∧ st32.elapsedSteered st32.rst.since 201000 = true) ∧
    (st33.rst.resetN = true ∧ st33.rst.por = false) ∧
    (st34.rst.resetN = true ∧ st34.rst.por = true) ∧
    (st35.rst.por = true ∧ st35.rst.resetN = false) ∧
    (st34.rst.por = true ∧ st34.rst.resetN = true) ∧
    (st36.rst.stage = 2 ∧ st36.elapsedSteered st36.rst.since 10000 = true ∧ st36.rst.por = false ∧ st36.rst.resetN =
      false) := by
  and_intros <;> decide +kernel

def st37 : State :=
  { withRegs [(DEV_HWDT, 0x10001), (OST_CORE_STAT 3, 1)] with
    rst := { ResetUnit.reset with hwdt := 49999 } }

def st38 : State :=
  { withRegs [(DEV_HWDT, 0x10001), (OST_CORE_STAT 3, 1)] with
    rst := { ResetUnit.reset with hwdt := 50000 } }

theorem test_meets_WarmResetAndHubWatchdog :
    (Reached st1 DEV_CTRL ∧ bitOf (0xa5000100#32).toNat 8 = true ∧ slice (0xa5000100#32).toNat 24 8 = 0xA5) ∧
    (Reached st1 DEV_CTRL ∧ bitOf (272#32).toNat 8 = true ∧ slice (272#32).toNat 24 8 ≠ 0xA5 ∧ bitOf (272#32).toNat
      3 = false) ∧
    (Reached st1 DEV_HWDT_KICK ∧ slice (90#32).toNat 0 8 = 0x5A) ∧
    (Reached st1 DEV_HWDT_KICK ∧ slice (0xa50001ff#32).toNat 0 8 ≠ 0x5A) ∧
    (st37.hwdtCounts = true ∧ st37.f DEV_HWDT_EN = 1 ∧ 25000 * max 1 (st37.f DEV_HWDT_TIMEOUT_MS) ≤ st37.rst.hwdt) ∧
    (st38.hwdtCounts = true ∧ st38.f DEV_HWDT_EN = 1 ∧ 25000 * max 1 (st38.f DEV_HWDT_TIMEOUT_MS) ≤ st38.rst.hwdt) ∧
    (st1.rst.hwdt < 25000 * max 1 (st1.f DEV_HWDT_TIMEOUT_MS)) := by
  unfold Reached
  and_intros <;> decide +kernel

def st39 : State :=
  { withRegs [(CLU_STATUS 0, 2)] with
    clusters := [(0, { Cluster.reset with dueTo := 1 })] }

def st40 : State :=
  { withRegs [(CLU_STATUS 0, 770)] with
    clusters := [(0, { Cluster.reset with dueTo := 2047 })] }

def st41 : State :=
  { withRegs [(CLU_STATUS 40, 515)] with
    clusters := [(40, { Cluster.reset with dueTo := 2047 })] }

def st42 : State :=
  { withRegs [(CLU_STATUS 40, 0x3f03)] with
    clusters := [(40, { Cluster.reset with dueTo := 2047 })] }

theorem test_meets_EvaluationsWriteTheirEntry :
    (IssuesCleanly st39 (0 : ClusterId) (63 : Fin 64) .nop) ∧
    (IssuesCleanly st40 (0 : ClusterId) (1 : Fin 64) (.eval false (64#12).toNat (0x1003#16).toNat (0x3003#14).toNat
      (0x1009#14).toNat (148#14).toNat (0x1004#14).toNat) ∧ (64#12).toNat / 64 = (1 : Fin 64).val) ∧
    (IssuesCleanly st41 (40 : ClusterId) (1 : Fin 64) (.eval false (63#12).toNat (0#16).toNat (0x200d#14).toNat
      (12#14).toNat (0x3081#14).toNat (0x2008#14).toNat) ∧ (63#12).toNat / 64 ≠ (1 : Fin 64).val) ∧
    (IssuesCleanly st42 (40 : ClusterId) (0 : Fin 64) (.eval true (5#12).toNat (31#16).toNat (0x100a#14).toNat
      (0x3094#14).toNat (0x1009#14).toNat (0x3012#14).toNat) ∧ (5#12).toNat / 64 = (0 : Fin 64).val) := by
  unfold IssuesCleanly
  and_intros <;> decide +kernel

def st43 : State :=
  { withRegs [(CLU_STATUS 0, 3)] with
    clusters := [(0, { Cluster.reset with dueTo := 1 })] }

def st44 : State :=
  { withRegs [(CLU_STATUS 40, 0x603)] with
    clusters := [(40, { Cluster.reset with dueTo := 2047 })] }

def st45 : State :=
  { withRegs [(CLU_STATUS 40, 0x903)] with
    clusters := [(40, { Cluster.reset with dueTo := 2047 })] }

def st46 : State :=
  { withRegs [(CLU_STATUS 40, 2)] with
    clusters := [(40, { Cluster.reset with dueTo := 1 })] }

theorem test_meets_ShadowLatchesAndMultiplexers :
    (IssuesCleanly st39 (0 : ClusterId) (63 : Fin 64) (.latch false false (0xfff#12).toNat (0xffff#16).toNat
      (18#14).toNat (0x3008#14).toNat (9#14).toNat (0x1092#14).toNat) ∧ (0xfff#12).toNat / 64 = (63 : Fin 64).val) ∧
    (IssuesCleanly st43 (0 : ClusterId) (0 : Fin 64) (.latch false true (0xfc8#12).toNat (647#16).toNat
      (0x110b#14).toNat (0x1087#14).toNat (0x3016#14).toNat (52#14).toNat) ∧ (0xfc8#12).toNat / 64 ≠ (0 : Fin
      64).val) ∧
    (IssuesCleanly st44 (40 : ClusterId) (0 : Fin 64) (.latch true false (63#12).toNat (0x2000#16).toNat
      (0x2008#14).toNat (0x1027#14).toNat (0x3103#14).toNat (0x1016#14).toNat) ∧ (63#12).toNat / 64 = (0 : Fin
      64).val) ∧
    ((0xfc8#12).toNat / 64 = (63 : Fin 64).val ∧ IssuesCleanly st45 (40 : ClusterId) (63 : Fin 64) (.muxw false true
      (0xfc8#12).toNat (17#16).toNat (0x3083#14).toNat (262#14).toNat (0x202d#14).toNat (146#14).toNat)) ∧
    ((63#12).toNat / 64 = (0 : Fin 64).val ∧ IssuesCleanly st46 (40 : ClusterId) (0 : Fin 64) (.muxw true true
      (63#12).toNat (0xffff#16).toNat (21#14).toNat (0x100e#14).toNat (0x3009#14).toNat (8#14).toNat)) := by
  unfold IssuesCleanly
  and_intros <;> decide +kernel

def st47 : State :=
  { withRegs [(CLU_STATUS 0, 0x1f02)] with
    clusters := [(0, { Cluster.reset with dueTo := 2047 })] }

def st48 : State :=
  { withRegs [(CLU_STATUS 40, 0x3802)] with
    clusters := [(40, { Cluster.reset with dueTo := 2047 })] }

def st49 : State :=
  { withRegs [(CLU_STATUS 1, 2)] with
    clusters := [(1, { Cluster.reset with dueTo := 1 })] }

def st50 : State :=
  { withRegs [(CLU_STATUS 40, 0x7fe03)] with
    clusters := [(40, { Cluster.reset with dueTo := 2047 })] }

def st51 : State :=
  { withRegs [(CLU_STATUS 1, 258), (CLU_MPD 1 15, 0x74540082)] with
    clusters := [(1, { Cluster.reset with dueTo := 2047 })] }

def st52 : State :=
  { withRegs [(CLU_STATUS 40, 3)] with
    clusters := [(40, { Cluster.reset with dueTo := 1 })] }

def st53 : State :=
  { withRegs [(CLU_STATUS 40, 3), (CLU_MPD 40 10, 0x79570052)] with
    clusters := [(40, { Cluster.reset with dueTo := 1 })] }

def st54 : State :=
  { withRegs [(CLU_STATUS 40, 514)] with
    clusters := [(40, { Cluster.reset with dueTo := 2047 })] }

theorem test_meets_SendsMarksAndMemoryAccesses :
    (IssuesCleanly st39 (0 : ClusterId) (63 : Fin 64) (.send false (0xfff#12).toNat (18#14).toNat)) ∧
    (IssuesCleanly st47 (0 : ClusterId) (0 : Fin 64) (.win (67#16).toNat)) ∧
    (IssuesCleanly st48 (40 : ClusterId) (63 : Fin 64) (.probe (63#12).toNat (0x1003#14).toNat)) ∧
    (IssuesCleanly st49 (1 : ClusterId) (63 : Fin 64) (.brk (0#16).toNat (0x200c#14).toNat)) ∧
    (IssuesCleanly st50 (40 : ClusterId) (63 : Fin 64) .reserved) ∧
    (IssuesCleanly st51 (1 : ClusterId) (1 : Fin 64) (.memRead false (0xfc8#12).toNat (0xffff#16).toNat
      (0x2001#14).toNat) ∧ st51.portKindOf (1 : ClusterId) (0xffff#16).toNat ≠ 0) ∧
    (IssuesCleanly st52 (40 : ClusterId) (0 : Fin 64) (.memRead false (0#12).toNat (0x2000#16).toNat
      (0x1028#14).toNat) ∧ st52.portKindOf (40 : ClusterId) (0x2000#16).toNat = 0) ∧
    (IssuesCleanly st53 (40 : ClusterId) (0 : Fin 64) (.memWrite true (10#16).toNat (0x200c#14).toNat
      (0x3007#14).toNat (147#14).toNat) ∧ st53.portKindOf (40 : ClusterId) (10#16).toNat ≠ 0) ∧
    (IssuesCleanly st54 (40 : ClusterId) (1 : Fin 64) (.memWrite false (75#16).toNat (0x1013#14).toNat
      (0x1000#14).toNat (0x102b#14).toNat) ∧ st54.portKindOf (40 : ClusterId) (75#16).toNat = 0) := by
  unfold IssuesCleanly
  and_intros <;> decide +kernel

def st55 : State :=
  { withRegs [(SEQ_CFG, 32), (CLU_STATUS 0, 0xb703)] with
    clusters := [(0, { Cluster.reset with fresh := [(Write.net 12 1 65536)], dueTo := 184 })] }

def st56 : State :=
  { withRegs [(SEQ_CFG, 32), (CLU_STATUS 40, 0x55603)] with
    clusters := [(40, { Cluster.reset with wb := [(Write.net 5 1 5)], dueTo := 1367 })] }

def st57 : State :=
  { withRegs [(SEQ_CFG, 31), (CLU_STATUS 0, 0x3ac03)] with
    clusters := [(0, { Cluster.reset with wb := [(Write.state 6258500779 4096 9697183)], dueTo := 941 })] }

def st58 : State :=
  { withRegs [(SEQ_CFG, 32), (CLU_STATUS 0, 0x5a903)] with
    clusters := [(0, { Cluster.reset with wb := [(Write.tx 5 5), (Write.probe 3 5 5)], dueTo := 1450 })] }

def st59 : State :=
  { withRegs [(SEQ_CFG, 14), (CLU_STATUS 40, 0x36d03)] with
    clusters := [(40, { Cluster.reset with fresh := [(Write.win 1 ((some 5)) ((some 5)))], dueTo := 878 })] }

def st60 : State :=
  { withRegs [(SEQ_CFG, 20), (CLU_STATUS 1, 0x4cd02)] with
    clusters := [(1, { Cluster.reset with fresh := [Write.bankViol], dueTo := 1230 })] }

def st61 : State :=
  { withRegs [(SEQ_CFG, 31), (CLU_STATUS 1, 0x45602)] with
    clusters := [(1, { Cluster.reset with fresh := [(Write.bad 2 3)], dueTo := 1111 })] }

def st62 : State :=
  { withRegs [(SEQ_CFG, 32), (CLU_STATUS 40, 0x6c903)] with
    clusters := [(40, { Cluster.reset with fresh := [(Write.mem 15 1 1 false true ((some 15)) true 5 0)], dueTo := 1738 })] }

def st63 : State :=
  { withRegs [(SEQ_CFG, 32), (CLU_STATUS 1, 0x28303)] with
    clusters := [(1, { Cluster.reset with fresh := [(Write.mem 5 1 2 false true ((some 5)) false 2247209956 0)], dueTo := 644 })] }

def st64 : State :=
  { withRegs [(SEQ_CFG, 32), (CLU_STATUS 0, 0x61b03)] with
    clusters := [(0, { Cluster.reset with fresh := [(Write.mem 0 1 1000000 false false ((some 13)) true 0 5)], dueTo := 1564 })] }

def st65 : State :=
  { withRegs [(SEQ_CFG, 16), (CLU_STATUS 1, 0x3ea02)] with
    clusters := [(1, { Cluster.reset with fresh := [(Write.mem 66626938117 0 1 false false none true 0 0)], dueTo := 1003 })] }

theorem test_meets_StepCyclesRunAndServe :
    (QuietStep st55 (0 : ClusterId) ∧ (st55.cl (0 : ClusterId)).fresh = [.net 12 1 65536] ∧ (st55.cl (0 :
      ClusterId)).wb = []) ∧
    (QuietStep st56 (40 : ClusterId) ∧ (st56.cl (40 : ClusterId)).fresh = [] ∧ (st56.cl (40 : ClusterId)).wb = [.net
      5 1 5]) ∧
    (QuietStep st57 (0 : ClusterId) ∧ (st57.cl (0 : ClusterId)).fresh = [] ∧ (st57.cl (0 : ClusterId)).wb = [.state
      6258500779 4096 9697183] ∧ (st57.cl (0 : ClusterId)).selBit 4096 ≤ 1 ∧ secDecode 7 64 ((st57.cl (0 :
      ClusterId)).row (1 - (st57.cl (0 : ClusterId)).selBit 4096) (4096 / 32)) = .ok) ∧
    (QuietStep st58 (0 : ClusterId) ∧ (st58.cl (0 : ClusterId)).fresh = [] ∧ (st58.cl (0 : ClusterId)).wb = [.tx 5
      5, .probe 3 (5 % 16) 5]) ∧
    (QuietStep st59 (40 : ClusterId) ∧ (st59.cl (40 : ClusterId)).fresh = [.win 1 (some 5) (some 5)] ∧ (st59.cl (40
      : ClusterId)).wb = []) ∧
    (QuietStep st60 (1 : ClusterId) ∧ (st60.cl (1 : ClusterId)).fresh = [.bankViol] ∧ (st60.cl (1 : ClusterId)).wb =
      []) ∧
    (QuietStep st61 (1 : ClusterId) ∧ (st61.cl (1 : ClusterId)).fresh = [.bad 2 3] ∧ (st61.cl (1 : ClusterId)).wb =
      []) ∧
    (QuietStep st62 (40 : ClusterId) ∧ (st62.cl (40 : ClusterId)).wb = [] ∧ st62.f (CLU_STATUS_STEP (40 :
      ClusterId)) + 8 < st62.frameLen ∧ st62.frd.ckpt = none ∧ (st62.cl (40 : ClusterId)).fresh = [.mem (15 : Nat) 1
      (1 : Nat) false true (some (15 : Nat)) true (5 : Nat) 0]) ∧
    (QuietStep st63 (1 : ClusterId) ∧ (st63.cl (1 : ClusterId)).wb = [] ∧ st63.f (CLU_STATUS_STEP (1 : ClusterId)) +
      8 < st63.frameLen ∧ st63.frd.ckpt = none ∧ (st63.cl (1 : ClusterId)).fresh = [.mem (5 : Nat) 1 (2 : Nat) false
      true (some (5 : Nat)) false (2247209956 : Nat) 0]) ∧
    (QuietStep st64 (0 : ClusterId) ∧ (st64.cl (0 : ClusterId)).wb = [] ∧ st64.f (CLU_STATUS_STEP (0 : ClusterId)) +
      8 < st64.frameLen ∧ st64.frd.ckpt = none ∧ (st64.cl (0 : ClusterId)).fresh = [.mem (0 : Nat) 1 (1000000 : Nat)
      false false (some (13 : Nat)) true 0 (5 : Nat)] ∧ secDecode 5 18 (Sparse.get 0 (st64.cl (0 : ClusterId)).sram
      ((st64.f (CLU_MPD_TARGET (0 : ClusterId) (1000000 : Nat)) + (13 : Nat)) % 32768)) = .ok) ∧
    (QuietStep st65 (1 : ClusterId) ∧ (st65.cl (1 : ClusterId)).wb = [] ∧ st65.f (CLU_STATUS_STEP (1 : ClusterId)) +
      8 < st65.frameLen ∧ st65.frd.ckpt = none ∧ (st65.cl (1 : ClusterId)).fresh = [.mem (66626938117 : Nat) 0 (1 :
      Nat) false false none true 0 (0 : Nat)]) := by
  unfold QuietStep
  and_intros <;> decide +kernel

def st66 : State :=
  { withRegs [(CLU_STATUS 40, 0x74c03)] with
    clusters := [(40, { Cluster.reset with imem := [(8012, 239610328013098747446835119440)], rxb := [(1, { RxWord.reset with state := 2 })], dueTo := 1869 })] }

def st67 : State :=
  { withRegs [(CLU_STATUS 0, 0x23402)] with
    clusters := [(0, { Cluster.reset with dueTo := 565 })] }

def st68 : State :=
  { withRegs [(CLU_STATUS 0, 0x12702)] with
    clusters := [(0, { Cluster.reset with isOver := true })] }

def st69 : State :=
  { withRegs [(CLU_STATUS 0, 0x78203)] with
    clusters := [(0, { Cluster.reset with rxb := [(8, { RxWord.reset with state := 2 })], owed := [⟨64, 3, 3, 4, 8, 75178, 0⟩] })] }

def st70 : State :=
  withRegs [(CLU_STATUS 0, 0x54502)]

def st71 : State :=
  withRegs [(CLU_STATUS 0, 0x2b002)]

def st72 : State :=
  { withRegs [(CLU_STATUS 40, 0x2702)] with
    clusters := [(40, { Cluster.reset with expect := [⟨1025, 7, 0, 538, 45, 5, 0⟩] })] }

theorem test_meets_StallsArrivalsAndFrameEnds :
    (st66.canIssue (40 : ClusterId) = true ∧ st66.f (CLU_STATUS_STEP (40 : ClusterId)) < (st66.cl (40 :
      ClusterId)).dueTo ∧ st66.wouldStall (40 : ClusterId) = true) ∧
    (st67.canIssue (0 : ClusterId) = true ∧ st67.f (CLU_STATUS_STEP (0 : ClusterId)) < (st67.cl (0 :
      ClusterId)).dueTo ∧ st67.wouldStall (0 : ClusterId) = false) ∧
    (st68.cluState (0 : ClusterId) = Clu.running ∧ (st68.cl (0 : ClusterId)).isOver = true ∧ (st68.cl (0 :
      ClusterId)).wb = [] ∧ (st68.cl (0 : ClusterId)).parts = []) ∧
    ((3 : Nat) = frameOfTag (st69.cluFrame (0 : ClusterId)) (3#2).toNat ∧ (⟨64, 3, 3, 4, 8, 75178, 0⟩ : Arrival) =
      mkArrival (64 : Nat) (3 : Nat) (3 : Nat) (4#11).toNat (8#7).toNat (0x125aa#18).toNat ∧ 1 ≤ st69.cluState (0 :
      ClusterId) ∧ (st69.cl (0 : ClusterId)).exit = [] ∧ (64 : Nat) < 1024 ∧ (st69.cl (0 : ClusterId)).expect = [] ∧
      (st69.cl (0 : ClusterId)).owed = [(⟨64, 3, 3, 4, 8, 75178, 0⟩ : Arrival)] ∧ ((st69.cl (0 : ClusterId)).rx
      (8#7).toNat).key = (0, 0, 0) ∧ ((st69.cl (0 : ClusterId)).rx (8#7).toNat).state = 2 ∧ 0 < (3 : Nat)) ∧
    ((0 : Nat) = frameOfTag (st70.cluFrame (0 : ClusterId)) (0#2).toNat ∧ (⟨32, 0, 0, 42, 127, 262143, 0⟩ : Arrival)
      = mkArrival (32 : Nat) (0 : Nat) (0 : Nat) (42#11).toNat (127#7).toNat (0x3ffff#18).toNat ∧ 1 ≤ st70.cluState
      (0 : ClusterId) ∧ (st70.cl (0 : ClusterId)).exit = [] ∧ (32 : Nat) < 1024 ∧ (st70.cl (0 : ClusterId)).expect =
      [] ∧ (st70.cl (0 : ClusterId)).owed = [] ∧ ((0 : Nat) ≠ (st70.cl (0 : ClusterId)).frame ∨ (st70.cl (0 :
      ClusterId)).dueTo ≤ (42#11).toNat) ∧ (st70.cl (0 : ClusterId)).hold.length < 32) ∧
    ((3 : Nat) = frameOfTag (st71.cluFrame (0 : ClusterId)) (3#2).toNat ∧ (⟨1025, 3, 3, 2, 127, 213397, 0⟩ :
      Arrival) = mkArrival (1025 : Nat) (3 : Nat) (3 : Nat) (2#11).toNat (127#7).toNat (0x34195#18).toNat ∧ 1 ≤
      st71.cluState (0 : ClusterId) ∧ (st71.cl (0 : ClusterId)).exit = [] ∧ (1025 : Nat) = 1025 ∧ (st71.cl (0 :
      ClusterId)).ghost = [] ∧ (st71.cl (0 : ClusterId)).expect = []) ∧
    ((0 : Nat) = frameOfTag (st72.cluFrame (40 : ClusterId)) (0#2).toNat ∧ (⟨1025, 0, 0, 538, 45, 5, 0⟩ : Arrival) =
      mkArrival (1025 : Nat) (0 : Nat) (0 : Nat) (538#11).toNat (45#7).toNat (5#18).toNat ∧ 1 ≤ st72.cluState (40 :
      ClusterId) ∧ (st72.cl (40 : ClusterId)).exit = [] ∧ (1025 : Nat) = 1025 ∧ (st72.cl (40 : ClusterId)).ghost =
      [] ∧ (st72.cl (40 : ClusterId)).expect = [(⟨1025, 7, 0, 538, 45, 5, 0⟩ : Arrival)] ∧ sameArrival
      (⟨1025, 0, 0, 538, 45, 5, 0⟩ : Arrival) (⟨1025, 7, 0, 538, 45, 5, 0⟩ : Arrival) = true ∧ (st72.cl (40 :
      ClusterId)).owed = [] ∧ ((0 : Nat) ≠ (st72.cl (40 : ClusterId)).frame ∨ (st72.cl (40 : ClusterId)).dueTo ≤
      (538#11).toNat) ∧ (st72.cl (40 : ClusterId)).hold.length < 32) ∧
    ((0 : Nat) = frameOfTag (st1.cluFrame (0 : ClusterId)) (0#2).toNat ∧ (⟨32, 0, 0, 2, 44, 1025, 0⟩ : Arrival) =
      mkArrival (32 : Nat) (0 : Nat) (0 : Nat) (2#11).toNat (44#7).toNat (0x401#18).toNat ∧ st1.cluState (0 :
      ClusterId) = 0) := by
  and_intros <;> decide +kernel

def st73 : State :=
  withRegs [(CLU_STATUS 0, 4)]

theorem test_meets_ClusterCommitSwapsMarkedEntries :
    (st73.cluState (0 : ClusterId) = Clu.barrier ∧ (st73.cl (0 : ClusterId)).owed = [] ∧ (st73.cl (0 :
      ClusterId)).wb = [] ∧ (st73.cl (0 : ClusterId)).committed = false ∧ ((∀ kv ∈ (st73.cl (0 : ClusterId)).marks,
      kv.2 = 1))) := by
  decide +kernel

def st74 : State :=
  { withRegs [(CLU_STATUS 0, 3)] with
    clusters := [(0, { Cluster.reset with committed := true })] }

def st75 : State :=
  withRegs [(CLU_STATUS 0, 3)]

def st76 : State :=
  { withRegs [(CLU_STATUS 1, 2)] with
    clusters := [(1, { Cluster.reset with imem := [(6149, 11450945364246171718387790978)], scrubI := 5 })] }

def st77 : State :=
  { withRegs [(CLU_STATUS 1, 5)] with
    clusters := [(1, { Cluster.reset with imem := [(6144, 188171721675434624582774036234)] })] }

def st78 : State :=
  withRegs [(PWR_DOM 0, 0)]

def st79 : State :=
  withRegs [(PWR_DOM 1, 0)]

theorem test_meets_ClusterUpkeepAndStepRate :
    ((st74.cl (0 : ClusterId)).committed = true ∧ (st74.cl (0 : ClusterId)).marked = false ∧ st74.cluState (0 :
      ClusterId) ≠ 0 ∧ st74.cluState (0 : ClusterId) ≠ Clu.fault ∧ (st74.cl (0 : ClusterId)).parts = [] ∧
      st74.injected (dieOf (0 : ClusterId)) (stopIx (ringOf (0 : ClusterId)) (posOf (0 : ClusterId))) (st74.cl (0 :
      ClusterId)).frame = true) ∧
    (((st1.cl (1 : ClusterId)).committed = false ∨ (st1.cl (1 : ClusterId)).marked = true ∨ st1.cluState (1 :
      ClusterId) = 0 ∨ st1.cluState (1 : ClusterId) = Clu.fault)) ∧
    (st75.f (CLU_CTRL_SCRUB_EN (0 : ClusterId)) = 1 ∧ st75.cluState (0 : ClusterId) ≠ 0 ∧ st75.cluState (0 :
      ClusterId) ≠ Clu.fault ∧ (((st75.cl (0 : ClusterId)).scrubS < 1024 → secDecode 7 64 ((st75.cl (0 :
      ClusterId)).row 0 (st75.cl (0 : ClusterId)).scrubS) = .ok ∧ secDecode 7 64 ((st75.cl (0 : ClusterId)).row 1
      (st75.cl (0 : ClusterId)).scrubS) = .ok)) ∧ ((∀ x ∈ (st75.cl (0 : ClusterId)).stepWords (st75.cl (0 :
      ClusterId)).scrubI, secDecode 7 90 x.2 = .ok))) ∧
    (st76.f (CLU_CTRL_SCRUB_EN (1 : ClusterId)) = 1 ∧ st76.cluState (1 : ClusterId) ≠ 0 ∧ st76.cluState (1 :
      ClusterId) ≠ Clu.fault ∧ (((st76.cl (1 : ClusterId)).scrubS < 1024 → secDecode 7 64 ((st76.cl (1 :
      ClusterId)).row 0 (st76.cl (1 : ClusterId)).scrubS) = .ok ∧ secDecode 7 64 ((st76.cl (1 : ClusterId)).row 1
      (st76.cl (1 : ClusterId)).scrubS) = .ok)) ∧ (st76.cl (1 : ClusterId)).stepWords (st76.cl (1 :
      ClusterId)).scrubI = [(3, 11450945364246171718387790978)] ∧ (st76.cl (1 : ClusterId)).scrubI < 2048 ∧
      secDecode 7 90 11450945364246171718387790978 = .corrected 856404175570891906) ∧
    (st77.f (CLU_CTRL_SCRUB_EN (1 : ClusterId)) = 1 ∧ st77.cluState (1 : ClusterId) ≠ 0 ∧ st77.cluState (1 :
      ClusterId) ≠ Clu.fault ∧ (((st77.cl (1 : ClusterId)).scrubS < 1024 → secDecode 7 64 ((st77.cl (1 :
      ClusterId)).row 0 (st77.cl (1 : ClusterId)).scrubS) = .ok ∧ secDecode 7 64 ((st77.cl (1 : ClusterId)).row 1
      (st77.cl (1 : ClusterId)).scrubS) = .ok)) ∧ (st77.cl (1 : ClusterId)).stepWords (st77.cl (1 :
      ClusterId)).scrubI = [(3, 188171721675434624582774036234)] ∧ secDecode 7 90 188171721675434624582774036234 =
      .uncorrectable) ∧
    ((st1.f (CLU_CTRL_SCRUB_EN (1 : ClusterId)) = 0 ∨ st1.cluState (1 : ClusterId) = 0 ∨ st1.cluState (1 :
      ClusterId) = Clu.fault)) ∧
    (st78.cluState (0 : ClusterId) = 0 ∧ st78.domainOn ((0 : ClusterId).val / 34) = true ∧ st78.fuseFailed (0 :
      ClusterId) = false ∧ (0 : ClusterId).val ∉ st78.tst.tested) ∧
    ((st1.cluState (1 : ClusterId) ≠ 0 ∨ st1.domainOn ((1 : ClusterId).val / 34) = false ∨ st1.fuseFailed (1 :
      ClusterId) = true ∨ (1 : ClusterId).val ∈ st1.tst.tested)) ∧
    (Reached st78 (CLU_TRIM (1 : ClusterId)) ∧ (slice (0x579#32).toNat 0 11 < 600 ∨ 1400 < slice (0x579#32).toNat 0
      11)) ∧
    (Reached st79 (CLU_TRIM (40 : ClusterId)) ∧ 600 ≤ slice (600#32).toNat 0 11 ∧ slice (600#32).toNat 0 11 ≤ 1400) := by
  unfold Reached
  and_intros <;> decide +kernel

def st80 : State :=
  withRegs [(PWR_DOM 1, 0), (CLU_STATUS 40, 1), (CLU_MA_ADDR 40, 0x10707ff)]

def st81 : State :=
  withRegs [(PWR_DOM 0, 0), (CLU_STATUS 0, 1)]

def st82 : State :=
  withRegs [(PWR_DOM 0, 0), (CLU_STATUS 0, 1), (CLU_MA_ADDR 0, 0x10f8005)]

def st83 : State :=
  withRegs [(PWR_DOM 0, 0), (CLU_STATUS 0, 1), (CLU_MA_ADDR 0, 0x1161000)]

def st84 : State :=
  withRegs [(PWR_DOM 1, 0), (CLU_STATUS 40, 1), (CLU_MA_ADDR 40, 0x4180080)]

theorem test_meets_DirectStoreAccess :
    (Reached st80 (CLU_MA_CMD (40 : ClusterId)) ∧ st80.cluState (40 : ClusterId) = Clu.ready ∧ st80.billetRuns =
      false ∧ st80.f (CLU_MA_ADDR_AUTOINC (40 : ClusterId)) = 0 ∧ st80.f (CLU_MA_ADDR_ADDR (40 : ClusterId)) ≤
      storeLast (st80.f (CLU_MA_ADDR_STORE (40 : ClusterId))) ∧ slice (2#32).toNat 0 2 = 2 ∧ st80.f
      (CLU_MA_ADDR_STORE (40 : ClusterId)) = 1) ∧
    (Reached st81 (CLU_MA_CMD (0 : ClusterId)) ∧ st81.cluState (0 : ClusterId) = Clu.ready ∧ st81.billetRuns = false
      ∧ st81.f (CLU_MA_ADDR_AUTOINC (0 : ClusterId)) = 0 ∧ st81.f (CLU_MA_ADDR_ADDR (0 : ClusterId)) ≤ storeLast
      (st81.f (CLU_MA_ADDR_STORE (0 : ClusterId))) ∧ slice (0x722087b6#32).toNat 0 2 = 2 ∧ st81.f (CLU_MA_ADDR_STORE
      (0 : ClusterId)) = 0 ∧ st81.f (CLU_MA_ADDR_RAW (0 : ClusterId)) = 0) ∧
    (Reached st82 (CLU_MA_CMD (0 : ClusterId)) ∧ st82.cluState (0 : ClusterId) = Clu.ready ∧ st82.billetRuns = false
      ∧ st82.f (CLU_MA_ADDR_AUTOINC (0 : ClusterId)) = 0 ∧ st82.f (CLU_MA_ADDR_ADDR (0 : ClusterId)) ≤ storeLast
      (st82.f (CLU_MA_ADDR_STORE (0 : ClusterId))) ∧ slice (1#32).toNat 0 2 = 1 ∧ st82.f (CLU_MA_ADDR_STORE (0 :
      ClusterId)) = 1 ∧ parityOf 3 ((st82.cl (0 : ClusterId)).netRaw (st82.f (CLU_MA_ADDR_ADDR (0 : ClusterId)))) =
      0) ∧
    (Reached st83 (CLU_MA_CMD (0 : ClusterId)) ∧ (slice (0xdaafc216#32).toNat 0 2 = 1 ∨ slice (0xdaafc216#32).toNat
      0 2 = 2) ∧ st83.cluState (0 : ClusterId) = Clu.ready ∧ st83.billetRuns = false ∧ st83.f (CLU_MA_ADDR_STORE (0
      : ClusterId)) ≤ 4 ∧ storeLast (st83.f (CLU_MA_ADDR_STORE (0 : ClusterId))) < st83.f (CLU_MA_ADDR_ADDR (0 :
      ClusterId))) ∧
    (Reached st84 (CLU_MA_CMD (40 : ClusterId)) ∧ (slice (0xad7133d2#32).toNat 0 2 = 1 ∨ slice (0xad7133d2#32).toNat
      0 2 = 2) ∧ st84.cluState (40 : ClusterId) = Clu.ready ∧ st84.billetRuns = false ∧ st84.f (CLU_MA_ADDR_STORE
      (40 : ClusterId)) ≤ 4 ∧ storeLast (st84.f (CLU_MA_ADDR_STORE (40 : ClusterId))) < st84.f (CLU_MA_ADDR_ADDR (40
      : ClusterId))) ∧
    (Reached st79 (CLU_MA_CMD (40 : ClusterId)) ∧ (slice (0x282f72c2#32).toNat 0 2 = 1 ∨ slice (0x282f72c2#32).toNat
      0 2 = 2) ∧ st79.cluState (40 : ClusterId) = 0) ∧
    (Reached st79 (CLU_MA_CMD (40 : ClusterId)) ∧ (slice (0x38f8b55a#32).toNat 0 2 = 1 ∨ slice (0x38f8b55a#32).toNat
      0 2 = 2) ∧ st79.cluState (40 : ClusterId) = 0) := by
  unfold Reached
  and_intros <;> decide +kernel

def st85 : State :=
  { withRegs [(DEV_MODE, 5)] with
    seq := { Sequencer.reset with waitK := some 3 } }

def st86 : State :=
  { withRegs [(SEQ_TSTART_SEC, 9)] with
    seq := { Sequencer.reset with waitK := some 5 } }

def st87 : State :=
  { withRegs [(CLU_STATUS 67, 1), (CLU_VMAP 67, 0x10000)] with
    seq := { Sequencer.reset with inFrame := true } }

theorem test_meets_FramesStartAtTheirRelease :
    (st85.seq.waitK = some (3 : Nat) ∧ st85.mode = Mode.timed ∧ st85.seq.inFrame = false ∧ st85.f DEV_MODE_HOLD = 0
      ∧ st85.releaseAt (3 : Nat) ≤ st85.psNow ∧ RunsAlone st85) ∧
    (st86.seq.waitK = some (5 : Nat) ∧ st86.psNow < st86.releaseAt (5 : Nat)) ∧
    (st1.cameAt (2 : Fin 4) (stopIx (0 : Fin 8) (2 : Fin 36)) = []) ∧
    (((st1.setDie (1 : Fin 4)
      { st1.die (1 : Fin 4) with came := [(stopIx (6 : Fin 8) (35 : Fin 36), [9146012597813248, 7])] })).cameAt (1 :
      Fin 4) (stopIx (6 : Fin 8) (35 : Fin 36)) = 9146012597813248 :: [7] ∧ markKind 9146012597813248 = 1 ∧ slice
      9146012597813248 16 16 = (1#16).toNat ∧ bitOf 9146012597813248 15 = false ∧ (((st1.setDie (1 : Fin 4)
      { st1.die (1 : Fin 4) with came := [(stopIx (6 : Fin 8) (35 : Fin 36), [9146012597813248, 7])] })).seq.inFrame
      = false ∨ (1#16).toNat ≠ ((st1.setDie (1 : Fin 4)
      { st1.die (1 : Fin 4) with came := [(stopIx (6 : Fin 8) (35 : Fin 36), [9146012597813248, 7])] })).frameNo %
      65536 ∨ Sparse.get 0 (((st1.setDie (1 : Fin 4)
      { st1.die (1 : Fin 4) with came := [(stopIx (6 : Fin 8) (35 : Fin 36), [9146012597813248, 7])] })).die (1 :
      Fin 4)).release (stopIx (6 : Fin 8) (35 : Fin 36)) = ((st1.setDie (1 : Fin 4)
      { st1.die (1 : Fin 4) with came := [(stopIx (6 : Fin 8) (35 : Fin 36), [9146012597813248, 7])] })).frameNo +
      1)) ∧
    (((st87.setDie (0 : Fin 4)
      { st87.die (0 : Fin 4) with came := [(stopIx (1 : Fin 8) (35 : Fin 36), [9146012597780480, 7])] })).cameAt (0
      : Fin 4) (stopIx (1 : Fin 8) (35 : Fin 36)) = 9146012597780480 :: [7] ∧ markKind 9146012597780480 = 1 ∧ slice
      9146012597780480 16 16 = (0#16).toNat ∧ bitOf 9146012597780480 15 = true ∧ ((st87.setDie (0 : Fin 4)
      { st87.die (0 : Fin 4) with came := [(stopIx (1 : Fin 8) (35 : Fin 36), [9146012597780480, 7])] })).seq.inFrame
      = true ∧ (0#16).toNat = ((st87.setDie (0 : Fin 4)
      { st87.die (0 : Fin 4) with came := [(stopIx (1 : Fin 8) (35 : Fin 36), [9146012597780480, 7])] })).frameNo %
      65536 ∧ Sparse.get 0 (((st87.setDie (0 : Fin 4)
      { st87.die (0 : Fin 4) with came := [(stopIx (1 : Fin 8) (35 : Fin 36), [9146012597780480, 7])] })).die (0 :
      Fin 4)).release (stopIx (1 : Fin 8) (35 : Fin 36)) ≠ ((st87.setDie (0 : Fin 4)
      { st87.die (0 : Fin 4) with came := [(stopIx (1 : Fin 8) (35 : Fin 36), [9146012597780480, 7])] })).frameNo +
      1 ∧ isBridge (35 : Fin 36) = false ∧ ((st87.setDie (0 : Fin 4)
      { st87.die (0 : Fin 4) with came := [(stopIx (1 : Fin 8) (35 : Fin 36), [9146012597780480, 7])] })).isMapped
      (clusterAt (0 : Fin 4) (1 : Fin 8) (35 : Fin 36)) = true ∧ ((st87.setDie (0 : Fin 4)
      { st87.die (0 : Fin 4) with came := [(stopIx (1 : Fin 8) (35 : Fin 36), [9146012597780480, 7])] })).cluState
      (clusterAt (0 : Fin 4) (1 : Fin 8) (35 : Fin 36)) = Clu.ready ∧ (((st87.setDie (0 : Fin 4)
      { st87.die (0 : Fin 4) with came := [(stopIx (1 : Fin 8) (35 : Fin 36), [9146012597780480, 7])] })).cl
      (clusterAt (0 : Fin 4) (1 : Fin 8) (35 : Fin 36))).stepWords 0 = []) := by
  unfold RunsAlone
  and_intros <;> decide +kernel

def st88 : State :=
  { withRegs [(CLU_VMAP 300, 0x10000)] with
    seq := { Sequencer.reset with inFrame := true, marks := [(300, 1)] } }

def st89 : State :=
  { withRegs [(CLU_VMAP 0, 0x10000)] with
    seq := { Sequencer.reset with inFrame := true } }

def st90 : State :=
  { State.reset with
    seq := { Sequencer.reset with inFrame := true } }

def st91 : State :=
  { withRegs [(CLU_VMAP 1, 0x10000)] with
    seq := { Sequencer.reset with inFrame := true } }

def st92 : State :=
  withRegs [(SEQ_INMASK 0, 33)]

def st93 : State :=
  { withRegs [(SEQ_INMASK 0, 33)] with
    seq := { Sequencer.reset with inFrame := true, timer := some 30171767 } }

def st94 : State :=
  { withRegs [(DEV_MODE, 5), (SEQ_INMASK 1, 33)] with
    seq := { Sequencer.reset with inFrame := true, timer := some 7 } }

theorem test_meets_EndMarkersAndTheLocalBarrier :
    (st88.seq.inFrame = true ∧ (1 : Fin 4).val ∈ st88.mappedDies ∧ st88.unmarked (1 : Fin 4) = none ∧ st88.ackDone
      (1 : Fin 4) = true) ∧
    (st89.seq.inFrame = true ∧ (0 : Fin 4).val ∈ st89.mappedDies ∧ st89.unmarked (0 : Fin 4) ≠ none) ∧
    (st90.seq.inFrame = true ∧ st90.seq.local_ = false ∧ ((∀ d ∈ st90.mappedDies, bitOf st90.seq.dies d = true)) ∧
      st90.outMissing st90.frameNo = none ∧ RunsAlone st90) ∧
    (st91.seq.inFrame = true ∧ (∃ d ∈ st91.mappedDies, bitOf st91.seq.dies d = false)) ∧
    (st1.inMask (0 : LaneId) = false) ∧
    (st92.inMask (5 : LaneId) = true ∧ st92.seq.inFrame = false ∧ st92.seq.notices = [] ∧ (1#16).toNat =
      (st92.frameNo + 1) % 65536) ∧
    (st92.inMask (0 : LaneId) = true) ∧
    (st93.inMask (5 : LaneId) = true ∧ st93.seq.inFrame = true ∧ st93.seq.halted = false ∧ st93.seq.timer.isSome =
      true ∧ st93.seq.notices = [] ∧ (0#16).toNat = st93.frameNo % 65536) ∧
    (st94.inMask (37 : LaneId) = true ∧ st94.seq.inFrame = true ∧ st94.seq.halted = false ∧ st94.seq.timer.isSome =
      true ∧ st94.seq.notices = [] ∧ (0xefeb#16).toNat ≠ st94.frameNo % 65536 ∧ st94.framesMode = true) := by
  unfold RunsAlone
  and_intros <;> decide +kernel

def st95 : State :=
  { withRegs [(SEQ_INMASK 0, 0xffffffff)] with
    seq := { Sequencer.reset with inFrame := true, local_ := true } }

def st96 : State :=
  { withRegs [(DEV_MODE, 52)] with
    seq := { Sequencer.reset with inFrame := true, local_ := true } }

def st97 : State :=
  { withRegs [(DEV_MODE, 60)] with
    seq := { Sequencer.reset with inFrame := true, local_ := true } }

def st98 : State :=
  { withRegs [(DEV_MODE, 54)] with
    seq := { Sequencer.reset with inFrame := true, local_ := true } }

def st99 : State :=
  { State.reset with
    seq := { Sequencer.reset with inFrame := true, timer := some 7 },
    tmk := { Tidemark.reset with steered := 52 } }

theorem test_meets_BarriersCompleteOrTimeOut :
    (st95.seq.inFrame = true ∧ st95.seq.local_ = true ∧ st95.f DEV_MODE_HOLD = 0 ∧ st95.lanesMissing ≠ []) ∧
    (st96.seq.inFrame = true ∧ st96.seq.local_ = true ∧ st96.f DEV_MODE_HOLD = 0 ∧ st96.lanesMissing = [] ∧
      RunsAlone st96 ∧ st96.frd.detach = false ∧ st96.frd.join = false ∧ st96.frd.mismatch = false ∧ st96.frd.leave
      = false ∧ st96.frd.ckpt = none ∧ st96.frameNo < 2 ^ 64 - 1 ∧ st96.seq.brkFrame = false ∧ st96.f
      SEQ_CFG_FRAME_EN = 0 ∧ st96.mode = Mode.run ∧ st96.f DEV_MODE_PENDING = 0) ∧
    (st97.seq.inFrame = true ∧ st97.seq.local_ = true ∧ st97.f DEV_MODE_HOLD = 0 ∧ st97.lanesMissing = [] ∧
      RunsAlone st97 ∧ st97.frd.detach = false ∧ st97.frd.join = false ∧ st97.frd.mismatch = false ∧ st97.frd.leave
      = false ∧ st97.frd.ckpt = none ∧ st97.frameNo < 2 ^ 64 - 1 ∧ st97.seq.brkFrame = false ∧ st97.f
      SEQ_CFG_FRAME_EN = 0 ∧ st97.framesMode = true ∧ st97.f DEV_MODE_PENDING = 1 ∧ st97.f DEV_MODE_TARGET =
      Mode.idle) ∧
    (st98.seq.inFrame = true ∧ st98.seq.local_ = true ∧ st98.f DEV_MODE_HOLD = 0 ∧ st98.lanesMissing = [] ∧
      RunsAlone st98 ∧ st98.frd.detach = false ∧ st98.frd.join = false ∧ st98.frd.mismatch = false ∧ st98.frd.leave
      = false ∧ st98.frd.ckpt = none ∧ st98.frameNo < 2 ^ 64 - 1 ∧ st98.seq.brkFrame = false ∧ st98.f
      SEQ_CFG_FRAME_EN = 0 ∧ st98.mode = Mode.step ∧ st98.f DEV_MODE_PENDING = 0 ∧ st98.seq.cmd ≠ 2) ∧
    (st99.seq.inFrame = true ∧ st99.f DEV_MODE_HOLD = 0 ∧ st99.timerOver = true) ∧
    (st90.seq.inFrame = true ∧ st90.f DEV_MODE_HOLD = 0 ∧ st90.timerOver = false) := by
  unfold RunsAlone
  and_intros <;> decide +kernel

def st100 : State :=
  withRegs [(CLU_VMAP 0, 0x10000)]

def st101 : State :=
  withRegs [(CLU_VMAP 40, 0x10000)]

def st102 : State :=
  { withRegs [(CLU_STATUS 0, 0x7ff03), (CLU_VMAP 0, 0x10000)] with
    seq := { Sequencer.reset with haltSent := true } }

def st103 : State :=
  withRegs [(CLU_VMAP 1, 0x10000)]

def st104 : State :=
  { withRegs [(SEQ_FRAME_NO, 0xffff), (CLU_STATUS 40, 261), (CLU_VMAP 40, 0x10000)] with
    clusters := [(40, { Cluster.reset with frame := 65535 })],
    seq := { Sequencer.reset with inFrame := true } }

def st105 : State :=
  { withRegs [(DEV_MODE, 6)] with
    seq := { Sequencer.reset with inFrame := true, halted := true } }

def st106 : State :=
  { withRegs [(DEV_MODE, 6)] with
    seq := { Sequencer.reset with halted := true } }

theorem test_meets_HaltsResumesAndSteps :
    (st100.isMapped (0 : ClusterId) = true ∧ st100.cameAt (dieOf (0 : ClusterId)) (stopIx (ringOf (0 : ClusterId))
      (posOf (0 : ClusterId))) = []) ∧
    (st101.isMapped (40 : ClusterId) = true ∧ st101.cameAt (dieOf (40 : ClusterId)) (stopIx (ringOf (40 :
      ClusterId)) (posOf (40 : ClusterId))) = []) ∧
    (((st102.setDie (dieOf (0 : ClusterId))
      { st102.die (dieOf (0 : ClusterId)) with came := [(stopIx (ringOf (0 : ClusterId)) (posOf (0 : ClusterId)), [9146287476113408, 7])] })).isMapped
      (0 : ClusterId) = true ∧ ((st102.setDie (dieOf (0 : ClusterId))
      { st102.die (dieOf (0 : ClusterId)) with came := [(stopIx (ringOf (0 : ClusterId)) (posOf (0 : ClusterId)), [9146287476113408, 7])] })).cameAt
      (dieOf (0 : ClusterId)) (stopIx (ringOf (0 : ClusterId)) (posOf (0 : ClusterId))) = 9146287476113408 :: [7] ∧
      markKind 9146287476113408 = 2 ∧ ((st102.setDie (dieOf (0 : ClusterId))
      { st102.die (dieOf (0 : ClusterId)) with came := [(stopIx (ringOf (0 : ClusterId)) (posOf (0 : ClusterId)), [9146287476113408, 7])] })).seq.haltSent
      = true ∧ ((st102.setDie (dieOf (0 : ClusterId))
      { st102.die (dieOf (0 : ClusterId)) with came := [(stopIx (ringOf (0 : ClusterId)) (posOf (0 : ClusterId)), [9146287476113408, 7])] })).canIssue
      (0 : ClusterId) = true ∧ (((st102.setDie (dieOf (0 : ClusterId))
      { st102.die (dieOf (0 : ClusterId)) with came := [(stopIx (ringOf (0 : ClusterId)) (posOf (0 : ClusterId)), [9146287476113408, 7])] })).cl
      (0 : ClusterId)).wb = []) ∧
    (((st103.setDie (dieOf (1 : ClusterId))
      { st103.die (dieOf (1 : ClusterId)) with came := [(stopIx (ringOf (1 : ClusterId)) (posOf (1 : ClusterId)), [9146287476113408, 7])] })).isMapped
      (1 : ClusterId) = true ∧ ((st103.setDie (dieOf (1 : ClusterId))
      { st103.die (dieOf (1 : ClusterId)) with came := [(stopIx (ringOf (1 : ClusterId)) (posOf (1 : ClusterId)), [9146287476113408, 7])] })).cameAt
      (dieOf (1 : ClusterId)) (stopIx (ringOf (1 : ClusterId)) (posOf (1 : ClusterId))) = 9146287476113408 :: [7] ∧
      markKind 9146287476113408 = 2 ∧ ((st103.setDie (dieOf (1 : ClusterId))
      { st103.die (dieOf (1 : ClusterId)) with came := [(stopIx (ringOf (1 : ClusterId)) (posOf (1 : ClusterId)), [9146287476113408, 7])] })).seq.haltSent
      = false) ∧
    (((st104.setDie (dieOf (40 : ClusterId))
      { st104.die (dieOf (40 : ClusterId)) with came := [(stopIx (ringOf (40 : ClusterId)) (posOf (40 : ClusterId)), [9146562354020352, 7])] })).isMapped
      (40 : ClusterId) = true ∧ ((st104.setDie (dieOf (40 : ClusterId))
      { st104.die (dieOf (40 : ClusterId)) with came := [(stopIx (ringOf (40 : ClusterId)) (posOf (40 : ClusterId)), [9146562354020352, 7])] })).cameAt
      (dieOf (40 : ClusterId)) (stopIx (ringOf (40 : ClusterId)) (posOf (40 : ClusterId))) = 9146562354020352 :: [7]
      ∧ markKind 9146562354020352 = 3 ∧ ((st104.setDie (dieOf (40 : ClusterId))
      { st104.die (dieOf (40 : ClusterId)) with came := [(stopIx (ringOf (40 : ClusterId)) (posOf (40 : ClusterId)), [9146562354020352, 7])] })).cluState
      (40 : ClusterId) = Clu.halted ∧ ((st104.setDie (dieOf (40 : ClusterId))
      { st104.die (dieOf (40 : ClusterId)) with came := [(stopIx (ringOf (40 : ClusterId)) (posOf (40 : ClusterId)), [9146562354020352, 7])] })).seq.inFrame
      = true ∧ ((st104.setDie (dieOf (40 : ClusterId))
      { st104.die (dieOf (40 : ClusterId)) with came := [(stopIx (ringOf (40 : ClusterId)) (posOf (40 : ClusterId)), [9146562354020352, 7])] })).seq.halted
      = false ∧ ((st104.setDie (dieOf (40 : ClusterId))
      { st104.die (dieOf (40 : ClusterId)) with came := [(stopIx (ringOf (40 : ClusterId)) (posOf (40 : ClusterId)), [9146562354020352, 7])] })).seq.haltSent
      = false ∧ (((st104.setDie (dieOf (40 : ClusterId))
      { st104.die (dieOf (40 : ClusterId)) with came := [(stopIx (ringOf (40 : ClusterId)) (posOf (40 : ClusterId)), [9146562354020352, 7])] })).cl
      (40 : ClusterId)).frame = ((st104.setDie (dieOf (40 : ClusterId))
      { st104.die (dieOf (40 : ClusterId)) with came := [(stopIx (ringOf (40 : ClusterId)) (posOf (40 : ClusterId)), [9146562354020352, 7])] })).frameNo
      ∧ (((st104.setDie (dieOf (40 : ClusterId))
      { st104.die (dieOf (40 : ClusterId)) with came := [(stopIx (ringOf (40 : ClusterId)) (posOf (40 : ClusterId)), [9146562354020352, 7])] })).seq.cmd
      ≠ 1 ∨ (((st104.setDie (dieOf (40 : ClusterId))
      { st104.die (dieOf (40 : ClusterId)) with came := [(stopIx (ringOf (40 : ClusterId)) (posOf (40 : ClusterId)), [9146562354020352, 7])] })).cl
      (40 : ClusterId)).budget.isSome = true)) ∧
    (Reached st105 SEQ_STEP_CMD ∧ st105.mode = Mode.step ∧ st105.seq.halted = true ∧ st105.f DEV_MODE_HOLD = 0 ∧
      st105.f SEQ_STATUS_STEP_BUSY = 0 ∧ (77#16) ≠ 0 ∧ st105.seq.inFrame = true) ∧
    (Reached st106 SEQ_STEP_CMD ∧ st106.mode = Mode.step ∧ st106.seq.halted = true ∧ st106.f DEV_MODE_HOLD = 0 ∧
      st106.f SEQ_STATUS_STEP_BUSY = 0 ∧ (1#16) ≠ 0 ∧ st106.seq.inFrame = false ∧ RunsAlone st106) ∧
    (Reached st106 SEQ_STEP_CMD ∧ st106.mode = Mode.step ∧ st106.seq.halted = true ∧ st106.f DEV_MODE_HOLD = 0 ∧
      st106.f SEQ_STATUS_STEP_BUSY = 0) ∧
    (Reached st1 SEQ_STEP_CMD ∧ (st1.mode ≠ Mode.step ∨ st1.seq.halted = false ∨ st1.f DEV_MODE_HOLD = 1 ∨ st1.f
      SEQ_STATUS_STEP_BUSY = 1)) := by
  unfold RunsAlone Reached
  and_intros <;> decide +kernel

def st107 : State :=
  { withRegs [(DEV_MODE, 3)] with
    paths := [(9, { PathState.reset with heldTag := some 67108872, heldLo := (0x3de890d8#32), answer := (5#32) })] }

def st108 : State :=
  withRegs [(DEV_MODE, 5)]

theorem test_meets_SequencerWriteGuards :
    (Reached st107 (SEQ_FRAME_NO + 4) ∧ st107.mode = Mode.idle ∧ (st107.path (9 : Path)).heldTag = some
      SEQ_FRAME_NO) ∧
    (Reached st22 SEQ_FRAME_NO ∧ st22.mode = Mode.idle) ∧
    (Reached st1 SEQ_FRAME_NO ∧ st1.mode ≠ Mode.idle) ∧
    ((BitVec.ofNat 28 (SEQ_INMASK 5)).toNat ∈ scheduleRegs ∧ Reached st108 (BitVec.ofNat 28 (SEQ_INMASK 5)).toNat ∧
      st108.mode = Mode.timed) ∧
    ((BitVec.ofNat 28 SEQ_TLEAD).toNat ∈ scheduleRegs ∧ Reached st1 (BitVec.ofNat 28 SEQ_TLEAD).toNat ∧ st1.mode ≠
      Mode.timed ∧ (BitVec.ofNat 28 SEQ_TLEAD).toNat ∈ [SEQ_TSTART_NS, SEQ_TPER_NS, SEQ_TPER_FRAC, SEQ_TLEAD]) ∧
    ((BitVec.ofNat 28 SEQ_TSTART_SEC).toNat ∈ scheduleRegs ∧ Reached st1 (BitVec.ofNat 28 SEQ_TSTART_SEC).toNat ∧
      st1.mode ≠ Mode.timed ∧ (BitVec.ofNat 28 SEQ_TSTART_SEC).toNat = SEQ_TSTART_SEC) ∧
    (Reached st1 SEQ_BTO) ∧
    (((at28 (SEQ_TSTART_SEC + 4)).toNat ∈ scheduleRegs ∧ Reached upperHalf (at28 (SEQ_TSTART_SEC + 4)).toNat ∧
      upperHalf.mode ≠ Mode.timed ∧ (at28 (SEQ_TSTART_SEC + 4)).toNat = SEQ_TSTART_SEC + 4 ∧ (upperHalf.path (3 :
      Path)).heldTag = some SEQ_TSTART_SEC)) := by
  unfold Reached
  and_intros <;> decide +kernel

def st109 : State :=
  { withRegs [(PWR_DOM 33, 0)] with
    mlr := [(1, { Millrace.reset with inj := [(37, [(2394739302880925, 1)])] })] }

def st110 : State :=
  { withRegs [(PWR_DOM 35, 0)] with
    mlr := [(3, { Millrace.reset with link := [(143, [2291388581624569])], inj := [(143, [(4644343290565309, 1)])] })] }

def st111 : State :=
  withRegs [(PWR_DOM 35, 0)]

def st112 : State :=
  { withRegs [(PWR_DOM 35, 0)] with
    mlr := [(3, { Millrace.reset with link := [(142, [2469504858661740])] })] }

def st113 : State :=
  { withRegs [(PWR_DOM 9, 0), (PWR_DOM 33, 0), (MLR_GEN_STATUS 1, 274), (CLU_STATUS 306, 2)] with
    mlr := [(1, { Millrace.reset with link := [(0, [4644342419151970, 2533276253400975]), (1, [4785075694115643]), (2, [7036875589900843, 7113843823022791]), (3, [4824658276915504]), (36, [4683925165889612, 4721306684133483]), (37, [6832366673958782]), (70, [4644340764530373, 4683925600472679]), (71, [6896138331552783, 4503603628395910]), (72, [2432121205668738]), (73, [6935725210893068, 4503603793382406]), (74, [2254000479876672, 4683925930445671]), (75, [4862042144372214]), (108, [2254002794444225, 6898338211988992]), (109, [2469505009677731]), (142, [4721309202003354, 2535476239271260]), (143, [4644339168899389, 2533274970139415])], exits := [(0, [4644342419151970]), (1, [4824658276915504, 4503601152774542]), (36, [4644340764530373, 4683925600472679]), (37, [6935725210893068]), (72, [2254002794444225, 6898338211988992]), (73, [4644339168899389, 2533274970139415]), (108, [6973102894034302]), (109, [4683919749238897, 7076461799482088]), (592, [6832367864745535]), (593, [4683920237643879, 4580566603374033]), (594, [6898336906479552, 4543187561987568])], inbound := [(0, [⟨16, 4644342419151970⟩]), (1, [⟨16, 6935725210893068⟩]), (2, [⟨16, 6973102894034302⟩]), (3, [⟨16, 4683920237643879⟩]), (4, [⟨16, 4721306337568218⟩]), (5, [⟨16, 6757600461003650⟩]), (6, [⟨16, 2251802360919348⟩]), (7, [⟨16, 7076462086082929⟩]), (9, [⟨16, 4646538383958729⟩]), (11, [⟨16, 4787275009290506⟩]), (14, [⟨16, 7076460060400890⟩]), (15, [⟨16, 6973104372021109⟩]), (16, [⟨16, 2572861541454970⟩]), (17, [⟨16, 6755400213776819⟩]), (18, [⟨16, 4787279244780279⟩]), (19, [⟨16, 4503605799288517⟩])] })] }

def st114 : State :=
  { withRegs [(PWR_DOM 9, 0), (PWR_DOM 33, 0), (MLR_GEN_STATUS 1, 2), (CLU_STATUS 306, 2)] with
    mlr := [(1, { Millrace.reset with link := [(2, [4503602250524632]), (36, [4505804838574565]), (37, [6896138449571489]), (72, [2610245143584903]), (74, [2535479772042139]), (142, [6935719366401101])], exits := [(0, [4787275016032312, 6755403936441368]), (1, [7039077846442196]), (36, [2432125171075038]), (37, [4644343438285318, 2392542622321202]), (72, [6757601539277468]), (73, [2328771725350480, 6755400238908677]), (108, [4785079604576371]), (109, [4787277341986012]), (592, [2328765918387830]), (593, [4644342756166379, 7039073784216348]), (594, [4505798714448294])], inbound := [(0, [⟨16, 4787275016032312⟩]), (1, [⟨16, 4644343438285318⟩]), (2, [⟨16, 4785079604576371⟩]), (3, [⟨16, 4644342756166379⟩]), (4, [⟨16, 2291386361779074⟩]), (5, [⟨16, 6935720005859513⟩]), (9, [⟨16, 4721306514315346⟩]), (12, [⟨16, 6935720738017521⟩]), (13, [⟨16, 6896138965655228⟩]), (14, [⟨16, 4644342115958863⟩]), (18, [⟨16, 2328766935910644⟩]), (19, [⟨16, 4644343534430715⟩]), (20, [⟨16, 2610245522061284⟩])] })] }

def st115 : State :=
  { withRegs [(PWR_DOM 1, 0), (PWR_DOM 32, 0), (MLR_GEN_STATUS 0, 289), (CLU_STATUS 34, 2)] with
    mlr := [(0, { Millrace.reset with tbl := [(154624, 9223372105580099464)], link := [(36, [4505804739245568, 6935719371644731]), (70, [4503603094221711, 6935723191802956]), (71, [6935721496243724, 6832365640030966]), (72, [2394739310521611]), (73, [6935721022745631, 2251801863787553]), (74, [6757603124046666]), (75, [2535475015674506, 4644340839813646]), (108, [2328771954271605, 2394738739155238]), (142, [4721306637165668, 4646542549034305]), (143, [2392537552610300])] })] }

def st116 : State :=
  { withRegs [(PWR_DOM 35, 0)] with
    mlr := [(3, { Millrace.reset with exits := [(108, [6935723903098910])] })] }

def st117 : State :=
  { withRegs [(PWR_DOM 35, 0)] with
    mlr := [(3, { Millrace.reset with half := 1, prevGen := 1, behind := [(18, 1)], link := [(1, [7113845235539401]), (2, [4683920148277773]), (37, [6973103437759367]), (70, [6973105490858020]), (71, [2291387033148630]), (108, [2254003707619182]), (109, [4505803427968165]), (142, [2328768338614170]), (143, [2533275260822781])], exits := [(0, [7036875039733638, 2254004762109459]), (1, [2392540150894716, 6794987680588857]), (36, [6973105490858020, 2291385985400121]), (37, [4862045212971154]), (72, [2254003707619182]), (73, [2533275260822781]), (108, [2610245266285393]), (109, [7039076035148928, 2291387798491202]), (592, [7036876910804065, 6755402939705723]), (593, [7076457256342192, 2291387769464059]), (594, [7039078058021917, 6757599789334464])] })] }

def st118 : State :=
  { withRegs [(PWR_DOM 33, 0)] with
    mlr := [(1, { Millrace.reset with tbl := [(223233, 9223373089123986714)], half := 1, link := [(72, [2291385067618289]), (75, [6898338185209143]), (108, [6896141230146354]), (109, [7076460867879620]), (142, [4721306882416875])], exits := [(0, [2291386629053453]), (1, [6935723138318147, 2533276917616719]), (36, [4580566478988095]), (37, [4683919960556438, 4580568678346047]), (72, [6896141230146354]), (73, [7076458380797205]), (108, [6973105827760061, 4683925433987998]), (109, [7113840562694956, 4721306074601041]), (592, [7039077636285706, 7076459366970719]), (593, [6755403033004548, 6935725568956830]), (594, [2328768609708890])], inbound := [(1, [⟨16, 4683919960556438⟩]), (2, [⟨16, 6973105827760061⟩]), (3, [⟨16, 6755403033004548⟩]), (4, [⟨16, 4644343359031915⟩]), (6, [⟨16, 2572859997436100⟩]), (9, [⟨16, 4503603753493472⟩]), (10, [⟨16, 2251802299606597⟩]), (11, [⟨16, 2328766478592820⟩]), (12, [⟨16, 2254000014955567⟩]), (13, [⟨16, 4543188024399197⟩]), (14, [⟨16, 2533274836277527⟩]), (15, [⟨16, 4505799203265263⟩]), (16, [⟨16, 7039074314944723⟩]), (17, [⟨16, 2291383614276438⟩]), (18, [⟨16, 6973108932577379⟩]), (19, [⟨16, 4785078973133180⟩]), (20, [⟨16, 4721305656947400⟩])] })] }

def st119 : State :=
  { withRegs [(PWR_DOM 33, 0), (MLR_GEN_STATUS 1, 274)] with
    mlr := [(1, { Millrace.reset with tbl := [(147456, 9223374553710837609)], inj := [(72, [(4646536523712622, 1), (6757598699861807, 1), (2328768039353772, 0), (7076456951163943, 1), (4824657165382238, 0), (2291384554568359, 1), (4824659190539908, 0), (4721302981357191, 0), (7113846579027593, 1), (2392539385439814, 0), (7036878675504042, 1), (7076463090047245, 0), (4543188333847190, 0), (6896140917477299, 1), (7113846401194230, 0), (2392541353517024, 1), (6898337707740873, 1), (4646537923269998, 1), (4721308859483153, 1), (4646539950000751, 0), (4785076299715296, 0), (2469506804940516, 1), (4503605495645967, 0), (4824662736270028, 0), (2432123317795505, 1), (7076460468765864, 1), (2251801147322930, 1), (4646539646695288, 1), (2533278146307260, 1), (4543185435815463, 0), (2291385651868985, 0), (2254002108130378, 1)])], inbound := [(2, [⟨16, 4785076319903227⟩])] })] }

def st120 : State :=
  { withRegs [(PWR_DOM 35, 0)] with
    mlr := [(3, { Millrace.reset with exits := [(594, [4785080921022506])] })] }

def st121 : State :=
  { withRegs [(PWR_DOM 32, 0)] with
    mlr := [(0, { Millrace.reset with link := [(0, [4646537947353170]), (1, [7036879432082300, 2533275186438369]), (2, [7076458432371879, 7113843833435106]), (3, [6755402096046077]), (36, [2291388093743977, 2291387951192614]), (37, [6755404214277866]), (72, [2328769276284296])], exits := [(0, [4646537947353170]), (1, [6755402096046077, 6935724007933689]), (36, [7039079273491074, 7076458230268098]), (37, [4824659401819981]), (72, [4683920798860126]), (73, [2469505224516021, 2572859169994179]), (108, [4683920523270886]), (109, [2254004967733962, 6935721041547723]), (592, [6757603470012700, 4785075171215202]), (593, [4543187901698699]), (594, [2251800252238441])], inbound := [(0, [⟨16, 4646537947353170⟩]), (1, [⟨16, 4824659401819981⟩]), (2, [⟨16, 4683920523270886⟩]), (3, [⟨16, 4543187901698699⟩]), (5, [⟨16, 4721305996096710⟩]), (6, [⟨16, 7036875914555296⟩]), (7, [⟨16, 7076459081268802⟩]), (9, [⟨16, 2469506689468690⟩]), (10, [⟨16, 7076460981666004⟩]), (11, [⟨16, 4862041027482934⟩]), (12, [⟨16, 4646537313438007⟩]), (14, [⟨16, 6973103104939865⟩]), (16, [⟨16, 4644343275321358⟩]), (17, [⟨16, 6757603048501230⟩]), (18, [⟨16, 2535479156966509⟩]), (20, [⟨16, 2469505489767862⟩])] })] }

def st122 : State :=
  { withRegs [(PWR_DOM 32, 0), (MLR_GEN_STATUS 0, 18)] with
    mlr := [(0, { Millrace.reset with tbl := [(1185794, 9223373406954267331)], half := 1, exits := [(593, [2572863258513036])] })] }

def st123 : State :=
  { withRegs [(PWR_DOM 35, 0), (PWR_DOM 39, 0)] with
    mlr := [(3, { Millrace.reset with cross := [(19, [⟨1, 2533275125837216⟩])] })] }

def st124 : State :=
  { withRegs [(PWR_DOM 32, 0)] with
    mlr := [(0, { Millrace.reset with cross := [(16, [⟨11, 2328767313225974⟩])] })] }

def st125 : State :=
  { withRegs [(PWR_DOM 32, 0), (HBC_WACK 0, 0x20000)] with
    seq := { Sequencer.reset with acks := [(1, 1)] } }

def st126 : State :=
  withRegs [(PWR_DOM 32, 0)]

theorem test_meets_FlitsMoveByTheirTables :
    (st109.domainOn (32 + (1 : Fin 4)) = true ∧ st109.injQueue (1 : Fin 4) (stopIx (0 : Fin 8) (18 : Fin 36))
      (ofBool true) = ((2394739302880925, 1) : Nat × Nat) :: ([] : List (Nat × Nat)) ∧ st109.againAt (1 : Fin 4)
      (stopIx (0 : Fin 8) (18 : Fin 36)) (ofBool true) = [] ∧ (st109.linkAt (1 : Fin 4) (stopIx (0 : Fin 8) (18 :
      Fin 36)) (ofBool true)).filter (passes (18 : Fin 36)) = [] ∧ isScheduled ((2394739302880925, 1) : Nat × Nat).1
      = true ∧ ((isBridge (nextPos (18 : Fin 36) (ofBool true)) = false ∨ flitDst ((2394739302880925, 1) : Nat ×
      Nat).1 ≠ nextPos (18 : Fin 36) (ofBool true)))) ∧
    (st110.domainOn (32 + (3 : Fin 4)) = true ∧ st110.injQueue (3 : Fin 4) (stopIx (1 : Fin 8) (35 : Fin 36))
      (ofBool true) = ((4644343290565309, 1) : Nat × Nat) :: ([] : List (Nat × Nat)) ∧ st110.againAt (3 : Fin 4)
      (stopIx (1 : Fin 8) (35 : Fin 36)) (ofBool true) = [] ∧ st110.linkAt (3 : Fin 4) (stopIx (1 : Fin 8) (35 : Fin
      36)) (ofBool true) = 2291388581624569 :: [] ∧ passes (35 : Fin 36) 2291388581624569 = true ∧ ((isBridge
      (nextPos (35 : Fin 36) (ofBool true)) = false ∨ flitDst 2291388581624569 ≠ nextPos (35 : Fin 36) (ofBool
      true)))) ∧
    (st111.domainOn (32 + (3 : Fin 4)) = true ∧ (0x18a40038ba069f#54).toNat ∉ st111.linkAt (3 : Fin 4) (stopIx (1 :
      Fin 8) (1 : Fin 36)) (ofBool false)) ∧
    (st112.domainOn (32 + (3 : Fin 4)) = true ∧ (0x8c60067df236c#54).toNat ∈ st112.linkAt (3 : Fin 4) (stopIx (1 :
      Fin 8) (35 : Fin 36)) (ofBool false) ∧ isBridge (35 : Fin 36) = false ∧ flitType (0x8c60067df236c#54).toNat =
      1 ∧ flitDst (0x8c60067df236c#54).toNat = (35 : Fin 36) ∧ st112.testsRing (3 : Fin 4) (stopIx (1 : Fin 8) (35 :
      Fin 36)) = false ∧ st112.clusterOn (clusterAt (3 : Fin 4) (1 : Fin 8) (35 : Fin 36)) = false) ∧
    (st113.domainOn (32 + (1 : Fin 4)) = true ∧ (0x8020061ed3640#54).toNat ∈ st113.linkAt (1 : Fin 4) (stopIx (1 :
      Fin 8) (1 : Fin 36)) (ofBool false) ∧ isBridge (1 : Fin 36) = false ∧ flitType (0x8020061ed3640#54).toNat = 1
      ∧ flitDst (0x8020061ed3640#54).toNat = (1 : Fin 36) ∧ st113.testsRing (1 : Fin 4) (stopIx (1 : Fin 8) (1 : Fin
      36)) = false ∧ st113.clusterOn (clusterAt (1 : Fin 4) (1 : Fin 8) (1 : Fin 36)) = true ∧ st113.halfFor (1 :
      Fin 4) (stopIx (1 : Fin 8) (1 : Fin 36)) (flitGen (0x8020061ed3640#54).toNat) = none) ∧
    (st114.domainOn (32 + (1 : Fin 4)) = true ∧ (0x902016325d39b#54).toNat ∈ st114.linkAt (1 : Fin 4) (stopIx (1 :
      Fin 8) (1 : Fin 36)) (ofBool false) ∧ isBridge (1 : Fin 36) = false ∧ flitType (0x902016325d39b#54).toNat = 1
      ∧ flitDst (0x902016325d39b#54).toNat = (1 : Fin 36) ∧ st114.testsRing (1 : Fin 4) (stopIx (1 : Fin 8) (1 : Fin
      36)) = false ∧ st114.clusterOn (clusterAt (1 : Fin 4) (1 : Fin 8) (1 : Fin 36)) = true ∧ st114.halfFor (1 :
      Fin 4) (stopIx (1 : Fin 8) (1 : Fin 36)) (flitGen (0x902016325d39b#54).toNat) = some 0 ∧ entryValid
      (st114.tblEntry (1 : Fin 4) (stopIx (1 : Fin 8) (1 : Fin 36)) 0 1 (flitTag (0x902016325d39b#54).toNat)) =
      false) ∧
    (st115.domainOn (32 + (0 : Fin 4)) = true ∧ (0x9020047a56a8a#54).toNat ∈ st115.linkAt (0 : Fin 4) (stopIx (1 :
      Fin 8) (1 : Fin 36)) (ofBool true) ∧ isBridge (1 : Fin 36) = false ∧ flitType (0x9020047a56a8a#54).toNat = 1 ∧
      flitDst (0x9020047a56a8a#54).toNat = (1 : Fin 36) ∧ st115.testsRing (0 : Fin 4) (stopIx (1 : Fin 8) (1 : Fin
      36)) = false ∧ st115.clusterOn (clusterAt (0 : Fin 4) (1 : Fin 8) (1 : Fin 36)) = true ∧ st115.halfFor (0 :
      Fin 4) (stopIx (1 : Fin 8) (1 : Fin 36)) (flitGen (0x9020047a56a8a#54).toNat) = some 1 ∧ entryValid
      (st115.tblEntry (0 : Fin 4) (stopIx (1 : Fin 8) (1 : Fin 36)) 1 1 (flitTag (0x9020047a56a8a#54).toNat)) = true
      ∧ (st115.cl (clusterAt (0 : Fin 4) (1 : Fin 8) (1 : Fin 36))).exit = [] ∧ (st115.cl (clusterAt (0 : Fin 4) (1
      : Fin 8) (1 : Fin 36))).owed = [] ∧ (st115.cl (clusterAt (0 : Fin 4) (1 : Fin 8) (1 : Fin 36))).expect = [] ∧
      (st115.cl (clusterAt (0 : Fin 4) (1 : Fin 8) (1 : Fin 36))).hold.length < 32 ∧ (((st115.cl (clusterAt (0 : Fin
      4) (1 : Fin 8) (1 : Fin 36))).dueTo ≤ slice (st115.tblEntry (0 : Fin 4) (stopIx (1 : Fin 8) (1 : Fin 36)) 1 1
      (flitTag (0x9020047a56a8a#54).toNat)) 8 11 ∨ frameOfTag (st115.cluFrame (clusterAt (0 : Fin 4) (1 : Fin 8) (1
      : Fin 36))) (flitFtag (0x9020047a56a8a#54).toNat) ≠ (st115.cl (clusterAt (0 : Fin 4) (1 : Fin 8) (1 : Fin
      36))).frame))) ∧
    (st116.domainOn (32 + (3 : Fin 4)) = true ∧ HeadsBridge st116 (3 : Fin 4) (1 : Fin 8) (1 : Fin 2)
      (0x18a4010f81201e#54).toNat ∧ st116.halfFor (3 : Fin 4) (stopIx (1 : Fin 8) (18 * (1 : Fin 2))) (flitGen
      (0x18a4010f81201e#54).toNat) = none) ∧
    (st117.domainOn (32 + (3 : Fin 4)) = true ∧ HeadsBridge st117 (3 : Fin 4) (0 : Fin 8) (1 : Fin 2)
      (0x18c600a3c39024#54).toNat ∧ st117.halfFor (3 : Fin 4) (stopIx (0 : Fin 8) (18 * (1 : Fin 2))) (flitGen
      (0x18c600a3c39024#54).toNat) = some (0 : Nat) ∧ entryValid (st117.tblEntry (3 : Fin 4) (stopIx (0 : Fin 8) (18
      * (1 : Fin 2))) (0 : Nat) 0 (flitTag (0x18c600a3c39024#54).toNat)) = false) ∧
    (st118.domainOn (32 + (1 : Fin 4)) = true ∧ HeadsBridge st118 (1 : Fin 4) (1 : Fin 8) (1 : Fin 2)
      (0x180000d618ca04#54).toNat ∧ st118.halfFor (1 : Fin 4) (stopIx (1 : Fin 8) (18 * (1 : Fin 2))) (flitGen
      (0x180000d618ca04#54).toNat) = some (1 : Nat) ∧ 1 < 2 ∧ entryValid (st118.tblEntry (1 : Fin 4) (stopIx (1 :
      Fin 8) (18 * (1 : Fin 2))) (1 : Nat) 0 (flitTag (0x180000d618ca04#54).toNat)) = true ∧ slice (st118.tblEntry
      (1 : Fin 4) (stopIx (1 : Fin 8) (18 * (1 : Fin 2))) (1 : Nat) 0 (flitTag (0x180000d618ca04#54).toNat)) 0 3 = 1
      + 1 ∧ (st118.injQueue (1 : Fin 4) (stopIx (1 : Fin 8) (18 * (1 : Fin 2))) 1).length < 32) ∧
    (st119.domainOn (32 + (1 : Fin 4)) = true ∧ HeadsBridge st119 (1 : Fin 4) (1 : Fin 8) (0 : Fin 2)
      (0x11000066455dfb#54).toNat ∧ st119.halfFor (1 : Fin 4) (stopIx (1 : Fin 8) (18 * (0 : Fin 2))) (flitGen
      (0x11000066455dfb#54).toNat) = some (0 : Nat) ∧ 0 < 2 ∧ entryValid (st119.tblEntry (1 : Fin 4) (stopIx (1 :
      Fin 8) (18 * (0 : Fin 2))) (0 : Nat) 0 (flitTag (0x11000066455dfb#54).toNat)) = true ∧ slice (st119.tblEntry
      (1 : Fin 4) (stopIx (1 : Fin 8) (18 * (0 : Fin 2))) (0 : Nat) 0 (flitTag (0x11000066455dfb#54).toNat)) 0 3 = 0
      + 1 ∧ 32 ≤ (st119.injQueue (1 : Fin 4) (stopIx (1 : Fin 8) (18 * (0 : Fin 2))) 0).length) ∧
    (st120.domainOn (32 + (3 : Fin 4)) = true ∧ isScheduled (0x1100017884e02a#54).toNat = true ∧ st120.exitsAt (3 :
      Fin 4) (592 + (2 : Fin 3)) = (0x1100017884e02a#54).toNat :: ([] : List Nat) ∧ st120.dieHalfFor (3 : Fin 4)
      (flitGen (0x1100017884e02a#54).toNat) = none) ∧
    (st121.domainOn (32 + (0 : Fin 4)) = true ∧ isScheduled (0x1024015d07528b#54).toNat = true ∧ st121.exitsAt (0 :
      Fin 4) (592 + (1 : Fin 3)) = (0x1024015d07528b#54).toNat :: ([] : List Nat) ∧ st121.dieHalfFor (0 : Fin 4)
      (flitGen (0x1024015d07528b#54).toNat) = some 0 ∧ entryValid (st121.tblEntry (0 : Fin 4) (288 + (1 : Fin 3)) 0
      0 (flitTag (0x1024015d07528b#54).toNat)) = false) ∧
    (st122.domainOn (32 + (0 : Fin 4)) = true ∧ isScheduled (0x9240168944e8c#54).toNat = true ∧ st122.exitsAt (0 :
      Fin 4) (592 + (1 : Fin 3)) = (0x9240168944e8c#54).toNat :: ([] : List Nat) ∧ st122.dieHalfFor (0 : Fin 4)
      (flitGen (0x9240168944e8c#54).toNat) = some 1 ∧ entryValid (st122.tblEntry (0 : Fin 4) (288 + (1 : Fin 3)) 1 0
      (flitTag (0x9240168944e8c#54).toNat)) = true ∧ ([] : List Nat).all isScheduled = true ∧ slice (st122.tblEntry
      (0 : Fin 4) (288 + (1 : Fin 3)) 1 0 (flitTag (0x9240168944e8c#54).toNat)) 0 5 ≤ 19) ∧
    (st123.domainOn (32 + (3 : Fin 4)) = true ∧ bestCross (Sparse.get [] (st123.die (3 : Fin 4)).cross (19 : Fin
      20)) = some (⟨1, 2533275125837216⟩ : CrossFlit) ∧ isScheduled (⟨1, 2533275125837216⟩ : CrossFlit).flit = true
      ∧ st123.domainOn (farDomain (3 : Fin 4) (19 : Fin 20)) = true ∧ st123.crossRoom (3 : Fin 4) (19 : Fin 20)
      (⟨1, 2533275125837216⟩ : CrossFlit).flit = true ∧ (19 : Fin 20).val ≠ 16 ∧ (19 : Fin 20).val ≠ 17) ∧
    (st124.domainOn (32 + (0 : Fin 4)) = true ∧ bestCross (Sparse.get [] (st124.die (0 : Fin 4)).cross (16 : Fin
      20)) = some (⟨11, 2328767313225974⟩ : CrossFlit) ∧ isScheduled (⟨11, 2328767313225974⟩ : CrossFlit).flit =
      true ∧ st124.domainOn (farDomain (0 : Fin 4) (16 : Fin 20)) = false) ∧
    (st125.domainOn (32 + (0 : Fin 4)) = true ∧ Sparse.get 0 st125.seq.acks ((0 : Fin 4).val * 4 + (1#2).toNat) + 1
      = st125.f (HBC_WACK_ACT (0 : Fin 4))) ∧
    (st126.domainOn (32 + (0 : Fin 4)) = true ∧ Sparse.get 0 st126.seq.acks ((0 : Fin 4).val * 4 + (3#2).toNat) + 1
      ≠ st126.f (HBC_WACK_ACT (0 : Fin 4))) ∧
    ((crossing.domainOn (32 + 0) = true ∧ bestCross (Sparse.get [] (crossing.die 0).cross 17) = some
      ⟨17, 2394736455337692⟩ ∧ isScheduled 2394736455337692 = true ∧ crossing.domainOn (farDomain 0 17) = true ∧
      crossing.crossRoom 0 17 2394736455337692 = true ∧ (crossing.exitsAt (farQueue 0 17).1 (farQueue 0 17).2).all
      isScheduled = true)) := by
  unfold HeadsBridge
  and_intros <;> decide +kernel

def st127 : State :=
  { State.reset with
    net := { PacketNet.reset with ctl := [11478900857111584] } }

def st128 : State :=
  { State.reset with
    net := { PacketNet.reset with ctl := [13158955698356464] } }

def st129 : State :=
  { State.reset with
    net := { PacketNet.reset with send := [(786433, (some ⟨2049, true, 2, true, [1, 2, 3], 1, 7, 1742, none⟩))] } }

def st130 : State :=
  { State.reset with
    net := { PacketNet.reset with send := [(1048320, (some ⟨530, true, 2, true, [1, 2, 3], 0, 0, 876, none⟩))] } }

def st131 : State :=
  { State.reset with
    net := { PacketNet.reset with send := [(655360, (some ⟨2049, false, 7, true, [1, 2, 3], 1, 0, 1029, none⟩))] } }

def st132 : State :=
  { State.reset with
    net := { PacketNet.reset with send := [(256, (some ⟨4095, true, 14, true, [1, 2, 3], 0, 1, 181, none⟩))] } }

def st133 : State :=
  { withRegs [(MLR_UCFG 0, 0x52c)] with
    net := { PacketNet.reset with send := [(1, (some ⟨4095, true, 14, false, [1, 2, 3], 0, 8, 1779, none⟩))] } }

def st134 : State :=
  { State.reset with
    net := { PacketNet.reset with send := [(524288, (some ⟨2049, false, 3, true, [1, 2, 3], 0, 8, 529, none⟩))] } }

def st135 : State :=
  { State.reset with
    net := { PacketNet.reset with send := [(1, (some ⟨2049, true, 2, true, [1, 2, 3], 1, 3, 617, none⟩))] } }

def st136 : State :=
  { State.reset with
    hub := 2000,
    net := { PacketNet.reset with send := [(524288, (some ⟨3072, true, 6, false, [1, 2, 3], 1, 9, 441, none⟩))] } }

def st137 : State :=
  { State.reset with
    hub := 1000000000,
    net := { PacketNet.reset with send := [(786432, (some ⟨4095, true, 8, false, [1, 2, 3], 2, 5, 244, none⟩))] } }

def st138 : State :=
  { State.reset with
    net := { PacketNet.reset with send := [(1048321, (some ⟨2048, false, 11, false, [1, 2, 3], 2, 2, 1208, none⟩))], ctl := [12279344924197936] } }

def st139 : State :=
  { State.reset with
    net := { PacketNet.reset with ctl := [13396451283436560] } }

def st140 : State :=
  { State.reset with
    net := { PacketNet.reset with send := [(524288, (some ⟨4095, true, 14, false, [1, 2, 3], 2, 2, 441, none⟩))], ret := [(524288, 0)] } }

def st141 : State :=
  { State.reset with
    net := { PacketNet.reset with ret := [(0, 0)] } }

def st142 : State :=
  { State.reset with
    net := { PacketNet.reset with recv := [(67841, { RecvBuf.reset with data := [1, 2, 3], phase := 1, len := some 3, off := true })] } }

def st143 : State :=
  { State.reset with
    net := { PacketNet.reset with recv := [(327749, { RecvBuf.reset with data := [1, 2, 3], phase := 1, len := some 3 })] } }

def st144 : State :=
  { State.reset with
    net := { PacketNet.reset with recv := [(262209, { RecvBuf.reset with gen := 14, data := [1, 2, 3], phase := 1, len := some 3 })] } }

def st145 : State :=
  { State.reset with
    net := { PacketNet.reset with recv := [(262340, { RecvBuf.reset with gen := 1, data := [1, 2, 3], phase := 1, len := some 3 })] } }

def st146 : State :=
  { State.reset with
    net := { PacketNet.reset with recv := [(262274, { RecvBuf.reset with phase := 3 })] } }

def st147 : State :=
  { State.reset with
    hub := 1000000000,
    net := { PacketNet.reset with recv := [(262149, { RecvBuf.reset with phase := 3 })] } }

theorem test_meets_PacketsReserveTransferAndComplete :
    (st127.ctlAt (isRequest (0xfff#12).toNat (0x800#12).toNat (1#8).toNat) = some 11478900857111584 ∧ ((isCluNode
      (0xfff#12).toNat = false ∨ st127.clusterOn (nodeClu (0xfff#12).toNat) = true)) ∧ ((bitOf 11478900857111584 46
      = true ∨ isBehind (slice 11478900857111584 47 4) (st127.nodeGen (0xfff#12).toNat (0x800#12).toNat) = false)) ∧
      st127.bufferFor (0xfff#12).toNat (bitOf 11478900857111584 42) (0x800#12).toNat = some 0) ∧
    (st128.ctlAt (isRequest (0#12).toNat (0x801#12).toNat (0#8).toNat) = some 13158955698356464 ∧ ((isCluNode
      (0#12).toNat = false ∨ st128.clusterOn (nodeClu (0#12).toNat) = true)) ∧ ((bitOf 13158955698356464 46 = true ∨
      isBehind (slice 13158955698356464 47 4) (st128.nodeGen (0#12).toNat (0x801#12).toNat) = false)) ∧
      st128.bufferFor (0#12).toNat (bitOf 13158955698356464 42) (0x801#12).toNat = none) ∧
    (st129.ctlAt (isRequest (0#12).toNat (0xc00#12).toNat (1#8).toNat) = none ∧ (st129.sendBuf (0xc00#12).toNat
      (1#8).toNat).isSome = true) ∧
    (st1.ctlAt (isRequest (0#12).toNat (0x801#12).toNat (0#8).toNat) = none ∧ st1.sendBuf (0x801#12).toNat
      (0#8).toNat = none ∧ false = false ∧ ((st1.net.send.filter fun kv => kv.1 / 256 == (0x801#12).toNat).length <
      bufCount (0x801#12).toNat)) ∧
    (((st130.setNet { st130.net with ctl := [11764773344772144] })).sendBuf (0xfff#12).toNat (0#8).toNat = some
      (⟨530, true, 2, true, [1, 2, 3], 0, 0, 876, none⟩ : SendBuf) ∧ (CtlHere ((st130.setNet
      { st130.net with ctl := [11764773344772144] })) 1 (0xfff#12).toNat (0#8).toNat (11764773344772144) (fun f =>
      slice f 4 2 == (3 : Fin 4).val)) ∧ (⟨530, true, 2, true, [1, 2, 3], 0, 0, 876, none⟩ : SendBuf).phase = 0) ∧
    (st131.sendBuf (0xa00#12).toNat (0#8).toNat = some (⟨2049, false, 7, true, [1, 2, 3], 1, 0, 1029, none⟩ :
      SendBuf) ∧ (st131.ctlAt (fun f => isCtl 1 (0xa00#12).toNat (0#8).toNat f && slice f 4 2 == (0 : Fin 4).val) =
      none)) ∧
    (((st132.setNet { st132.net with ctl := [11769173538767040] })).sendBuf (1#12).toNat (0#8).toNat = some
      (⟨4095, true, 14, true, [1, 2, 3], 0, 1, 181, none⟩ : SendBuf) ∧ (CtlHere ((st132.setNet
      { st132.net with ctl := [11769173538767040] })) 2 (1#12).toNat (0#8).toNat (11769173538767040) (fun f => slice
      f 6 4 == (3#4).toNat)) ∧ (⟨4095, true, 14, true, [1, 2, 3], 0, 1, 181, none⟩ : SendBuf).phase = 0 ∧ (3#4) ≠ 0) ∧
    (((st133.setNet { st133.net with ctl := [11769172465026048] })).sendBuf (0#12).toNat (1#8).toNat = some
      (⟨4095, true, 14, false, [1, 2, 3], 0, 8, 1779, none⟩ : SendBuf) ∧ (CtlHere ((st133.setNet
      { st133.net with ctl := [11769172465026048] })) 2 (0#12).toNat (1#8).toNat (11769172465026048) (fun f => slice
      f 6 4 == (0#4).toNat)) ∧ (⟨4095, true, 14, false, [1, 2, 3], 0, 8, 1779, none⟩ : SendBuf).phase = 0 ∧ (0#4) =
      0 ∧ ((st133.setNet { st133.net with ctl := [11769172465026048] })).f (MLR_UCFG_RETRY_MAX (nodeDie (0#12).toNat
      (⟨4095, true, 14, false, [1, 2, 3], 0, 8, 1779, none⟩ : SendBuf).dnode)) ≤
      (⟨4095, true, 14, false, [1, 2, 3], 0, 8, 1779, none⟩ : SendBuf).nacks + 1) ∧
    (((st134.setNet { st134.net with ctl := [11771371488280576] })).sendBuf (0x800#12).toNat (0#8).toNat = some
      (⟨2049, false, 3, true, [1, 2, 3], 0, 8, 529, none⟩ : SendBuf) ∧ (CtlHere ((st134.setNet
      { st134.net with ctl := [11771371488280576] })) 2 (0x800#12).toNat (0#8).toNat (11771371488280576) (fun f =>
      slice f 6 4 == (0#4).toNat)) ∧ (⟨2049, false, 3, true, [1, 2, 3], 0, 8, 529, none⟩ : SendBuf).phase = 0 ∧
      (0#4) = 0 ∧ (⟨2049, false, 3, true, [1, 2, 3], 0, 8, 529, none⟩ : SendBuf).nacks + 1 < ((st134.setNet
      { st134.net with ctl := [11771371488280576] })).f (MLR_UCFG_RETRY_MAX (nodeDie (0x800#12).toNat
      (⟨2049, false, 3, true, [1, 2, 3], 0, 8, 529, none⟩ : SendBuf).dnode)) ∧ ((st134.setNet
      { st134.net with ctl := [11771371488280576] })).f (MLR_UCFG_RETRY_GAP (nodeDie (0x800#12).toNat
      (⟨2049, false, 3, true, [1, 2, 3], 0, 8, 529, none⟩ : SendBuf).dnode)) ≠ 0) ∧
    (st135.sendBuf (0#12).toNat (1#8).toNat = some (⟨2049, true, 2, true, [1, 2, 3], 1, 3, 617, none⟩ : SendBuf) ∧
      (st135.ctlAt (fun f => isCtl 2 (0#12).toNat (1#8).toNat f && slice f 6 4 == (9#4).toNat) = none)) ∧
    (st136.sendBuf (0x800#12).toNat (0#8).toNat = some (⟨3072, true, 6, false, [1, 2, 3], 1, 9, 441, none⟩ :
      SendBuf) ∧ (⟨3072, true, 6, false, [1, 2, 3], 1, 9, 441, none⟩ : SendBuf).phase = 1 ∧ st136.elapsedRing
      (⟨3072, true, 6, false, [1, 2, 3], 1, 9, 441, none⟩ : SendBuf).at_ (st136.f (MLR_UCFG_RETRY_GAP (nodeDie
      (0x800#12).toNat (⟨3072, true, 6, false, [1, 2, 3], 1, 9, 441, none⟩ : SendBuf).dnode))) = true) ∧
    (st137.sendBuf (0xc00#12).toNat (0#8).toNat = some (⟨4095, true, 8, false, [1, 2, 3], 2, 5, 244, none⟩ :
      SendBuf) ∧ (⟨4095, true, 8, false, [1, 2, 3], 2, 5, 244, none⟩ : SendBuf).phase = 2 ∧ st137.elapsedRing
      (⟨4095, true, 8, false, [1, 2, 3], 2, 5, 244, none⟩ : SendBuf).at_ (st137.f (MLR_UTO_SRC (nodeDie
      (0xc00#12).toNat (⟨4095, true, 8, false, [1, 2, 3], 2, 5, 244, none⟩ : SendBuf).dnode))) = true) ∧
    (st138.ctlAt (isCtl 3 (0xfff#12).toNat (1#8).toNat) = some 12279344924197936 ∧ st138.outstanding
      (0xfff#12).toNat (1#8).toNat = true) ∧
    (st139.ctlAt (isCtl 3 (1#12).toNat (1#8).toNat) = some 13396451283436560 ∧ st139.outstanding (1#12).toNat
      (1#8).toNat = false ∧ isStopNode (1#12).toNat = true) ∧
    (st1.ctlAt (isCtl 3 (0x801#12).toNat (0#8).toNat) = none) ∧
    (((0x800#12).toNat * 256 + (0#8).toNat, (0#4).toNat) ∈ st140.net.ret ∧ st140.outstanding (0x800#12).toNat
      (0#8).toNat = true) ∧
    (((0#12).toNat * 256 + (0#8).toNat, (0#4).toNat) ∈ st141.net.ret ∧ st141.outstanding (0#12).toNat (0#8).toNat =
      false ∧ isStopNode (0#12).toNat = true) ∧
    (((1#12).toNat * 256 + (0#8).toNat, (15#4).toNat) ∉ st1.net.ret) ∧
    ((RecvBuf.reset : RecvBuf) = st1.recvBuf (0x801#12).toNat false (4 : Nat) ∧ (4 : Nat) < 64 ∧ (RecvBuf.reset :
      RecvBuf).full = false) ∧
    (({ RecvBuf.reset with data := [1, 2, 3], phase := 1, len := some 3, off := true } : RecvBuf) = st142.recvBuf
      (530#12).toNat false (1 : Nat) ∧ (1 : Nat) < 64 ∧
      ({ RecvBuf.reset with data := [1, 2, 3], phase := 1, len := some 3, off := true } : RecvBuf).full = true ∧
      (st142.nodeOff (530#12).toNat = true ∨
      ({ RecvBuf.reset with data := [1, 2, 3], phase := 1, len := some 3, off := true } : RecvBuf).off = true)) ∧
    (({ RecvBuf.reset with data := [1, 2, 3], phase := 1, len := some 3 } : RecvBuf) = st143.recvBuf
      (0xa00#12).toNat true (5 : Nat) ∧ (5 : Nat) < 64 ∧
      ({ RecvBuf.reset with data := [1, 2, 3], phase := 1, len := some 3 } : RecvBuf).full = true ∧ st143.nodeOff
      (0xa00#12).toNat = false ∧ ({ RecvBuf.reset with data := [1, 2, 3], phase := 1, len := some 3 } : RecvBuf).off
      = false ∧ (({ RecvBuf.reset with data := [1, 2, 3], phase := 1, len := some 3 } : RecvBuf).genAny = true ∨
      ({ RecvBuf.reset with data := [1, 2, 3], phase := 1, len := some 3 } : RecvBuf).gen = st143.nodeGen
      (0xa00#12).toNat ({ RecvBuf.reset with data := [1, 2, 3], phase := 1, len := some 3 } : RecvBuf).snode)) ∧
    (({ RecvBuf.reset with gen := 14, data := [1, 2, 3], phase := 1, len := some 3 } : RecvBuf) = st144.recvBuf
      (0x800#12).toNat true (1 : Nat) ∧ (1 : Nat) < 64 ∧
      ({ RecvBuf.reset with gen := 14, data := [1, 2, 3], phase := 1, len := some 3 } : RecvBuf).full = true ∧
      st144.nodeOff (0x800#12).toNat = false ∧
      ({ RecvBuf.reset with gen := 14, data := [1, 2, 3], phase := 1, len := some 3 } : RecvBuf).off = false ∧
      ({ RecvBuf.reset with gen := 14, data := [1, 2, 3], phase := 1, len := some 3 } : RecvBuf).genAny = false ∧
      ({ RecvBuf.reset with gen := 14, data := [1, 2, 3], phase := 1, len := some 3 } : RecvBuf).gen ≠ st144.nodeGen
      (0x800#12).toNat ({ RecvBuf.reset with gen := 14, data := [1, 2, 3], phase := 1, len := some 3 } :
      RecvBuf).snode ∧ isBehind ({ RecvBuf.reset with gen := 14, data := [1, 2, 3], phase := 1, len := some 3 } :
      RecvBuf).gen (st144.nodeGen (0x800#12).toNat
      ({ RecvBuf.reset with gen := 14, data := [1, 2, 3], phase := 1, len := some 3 } : RecvBuf).snode) = true) ∧
    (({ RecvBuf.reset with gen := 1, data := [1, 2, 3], phase := 1, len := some 3 } : RecvBuf) = st145.recvBuf
      (0x801#12).toNat true (4 : Nat) ∧ (4 : Nat) < 64 ∧
      ({ RecvBuf.reset with gen := 1, data := [1, 2, 3], phase := 1, len := some 3 } : RecvBuf).full = true ∧
      st145.nodeOff (0x801#12).toNat = false ∧
      ({ RecvBuf.reset with gen := 1, data := [1, 2, 3], phase := 1, len := some 3 } : RecvBuf).off = false ∧
      ({ RecvBuf.reset with gen := 1, data := [1, 2, 3], phase := 1, len := some 3 } : RecvBuf).genAny = false ∧
      ({ RecvBuf.reset with gen := 1, data := [1, 2, 3], phase := 1, len := some 3 } : RecvBuf).gen ≠ st145.nodeGen
      (0x801#12).toNat ({ RecvBuf.reset with gen := 1, data := [1, 2, 3], phase := 1, len := some 3 } :
      RecvBuf).snode ∧ isBehind ({ RecvBuf.reset with gen := 1, data := [1, 2, 3], phase := 1, len := some 3 } :
      RecvBuf).gen (st145.nodeGen (0x801#12).toNat
      ({ RecvBuf.reset with gen := 1, data := [1, 2, 3], phase := 1, len := some 3 } : RecvBuf).snode) = false) ∧
    (({ RecvBuf.reset with phase := 3 } : RecvBuf) = st146.recvBuf (0x801#12).toNat false (2 : Nat) ∧ (2 : Nat) < 64
      ∧ ({ RecvBuf.reset with phase := 3 } : RecvBuf).phase = 3 ∧ st146.nodeOff (0x801#12).toNat = false) ∧
    ((RecvBuf.reset : RecvBuf) = st1.recvBuf (530#12).toNat false (2 : Nat) ∧ (2 : Nat) < 64 ∧ (RecvBuf.reset :
      RecvBuf).phase ≠ 3) ∧
    (({ RecvBuf.reset with phase := 3 } : RecvBuf) = st147.recvBuf (0x800#12).toNat false (5 : Nat) ∧ (5 : Nat) < 64
      ∧ (({ RecvBuf.reset with phase := 3 } : RecvBuf).phase = 2 ∨ ({ RecvBuf.reset with phase := 3 } :
      RecvBuf).phase = 3) ∧ st147.elapsedRing ({ RecvBuf.reset with phase := 3 } : RecvBuf).at_ (st147.f
      (MLR_UTO_HOLD (nodeDie (0x800#12).toNat ({ RecvBuf.reset with phase := 3 } : RecvBuf).snode))) = true) := by
  unfold CtlHere
  and_intros <;> decide +kernel

def st148 : State :=
  withRegs [(PWR_DOM 35, 0), (MLR_GEN_STATUS 3, 828), (MLR_GEN_FRAME 3, 64)]

def st149 : State :=
  withRegs [(PWR_DOM 35, 0), (MLR_GEN_STATUS 3, 389)]

def st150 : State :=
  withRegs [(DEV_MODE, 4), (PWR_DOM 33, 0)]

def st151 : State :=
  withRegs [(PWR_DOM 32, 0), (PWR_DOM 35, 0), (MLR_TBL_ADDR 3, 0x124802)]

def st152 : State :=
  withRegs [(PWR_DOM 33, 0), (PWR_DOM 35, 0), (MLR_TBL_ADDR 3, 0x454001)]

def st153 : State :=
  withRegs [(PWR_DOM 33, 0), (MLR_TBL_ADDR 1, 0x4402)]

def st154 : State :=
  withRegs [(PWR_DOM 33, 0), (BLT_STATUS, 1)]

theorem test_meets_GenerationsAndSlotTables :
    (Reached st111 (MLR_GEN_CTRL (3 : Fin 4)) ∧ slice (131#32).toNat 4 4 = 8 ∧ (slice (131#32).toNat 0 4 + 16 -
      st111.f (MLR_GEN_STATUS_ACTIVE_GEN (3 : Fin 4))) % 16 ≠ 0 ∧ (slice (131#32).toNat 0 4 + 16 - st111.f
      (MLR_GEN_STATUS_ACTIVE_GEN (3 : Fin 4))) % 16 < 8) ∧
    (Reached st111 (MLR_GEN_CTRL (3 : Fin 4)) ∧ slice (143#32).toNat 4 4 = 8 ∧ 8 ≤ (slice (143#32).toNat 0 4 + 16 -
      st111.f (MLR_GEN_STATUS_ACTIVE_GEN (3 : Fin 4))) % 16) ∧
    (Reached st148 (MLR_GEN_CTRL (3 : Fin 4)) ∧ slice (16#32).toNat 4 4 = 1 ∧ st148.f (MLR_GEN_STATUS_PEND_VALID (3
      : Fin 4)) = 1 ∧ st148.frameNo < st148.f64 (MLR_GEN_FRAME (3 : Fin 4))) ∧
    (Reached st126 (MLR_GEN_CTRL (0 : Fin 4)) ∧ slice (0x3891e112#32).toNat 4 4 = 1 ∧ (st126.f
      (MLR_GEN_STATUS_PEND_VALID (0 : Fin 4)) = 0 ∨ st126.f64 (MLR_GEN_FRAME (0 : Fin 4)) ≤ st126.frameNo)) ∧
    (Reached st149 (MLR_GEN_CTRL (3 : Fin 4)) ∧ slice (0xca54d827#32).toNat 4 4 = 2 ∧ st149.framesMode = false ∧
      st149.f (MLR_GEN_STATUS_PEND_VALID (3 : Fin 4)) = 1) ∧
    (Reached st150 (MLR_GEN_CTRL (1 : Fin 4)) ∧ slice (32#32).toNat 4 4 = 2 ∧ st150.framesMode = true) ∧
    (Reached st111 (MLR_GEN_CTRL (3 : Fin 4)) ∧ slice (64#32).toNat 4 4 = 4) ∧
    (Reached st126 (MLR_UTO (0 : Fin 4))) ∧
    (Reached st151 (MLR_TBL_CMD (3 : Fin 4)) ∧ slice (1#32).toNat 0 3 = 1 ∧ st151.tblRefusal (3 : Fin 4) 1 = 0) ∧
    (Reached st152 (MLR_TBL_CMD (3 : Fin 4)) ∧ slice (2#32).toNat 0 3 = 2 ∧ st152.tblRefusal (3 : Fin 4) 2 = 0) ∧
    (Reached st153 (MLR_TBL_CMD (1 : Fin 4)) ∧ slice (4#32).toNat 0 3 = 4 ∧ st153.tblRefusal (1 : Fin 4) 4 = 0) ∧
    (Reached st154 (MLR_TBL_CMD (1 : Fin 4)) ∧ slice (131#32).toNat 0 3 ≠ 0 ∧ st154.billetRuns = true) := by
  unfold Reached
  and_intros <;> decide +kernel

def st155 : State :=
  withRegs [(PWR_DOM 36, 0)]

def st156 : State :=
  { withRegs [(PWR_DOM 39, 0), (MLR_GEN_STATUS 3, 273)] with
    hbc := [(3, { HbmCtl.reset with mqt := [(1024, 9223372040913484024)] })] }

def st157 : State :=
  { withRegs [(PWR_DOM 39, 0)] with
    hbc := [(3, { HbmCtl.reset with blocked := [⟨1, 2328766334318573⟩] })] }

def st158 : State :=
  { withRegs [(PWR_DOM 39, 0)] with
    hub := 1000000000,
    hbc := [(3, { HbmCtl.reset with parts := [⟨1, 2, 2, ⟨true, true, 1, 0, 20, 84, 1, 5376, 92, 17728, 448, none, true⟩, 6⟩] })] }

def st159 : State :=
  withRegs [(PWR_DOM 39, 0)]

def st160 : State :=
  { withRegs [(PWR_DOM 39, 0)] with
    hbm := [(77309413375, (1#8))],
    hbc := [(3, { HbmCtl.reset with mem := [(1, 9223372041149743135)], queue := [(1, [⟨false, false, 1, 3, 7, 395, 6, 739, 1, 137400, 2900, none, false⟩])] })] }

def st161 : State :=
  { withRegs [(PWR_DOM 39, 0)] with
    hbc := [(3, { HbmCtl.reset with queue := [(0, [⟨false, false, 2, 3, 3, 341, 7, 5443, 33, 234832, 408, none, false⟩])] })] }

def st162 : State :=
  { withRegs [(PWR_DOM 36, 0)] with
    hbc := [(0, { HbmCtl.reset with queue := [(31, [⟨true, true, 2, 0, 16, 835, 8, 4316, 2, 95287, 75, some 1669396457582966616240551198224, false⟩])] })] }

def st163 : State :=
  { withRegs [(PWR_DOM 39, 0)] with
    hbc := [(3, { HbmCtl.reset with queue := [(0, [⟨true, true, 1, 2, 3, 237, 5, 7018, 65, 36570, 2541, none, false⟩])] })] }

def st164 : State :=
  withRegs [(PWR_DOM 37, 0)]

theorem test_meets_HbmRequestsAreGatheredAndServed :
    (st155.domainOn (36 + (0 : Fin 4)) = true ∧ flitType (0x1082000c0bdbca#54).toNat = 2 ∧ (st155.ctl (0 : Fin
      4)).blocked = [] ∧ st155.mqtEntry (0 : Fin 4) (0 : Fin 18) (0x1082000c0bdbca#54).toNat = none) ∧
    (st156.domainOn (36 + (3 : Fin 4)) = true ∧ flitType (0x10a4003289ce1d#54).toNat = 2 ∧ (st156.ctl (3 : Fin
      4)).blocked = [] ∧ st156.mqtEntry (3 : Fin 4) (1 : Fin 18) (0x10a4003289ce1d#54).toNat = some
      9223372040913484024 ∧ slice 9223372040913484024 0 2 = 0 ∧ 2 ≤ slice 9223372040913484024 2 2) ∧
    (st157.domainOn (36 + (3 : Fin 4)) = true ∧ flitType (0x100200ccb198af#54).toNat = 2 ∧ (st157.ctl (3 : Fin
      4)).blocked ≠ []) ∧
    (st158.domainOn (36 + (3 : Fin 4)) = true ∧ (st158.ctl (3 : Fin 4)).parts =
      (⟨1, 2, 2, ⟨true, true, 1, 0, 20, 84, 1, 5376, 92, 17728, 448, none, true⟩, 6⟩ : HbcParts) :: ([] : List
      HbcParts) ∧ (⟨1, 2, 2, ⟨true, true, 1, 0, 20, 84, 1, 5376, 92, 17728, 448, none, true⟩, 6⟩ : HbcParts).port =
      (1 : Fin 18).val ∧ (⟨1, 2, 2, ⟨true, true, 1, 0, 20, 84, 1, 5376, 92, 17728, 448, none, true⟩, 6⟩ :
      HbcParts).tag = (2#10).toNat ∧ st158.elapsedRing
      (⟨1, 2, 2, ⟨true, true, 1, 0, 20, 84, 1, 5376, 92, 17728, 448, none, true⟩, 6⟩ : HbcParts).req.at_ 64 = true) ∧
    (st159.domainOn (36 + (3 : Fin 4)) = true ∧ Sparse.get [] (st159.ctl (3 : Fin 4)).queue (1 : Fin 32) = []) ∧
    (st160.domainOn (36 + (3 : Fin 4)) = true ∧ OneRequest st160 (3 : Fin 4) (1 : Fin 32)
      (⟨false, false, 1, 3, 7, 395, 6, 739, 1, 137400, 2900, none, false⟩ : HbcReq) ∧ (0 : Nat) =
      (⟨false, false, 1, 3, 7, 395, 6, 739, 1, 137400, 2900, none, false⟩ : HbcReq).addr / 28 ∧ ((31, 0) : Nat ×
      Nat) = placeBlock (st160.memEntry (3 : Fin 4)
      (⟨false, false, 1, 3, 7, 395, 6, 739, 1, 137400, 2900, none, false⟩ : HbcReq).mid) (0 : Nat) ∧
      (⟨false, false, 1, 3, 7, 395, 6, 739, 1, 137400, 2900, none, false⟩ : HbcReq).half = none ∧
      (⟨false, false, 1, 3, 7, 395, 6, 739, 1, 137400, 2900, none, false⟩ : HbcReq).wr = false ∧
      (⟨false, false, 1, 3, 7, 395, 6, 739, 1, 137400, 2900, none, false⟩ : HbcReq).retry = false ∧ tagOk
      (st160.readBlock (3 : Fin 4) ((31, 0) : Nat × Nat).1 ((31, 0) : Nat × Nat).2) (0 : Nat)
      (⟨false, false, 1, 3, 7, 395, 6, 739, 1, 137400, 2900, none, false⟩ : HbcReq).mid = true) ∧
    (st161.domainOn (36 + (3 : Fin 4)) = true ∧ OneRequest st161 (3 : Fin 4) (0 : Fin 32)
      (⟨false, false, 2, 3, 3, 341, 7, 5443, 33, 234832, 408, none, false⟩ : HbcReq) ∧ (1 : Nat) =
      (⟨false, false, 2, 3, 3, 341, 7, 5443, 33, 234832, 408, none, false⟩ : HbcReq).addr / 28 ∧ ((0, 1) : Nat ×
      Nat) = placeBlock (st161.memEntry (3 : Fin 4)
      (⟨false, false, 2, 3, 3, 341, 7, 5443, 33, 234832, 408, none, false⟩ : HbcReq).mid) (1 : Nat) ∧
      (⟨false, false, 2, 3, 3, 341, 7, 5443, 33, 234832, 408, none, false⟩ : HbcReq).half = none ∧
      (⟨false, false, 2, 3, 3, 341, 7, 5443, 33, 234832, 408, none, false⟩ : HbcReq).wr = false ∧
      (⟨false, false, 2, 3, 3, 341, 7, 5443, 33, 234832, 408, none, false⟩ : HbcReq).retry = false ∧ tagOk
      (st161.readBlock (3 : Fin 4) ((0, 1) : Nat × Nat).1 ((0, 1) : Nat × Nat).2) (1 : Nat)
      (⟨false, false, 2, 3, 3, 341, 7, 5443, 33, 234832, 408, none, false⟩ : HbcReq).mid = false) ∧
    (st162.domainOn (36 + (0 : Fin 4)) = true ∧ OneRequest st162 (0 : Fin 4) (31 : Fin 32)
      (⟨true, true, 2, 0, 16, 835, 8, 4316, 2, 95287, 75, some 1669396457582966616240551198224, false⟩ : HbcReq) ∧
      (0 : Nat) = (⟨true, true, 2, 0, 16, 835, 8, 4316, 2, 95287, 75, some 1669396457582966616240551198224, false⟩ :
      HbcReq).addr / 28 ∧ ((0, 0) : Nat × Nat) = placeBlock (st162.memEntry (0 : Fin 4)
      (⟨true, true, 2, 0, 16, 835, 8, 4316, 2, 95287, 75, some 1669396457582966616240551198224, false⟩ :
      HbcReq).mid) (0 : Nat) ∧
      (⟨true, true, 2, 0, 16, 835, 8, 4316, 2, 95287, 75, some 1669396457582966616240551198224, false⟩ :
      HbcReq).half = some 1669396457582966616240551198224 ∧
      (⟨true, true, 2, 0, 16, 835, 8, 4316, 2, 95287, 75, some 1669396457582966616240551198224, false⟩ : HbcReq).wr
      = true ∧ (⟨true, true, 2, 0, 16, 835, 8, 4316, 2, 95287, 75, some 1669396457582966616240551198224, false⟩ :
      HbcReq).we = true ∧
      (⟨true, true, 2, 0, 16, 835, 8, 4316, 2, 95287, 75, some 1669396457582966616240551198224, false⟩ :
      HbcReq).retry = false) ∧
    (st163.domainOn (36 + (3 : Fin 4)) = true ∧ OneRequest st163 (3 : Fin 4) (0 : Fin 32)
      (⟨true, true, 1, 2, 3, 237, 5, 7018, 65, 36570, 2541, none, false⟩ : HbcReq) ∧ (2 : Nat) =
      (⟨true, true, 1, 2, 3, 237, 5, 7018, 65, 36570, 2541, none, false⟩ : HbcReq).addr / 28 ∧ ((0, 2) : Nat × Nat)
      = placeBlock (st163.memEntry (3 : Fin 4) (⟨true, true, 1, 2, 3, 237, 5, 7018, 65, 36570, 2541, none, false⟩ :
      HbcReq).mid) (2 : Nat) ∧ (⟨true, true, 1, 2, 3, 237, 5, 7018, 65, 36570, 2541, none, false⟩ : HbcReq).half =
      none ∧ (⟨true, true, 1, 2, 3, 237, 5, 7018, 65, 36570, 2541, none, false⟩ : HbcReq).retry = false) ∧
    (st164.domainOn (36 + (1 : Fin 4)) = true ∧ Reached st164 (HBC_ACQ_BASE (1 : Fin 4)) ∧ slice (0xaef#32).toNat 0
      24 ≤ 0xB00000 ∧ ((∀ kv ∈ (st164.ctl (1 : Fin 4)).mem, entryValid kv.2 = true → memEnd kv.2 ≤ slice
      (0xaef#32).toNat 0 24))) ∧
    (st164.domainOn (36 + (1 : Fin 4)) = true ∧ Reached st164 (HBC_ACQ_BASE (1 : Fin 4)) ∧ 0xB00000 < slice
      (0xb00001#32).toNat 0 24) ∧
    (st164.domainOn (36 + (1 : Fin 4)) = true ∧ Reached st164 (HBC_WIN (1 : Fin 4)) ∧ 2800 ≤ slice
      (0xd1b719ed#32).toNat 0 16 ∧ slice (0xd1b719ed#32).toNat 0 16 ≤ 6700) ∧
    (st164.domainOn (36 + (1 : Fin 4)) = true ∧ Reached st164 (HBC_WIN (1 : Fin 4)) ∧ (slice (0xb00000#32).toNat 0
      16 < 2800 ∨ 6700 < slice (0xb00000#32).toNat 0 16)) := by
  unfold OneRequest Reached
  and_intros <;> decide +kernel

def st165 : State :=
  withRegs [(PWR_DOM 1, 0), (CLU_STATUS 40, 1)]

def st166 : State :=
  withRegs [(PWR_DOM 0, 0), (CLU_STATUS 1, 1)]

def st167 : State :=
  withRegs [(PWR_DOM 0, 0), (CLU_STATUS 1, 5)]

theorem test_meets_MemoryTablesAndClusterSram :
    (Reached st159 (HBC_TBL_CMD (3 : Fin 4)) ∧ slice (1#32).toNat 0 3 = 1 ∧ st159.hbcTblRefusal (3 : Fin 4) 1 = 0 ∧
      st159.f (HBC_TBL_ADDR_TABLE (3 : Fin 4)) = 0) ∧
    (Reached st155 (HBC_TBL_CMD (0 : Fin 4)) ∧ slice (2#32).toNat 0 3 = 2 ∧ st155.hbcTblRefusal (0 : Fin 4) 2 = 0 ∧
      st155.f (HBC_TBL_ADDR_TABLE (0 : Fin 4)) = 0) ∧
    (Reached st155 (HBC_TBL_CMD (0 : Fin 4)) ∧ slice (4#32).toNat 0 3 = 4 ∧ st155.hbcTblRefusal (0 : Fin 4) 4 = 0 ∧
      st155.f (HBC_TBL_ADDR_TABLE (0 : Fin 4)) = 0) ∧
    (Reached st165 (CLU_MPD (40 : ClusterId) (15 : Fin 16)) ∧ st165.billetRuns = false ∧ st165.cluIdle (40 :
      ClusterId) = true ∧ 1 ≤ slice (0x10005#32).toNat 2 6 ∧ slice (0x10005#32).toNat 2 6 ≤ 32 ∧ slice
      (0x10005#32).toNat 8 2 ≠ 3) ∧
    (Reached st78 (CLU_MPD (1 : ClusterId) (15 : Fin 16)) ∧ st78.cluIdle (1 : ClusterId) = false) ∧
    (Reached st166 (CLU_MRT_DATA (1 : ClusterId)) ∧ st166.f (CLU_MRT_ADDR_AUTOINC (1 : ClusterId)) = 0 ∧
      st166.billetRuns = false ∧ st166.cluIdle (1 : ClusterId) = true ∧ st166.framesMode = false) ∧
    (Reached st78 (CLU_MRT_DATA (0 : ClusterId)) ∧ st78.f (CLU_MRT_ADDR_AUTOINC (0 : ClusterId)) = 0) ∧
    (Reached st167 (CLU_SRW_ADDR (1 : ClusterId)) ∧ bitOf (0x10000#32).toNat 16 = true ∧ st167.srwWritable (1 :
      ClusterId) = true) ∧
    (Reached st79 (CLU_SRW_ADDR (40 : ClusterId)) ∧ bitOf (0x10005#32).toNat 16 = true ∧ st79.srwWritable (40 :
      ClusterId) = false) ∧
    (Reached st165 (CLU_SRW_DATA (40 : ClusterId)) ∧ st165.srwWritable (40 : ClusterId) = true ∧ st165.f
      (CLU_SRW_ADDR_AUTOINC (40 : ClusterId)) = 0) ∧
    (Reached st165 (CLU_SRW_DATA (40 : ClusterId)) ∧ st165.srwReadable (40 : ClusterId) = true ∧ st165.f
      (CLU_SRW_ADDR_AUTOINC (40 : ClusterId)) = 0 ∧ secDecode 5 18 (Sparse.get 0 (st165.cl (40 : ClusterId)).sram
      (st165.f (CLU_SRW_ADDR_ADDR (40 : ClusterId)))) = .ok) ∧
    (Reached st78 (CLU_SRW_DATA (1 : ClusterId)) ∧ st78.srwReadable (1 : ClusterId) = false) ∧
    ((filling.cl 0).fill = some 0x3FFFF) := by
  unfold Reached
  and_intros <;> decide +kernel

def st168 : State :=
  withRegs [(DEV_MODE, 259), (BLT_RESULT 3, 16), (BLT_LEN, 64)]

def st169 : State :=
  withRegs [(DEV_MODE, 3), (BLT_RESULT 3, 16), (BLT_LEN, 28)]

def st170 : State :=
  withRegs [(DEV_MODE, 259), (BLT_RESULT 3, 16), (BLT_LEN, 1), (BLT_LOADED, 0x80000000)]

def st171 : State :=
  withRegs [(BLT_LEN, 0xe00)]

def st172 : State :=
  withRegs [(BLT_LEN, 64)]

def st173 : State :=
  { withRegs [(DEV_MODE, 259)] with
    pwr := { Power.reset with billet := 1 } }

def st174 : State :=
  withRegs [(DEV_MODE, 3), (BLT_SEL, 0x7fe)]

def st175 : State :=
  withRegs [(DEV_MODE, 259), (PWR_DOM 31, 0), (BLT_SEL, 0x43f), (CLU_VMAP 1087, 0x10000)]

def st176 : State :=
  { withRegs [(BLT_STATUS, 1)] with
    tmk := { Tidemark.reset with steered := 1099511627776000000000000 } }

def st177 : State :=
  { withRegs [(BLT_STATUS, 0x50001), (BLT_CFG, 1)] with
    blt := { Billet.reset with image := some ⟨5, 1, false, 0, 1000, 80, 0, 0, 0, 0, [], [], [], [], [], []⟩, plan := some ⟨[(0, 1), (1, 40)], [], [], [], [], [], [], [], [], [], [], [], []⟩ },
    tmk := { Tidemark.reset with steered := 10995116277760000000 } }

def st178 : State :=
  withRegs [(BLT_LDCH_CTRL, 293), (BLT_LDCH_LEN, 64)]

def st179 : State :=
  withRegs [(BLT_LDCH_CTRL, 293), (BLT_RESULT 20, 16)]

def st180 : State :=
  withRegs [(BLT_LDCH_CTRL, 256)]

def st181 : State :=
  withRegs [(BLT_RESULT 20, 16)]

theorem test_meets_BilletCommandsTimeoutAndLoadChannel :
    (ImageReadable st168 (st168.f64 BLT_ADDR) (st168.f64 BLT_LEN)) ∧
    (ImageReadable st169 (st169.f64 BLT_ADDR) (st169.f64 BLT_LEN)) ∧
    (ImageReadable st170 (st170.f64 BLT_ADDR) (st170.f64 BLT_LEN) ∧ st170.f BLT_LOADED_LOADED = 1) ∧
    (Reached st171 BLT_CMD ∧ st171.f (mbBusy 0) = 0 ∧ (st171.mode ≠ Mode.idle ∨ st171.f (mbBusy 41) = 1) ∧ st171.f64
      BLT_LEN ≠ 0) ∧
    (Reached st1 BLT_CMD ∧ st1.f (mbBusy 0) = 0 ∧ (st1.mode ≠ Mode.idle ∨ st1.f (mbBusy 41) = 1)) ∧
    (Reached st172 BLT_CMD ∧ st172.f (mbBusy 0) = 0 ∧ st172.framesMode = false ∧ st172.mode ≠ Mode.idle ∧ st172.f64
      BLT_LEN ≠ 0) ∧
    (Reached st1 BLT_CMD ∧ st1.f (mbBusy 0) = 0 ∧ st1.f64 BLT_LEN = 0) ∧
    (Reached st173 BLT_CMD ∧ st173.f (mbBusy 0) = 0 ∧ st173.mode = Mode.idle ∧ st173.f (mbBusy 41) = 0 ∧
      st173.pwr.billet ≠ 0) ∧
    (Reached st174 BLT_CMD ∧ st174.f (mbBusy 0) = 0 ∧ st174.mode = Mode.idle ∧ st174.f (mbBusy 41) = 0 ∧ 1087 <
      st174.f BLT_SEL_CLUSTER) ∧
    (Reached st175 BLT_CMD ∧ st175.f (mbBusy 0) = 0 ∧ st175.mode = Mode.idle ∧ st175.f (mbBusy 41) = 0 ∧ st175.f
      BLT_SEL_CLUSTER ≤ 1087 ∧ st175.fuseFailed (st175.f BLT_SEL_CLUSTER) = false ∧ st175.isMapped (st175.f
      BLT_SEL_CLUSTER) = true ∧ st175.domainOn (st175.f BLT_SEL_CLUSTER / 34) = true) ∧
    (st176.mbRuns 0 = true ∧ st176.elapsedSteered st176.blt.startAt (st176.f BLT_CFG_TMO_MS * 1000000) = true ∧
      st176.f BLT_STATUS_PHASE ∉ [5, 6, 7]) ∧
    (st177.mbRuns 0 = true ∧ st177.elapsedSteered st177.blt.startAt (st177.f BLT_CFG_TMO_MS * 1000000) = true ∧
      (st177.f BLT_STATUS_PHASE = 5 ∨ st177.f BLT_STATUS_PHASE = 6) ∧ st177.blt.image.isSome = true ∧
      st177.blt.plan.isSome = true) ∧
    ((st1.mbRuns 0 = false ∨ st1.f BLT_STATUS_PHASE = 7 ∨ st1.elapsedSteered st1.blt.startAt (st1.f BLT_CFG_TMO_MS *
      1000000) = false)) ∧
    (st178.f BLT_LDCH_CTRL_EN = 1 ∧ st178.f BLT_LDCH_CTRL_LANE = (37 : LaneId) ∧ (st178.reg BLT_LDCH_CNT).toNat <
      (st178.reg BLT_LDCH_LEN).toNat) ∧
    (st179.f BLT_LDCH_CTRL_EN = 1 ∧ st179.f BLT_LDCH_CTRL_LANE = (37 : LaneId) ∧ st179.ldchGood = true ∧ (st179.reg
      BLT_LDCH_CNT).toNat + ([] : List Byte).length ≤ (st179.reg BLT_LDCH_LEN).toNat) ∧
    (st180.f BLT_LDCH_CTRL_EN = 1 ∧ st180.f BLT_LDCH_CTRL_LANE = (0 : LaneId) ∧ (st180.reg BLT_LDCH_LEN).toNat ≤
      (st180.reg BLT_LDCH_CNT).toNat) ∧
    (Reached st181 BLT_LDCH_CTRL ∧ st181.f BLT_LDCH_CTRL_EN = 0 ∧ bitOf (293#32).toNat 8 = true ∧ st181.ldchGood =
      true) ∧
    (Reached st1 BLT_LDCH_CTRL ∧ st1.f BLT_LDCH_CTRL_EN = 0 ∧ bitOf (256#32).toNat 8 = true ∧ st1.ldchGood = false) ∧
    (Reached st1 (BLT_FAILMAP (11 : Fin 34))) ∧
    ((ImageReadable placedImage placedImage.blt.addr placedImage.blt.len ∧ placedImage.f BLT_LOADED_LOADED = 1)) := by
  unfold ImageReadable Reached
  and_intros <;> decide +kernel

def st182 : State :=
  { State.reset with
    cfg := { CfgUnit.reset with job := 2, fail := (0, 3, 4) } }

def st183 : State :=
  { withRegs [(CFG_TMO, 0x10001)] with
    cfg := { CfgUnit.reset with job := 4, fail := (3, 3, 4) },
    tmk := { Tidemark.reset with steered := 5497558138880000000 } }

def st184 : State :=
  { withRegs [(CFG_STATUS, 0x40040), (CFG_TMO, 0x20002)] with
    cfg := { CfgUnit.reset with fail := (5, 3, 4) },
    tmk := { Tidemark.reset with steered := 5497558138880000000 } }

def st185 : State :=
  { withRegs [(CFG_STATUS, 0x40040)] with
    hub := 5000000,
    cfg := { CfgUnit.reset with fail := (3, 3, 4), doneLow := false } }

def st186 : State :=
  { State.reset with
    cfg := { CfgUnit.reset with fail := (5, 3, 4) } }

def st187 : State :=
  { State.reset with
    cfg := { CfgUnit.reset with fail := (10, 3, 4), doneLow := false } }

def st188 : State :=
  { withRegs [(PWR_DOM 72, 0), (CFG_STATUS, 0x50040)] with
    cfg := { CfgUnit.reset with fail := (8, 3, 4) } }

def st189 : State :=
  { withRegs [(PWR_DOM 72, 0), (CFG_STATUS, 0x50040)] with
    hub := 5000000,
    cfg := { CfgUnit.reset with fail := (17, 3, 4), lockedAt := some 4999871 } }

def st190 : State :=
  { withRegs [(PWR_DOM 72, 0), (CFG_STATUS, 0x50040)] with
    cfg := { CfgUnit.reset with fail := (0, 3, 4), lockedAt := some 4999874 } }

def st191 : State :=
  { withRegs [(CFG_STATUS, 0x60040)] with
    cfg := { CfgUnit.reset with job := 5, fail := (0, 3, 4) } }

def st192 : State :=
  { withRegs [(CFG_STATUS, 0x40040)] with
    cfg := { CfgUnit.reset with fail := (8, 3, 4) } }

def st193 : State :=
  { withRegs [(CFG_STATUS, 0x20040)] with
    cfg := { CfgUnit.reset with fail := (17, 3, 4) } }

def st194 : State :=
  { withRegs [(CFG_STATUS, 0x20040)] with
    cfg := { CfgUnit.reset with fail := (14, 3, 4) } }

def st195 : State :=
  { withRegs [(CFG_STATUS, 0x20040)] with
    cfg := { CfgUnit.reset with fail := (19, 3, 4) } }

def st196 : State :=
  { withRegs [(DEV_MODE, 3), (CFG_STATUS, 64), (CFG_ARG 0, 5), (CFG_ARG 2, 16)] with
    cfg := { CfgUnit.reset with fail := (14, 3, 4) } }

def st197 : State :=
  { withRegs [(DEV_MODE, 4), (CFG_STATUS, 0x60040)] with
    cfg := { CfgUnit.reset with fail := (19, 3, 4) } }

def st198 : State :=
  { withRegs [(DEV_MODE, 4), (CFG_STATUS, 64), (CFG_ARG 0, 0xffffffff)] with
    cfg := { CfgUnit.reset with fail := (16, 3, 4) } }

def st199 : State :=
  { withRegs [(DEV_MODE, 4), (CFG_STATUS, 0x30040)] with
    cfg := { CfgUnit.reset with fail := (15, 3, 4) } }

def st200 : State :=
  { withRegs [(DEV_MODE, 4), (CFG_STATUS, 64)] with
    cfg := { CfgUnit.reset with fail := (18, 3, 4) } }

def st201 : State :=
  { withRegs [(CFG_STATUS, 0x30040)] with
    cfg := { CfgUnit.reset with fail := (14, 3, 4) } }

def st202 : State :=
  { withRegs [(CFG_STATUS, 0x60040), (CFG_ARG 0, 62)] with
    cfg := { CfgUnit.reset with fail := (8, 3, 4) } }

theorem test_meets_ConfigurationPhasesAndCommands :
    (st182.f CFG_STATUS_PHASE = 1 ∧ st182.headerErr = some 8 ∧ 8 < 16 ∧ st182.cfg.job ≠ 1) ∧
    (st183.f CFG_STATUS_PHASE = 1 ∧ st183.cfg.job ≠ 1 ∧ st183.elapsedSteered st183.cfg.at_ (max 1 (st183.f
      CFG_TMO_STEP_MS) * 1000000) = true) ∧
    (st184.f CFG_STATUS_PHASE = 4 ∧ st184.elapsedSteered st184.cfg.at_ (max 1 (st184.f CFG_TMO_DONE_MS) * 1000000) =
      true ∧ st184.cfg.job ≠ 5) ∧
    (st185.f CFG_STATUS_PHASE = 4 ∧ st185.elapsed st185.cfg.hubAt 1000 = true ∧ st185.cfg.doneLow = false) ∧
    (st186.cfg.doneLow = true) ∧
    (st187.cfg.doneLow = false ∧ st187.f CFG_STATUS_PHASE ≠ 4) ∧
    (st188.f CFG_STATUS_PHASE = 5 ∧ st188.domainOn 72 = true ∧ st188.cfg.lockedAt = none) ∧
    (st189.f CFG_STATUS_PHASE = 5 ∧ st189.domainOn 72 = true ∧ st189.cfg.lockedAt = some 4999871 ∧ st189.elapsed
      4999871 128 = true) ∧
    (st190.f CFG_STATUS_PHASE = 5 ∧ st190.domainOn 72 = true ∧ st190.cfg.lockedAt = some 4999874 ∧ st190.elapsed
      4999874 128 = false) ∧
    (st191.f CFG_STATUS_PHASE = 6 ∧ st191.cfg.job ≠ 1 ∧ st191.cfg.fail.1 < 16) ∧
    (Reached st192 CFG_CMD ∧ st192.f (mbBusy 40) = 0 ∧ (st192.mode = Mode.boot ∨ st192.mode = Mode.idle)) ∧
    (Reached st193 CFG_CMD ∧ st193.f (mbBusy 40) = 0 ∧ (st193.mode = Mode.boot ∨ st193.mode = Mode.idle)) ∧
    (Reached st194 CFG_CMD ∧ st194.f (mbBusy 40) = 0 ∧ (st194.mode = Mode.boot ∨ st194.mode = Mode.idle)) ∧
    (Reached st195 CFG_CMD ∧ st195.f (mbBusy 40) = 0 ∧ st195.reg (CFG_ARG 0) = 0) ∧
    (Reached st196 CFG_CMD ∧ st196.f (mbBusy 40) = 0 ∧ st196.mode = Mode.idle ∧ st196.reg (CFG_ARG 0) ≠ 0 ∧ inCarve
      (st196.f64 (CFG_ARG 1)) (st196.reg (CFG_ARG 0)).toNat = true) ∧
    (Reached st197 CFG_CMD ∧ st197.f (mbBusy 40) = 0 ∧ st197.mode = Mode.run) ∧
    (Reached st198 CFG_CMD ∧ st198.f (mbBusy 40) = 0 ∧ st198.mode = Mode.run ∧ st198.reg (CFG_ARG 0) ≠ 0) ∧
    (Reached st199 CFG_CMD ∧ st199.f (mbBusy 40) = 0 ∧ st199.mode = Mode.run) ∧
    (Reached st200 CFG_CMD ∧ st200.f (mbBusy 40) = 0 ∧ st200.mode = Mode.run) ∧
    (Reached st201 CFG_CMD ∧ st201.f (mbBusy 40) = 0 ∧ st201.mode = Mode.boot ∧ (st201.reg (CFG_ARG 0)).toNat ≤ 61 ∧
      (8 ≤ (st201.reg (CFG_ARG 0)).toNat ∨ bitOf (st201.fuse 56) 10 = false)) ∧
    (Reached st202 CFG_CMD ∧ st202.f (mbBusy 40) = 0 ∧ st202.mode = Mode.boot ∧ 61 < (st202.reg (CFG_ARG 0)).toNat) := by
  unfold Reached
  and_intros <;> decide +kernel

def st203 : State :=
  withRegs [(DEV_MODE, 7)]

def st204 : State :=
  withRegs [(CFG_MRAM_ADDR, 0x6100000)]

def st205 : State :=
  { withRegs [(CFG_STATE, 5)] with
    hub := 5000000 }

def st206 : State :=
  { withRegs [(CFG_STATE, 5)] with
    hub := 5000000,
    cfg := { CfgUnit.reset with frames := [(767, 2359374)], scrubFrame := 5, scrubSyl := 127 } }

def st207 : State :=
  { withRegs [(CFG_STATE, 5)] with
    tmk := { Tidemark.reset with steered := 1099511627776000000000000 } }

def st208 : State :=
  { withRegs [(CFG_STATE, 5)] with
    cfg := { CfgUnit.reset with restarts := 3 },
    tmk := { Tidemark.reset with steered := 1099511627776000000000000 } }

theorem test_meets_KeysMramAndScrubbing :
    (Reached st1 CFG_BBKEY_CTRL ∧ st1.mode = Mode.boot ∧ slice (1#32).toNat 0 2 = 1) ∧
    (Reached st1 CFG_BBKEY_CTRL ∧ st1.mode = Mode.boot ∧ slice (2#32).toNat 0 2 = 2) ∧
    (Reached st29 CFG_BBKEY_CTRL ∧ st29.mode ≠ Mode.boot) ∧
    (Reached st203 CFG_BBKEY_CTRL ∧ st203.mode ≠ Mode.boot) ∧
    (Reached st204 CFG_MRAM_DATA ∧ st204.f CFG_MRAM_ADDR_AUTOINC = 0 ∧ inGuestbook (4 * st204.f CFG_MRAM_ADDR_ADDR)
      = true) ∧
    (Reached st1 CFG_MRAM_DATA ∧ st1.f CFG_MRAM_ADDR_AUTOINC = 0 ∧ inGuestbook (4 * st1.f CFG_MRAM_ADDR_ADDR) =
      false) ∧
    (Reached st1 CFG_MRAM_DATA ∧ st1.f CFG_MRAM_ADDR_AUTOINC = 0 ∧ inGuestbook (4 * st1.f CFG_MRAM_ADDR_ADDR) =
      false ∧ st1.slotRead (4 * st1.f CFG_MRAM_ADDR_ADDR) = false) ∧
    (st205.scrubs = true ∧ st205.elapsed st205.cfg.scrubAt (2 ^ st205.f CFG_SCRUB_CTRL_DIV) = true ∧ secDecode 5 18
      (Sparse.get 0 st205.cfg.frames (frameKey st205.cfg.scrubFrame * 128 + st205.cfg.scrubSyl)) = .ok ∧
      st205.cfg.scrubSyl < 127) ∧
    (st206.scrubs = true ∧ st206.elapsed st206.cfg.scrubAt (2 ^ st206.f CFG_SCRUB_CTRL_DIV) = true ∧ secDecode 5 18
      (Sparse.get 0 st206.cfg.frames (frameKey st206.cfg.scrubFrame * 128 + st206.cfg.scrubSyl)) = .uncorrectable) ∧
    (st207.scrubs = true ∧ st207.elapsedSteered st207.cfg.frameAt 1000000 = true ∧ st207.cfg.restarts < 2) ∧
    (st208.scrubs = true ∧ st208.elapsedSteered st208.cfg.frameAt 1000000 = true ∧ 2 ≤ st208.cfg.restarts) := by
  unfold Reached
  and_intros <;> decide +kernel

def st209 : State :=
  { State.reset with
    acq := { Acquisition.reset with wait := [(40, 2)] } }

def st210 : State :=
  { State.reset with
    acq := { Acquisition.reset with wait := [(1, 1)], points := [⟨0, 4971132476240, 3481749786, [(0, 5, 6)], 7⟩] } }

def st211 : State :=
  { State.reset with
    acq := { Acquisition.reset with points := [⟨2, 15261933464634, 2069876414, [(0, 5, 6)], 7⟩] } }

def st212 : State :=
  { withRegs [(ACQ_STATUS, 1)] with
    acq := { Acquisition.reset with force := true, points := [⟨18446744073709551616, 13288041351582, 1235835018, [(0, 5, 6)], 7⟩] } }

def st213 : State :=
  { withRegs [(ACQ_STATUS, 2)] with
    acq := { Acquisition.reset with points := [⟨18446744073709551616, 15412332436403, 663259451, [(0, 5, 6)], 7⟩] } }

def st214 : State :=
  withRegs [(ACQ_STATUS, 2), (ACQ_PIN_EN, 0x4000)]

def st215 : State :=
  { withRegs [(ACQ_STATUS, 2), (ACQ_PIN_EN, 8)] with
    acq := { Acquisition.reset with pins := [⟨3, 0, 5, 6, ((List.range 17).map fun i => i)⟩] } }

def st216 : State :=
  { State.reset with
    hbc := [(0, { HbmCtl.reset with acqSlot := [(0, 1)] })],
    acq := { Acquisition.reset with stage := (List.replicate 64 225) } }

theorem test_meets_AcquisitionSamplesTriggersAndStores :
    (oldestWait st209.acq.wait = some 2) ∧
    (oldestWait st1.acq.wait = none) ∧
    (st1.acq.points = []) ∧
    (st210.acq.points = (⟨0, 4971132476240, 3481749786, [(0, 5, 6)], 7⟩ : PointWait) :: [] ∧ (∃ kv ∈ st210.acq.wait,
      kv.2 = (⟨0, 4971132476240, 3481749786, [(0, 5, 6)], 7⟩ : PointWait).frame + 1)) ∧
    (st211.acq.points = (⟨2, 15261933464634, 2069876414, [(0, 5, 6)], 7⟩ : PointWait) :: [] ∧ ((∀ kv ∈
      st211.acq.wait, kv.2 ≠ (⟨2, 15261933464634, 2069876414, [(0, 5, 6)], 7⟩ : PointWait).frame + 1))) ∧
    (st212.acq.points = (⟨18446744073709551616, 13288041351582, 1235835018, [(0, 5, 6)], 7⟩ : PointWait) :: [] ∧ ((∀
      kv ∈ st212.acq.wait, kv.2 ≠ (⟨18446744073709551616, 13288041351582, 1235835018, [(0, 5, 6)], 7⟩ :
      PointWait).frame + 1)) ∧ st212.f ACQ_STATUS_STATE = 1 ∧ st212.acq.force = true) ∧
    (st213.acq.points = (⟨18446744073709551616, 15412332436403, 663259451, [(0, 5, 6)], 7⟩ : PointWait) :: [] ∧ ((∀
      kv ∈ st213.acq.wait, kv.2 ≠ (⟨18446744073709551616, 15412332436403, 663259451, [(0, 5, 6)], 7⟩ :
      PointWait).frame + 1)) ∧ st213.f ACQ_STATUS_STATE = 2 ∧ st213.f64 ACQ_TRIG_FRAME + st213.f ACQ_DEPTH_POST ≤
      (⟨18446744073709551616, 15412332436403, 663259451, [(0, 5, 6)], 7⟩ : PointWait).frame) ∧
    ((st1.capturing = false ∨ st1.sampleDue = none)) ∧
    (st214.capturing = true ∧ st214.sampleDue = some (439804651110 : Nat) ∧ st214.f ACQ_PIN_EN_EN = 2 ^ (14 : Fin
      24).val ∧ st214.acq.pins = []) ∧
    (st215.capturing = true ∧ st215.sampleDue = some (439804651110 : Nat) ∧ st215.f ACQ_PIN_EN_EN = 2 ^ (3 : Fin
      24).val ∧ (st215.acq.pins = [(⟨3, 0, 5, 6, ((List.range 17).map fun i => i)⟩ : PinRecord)]) ∧
      ((⟨3, 0, 5, 6, ((List.range 17).map fun i => i)⟩ : PinRecord).group = (3 : Fin 24)) ∧
      ((⟨3, 0, 5, 6, ((List.range 17).map fun i => i)⟩ : PinRecord).frame = st215.frameNo) ∧
      ((⟨3, 0, 5, 6, ((List.range 17).map fun i => i)⟩ : PinRecord).samples.length < 47)) ∧
    (64 ≤ st216.acq.stage.length ∧ Sparse.get 0 (st216.ctl st216.blockTarget.1).acqSlot st216.blockTarget.2 = 1) ∧
    ((st1.acq.stage.length < 64 ∨ Sparse.get 0 (st1.ctl st1.blockTarget.1).acqSlot st1.blockTarget.2 ≠ 1)) := by
  and_intros <;> decide +kernel

def st217 : State :=
  withRegs [(DEV_MODE, 5), (HBC_ACQ_BASE 0, 0x978de), (HBC_ACQ_BASE 1, 0x978de), (HBC_ACQ_BASE 2, 0x978de), (HBC_ACQ_BASE 3, 0x978de)]

def st218 : State :=
  withRegs [(ACQ_STATUS, 1)]

def st219 : State :=
  withRegs [(ACQ_STATUS, 4)]

def st220 : State :=
  withRegs [(DEV_MODE, 3), (CLU_VMAP 5, 0x10000)]

def st221 : State :=
  withRegs [(ACQ_WR_PTR, 96), (ACQ_MB_LEN, 32), (ACQ_MB_DST + 4, 16)]

def st222 : State :=
  withRegs [(CFG_STATE, 5), (ACQ_PIN_DLY 0, 383)]

def st223 : State :=
  { withRegs [(CFG_STATE, 5), (ACQ_SKEW_CFG, 49), (ACQ_PIN_DLY 0, 576)] with
    acq := { Acquisition.reset with skew := [(0, -2, 7)] } }

def st224 : State :=
  { withRegs [(CFG_STATE, 5), (ACQ_SKEW_CFG, 49), (ACQ_PIN_DLY 0, 383)] with
    acq := { Acquisition.reset with skew := [(0, -1, 7)] } }

def st225 : State :=
  withRegs [(ACQ_PIN_DLY 1, 639)]

theorem test_meets_CapturesAndCalibration :
    (Reached st217 ACQ_CTRL ∧ slice (0x18005#32).toNat 2 3 = 1 ∧ st217.capturing = false ∧ (st217.mode = Mode.idle ∨
      st217.framesMode = true) ∧ st217.acqBases = true) ∧
    (Reached st218 ACQ_CTRL ∧ slice (4#32).toNat 2 3 = 1 ∧ st218.capturing = true) ∧
    (Reached st218 ACQ_CTRL ∧ slice (8#32).toNat 2 3 = 2 ∧ st218.capturing = true) ∧
    (Reached st218 ACQ_CTRL ∧ slice (0xdc384eb3#32).toNat 2 3 = 4 ∧ st218.f ACQ_STATUS_STATE = 1) ∧
    ((BitVec.ofNat 28 ACQ_DEPTH).toNat = ACQ_DEPTH ∧ Reached st1 (BitVec.ofNat 28 ACQ_DEPTH).toNat ∧ st1.capturing =
      false) ∧
    ((BitVec.ofNat 28 ACQ_DEPTH).toNat = ACQ_DEPTH ∧ Reached st219 (BitVec.ofNat 28 ACQ_DEPTH).toNat ∧
      st219.capturing = true) ∧
    (Reached st22 (BitVec.ofNat 28 ACQ_TAP_NUM).toNat ∧ (BitVec.ofNat 28 ACQ_TAP_NUM).toNat = ACQ_TAP_NUM ∧
      st22.tapOpen = true ∧ slice (0x18005#32).toNat 0 15 ≤ 16384) ∧
    (Reached st220 (BitVec.ofNat 28 ACQ_TAP_DATA).toNat ∧ (BitVec.ofNat 28 ACQ_TAP_DATA).toNat = ACQ_TAP_DATA ∧
      st220.tapOpen = true ∧ st220.tapOk (0x18005#32).toNat = true) ∧
    (Reached st1 (BitVec.ofNat 28 ACQ_TAP_DATA).toNat ∧ ((BitVec.ofNat 28 ACQ_TAP_DATA).toNat = ACQ_TAP_NUM ∨
      (BitVec.ofNat 28 ACQ_TAP_DATA).toNat = ACQ_TAP_DATA) ∧ st1.tapOpen = false) ∧
    (Reached st1 ACQ_MB_CMD ∧ st1.f (mbBusy 5) = 0 ∧ st1.copyRefusal = some 0) ∧
    (Reached st221 ACQ_MB_CMD ∧ st221.f (mbBusy 5) = 0 ∧ st221.copyRefusal = none) ∧
    (st222.f ACQ_SKEW_CFG_EN = 1 ∧ st222.f (ACQ_PIN_DLY_CAL_EN (0 : Fin 384)) = 1 ∧ st222.f (ACQ_PIN_DLY_REF (0 :
      Fin 384)) ≠ (0 : Fin 384).val ∧ st222.f CFG_STATE_CONFIGURED = 1 ∧ -32 ≤ (-4 : Int) ∧ (-4 : Int) ≤ 32 ∧
      (Sparse.get (0, 0) st222.acq.skew (0 : Fin 384)).2 + 1 < 2 ^ st222.f ACQ_SKEW_CFG_AVG_LOG2) ∧
    (st223.f ACQ_SKEW_CFG_EN = 1 ∧ st223.f (ACQ_PIN_DLY_CAL_EN (0 : Fin 384)) = 1 ∧ st223.f (ACQ_PIN_DLY_REF (0 :
      Fin 384)) ≠ (0 : Fin 384).val ∧ st223.f CFG_STATE_CONFIGURED = 1 ∧ -32 ≤ (5 : Int) ∧ (5 : Int) ≤ 32 ∧
      (Sparse.get (0, 0) st223.acq.skew (0 : Fin 384)).2 + 1 = 2 ^ st223.f ACQ_SKEW_CFG_AVG_LOG2 ∧ roundDiv
      ((Sparse.get (0, 0) st223.acq.skew (0 : Fin 384)).1 + (5 : Int)) (2 ^ st223.f ACQ_SKEW_CFG_AVG_LOG2) = 0) ∧
    (st224.f ACQ_SKEW_CFG_EN = 1 ∧ st224.f (ACQ_PIN_DLY_CAL_EN (0 : Fin 384)) = 1 ∧ st224.f (ACQ_PIN_DLY_REF (0 :
      Fin 384)) ≠ (0 : Fin 384).val ∧ st224.f CFG_STATE_CONFIGURED = 1 ∧ -32 ≤ (5 : Int) ∧ (5 : Int) ≤ 32 ∧
      (Sparse.get (0, 0) st224.acq.skew (0 : Fin 384)).2 + 1 = 2 ^ st224.f ACQ_SKEW_CFG_AVG_LOG2 ∧ 0 < roundDiv
      ((Sparse.get (0, 0) st224.acq.skew (0 : Fin 384)).1 + (5 : Int)) (2 ^ st224.f ACQ_SKEW_CFG_AVG_LOG2) ∧ 0 <
      st224.f (ACQ_PIN_DLY_DLY (0 : Fin 384))) ∧
    (((33 : Int) < -32 ∨ 32 < (33 : Int))) ∧
    (Reached st1 (ACQ_PIN_DLY (383 : Fin 384)) ∧ slice (0x4000#32).toNat 8 9 ≤ 383 ∧ st1.f (ACQ_PIN_DLY_CAL_EN (383
      : Fin 384)) = 0) ∧
    (Reached st225 (ACQ_PIN_DLY (1 : Fin 384)) ∧ slice (64#32).toNat 8 9 ≤ 383 ∧ st225.f (ACQ_PIN_DLY_CAL_EN (1 :
      Fin 384)) = 1) := by
  unfold Reached
  and_intros <;> decide +kernel

def st226 : State :=
  { State.reset with
    tmk := { Tidemark.reset with integ := -65 } }

def st227 : State :=
  { State.reset with
    tmk := { Tidemark.reset with integ := -360 } }

def st228 : State :=
  { withRegs [(TMK_SET_NS, 0x3fffffff)] with
    tmk := { Tidemark.reset with integ := 38 } }

def st229 : State :=
  { withRegs [(DEV_MODE, 5)] with
    tmk := { Tidemark.reset with integ := -477 } }

def st230 : State :=
  { State.reset with
    tmk := { Tidemark.reset with integ := 373 } }

def st231 : State :=
  { withRegs [(TMK_OFS + 4, 0xffffffff)] with
    tmk := { Tidemark.reset with integ := 88 } }

def st232 : State :=
  { State.reset with
    tmk := { Tidemark.reset with integ := 420 } }

def st233 : State :=
  { withRegs [(TMK_SRV_CFG, 145)] with
    tmk := { Tidemark.reset with integ := 89 } }

def st234 : State :=
  { State.reset with
    tmk := { Tidemark.reset with integ := -4 } }

def st235 : State :=
  { withRegs [(TMK_SRV_CFG, 995)] with
    hub := 5000,
    tmk := { Tidemark.reset with integ := 352, stepAt := some 5000 } }

def st236 : State :=
  { withRegs [(TMK_SRV_CFG, 0x19f3)] with
    tmk := { Tidemark.reset with integ := -473 } }

def st237 : State :=
  { withRegs [(DEV_MODE, 5), (TMK_SRV_CFG, 0xa3c), (TMK_STEP_THR, 0)] with
    tmk := { Tidemark.reset with integ := 287 } }

def st238 : State :=
  { withRegs [(TMK_SRV_CFG, 667), (TMK_STEP_THR, 2)] with
    tmk := { Tidemark.reset with time := 20282409603651670423947251286015999999999, integ := -350 } }

def st239 : State :=
  { State.reset with
    tmk := { Tidemark.reset with integ := 159 } }

def st240 : State :=
  { withRegs [(TMK_SRV_CFG, 0x1621)] with
    paths := [(2, { PathState.reset with heldTag := some 2097224, heldLo := (0xd4a06d7c#32), answer := (5#32) })],
    tmk := { Tidemark.reset with integ := -252 } }

def st241 : State :=
  { withRegs [(TMK_SRV_CFG, 0x1893)] with
    tmk := { Tidemark.reset with integ := -70 } }

def st242 : State :=
  { withRegs [(TMK_SRV_CFG, 0x19f4), (TMK_SRV_STAT, 0x30007)] with
    tmk := { Tidemark.reset with integ := -214 } }

def st244 : State :=
  { withRegs [(TMK_SRV_CFG, 0x432)] with
    tmk := { Tidemark.reset with steered := 1099511627776000000000000, integ := 307 } }

def st245 : State :=
  { State.reset with
    tmk := { Tidemark.reset with time := 20282409603651670423947251286015999999999, integ := -334 } }

def st246 : State :=
  { State.reset with
    tmk := { Tidemark.reset with integ := -313 } }

theorem test_meets_TimeIsReadSteppedAndSteered :
    (Reached st226 TMK_SEC) ∧
    (Reached st227 TMK_CMD ∧ slice (1#32).toNat 0 2 = 1 ∧ st227.f TMK_SET_NS_NS ≤ 999999999 ∧ st227.mode ≠
      Mode.timed) ∧
    (Reached st228 TMK_CMD ∧ slice (5#32).toNat 0 2 = 1 ∧ 999999999 < st228.f TMK_SET_NS_NS) ∧
    (Reached st229 TMK_CMD ∧ slice (5#32).toNat 0 2 = 1 ∧ st229.f TMK_SET_NS_NS ≤ 999999999 ∧ st229.mode =
      Mode.timed) ∧
    (Reached st230 TMK_CMD ∧ slice (0x6cc1a1ba#32).toNat 0 2 = 2 ∧ st230.mode ≠ Mode.timed ∧ 0 ≤ (st230.tmk.time :
      Int) + Machine.signed 64 (st230.f64 TMK_OFS) * 4194304 ∧ (st230.tmk.time : Int) + Machine.signed 64 (st230.f64
      TMK_OFS) * 4194304 ≤ timeMax) ∧
    (Reached st231 TMK_CMD ∧ slice (0xa0e17756#32).toNat 0 2 = 2 ∧ st231.mode ≠ Mode.timed ∧ (st231.tmk.time : Int)
      + Machine.signed 64 (st231.f64 TMK_OFS) * 4194304 < 0) ∧
    (Reached st232 TMK_ADJ ∧ srcFree (st232.f TMK_SRV_CFG_SRC) = true) ∧
    (Reached st233 TMK_ADJ ∧ srcFree (st233.f TMK_SRV_CFG_SRC) = false) ∧
    (Reached st234 TMK_SRV_CFG ∧ slice (4#32).toNat 0 3 ≠ st234.f TMK_SRV_CFG_SRC) ∧
    (srcFree (st235.f TMK_SRV_CFG_SRC) = false ∧ st235.tmk.stepAt = some st235.hub) ∧
    (srcFree (st236.f TMK_SRV_CFG_SRC) = false ∧ st236.tmk.stepAt ≠ some st236.hub ∧ (st236.f TMK_SRV_CFG_STEP_EN =
      0 ∨ (1 : Int).natAbs ≤ (st236.reg TMK_STEP_THR).toNat * 262144)) ∧
    (srcFree (st237.f TMK_SRV_CFG_SRC) = false ∧ st237.tmk.stepAt ≠ some st237.hub ∧ st237.f TMK_SRV_CFG_STEP_EN = 1
      ∧ (st237.reg TMK_STEP_THR).toNat * 262144 < (1 : Int).natAbs ∧ st237.mode = Mode.timed) ∧
    (srcFree (st238.f TMK_SRV_CFG_SRC) = false ∧ st238.tmk.stepAt ≠ some st238.hub ∧ st238.f TMK_SRV_CFG_STEP_EN = 1
      ∧ (st238.reg TMK_STEP_THR).toNat * 262144 < (300000000 : Int).natAbs ∧ st238.mode ≠ Mode.timed ∧ 0 ≤
      (st238.tmk.time : Int) + -(300000000 : Int) * 4194304 ∧ (st238.tmk.time : Int) + -(300000000 : Int) * 4194304
      ≤ timeMax) ∧
    (Reached st239 TMK_MEAS ∧ st239.f TMK_SRV_CFG_SRC ≠ 1) ∧
    (Reached st240 TMK_MEAS ∧ st240.f TMK_SRV_CFG_SRC = 1 ∧ st240.tmk.stepAt ≠ some st240.hub ∧ (st240.path (2 :
      Path)).heldTag = some TMK_MEAS) ∧
    (st241.tmk.stepAt ≠ some st241.hub ∧ st241.f TMK_SRV_CFG_SRC = 3 ∧ st241.f TMK_LB_PPS = 0) ∧
    (st242.tmk.stepAt ≠ some st242.hub ∧ st242.f TMK_SRV_CFG_SRC = 4 ∧ st242.f TMK_SRV_STAT_REF_OK = 1 ∧
      st242.tmk.lastRef = none) ∧
    (srcFree (st244.f TMK_SRV_CFG_SRC) = false ∧ st244.f TMK_SRV_STAT_HOLDOVER = 0 ∧ st244.elapsedSteered
      st244.tmk.since (100 * max 1 (st244.f TMK_SRV_LOCK_HOLD_100MS) * 1000000) = true) ∧
    (timeMax ≤ st245.tmk.time + st245.advance40) ∧
    (st246.tmk.time + st246.advance40 < timeMax) := by
  unfold Reached
  and_intros <;> decide +kernel

def st247 : State :=
  { State.reset with
    tmk := { Tidemark.reset with integ := 108 } }

def st248 : State :=
  { State.reset with
    tmk := { Tidemark.reset with integ := 59, txts := ((List.range 16).map fun i => ⟨⟨4294967299 + i, 4, 5⟩, i, 12⟩) } }

def st249 : State :=
  { State.reset with
    tmk := { Tidemark.reset with integ := 55, txts := [⟨⟨4294967300, 4, 5⟩, 1, 13⟩] } }

def st250 : State :=
  { withRegs [(TMK_SHX_CFG, 0xaa5), (SHR_LSTAT 37, 4)] with
    tmk := { Tidemark.reset with integ := -120 } }

def st251 : State :=
  { withRegs [(SHR_LSTAT 0, 4)] with
    tmk := { Tidemark.reset with integ := 405 } }

def st252 : State :=
  { State.reset with
    tmk := { Tidemark.reset with integ := -374 } }

def st253 : State :=
  { State.reset with
    tmk := { Tidemark.reset with integ := -41, steps := 1, exchange := some ⟨0, 0, 5497558138880000000000, 101034459, 1⟩ } }

def st254 : State :=
  { State.reset with
    tmk := { Tidemark.reset with steered := 1099511627776000000000000, integ := -341, exchange := some ⟨255, 37, 5497558138880000000000, 399690159, 2⟩ } }

def st255 : State :=
  { State.reset with
    tmk := { Tidemark.reset with integ := -249 } }

def st256 : State :=
  { State.reset with
    tmk := { Tidemark.reset with integ := -256 } }

def st257 : State :=
  { withRegs [(TMK_PO_WIDTH 1, 21)] with
    tmk := { Tidemark.reset with integ := 69 } }

def st258 : State :=
  { withRegs [(TMK_PO_CTRL 5, 1)] with
    tmk := { Tidemark.reset with integ := -237, pulses := [(5, { PulseOut.reset with next := some 3 })] } }

def st259 : State :=
  { withRegs [(TMK_PO_START_SEC 1, 5), (TMK_PO_CTRL 1, 1)] with
    tmk := { Tidemark.reset with integ := 186, pulses := [(1, { PulseOut.reset with next := some 2 })] } }

def st260 : State :=
  { State.reset with
    tmk := { Tidemark.reset with integ := -219, pulses := [(0, { PulseOut.reset with active := true })] } }

def st261 : State :=
  { withRegs [(TMK_PPS_CFG, 0x10001)] with
    tmk := { Tidemark.reset with integ := -165 } }

def st262 : State :=
  { State.reset with
    tmk := { Tidemark.reset with integ := -361, pps := true } }

def st263 : State :=
  { withRegs [(TMK_CAP_CTRL 0, 3)] with
    tmk := { Tidemark.reset with integ := 168 } }

def st264 : State :=
  { withRegs [(TMK_CAP_CTRL 3, 3)] with
    tmk := { Tidemark.reset with integ := 120, caps := [(3, ((List.range 16).map fun i => ⟨i, 2, 3⟩))] } }

def st265 : State :=
  { State.reset with
    tmk := { Tidemark.reset with integ := -243, caps := [(8, [⟨9, 9, 9⟩])] } }

def st266 : State :=
  { State.reset with
    tmk := { Tidemark.reset with integ := 201 } }

theorem test_meets_TimestampsExchangesAndPulses :
    (st247.tmk.txts.length < 16 ∧ (5#4) ≠ 0 ∧ (5#4) ≠ 3) ∧
    (16 ≤ st248.tmk.txts.length) ∧
    (Reached st249 TMK_TXTS_SEC ∧ st249.tmk.txts = (⟨⟨4294967300, 4, 5⟩, 1, 13⟩ : TxStamp) :: []) ∧
    (st250.f TMK_SHX_CFG_EN = 1 ∧ st250.laneUp (st250.f TMK_SHX_CFG_LANE) = true ∧ st250.tmk.exchange = none ∧
      st250.tmk.lastReq = none) ∧
    (st251.laneUp (0 : LaneId) = true) ∧
    (st252.laneUp (5 : LaneId) = false) ∧
    (st253.tmk.exchange = some (⟨0, 0, 5497558138880000000000, 101034459, 1⟩ : Exchange) ∧
      (⟨0, 0, 5497558138880000000000, 101034459, 1⟩ : Exchange).id = (0#8).toNat ∧
      (⟨0, 0, 5497558138880000000000, 101034459, 1⟩ : Exchange).lane = (0 : LaneId) ∧
      (⟨0, 0, 5497558138880000000000, 101034459, 1⟩ : Exchange).steps = st253.tmk.steps) ∧
    (st254.tmk.exchange = some (⟨255, 37, 5497558138880000000000, 399690159, 2⟩ : Exchange) ∧ st254.elapsedSteered
      (⟨255, 37, 5497558138880000000000, 399690159, 2⟩ : Exchange).at_ 1000000 = true) ∧
    (Reached st255 (TMK_PO_CTRL (7 : Fin 8)) ∧ bitOf (2#32).toNat 0 = false) ∧
    (Reached st256 (TMK_PO_CTRL (2 : Fin 8)) ∧ bitOf (1#32).toNat 0 = true ∧ st256.f (TMK_PO_CTRL_ENABLE (2 : Fin
      8)) = 0 ∧ st256.badWidth (2 : Fin 8) (bitOf (1#32).toNat 1) = true) ∧
    (Reached st257 (TMK_PO_CTRL (1 : Fin 8)) ∧ bitOf (0x726fd495#32).toNat 0 = true ∧ st257.f (TMK_PO_CTRL_ENABLE (1
      : Fin 8)) = 0 ∧ st257.badWidth (1 : Fin 8) (bitOf (0x726fd495#32).toNat 1) = false ∧ st257.tmk.time ≤
      st257.pulseInstant (1 : Fin 8) 0) ∧
    ((st258.pulse (5 : Fin 8)).next = some (3 : Nat) ∧ st258.f (TMK_PO_CTRL_ENABLE (5 : Fin 8)) = 1 ∧ lessPs
      (st258.pulseInstant (5 : Fin 8) (3 : Nat)) (st258.f (TMK_PORT_LAT_EGRESS (11 + (5 : Fin 8)))) ≤
      st258.tmk.time) ∧
    ((st259.pulse (1 : Fin 8)).next = some (2 : Nat) ∧ st259.f (TMK_PO_CTRL_ENABLE (1 : Fin 8)) = 1 ∧ st259.tmk.time
      < lessPs (st259.pulseInstant (1 : Fin 8) (2 : Nat)) (st259.f (TMK_PORT_LAT_EGRESS (11 + (1 : Fin 8))))) ∧
    ((st260.pulse (0 : Fin 8)).active = true ∧ (st260.pulse (0 : Fin 8)).endAt ≤ st260.tmk.steered) ∧
    (st261.f TMK_PPS_CFG_OUT_EN = 1 ∧ st261.tmk.pps = false ∧ st261.tmk.time % secUnit < st261.advance40 ∧
      st261.tmk.ppsAt ≠ some st261.hub) ∧
    (st262.tmk.pps = true ∧ st262.tmk.ppsEnd ≤ st262.tmk.steered) ∧
    (bitOf (st263.f TMK_LB_CAP) (0 : Fin 8) = false ∧ edgeTaken (st263.f (TMK_CAP_CTRL_EDGE (0 : Fin 8))) false =
      true ∧ (Sparse.get [] st263.tmk.caps (0 : Fin 8)).length < 16) ∧
    (bitOf (st264.f TMK_LB_CAP) (3 : Fin 8) = false ∧ edgeTaken (st264.f (TMK_CAP_CTRL_EDGE (3 : Fin 8))) false =
      true ∧ 16 ≤ (Sparse.get [] st264.tmk.caps (3 : Fin 8)).length) ∧
    (Reached st265 (TMK_CAP_SEC (8 : Fin 9)) ∧ Sparse.get [] st265.tmk.caps (8 : Fin 9) = (⟨9, 9, 9⟩ : Stamp) :: []) ∧
    (Reached st266 (TMK_CAP_SEC (0 : Fin 9)) ∧ Sparse.get [] st266.tmk.caps (0 : Fin 9) = []) := by
  unfold Reached
  and_intros <;> decide +kernel

def st267 : State :=
  withRegs [(PWR_DOM 41, 0)]

def st268 : State :=
  withRegs [(PWR_DOM 41, 0), (PWR_DOM 49, 0), (SHR_LSTAT 5, 0x4c45)]

def st269 : State :=
  withRegs [(PWR_DOM 40, 0), (PWR_DOM 41, 0)]

def st270 : State :=
  withRegs [(PWR_DOM 41, 0), (SHR_LSTAT 5, 0x2f42)]

def st271 : State :=
  withRegs [(PWR_DOM 41, 0), (PWR_DOM 49, 0)]

def st272 : State :=
  withRegs [(DEV_MODE, 7), (PWR_DOM 49, 0)]

def st273 : State :=
  withRegs [(PWR_DOM 49, 0)]

def st274 : State :=
  withRegs [(SHR_LSTAT 37, 0x3439)]

def st275 : State :=
  withRegs [(SHR_LSTAT 0, 0xf52)]

def st276 : State :=
  withRegs [(SHR_LSTAT 0, 0x3462)]

def st277 : State :=
  { withRegs [(SHR_LSTAT 0, 0x661a)] with
    tmk := { Tidemark.reset with steered := 1099511627776000000000000 } }

def st278 : State :=
  { withRegs [(SHR_LSTAT 5, 0x2c12)] with
    tmk := { Tidemark.reset with steered := 1099511627776000000000000 },
    lanes := [(5, { Lane.reset with link := { LaneLink.reset with cfg := (0x9784a745#32), fellBack := true } })] }

def st279 : State :=
  { withRegs [(SHR_LSTAT 37, 0x7c5d)] with
    tmk := { Tidemark.reset with steered := 1099511627776000000000000 } }

def st280 : State :=
  withRegs [(SHR_LSTAT 5, 0x1f3d)]

def st281 : State :=
  { withRegs [(SHR_LSTAT 37, 0x3132)] with
    lanes := [(37, { Lane.reset with link := { LaneLink.reset with cfg := (0x8df2e26#32), headers := (List.replicate 63 true) } })] }

def st282 : State :=
  { withRegs [(SHR_LSTAT 0, 0x4b5c)] with
    lanes := [(0, { Lane.reset with link := { LaneLink.reset with cfg := (0xcb99dfc1#32), headers := (List.replicate 15 false) } })] }

def st283 : State :=
  withRegs [(SHR_LSTAT 0, 0xb5c)]

theorem test_meets_LanesBringUpAndGoDown :
    (Reached st267 (SHR_LCTRL (5 : LaneId)) ∧ slice (1#32).toNat 0 4 = 1 ∧ st267.startRefused (5 : LaneId) = false) ∧
    (Reached st268 (SHR_LCTRL (5 : LaneId)) ∧ slice (0x5db7e061#32).toNat 0 4 = 1 ∧ st268.startRefused (5 : LaneId)
      = true) ∧
    (Reached st269 (SHR_LCTRL (0 : LaneId)) ∧ slice (2#32).toNat 0 4 = 2) ∧
    (Reached st270 (SHR_LCTRL (5 : LaneId)) ∧ slice (4#32).toNat 0 4 = 4 ∧ bitOf (st270.lane (5 :
      LaneId)).link.cfg.toNat 8 = false ∧ st270.laneState (5 : LaneId) = LaneSt.acquire) ∧
    (Reached st271 (SHR_LCTRL (37 : LaneId)) ∧ slice (4#32).toNat 0 4 = 4 ∧ (bitOf (st271.lane (37 :
      LaneId)).link.cfg.toNat 8 = true ∨ st271.laneState (37 : LaneId) ≠ LaneSt.acquire)) ∧
    (Reached st272 (SHR_LCTRL (37 : LaneId)) ∧ slice (8#32).toNat 0 4 = 8 ∧ st272.mode = Mode.diagnose ∧
      (st272.laneState (37 : LaneId) = LaneSt.off ∨ st272.laneState (37 : LaneId) = LaneSt.down)) ∧
    (Reached st273 (SHR_LCTRL (37 : LaneId)) ∧ slice (8#32).toNat 0 4 = 8 ∧ st273.mode ≠ Mode.diagnose) ∧
    (st274.laneState (37 : LaneId) = LaneSt.reset) ∧
    (slice (0x1270a#18).toNat 0 3 = st275.f (SHR_LSTAT_RATE (0 : LaneId)) ∧ st275.f (SHR_LSTAT_LOCK (0 : LaneId)) =
      1 ∧ st275.laneState (0 : LaneId) = LaneSt.acquire) ∧
    (slice (0x19b48#18).toNat 0 3 ≠ st276.f (SHR_LSTAT_RATE (0 : LaneId)) ∧ st276.f (SHR_LSTAT_LOCK (0 : LaneId)) =
      1 ∧ st276.laneState (0 : LaneId) = LaneSt.acquire) ∧
    (st1.f (SHR_LSTAT_LOCK (5 : LaneId)) = 0) ∧
    (st277.laneState (0 : LaneId) = LaneSt.acquire ∧ st277.f (SHR_LSTAT_RATE (0 : LaneId)) ≠ 0 ∧ st277.f
      (SHR_LSTAT_RATE (0 : LaneId)) < 7 ∧ st277.elapsedSteered (st277.lane (0 : LaneId)).link.at_ (max 1 (slice
      (st277.lane (0 : LaneId)).link.cfg.toNat 10 10) * 1000) = true ∧ (st277.lane (0 : LaneId)).link.fellBack =
      false) ∧
    (st278.laneState (5 : LaneId) = LaneSt.acquire ∧ st278.f (SHR_LSTAT_RATE (5 : LaneId)) ≠ 0 ∧ st278.f
      (SHR_LSTAT_RATE (5 : LaneId)) < 7 ∧ st278.elapsedSteered (st278.lane (5 : LaneId)).link.at_ (max 1 (slice
      (st278.lane (5 : LaneId)).link.cfg.toNat 10 10) * 1000) = true ∧ (st278.lane (5 : LaneId)).link.fellBack =
      true) ∧
    (st279.laneState (37 : LaneId) = LaneSt.relock ∧ st279.elapsedSteered (st279.lane (37 : LaneId)).link.at_ (max 1
      (slice (st279.lane (37 : LaneId)).link.cfg.toNat 20 12) * 1000) = true) ∧
    (st280.laneTakes (5 : LaneId) = true) ∧
    (st1.laneTakes (5 : LaneId) = false) ∧
    (st1.laneReceives (37 : LaneId) = false) ∧
    (st281.laneState (37 : LaneId) = LaneSt.acquire ∧ st281.f (SHR_LSTAT_LOCK (37 : LaneId)) = 0 ∧ st281.jtagPins =
      false ∧ ((1#2) = 1 ∨ (1#2) = 2) ∧ (st281.lane (37 : LaneId)).link.headers = List.replicate 63 true) ∧
    (st282.laneState (0 : LaneId) = LaneSt.up ∧ st282.f (SHR_LSTAT_LOCK (0 : LaneId)) = 1 ∧ ((3#2) = 0 ∨ (3#2) = 3)
      ∧ ((List.replicate 16 false) : List Bool) = (false :: (st282.lane (0 : LaneId)).link.headers).take 64 ∧ 16 ≤
      ((List.replicate 16 false) : List Bool).length - (((List.replicate 16 false) : List Bool).filter id).length) ∧
    (st283.laneState (0 : LaneId) = LaneSt.up ∧ st283.f (SHR_LSTAT_LOCK (0 : LaneId)) = 1 ∧ ((0#2) = 0 ∨ (0#2) = 3)
      ∧ ([false] : List Bool) = (false :: (st283.lane (0 : LaneId)).link.headers).take 64 ∧ ([false] : List
      Bool).length - (([false] : List Bool).filter id).length < 16) := by
  unfold Reached
  and_intros <;> decide +kernel

def st284 : State :=
  { withRegs [(SHR_LSTAT 37, 0x3a4c)] with
    lanes := [(37, { Lane.reset with link := { LaneLink.reset with cfg := (0x3b83f283#32) }, q := { LaneQueue.reset with ctrl := [(LaneCtrl.tresp 7 ⟨1, 2, 3⟩)] } })] }

def st285 : State :=
  { withRegs [(SHR_LSTAT 37, 0x6544)] with
    lanes := [(37, { Lane.reset with link := { LaneLink.reset with cfg := (0xc9f9d241#32) }, q := { LaneQueue.reset with resend := [143] } })] }

def st286 : State :=
  { withRegs [(SHR_LSTAT 0, 0x351c)] with
    lanes := [(0, { Lane.reset with link := { LaneLink.reset with cfg := (0xeb343781#32) }, q := { LaneQueue.reset with ends := [(false, false, 46810)] } })] }

def st287 : State :=
  withRegs [(SHR_LSTAT 5, 0x6d74)]

def st288 : State :=
  withRegs [(SHR_LSTAT 5, 0x4d06)]

def st289 : State :=
  withRegs [(SHR_LSTAT 5, 0x1f54)]

def st290 : State :=
  { withRegs [(SHR_LSTAT 0, 0x5024)] with
    lanes := [(0, { Lane.reset with link := { LaneLink.reset with cfg := (0x96ef3ac4#32) }, q := { LaneQueue.reset with expect := 1023 } })] }

def st291 : State :=
  { withRegs [(SHR_LSTAT 5, 0x6674)] with
    lanes := [(5, { Lane.reset with link := { LaneLink.reset with cfg := (0x42f55647#32) }, q := { LaneQueue.reset with expect := 1 } })] }

def st292 : State :=
  withRegs [(SHR_LSTAT 5, 60)]

def st293 : State :=
  withRegs [(SHR_LSTAT 37, 0x2844)]

def st294 : State :=
  { withRegs [(SHR_LSTAT 5, 0x325c)] with
    lanes := [(5, { Lane.reset with link := { LaneLink.reset with cfg := (0xc05cf470#32) }, q := { LaneQueue.reset with buffer := [⟨1, [(LaneItem.endItem true false 5)], 81364, 4⟩], expect := 1 } })] }

def st295 : State :=
  { withRegs [(SEQ_FRAME_NO, 3)] with
    seq := { Sequencer.reset with inFrame := true },
    lanes := [(5, { Lane.reset with link := { LaneLink.reset with cfg := (0xe7504fa2#32) }, q := { LaneQueue.reset with rx := [⟨3, 4, 1374, 100547⟩] } })] }

def st296 : State :=
  { State.reset with
    seq := { Sequencer.reset with inFrame := true },
    mlr := [(0, { Millrace.reset with tbl := [(147457, 9223372582315639305)] })],
    lanes := [(5, { Lane.reset with link := { LaneLink.reset with cfg := (0x8cbb9d07#32) }, q := { LaneQueue.reset with rx := [⟨0, 1, 1420, 258124⟩] } })] }

def st297 : State :=
  { withRegs [(SEQ_FRAME_NO, 3)] with
    seq := { Sequencer.reset with inFrame := true },
    mlr := [(1, { Millrace.reset with tbl := [(147456, 9223374467806286489)], inj := [(72, ((List.range 32).map fun i => (i, 0)))] })],
    lanes := [(37, { Lane.reset with link := { LaneLink.reset with cfg := (0xe733cb00#32) }, q := { LaneQueue.reset with rx := [⟨3, 0, 2021, 248868⟩] } })] }

def st298 : State :=
  { withRegs [(SHR_LSTAT 0, 0x7b44)] with
    hub := 1000000000,
    lanes := [(0, { Lane.reset with link := { LaneLink.reset with cfg := (0xac3d8a9e#32) }, q := { LaneQueue.reset with buffer := [⟨0, [(LaneItem.endItem true false 5)], 40005, 1⟩] } })] }

def st299 : State :=
  { withRegs [(SHR_LSTAT 0, 0x5254), (SHR_REPLAY_CFG 0, 0)] with
    hub := 100000,
    lanes := [(0, { Lane.reset with link := { LaneLink.reset with cfg := (0xb1410f0a#32) }, q := { LaneQueue.reset with buffer := [⟨1, [(LaneItem.endItem true false 5)], 24149, 1⟩] } })] }

set_option maxRecDepth 20000 in
theorem test_meets_LanesCarryPackets :
    ((st1.laneState (0 : LaneId) = LaneSt.off ∨ st1.laneState (0 : LaneId) = LaneSt.reset)) ∧
    (st284.laneState (37 : LaneId) = LaneSt.up ∧ firstCtrl (st284.lane (37 : LaneId)).q.ctrl = some (LaneCtrl.tresp
      7 (⟨1, 2, 3⟩ : Stamp)) ∧ (st284.lane (37 : LaneId)).q.lastCtrl = false) ∧
    (st285.laneState (37 : LaneId) = LaneSt.up ∧ ((st285.lane (37 : LaneId)).q.ctrl = [] ∨ (st285.lane (37 :
      LaneId)).q.lastCtrl = true) ∧ (st285.lane (37 : LaneId)).q.resend = 143 :: []) ∧
    (st286.laneState (0 : LaneId) = LaneSt.up ∧ ((st286.lane (0 : LaneId)).q.ctrl = [] ∨ (st286.lane (0 :
      LaneId)).q.lastCtrl = true) ∧ (st286.lane (0 : LaneId)).q.resend = [] ∧ (st286.lane (0 :
      LaneId)).q.buffer.length < 128 ∧ (st286.lane (0 : LaneId)).q.fill 125 125 = ([(LaneItem.endItem false false
      46810)], ({ LaneQueue.reset with ftag := some 3 } : LaneQueue)) ∧ [(LaneItem.endItem false false 46810)] ≠ []) ∧
    (st287.laneState (5 : LaneId) = LaneSt.up ∧ ((st287.lane (5 : LaneId)).q.ctrl = [] ∨ (st287.lane (5 :
      LaneId)).q.lastCtrl = true) ∧ (st287.lane (5 : LaneId)).q.resend = [] ∧ (128 ≤ (st287.lane (5 :
      LaneId)).q.buffer.length ∨ ((st287.lane (5 : LaneId)).q.fill 125 125).1 = [])) ∧
    (st288.laneState (5 : LaneId) = LaneSt.down) ∧
    ((([1280, 3] ++ List.replicate 125 0 ++ [58083]) : List Nat) = (([0x500, 3] ++ List.replicate 125 0 ++ [0xe2e3])
      : List (BitVec 18)).map (·.toNat) ∧ st289.laneState (5 : LaneId) = LaneSt.up ∧ st289.jtagPins = false ∧ crc16
      ((([1280, 3] ++ List.replicate 125 0 ++ [58083]) : List Nat).take 127) ≠ (([1280, 3] ++ List.replicate 125 0
      ++ [58083]) : List Nat).getD 127 0 % 65536) ∧
    ((([261888, 252186] ++ List.replicate 125 0 ++ [233496]) : List Nat) = (([0x3ff00, 0x3d91a] ++ List.replicate
      125 0 ++ [0x39018]) : List (BitVec 18)).map (·.toNat) ∧ st290.laneState (0 : LaneId) = LaneSt.up ∧
      st290.jtagPins = false ∧ crc16 ((([261888, 252186] ++ List.replicate 125 0 ++ [233496]) : List Nat).take 127)
      = (([261888, 252186] ++ List.replicate 125 0 ++ [233496]) : List Nat).getD 127 0 % 65536 ∧ slice ((([261888,
      252186] ++ List.replicate 125 0 ++ [233496]) : List Nat).getD 1 0) 6 2 = 0 ∧ slice ((([261888, 252186] ++
      List.replicate 125 0 ++ [233496]) : List Nat).getD 0 0) 8 10 = (st290.lane (0 : LaneId)).q.expect ∧
      (st290.lane (0 : LaneId)).q.expect < 1024 ∧ bitOf ((([261888, 252186] ++ List.replicate 125 0 ++ [233496]) :
      List Nat).getD 0 0) 7 = false) ∧
    ((([256, 98601] ++ List.replicate 125 0 ++ [89318]) : List Nat) = (([256, 0x18129] ++ List.replicate 125 0 ++
      [0x15ce6]) : List (BitVec 18)).map (·.toNat) ∧ st291.laneState (5 : LaneId) = LaneSt.up ∧ st291.jtagPins =
      false ∧ crc16 ((([256, 98601] ++ List.replicate 125 0 ++ [89318]) : List Nat).take 127) = (([256, 98601] ++
      List.replicate 125 0 ++ [89318]) : List Nat).getD 127 0 % 65536 ∧ slice ((([256, 98601] ++ List.replicate 125
      0 ++ [89318]) : List Nat).getD 1 0) 6 2 = 0 ∧ slice ((([256, 98601] ++ List.replicate 125 0 ++ [89318]) : List
      Nat).getD 0 0) 8 10 = (st291.lane (5 : LaneId)).q.expect ∧ (st291.lane (5 : LaneId)).q.expect < 1024 ∧ bitOf
      ((([256, 98601] ++ List.replicate 125 0 ++ [89318]) : List Nat).getD 0 0) 7 = false ∧ ((([256, 98601] ++
      List.replicate 125 0 ++ [89318]) : List Nat).drop 2).take 125 = List.replicate 125 0) ∧
    ((([1792, 6] ++ List.replicate 125 0 ++ [214606]) : List Nat) = (([0x700, 6] ++ List.replicate 125 0 ++
      [0x3464e]) : List (BitVec 18)).map (·.toNat) ∧ st292.laneState (5 : LaneId) = LaneSt.up ∧ st292.jtagPins =
      false ∧ crc16 ((([1792, 6] ++ List.replicate 125 0 ++ [214606]) : List Nat).take 127) = (([1792, 6] ++
      List.replicate 125 0 ++ [214606]) : List Nat).getD 127 0 % 65536 ∧ slice ((([1792, 6] ++ List.replicate 125 0
      ++ [214606]) : List Nat).getD 1 0) 6 2 = 0 ∧ (slice ((([1792, 6] ++ List.replicate 125 0 ++ [214606]) : List
      Nat).getD 0 0) 8 10 + 1024 - (st292.lane (5 : LaneId)).q.expect) % 1024 ≠ 0 ∧ (slice ((([1792, 6] ++
      List.replicate 125 0 ++ [214606]) : List Nat).getD 0 0) 8 10 + 1024 - (st292.lane (5 : LaneId)).q.expect) %
      1024 < 512) ∧
    ((([153600] ++ List.replicate 126 0 ++ [31109]) : List Nat) = (([0x25800] ++ List.replicate 126 0 ++ [0x7985]) :
      List (BitVec 18)).map (·.toNat) ∧ st293.laneState (37 : LaneId) = LaneSt.up ∧ st293.jtagPins = false ∧ crc16
      ((([153600] ++ List.replicate 126 0 ++ [31109]) : List Nat).take 127) = (([153600] ++ List.replicate 126 0 ++
      [31109]) : List Nat).getD 127 0 % 65536 ∧ slice ((([153600] ++ List.replicate 126 0 ++ [31109]) : List
      Nat).getD 1 0) 6 2 = 0 ∧ 512 ≤ (slice ((([153600] ++ List.replicate 126 0 ++ [31109]) : List Nat).getD 0 0) 8
      10 + 1024 - (st293.lane (37 : LaneId)).q.expect) % 1024) ∧
    (([384, 384, 34184, 17092, 186157, 8546, 6836, 93078, 192129, 135345, 236815, 3418, 241420, 177611, 204278,
      227136, 89660, 198744, 109952, 118407, 84581, 1709, 64043, 120710, 206642, 219877, 158653, 102139, 253701,
      113568, 82533, 175902, 246334, 99372, 255236, 186048, 38425, 59203, 71773, 42290, 155474, 131926, 141496,
      163093, 147107, 191427, 204649, 103321, 17459, 241010, 139794, 210398, 211413, 182141, 153974, 126850, 48284,
      56784, 202956, 172338, 58339, 87951, 86509, 254239, 108729, 49686, 40855, 127618, 168751, 93024, 156262,
      150284, 185089, 160673, 25605, 35886, 227647, 152217, 184285, 208809, 143118, 197035, 84567, 70748, 183596,
      212618, 231705, 73553, 114892, 226785, 35729, 233396, 216428, 182732, 82111, 139801, 69345, 120505, 30080,
      69897, 259841, 105199, 169044, 236778, 102135, 91070, 12808, 208059, 237964, 194497, 175877, 24142, 111305,
      28392, 158052, 101478, 251043, 217241, 139206, 160241, 165504, 43975, 212597, 43254, 221928, 127119, 189017,
      140582] : List Nat) = ([384, 384, 0x8588, 0x42c4, 0x2d72d, 0x2162, 0x1ab4, 0x16b96, 0x2ee81, 0x210b1, 0x39d0f,
      0xd5a, 0x3af0c, 0x2b5cb, 0x31df6, 0x37740, 0x15e3c, 0x30858, 0x1ad80, 0x1ce87, 0x14a65, 0x6ad, 0xfa2b,
      0x1d786, 0x32732, 0x35ae5, 0x26bbd, 0x18efb, 0x3df05, 0x1bba0, 0x14265, 0x2af1e, 0x3c23e, 0x1842c, 0x3e504,
      0x2d6c0, 0x9619, 0xe743, 0x1185d, 0xa532, 0x25f52, 0x20356, 0x228b8, 0x27d15, 0x23ea3, 0x2ebc3, 0x31f69,
      0x19399, 0x4433, 0x3ad72, 0x22212, 0x335de, 0x339d5, 0x2c77d, 0x25976, 0x1ef82, 0xbc9c, 0xddd0, 0x318cc,
      0x2a132, 0xe3e3, 0x1578f, 0x151ed, 0x3e11f, 0x1a8b9, 0xc216, 0x9f97, 0x1f282, 0x2932f, 0x16b60, 0x26266,
      0x24b0c, 0x2d301, 0x273a1, 0x6405, 0x8c2e, 0x3793f, 0x25299, 0x2cfdd, 0x32fa9, 0x22f0e, 0x301ab, 0x14a57,
      0x1145c, 0x2cd2c, 0x33e8a, 0x38919, 0x11f51, 0x1c0cc, 0x375e1, 0x8b91, 0x38fb4, 0x34d6c, 0x2c9cc, 0x140bf,
      0x22219, 0x10ee1, 0x1d6b9, 0x7580, 0x11109, 0x3f701, 0x19aef, 0x29454, 0x39cea, 0x18ef7, 0x163be, 0x3208,
      0x32cbb, 0x3a18c, 0x2f7c1, 0x2af05, 0x5e4e, 0x1b2c9, 0x6ee8, 0x26964, 0x18c66, 0x3d4a3, 0x35099, 0x21fc6,
      0x271f1, 0x28680, 0xabc7, 0x33e75, 0xa8f6, 0x362e8, 0x1f08f, 0x2e259, 0x22526] : List (BitVec 18)).map
      (·.toNat) ∧ st294.laneState (5 : LaneId) = LaneSt.up ∧ st294.jtagPins = false ∧ crc16 (([384, 384, 34184,
      17092, 186157, 8546, 6836, 93078, 192129, 135345, 236815, 3418, 241420, 177611, 204278, 227136, 89660, 198744,
      109952, 118407, 84581, 1709, 64043, 120710, 206642, 219877, 158653, 102139, 253701, 113568, 82533, 175902,
      246334, 99372, 255236, 186048, 38425, 59203, 71773, 42290, 155474, 131926, 141496, 163093, 147107, 191427,
      204649, 103321, 17459, 241010, 139794, 210398, 211413, 182141, 153974, 126850, 48284, 56784, 202956, 172338,
      58339, 87951, 86509, 254239, 108729, 49686, 40855, 127618, 168751, 93024, 156262, 150284, 185089, 160673,
      25605, 35886, 227647, 152217, 184285, 208809, 143118, 197035, 84567, 70748, 183596, 212618, 231705, 73553,
      114892, 226785, 35729, 233396, 216428, 182732, 82111, 139801, 69345, 120505, 30080, 69897, 259841, 105199,
      169044, 236778, 102135, 91070, 12808, 208059, 237964, 194497, 175877, 24142, 111305, 28392, 158052, 101478,
      251043, 217241, 139206, 160241, 165504, 43975, 212597, 43254, 221928, 127119, 189017, 140582] : List Nat).take
      127) = ([384, 384, 34184, 17092, 186157, 8546, 6836, 93078, 192129, 135345, 236815, 3418, 241420, 177611,
      204278, 227136, 89660, 198744, 109952, 118407, 84581, 1709, 64043, 120710, 206642, 219877, 158653, 102139,
      253701, 113568, 82533, 175902, 246334, 99372, 255236, 186048, 38425, 59203, 71773, 42290, 155474, 131926,
      141496, 163093, 147107, 191427, 204649, 103321, 17459, 241010, 139794, 210398, 211413, 182141, 153974, 126850,
      48284, 56784, 202956, 172338, 58339, 87951, 86509, 254239, 108729, 49686, 40855, 127618, 168751, 93024,
      156262, 150284, 185089, 160673, 25605, 35886, 227647, 152217, 184285, 208809, 143118, 197035, 84567, 70748,
      183596, 212618, 231705, 73553, 114892, 226785, 35729, 233396, 216428, 182732, 82111, 139801, 69345, 120505,
      30080, 69897, 259841, 105199, 169044, 236778, 102135, 91070, 12808, 208059, 237964, 194497, 175877, 24142,
      111305, 28392, 158052, 101478, 251043, 217241, 139206, 160241, 165504, 43975, 212597, 43254, 221928, 127119,
      189017, 140582] : List Nat).getD 127 0 % 65536 ∧ slice (([384, 384, 34184, 17092, 186157, 8546, 6836, 93078,
      192129, 135345, 236815, 3418, 241420, 177611, 204278, 227136, 89660, 198744, 109952, 118407, 84581, 1709,
      64043, 120710, 206642, 219877, 158653, 102139, 253701, 113568, 82533, 175902, 246334, 99372, 255236, 186048,
      38425, 59203, 71773, 42290, 155474, 131926, 141496, 163093, 147107, 191427, 204649, 103321, 17459, 241010,
      139794, 210398, 211413, 182141, 153974, 126850, 48284, 56784, 202956, 172338, 58339, 87951, 86509, 254239,
      108729, 49686, 40855, 127618, 168751, 93024, 156262, 150284, 185089, 160673, 25605, 35886, 227647, 152217,
      184285, 208809, 143118, 197035, 84567, 70748, 183596, 212618, 231705, 73553, 114892, 226785, 35729, 233396,
      216428, 182732, 82111, 139801, 69345, 120505, 30080, 69897, 259841, 105199, 169044, 236778, 102135, 91070,
      12808, 208059, 237964, 194497, 175877, 24142, 111305, 28392, 158052, 101478, 251043, 217241, 139206, 160241,
      165504, 43975, 212597, 43254, 221928, 127119, 189017, 140582] : List Nat).getD 1 0) 6 2 = 2 ∧ bitOf (([384,
      384, 34184, 17092, 186157, 8546, 6836, 93078, 192129, 135345, 236815, 3418, 241420, 177611, 204278, 227136,
      89660, 198744, 109952, 118407, 84581, 1709, 64043, 120710, 206642, 219877, 158653, 102139, 253701, 113568,
      82533, 175902, 246334, 99372, 255236, 186048, 38425, 59203, 71773, 42290, 155474, 131926, 141496, 163093,
      147107, 191427, 204649, 103321, 17459, 241010, 139794, 210398, 211413, 182141, 153974, 126850, 48284, 56784,
      202956, 172338, 58339, 87951, 86509, 254239, 108729, 49686, 40855, 127618, 168751, 93024, 156262, 150284,
      185089, 160673, 25605, 35886, 227647, 152217, 184285, 208809, 143118, 197035, 84567, 70748, 183596, 212618,
      231705, 73553, 114892, 226785, 35729, 233396, 216428, 182732, 82111, 139801, 69345, 120505, 30080, 69897,
      259841, 105199, 169044, 236778, 102135, 91070, 12808, 208059, 237964, 194497, 175877, 24142, 111305, 28392,
      158052, 101478, 251043, 217241, 139206, 160241, 165504, 43975, 212597, 43254, 221928, 127119, 189017, 140582]
      : List Nat).getD 0 0) 7 = true ∧ slice (([384, 384, 34184, 17092, 186157, 8546, 6836, 93078, 192129, 135345,
      236815, 3418, 241420, 177611, 204278, 227136, 89660, 198744, 109952, 118407, 84581, 1709, 64043, 120710,
      206642, 219877, 158653, 102139, 253701, 113568, 82533, 175902, 246334, 99372, 255236, 186048, 38425, 59203,
      71773, 42290, 155474, 131926, 141496, 163093, 147107, 191427, 204649, 103321, 17459, 241010, 139794, 210398,
      211413, 182141, 153974, 126850, 48284, 56784, 202956, 172338, 58339, 87951, 86509, 254239, 108729, 49686,
      40855, 127618, 168751, 93024, 156262, 150284, 185089, 160673, 25605, 35886, 227647, 152217, 184285, 208809,
      143118, 197035, 84567, 70748, 183596, 212618, 231705, 73553, 114892, 226785, 35729, 233396, 216428, 182732,
      82111, 139801, 69345, 120505, 30080, 69897, 259841, 105199, 169044, 236778, 102135, 91070, 12808, 208059,
      237964, 194497, 175877, 24142, 111305, 28392, 158052, 101478, 251043, 217241, 139206, 160241, 165504, 43975,
      212597, 43254, 221928, 127119, 189017, 140582] : List Nat).getD 0 0) 8 10 = (st294.lane (5 : LaneId)).q.expect
      ∧ (st294.lane (5 : LaneId)).q.expect < 1024 ∧ ((st294.lane (5 : LaneId)).q.buffer.find? (fun y => y.seq ==
      slice (([384, 384, 34184, 17092, 186157, 8546, 6836, 93078, 192129, 135345, 236815, 3418, 241420, 177611,
      204278, 227136, 89660, 198744, 109952, 118407, 84581, 1709, 64043, 120710, 206642, 219877, 158653, 102139,
      253701, 113568, 82533, 175902, 246334, 99372, 255236, 186048, 38425, 59203, 71773, 42290, 155474, 131926,
      141496, 163093, 147107, 191427, 204649, 103321, 17459, 241010, 139794, 210398, 211413, 182141, 153974, 126850,
      48284, 56784, 202956, 172338, 58339, 87951, 86509, 254239, 108729, 49686, 40855, 127618, 168751, 93024,
      156262, 150284, 185089, 160673, 25605, 35886, 227647, 152217, 184285, 208809, 143118, 197035, 84567, 70748,
      183596, 212618, 231705, 73553, 114892, 226785, 35729, 233396, 216428, 182732, 82111, 139801, 69345, 120505,
      30080, 69897, 259841, 105199, 169044, 236778, 102135, 91070, 12808, 208059, 237964, 194497, 175877, 24142,
      111305, 28392, 158052, 101478, 251043, 217241, 139206, 160241, 165504, 43975, 212597, 43254, 221928, 127119,
      189017, 140582] : List Nat).getD 1 0) 8 10) = some (⟨1, [(LaneItem.endItem true false 5)], 81364, 4⟩ :
      LanePacket))) ∧
    (st1.readyWord (37 : LaneId) = none) ∧
    (st295.readyWord (5 : LaneId) = some (⟨3, 4, 1374, 100547⟩ : LaneWord) ∧ (0 : Nat) = (5 : LaneId).val / 32 ∧ (36
      : Nat) = stopIx ((5 : LaneId).val % 32 / 4) (18 * ((5 : LaneId).val % 4 / 2)) ∧ (2251810374518979 : Nat) =
      mkFlit 1 (st295.f (MLR_GEN_STATUS_ACTIVE_GEN (0 : Nat))) 0 ((st295.f (SHR_RXBASE_BASE (5 : LaneId)) +
      (⟨3, 4, 1374, 100547⟩ : LaneWord).pos) % 1024) ((⟨3, 4, 1374, 100547⟩ : LaneWord).ftag * 2048 +
      (⟨3, 4, 1374, 100547⟩ : LaneWord).step) (⟨3, 4, 1374, 100547⟩ : LaneWord).word ∧ st295.halfFor (0 : Nat) (36 :
      Nat) (flitGen (2251810374518979 : Nat)) = some (0 : Nat) ∧ entryValid (st295.tblEntry (0 : Nat) (36 : Nat) (0
      : Nat) 0 (flitTag (2251810374518979 : Nat))) = false) ∧
    (st296.readyWord (5 : LaneId) = some (⟨0, 1, 1420, 258124⟩ : LaneWord) ∧ (0 : Nat) = (5 : LaneId).val / 32 ∧ (36
      : Nat) = stopIx ((5 : LaneId).val % 32 / 4) (18 * ((5 : LaneId).val % 4 / 2)) ∧ (2251802333671500 : Nat) =
      mkFlit 1 (st296.f (MLR_GEN_STATUS_ACTIVE_GEN (0 : Nat))) 0 ((st296.f (SHR_RXBASE_BASE (5 : LaneId)) +
      (⟨0, 1, 1420, 258124⟩ : LaneWord).pos) % 1024) ((⟨0, 1, 1420, 258124⟩ : LaneWord).ftag * 2048 +
      (⟨0, 1, 1420, 258124⟩ : LaneWord).step) (⟨0, 1, 1420, 258124⟩ : LaneWord).word ∧ st296.halfFor (0 : Nat) (36 :
      Nat) (flitGen (2251802333671500 : Nat)) = some (0 : Nat) ∧ 9223372582315639305 = st296.tblEntry (0 : Nat) (36
      : Nat) (0 : Nat) 0 (flitTag (2251802333671500 : Nat)) ∧ entryValid 9223372582315639305 = true ∧ slice
      9223372582315639305 0 3 = 0 + 1 ∧ 0 < 2 ∧ (st296.injQueue (0 : Nat) (36 : Nat) 0).length < 32) ∧
    (st297.readyWord (37 : LaneId) = some (⟨3, 0, 2021, 248868⟩ : LaneWord) ∧ (1 : Nat) = (37 : LaneId).val / 32 ∧
      (36 : Nat) = stopIx ((37 : LaneId).val % 32 / 4) (18 * ((37 : LaneId).val % 4 / 2)) ∧ (2251801954339876 : Nat)
      = mkFlit 1 (st297.f (MLR_GEN_STATUS_ACTIVE_GEN (1 : Nat))) 0 ((st297.f (SHR_RXBASE_BASE (37 : LaneId)) +
      (⟨3, 0, 2021, 248868⟩ : LaneWord).pos) % 1024) ((⟨3, 0, 2021, 248868⟩ : LaneWord).ftag * 2048 +
      (⟨3, 0, 2021, 248868⟩ : LaneWord).step) (⟨3, 0, 2021, 248868⟩ : LaneWord).word ∧ st297.halfFor (1 : Nat) (36 :
      Nat) (flitGen (2251801954339876 : Nat)) = some (0 : Nat) ∧ 9223374467806286489 = st297.tblEntry (1 : Nat) (36
      : Nat) (0 : Nat) 0 (flitTag (2251801954339876 : Nat)) ∧ entryValid 9223374467806286489 = true ∧ slice
      9223374467806286489 0 3 = 0 + 1 ∧ 0 < 2 ∧ 32 ≤ (st297.injQueue (1 : Nat) (36 : Nat) 0).length) ∧
    ((st298.lane (0 : LaneId)).q.buffer = (⟨0, [(LaneItem.endItem true false 5)], 40005, 1⟩ : LanePacket) :: ([] :
      List LanePacket) ∧ st298.laneState (0 : LaneId) = LaneSt.up ∧ st298.elapsedRing
      (⟨0, [(LaneItem.endItem true false 5)], 40005, 1⟩ : LanePacket).at_ (max 1 (st298.f (SHR_REPLAY_CFG_TMO (0 :
      LaneId))) * 16) = true ∧ (⟨0, [(LaneItem.endItem true false 5)], 40005, 1⟩ : LanePacket).count + 1 < max 1
      (st298.f (SHR_REPLAY_CFG_MAX (0 : LaneId)))) ∧
    ((st299.lane (0 : LaneId)).q.buffer = (⟨1, [(LaneItem.endItem true false 5)], 24149, 1⟩ : LanePacket) :: ([] :
      List LanePacket) ∧ st299.laneState (0 : LaneId) = LaneSt.up ∧ st299.elapsedRing
      (⟨1, [(LaneItem.endItem true false 5)], 24149, 1⟩ : LanePacket).at_ (max 1 (st299.f (SHR_REPLAY_CFG_TMO (0 :
      LaneId))) * 16) = true ∧ max 1 (st299.f (SHR_REPLAY_CFG_MAX (0 : LaneId))) ≤
      (⟨1, [(LaneItem.endItem true false 5)], 24149, 1⟩ : LanePacket).count + 1) := by
  and_intros <;> decide +kernel

def st300 : State :=
  withRegs [(PWR_DOM 40, 0)]

def st301 : State :=
  withRegs [(PWR_DOM 49, 0), (SHR_LSTAT 37, 0x5447)]

def st302 : State :=
  withRegs [(SHR_LSTAT 0, 0x1d1c)]

def st303 : State :=
  withRegs [(SHR_LSTAT 5, 0x927), (SHR_PRBS_CFG 5, 156), (SHR_PRBS_STAT 5, 1)]

def st304 : State :=
  withRegs [(SHR_LSTAT 0, 0x296f), (SHR_PRBS_CFG 0, 164)]

def st305 : State :=
  withRegs [(PWR_DOM 40, 0), (SHR_MB_ARG 0 3, 65)]

def st306 : State :=
  withRegs [(PWR_DOM 49, 0), (SHR_MB_ARG 9 0, 0x280003), (SHR_LSTAT 39, 0x1f67)]

def st307 : State :=
  withRegs [(PWR_DOM 40, 0), (SHR_MB_ARG 0 0, 0xa0001), (SHR_LSTAT 1, 0x1574)]

def st308 : State :=
  withRegs [(PWR_DOM 40, 0), (SHR_MB_ARG 0 2, 16), (SHR_MB_ARG 0 3, 1), (SHR_LSTAT 0, 0x6e6c)]

theorem test_meets_LaneSettingsAndTests :
    (Reached st300 (SHR_TXFFE (0 : LaneId) (1 : Fin 7)) ∧ slice (0x600#32).toNat 0 4 + slice (0x600#32).toNat 4 6 +
      slice (0x600#32).toNat 10 5 ≤ 63 ∧ 20 ≤ slice (0x600#32).toNat 4 6) ∧
    (Reached st267 (SHR_TXFFE (5 : LaneId) (0 : Fin 7)) ∧ (63 < slice (304#32).toNat 0 4 + slice (304#32).toNat 4 6
      + slice (304#32).toNat 10 5 ∨ slice (304#32).toNat 4 6 < 20)) ∧
    (Reached st301 (SHR_PRBS_CFG (37 : LaneId)) ∧ bitOf (0x3ff#32).toNat 9 = true ∧ bitOf (0x3ff#32).toNat 10 =
      false ∧ st301.laneState (37 : LaneId) = LaneSt.test) ∧
    (Reached st300 (SHR_PRBS_CFG (0 : LaneId)) ∧ bitOf (0x83c55e69#32).toNat 10 = true) ∧
    (st302.laneUp (0 : LaneId) = true ∧ st302.f (SHR_LCFG_RECENTER_EN (0 : LaneId)) = 1 ∧ st302.eyeRuns (0 : LaneId)
      = false) ∧
    (prbsTaps (st303.f (SHR_PRBS_CFG_RX_PAT (5 : LaneId))) = some ((23, 18) : Nat × Nat) ∧ st303.laneState (5 :
      LaneId) = LaneSt.test ∧ st303.f (SHR_PRBS_CFG_RX_EN (5 : LaneId)) = 1 ∧ st303.f (SHR_PRBS_STAT_SYNC (5 :
      LaneId)) = 1 ∧ true = ((false ^^ bitOf (st303.lane (5 : LaneId)).link.cfg.toNat 7) ^^ prbsInverts (st303.f
      (SHR_PRBS_CFG_RX_PAT (5 : LaneId))) (st303.flag (SHR_PRBS_CFG_INV (5 : LaneId))))) ∧
    (prbsTaps (st304.f (SHR_PRBS_CFG_RX_PAT (0 : LaneId))) = some ((31, 28) : Nat × Nat) ∧ st304.laneState (0 :
      LaneId) = LaneSt.test ∧ st304.f (SHR_PRBS_CFG_RX_EN (0 : LaneId)) = 1 ∧ st304.f (SHR_PRBS_STAT_SYNC (0 :
      LaneId)) = 0 ∧ false = ((true ^^ bitOf (st304.lane (0 : LaneId)).link.cfg.toNat 7) ^^ prbsInverts (st304.f
      (SHR_PRBS_CFG_RX_PAT (0 : LaneId))) (st304.flag (SHR_PRBS_CFG_INV (0 : LaneId)))) ∧ false = prbsNext ((31, 28)
      : Nat × Nat) (st304.lane (0 : LaneId)).link.prbsRx) ∧
    (Reached st273 (SHR_MB_CMD (9 : Fin 32)) ∧ st273.f (mbBusy (6 + (9 : Fin 32))) = 0 ∧ st273.laneState
      (st273.eyeLane (9 : Fin 32)) ≠ LaneSt.up ∧ st273.laneState (st273.eyeLane (9 : Fin 32)) ≠ LaneSt.test) ∧
    (Reached st305 (SHR_MB_CMD (0 : Fin 32)) ∧ st305.f (mbBusy (6 + (0 : Fin 32))) = 0 ∧ st305.laneState
      (st305.eyeLane (0 : Fin 32)) ≠ LaneSt.up ∧ st305.laneState (st305.eyeLane (0 : Fin 32)) ≠ LaneSt.test ∧
      (st305.reg (SHR_MB_ARG (0 : Fin 32) 3)).toNat ≠ 0) ∧
    (Reached st300 (SHR_MB_CMD (0 : Fin 32)) ∧ st300.f (mbBusy (6 + (0 : Fin 32))) = 0 ∧ (st300.reg (SHR_MB_ARG (0 :
      Fin 32) 3)).toNat = 0) ∧
    (Reached st306 (SHR_MB_CMD (9 : Fin 32)) ∧ st306.f (mbBusy (6 + (9 : Fin 32))) = 0 ∧ (st306.laneState
      (st306.eyeLane (9 : Fin 32)) = LaneSt.up ∨ st306.laneState (st306.eyeLane (9 : Fin 32)) = LaneSt.test) ∧ 10 ≤
      st306.eyeBits (9 : Fin 32) ∧ st306.eyeBits (9 : Fin 32) ≤ 40) ∧
    (Reached st307 (SHR_MB_CMD (0 : Fin 32)) ∧ st307.f (mbBusy (6 + (0 : Fin 32))) = 0 ∧ (st307.laneState
      (st307.eyeLane (0 : Fin 32)) = LaneSt.up ∨ st307.laneState (st307.eyeLane (0 : Fin 32)) = LaneSt.test) ∧ 10 ≤
      st307.eyeBits (0 : Fin 32) ∧ st307.eyeBits (0 : Fin 32) ≤ 40) ∧
    (Reached st308 (SHR_MB_CMD (0 : Fin 32)) ∧ st308.f (mbBusy (6 + (0 : Fin 32))) = 0 ∧ st308.laneUp (st308.eyeLane
      (0 : Fin 32)) = true ∧ st308.anchor (st308.eyeLane (0 : Fin 32)) = st308.eyeLane (0 : Fin 32) ∧ 0 < (st308.reg
      (SHR_MB_ARG (0 : Fin 32) 3)).toNat ∧ inCarve (st308.f64 (SHR_MB_ARG (0 : Fin 32) 1)) (st308.reg (SHR_MB_ARG (0
      : Fin 32) 3)).toNat = true) := by
  unfold Reached
  and_intros <;> decide +kernel

def st309 : State :=
  withRegs [(DEV_MODE, 259), (FRD_CFG, 0x3400), (SHR_LSTAT 0, 4)]

def st310 : State :=
  withRegs [(DEV_MODE, 259)]

def st311 : State :=
  { withRegs [(DEV_MODE, 0x503)] with
    seq := { Sequencer.reset with inFrame := true } }

def st312 : State :=
  withRegs [(DEV_MODE, 0x504)]

def st313 : State :=
  { withRegs [(FRD_CKPT_FRAME, 7)] with
    frd := { Ford.reset with catchup := true } }

def st314 : State :=
  withRegs [(DEV_MODE, 0xd03)]

def st315 : State :=
  { State.reset with
    frd := { Ford.reset with catchup := true } }

def st316 : State :=
  { State.reset with
    frd := { Ford.reset with req := 1 },
    tmk := { Tidemark.reset with steered := 1099511627776000000 } }

def st317 : State :=
  { withRegs [(DEV_MODE, 259)] with
    frd := { Ford.reset with req := 1 } }

def st318 : State :=
  { withRegs [(DEV_MODE, 259), (BLT_LOADED, 0x20000)] with
    frd := { Ford.reset with req := 3 } }

def st319 : State :=
  withRegs [(BLT_LOADED, 0x10000), (FRD_CFG, 0x2405)]

theorem test_meets_FordRolesAreRequestedAndLeft :
    (Reached st309 FRD_CTRL ∧ 1 ≤ (3 : Nat) ∧ (3 : Nat) ≤ 3 ∧ slice (3#32).toNat 0 5 = (3 : Nat) ∧ st309.mode =
      Mode.idle ∧ st309.role = 0 ∧ st309.f DEV_MODE_PROG_VALID = 1 ∧ st309.fordUp = true) ∧
    (Reached st1 FRD_CTRL ∧ 1 ≤ (1 : Nat) ∧ (1 : Nat) ≤ 3 ∧ slice (1#32).toNat 0 5 = (1 : Nat) ∧ (st1.mode ≠
      Mode.idle ∨ st1.role ≠ 0 ∨ st1.f DEV_MODE_PROG_VALID = 0)) ∧
    (Reached st310 FRD_CTRL ∧ 1 ≤ (1 : Nat) ∧ (1 : Nat) ≤ 3 ∧ slice (1#32).toNat 0 5 = (1 : Nat) ∧ st310.mode =
      Mode.idle ∧ st310.role = 0 ∧ st310.f DEV_MODE_PROG_VALID = 1 ∧ st310.fordUp = false) ∧
    (Reached st1 FRD_CTRL ∧ slice (4#32).toNat 0 5 = 4 ∧ st1.role = 0) ∧
    (Reached st311 FRD_CTRL ∧ slice (4#32).toNat 0 5 = 4 ∧ st311.role ≠ 0 ∧ st311.seq.inFrame = true) ∧
    (Reached st312 FRD_CTRL ∧ slice (4#32).toNat 0 5 = 4 ∧ st312.role ≠ 0 ∧ st312.seq.inFrame = false ∧
      st312.frd.due = false) ∧
    (Reached st313 FRD_CTRL ∧ slice (8#32).toNat 0 5 = 8 ∧ st313.role = 0 ∧ st313.frd.catchup = true ∧ st313.frameNo
      < st313.f64 FRD_CKPT_FRAME) ∧
    (Reached st1 FRD_CTRL ∧ slice (8#32).toNat 0 5 = 8 ∧ (st1.role ≠ 0 ∨ st1.frd.catchup = false ∨ st1.f64
      FRD_CKPT_FRAME ≤ st1.frameNo)) ∧
    (Reached st314 FRD_CTRL ∧ slice (16#32).toNat 0 5 = 16 ∧ st314.role = 3) ∧
    (Reached st315 FRD_CTRL ∧ slice (16#32).toNat 0 5 = 16 ∧ st315.role = 0 ∧ (st315.frd.catchup = true ∨
      st315.frd.ckpt.isSome = true) ∧ st315.frd.due = false) ∧
    (Reached st312 FRD_CTRL ∧ slice (16#32).toNat 0 5 = 16 ∧ (st312.role = 1 ∨ st312.role = 2)) ∧
    (st316.frd.req ≠ 0 ∧ st316.elapsedSteered st316.frd.pairAt 100000 = true) ∧
    (st316.frd.req ≠ 0 ∧ st316.elapsedSteered st316.frd.reqAt st316.fordWait = true) ∧
    (((1 : Nat) = 1 ∨ (1 : Nat) = 2) ∧ st317.frd.req = (1 : Nat) ∧ st317.mode = Mode.idle ∧ st317.role = 0 ∧ st317.f
      DEV_MODE_PROG_VALID = 1 ∧ (0#32) = st317.reg BLT_IMG_CRC ∧ (0#8).toNat = st317.f BLT_LOADED_FLEN ∧
      (0#64).toNat = st317.frameNo ∧ (0#64).toNat = st317.f64 FRD_SSIG) ∧
    (((1 : Nat) = 1 ∨ (1 : Nat) = 2) ∧ st317.frd.req = (1 : Nat) ∧ st317.mode = Mode.idle ∧ st317.role = 0 ∧ st317.f
      DEV_MODE_PROG_VALID = 1 ∧ (0x7ffe#32) ≠ st317.reg BLT_IMG_CRC) ∧
    ((0#32) = st318.reg BLT_IMG_CRC ∧ (2#8).toNat = st318.f BLT_LOADED_FLEN ∧ st318.frd.req = 3 ∧ st318.mode =
      Mode.idle ∧ st318.role = 0 ∧ st318.f DEV_MODE_PROG_VALID = 1) ∧
    ((0#32) = st319.reg BLT_IMG_CRC ∧ (1#8).toNat = st319.f BLT_LOADED_FLEN ∧ st319.frd.req = 0 ∧ st319.role = 0 ∧
      st319.f FRD_CFG_JNL_EN = 1) ∧
    (st90.seq.inFrame = true) ∧
    (st1.seq.inFrame = false) := by
  unfold Reached
  and_intros <;> decide +kernel

def st320 : State :=
  withRegs [(DEV_MODE, 0xc06)]

def st321 : State :=
  { withRegs [(DEV_MODE, 0x903)] with
    frd := { Ford.reset with lastIn := 1 } }

def st322 : State :=
  withRegs [(DEV_MODE, 0x703), (SEQ_FRAME_NO, 5)]

def st323 : State :=
  { withRegs [(DEV_MODE, 0x703)] with
    frd := { Ford.reset with digests := [(0, 5)] } }

def st324 : State :=
  withRegs [(DEV_MODE, 0x404)]

def st325 : State :=
  withRegs [(DEV_MODE, 0x906)]

def st326 : State :=
  withRegs [(DEV_MODE, 0x903), (SEQ_FRAME_NO, 3)]

def st327 : State :=
  withRegs [(DEV_MODE, 0x903), (SEQ_FRAME_NO, 6)]

def st328 : State :=
  { State.reset with
    frd := { Ford.reset with catchup := true, stream := some 5 } }

def st329 : State :=
  withRegs [(DEV_MODE, 0xf04)]

def st330 : State :=
  { withRegs [(DEV_MODE, 0xd03)] with
    blt := { Billet.reset with place := [(1, 41)] } }

def st331 : State :=
  withRegs [(DEV_MODE, 0x704)]

def st332 : State :=
  { withRegs [(DEV_MODE, 0x803), (FRD_CFG, 0x400), (SHR_LSTAT 0, 4)] with
    frd := { Ford.reset with gate := some 0 },
    tmk := { Tidemark.reset with steered := 1099511627776000000000000 } }

def st333 : State :=
  withRegs [(FRD_CFG, 0x1425), (SHR_LSTAT 37, 4)]

def st334 : State :=
  { State.reset with
    frd := { Ford.reset with ckpt := some 3 } }

def st335 : State :=
  { State.reset with
    frd := { Ford.reset with ckpt := some 2, final := true } }

def st336 : State :=
  { State.reset with
    frd := { Ford.reset with pace := some 999996005 },
    tmk := { Tidemark.reset with steered := 1099511627776000000000000 } }

def st337 : State :=
  { State.reset with
    frd := { Ford.reset with pace := some 999997210 } }

theorem test_meets_FordTwinsExchangeAndCheckpoint :
    (st1.frd.due = false ∧ st1.role < 2) ∧
    (st320.frd.due = false ∧ 2 ≤ st320.role ∧ (0#64).toNat = st320.frd.lastIn) ∧
    (st321.frd.due = false ∧ st321.role = 2 ∧ (0#64).toNat ≠ st321.frd.lastIn) ∧
    (st1.frd.due = false ∧ st1.role = 0) ∧
    (st322.frd.due = false ∧ st322.role = 1 ∧ (2#64).toNat ≤ st322.frameNo ∧ st322.frd.peerHalted = false ∧ digestOf
      st322.frd.digests (2#64).toNat = none) ∧
    (st323.frd.due = false ∧ st323.role = 1 ∧ (0#64).toNat ≤ st323.frameNo ∧ st323.frd.peerHalted = false ∧ digestOf
      st323.frd.digests (0#64).toNat = some 5 ∧ 5 ≠ (3#64).toNat) ∧
    (st324.frd.due = false ∧ st324.role = 1 ∧ st324.frameNo < (0xffffffffffffffff#64).toNat) ∧
    (st325.frd.due = false ∧ st325.role = 2 ∧ (st325.frameNo < (2#64).toNat ∨ (st325.frameNo = (2#64).toNat ∧
      st325.seq.inFrame = true)) ∧ 3 ≤ (4#3).toNat ∧ (4#3).toNat ≤ 6 ∧ ((4#3).toNat ≠ Mode.idle ∨ st325.f
      DEV_MODE_HOLD = 0)) ∧
    (st314.frd.due = false ∧ st314.role = 3 ∧ st314.frameNo ≤ (0xffffffffffffffff#64).toNat ∧ 3 ≤ (6#3).toNat ∧
      (6#3).toNat ≤ 6) ∧
    (st326.frd.due = false ∧ st326.role = 2 ∧ (3#64).toNat = st326.frameNo ∧ st326.seq.inFrame = false ∧ (3#3).toNat
      = Mode.idle) ∧
    (st327.frd.due = false ∧ st327.role = 2 ∧ (1#64).toNat < st327.frameNo) ∧
    (st328.frd.due = false ∧ st328.role = 0 ∧ st328.frd.catchup = true ∧ st328.frd.stream = some 5 ∧ (1#64).toNat <
      (5 + 1) / 2) ∧
    (st329.frd.due = false ∧ st329.role ≠ 0) ∧
    (st1.frd.due = false ∧ st1.role ≠ 3) ∧
    (st314.frd.due = false ∧ st314.role = 3 ∧ st314.mode = Mode.idle) ∧
    (st330.frd.due = false ∧ st330.role = 3 ∧ st330.mode = Mode.idle ∧ st330.placedAt (1#16).toNat = some 40 ∧
      (0#32).toNat < 32768 ∧ ([83, 1, 3, 5, 3, 255, 40, 117, 3, 0, 3, 255, 3, 2, 7, 255, 255, 15, 255, 119, 255, 3,
      91, 1, 0, 10, 163, 146, 55, 20, 5, 91, 3, 1, 255, 255, 0, 234, 180, 3, 3, 128, 2, 255, 5, 255, 155, 1, 255, 0,
      3, 215, 2, 220, 3, 182, 4, 255, 255, 1, 255, 0, 2, 0] : List (BitVec 8)).length = 64) ∧
    (st331.frd.due = false ∧ st331.role = 1 ∧ st331.frd.frozen = false ∧ st331.fordDown = true) ∧
    (st332.frd.due = false ∧ st332.role = 2 ∧ st332.frd.frozen = false ∧ st332.fordDown = false ∧ st332.gateOver =
      true ∧ st332.f FRD_CFG_SH_ACT = 0) ∧
    (st333.frd.due = false ∧ st333.role = 0 ∧ st333.fordDown = false) ∧
    (st334.frd.due = false ∧ st334.role = 0 ∧ st334.frd.ckpt = some 3 ∧ st334.frd.final = false) ∧
    (st335.frd.due = false ∧ st335.role = 0 ∧ st335.frd.ckpt = some 2 ∧ st335.frd.final = true ∧ st335.repliesIn =
      true) ∧
    (st336.frd.due = false ∧ st336.frd.pace = some 999996005 ∧ st336.elapsedSteered 999996005 (st336.f
      FRD_PACE_GAP_NS) = true) ∧
    (st337.frd.due = false ∧ st337.frd.pace = some 999997210 ∧ st337.elapsedSteered 999997210 (st337.f
      FRD_PACE_GAP_NS) = false) := by
  and_intros <;> decide +kernel

def st338 : State :=
  withRegs [(PWR_DOM 72, 0), (FAB_STATUS, 3)]

def st339 : State :=
  withRegs [(PWR_DOM 72, 0), (FAB_STATUS, 3), (FAB_CONT_MAP 0, 0x80178f3)]

def st340 : State :=
  withRegs [(PWR_DOM 72, 0)]

def st341 : State :=
  { withRegs [(PWR_DOM 72, 0)] with
    fab := { Fabric.reset with out := [(3073, 2147483653)] } }

def st342 : State :=
  withRegs [(DEV_MODE, 3), (PWR_DOM 72, 0)]

theorem test_meets_FabricGuardTablesAndReadback :
    (st338.domainOn 72 = true ∧ st338.f FAB_STATUS_CONFIGURED = 1 ∧ st338.lineOff (519 : Fin 1792) = false) ∧
    (st339.domainOn 72 = true ∧ st339.f FAB_STATUS_CONFIGURED = 1 ∧ st339.lineOff (1 : Fin 1792) = true) ∧
    (Reached st340 (FAB_CONT_MAP (49 : Fin 56))) ∧
    (st341.domainOn 72 = true ∧ flitType (0x80000fd6a3175#54).toNat = 1 ∧ (3073 : Nat) = (3 : Fin 4).val * 1024 +
      flitTag (0x80000fd6a3175#54).toNat ∧ bitOf (Sparse.get 0 st341.fab.out (3073 : Nat)) 31 = true) ∧
    (st340.domainOn 72 = true ∧ flitType (0x800016b018935#54).toNat = 1 ∧ (1026 : Nat) = (1 : Fin 4).val * 1024 +
      flitTag (0x800016b018935#54).toNat ∧ bitOf (Sparse.get 0 st340.fab.out (1026 : Nat)) 31 = false) ∧
    (Reached st340 (FAB_PROBE (1 : Fin 16)) ∧ probeInRange (slice (0#32).toNat 0 2) (slice (0#32).toNat 2 19) =
      true) ∧
    (Reached st340 (FAB_PROBE (13 : Fin 16)) ∧ probeInRange (slice (0xf21bb58f#32).toNat 0 2) (slice
      (0xf21bb58f#32).toNat 2 19) = false) ∧
    (Reached st342 FAB_TBL_DATA ∧ (0 : Nat) = st342.f FAB_TBL_ADDR_ENTRY ∧ (0 : Nat) = st342.f FAB_TBL_ADDR_DIE *
      1024 + (0 : Nat) ∧ st342.mode = Mode.idle ∧ st342.mbBusyNow 0 = false ∧ (0 : Nat) ≤ fabLast (st342.f
      FAB_TBL_ADDR_TABLE)) ∧
    (Reached st340 FAB_TBL_DATA ∧ (0 : Nat) = st340.f FAB_TBL_ADDR_ENTRY ∧ (0 : Nat) = st340.f FAB_TBL_ADDR_DIE *
      1024 + (0 : Nat) ∧ (st340.mode ≠ Mode.idle ∨ st340.mbBusyNow 0 = true ∨ fabLast (st340.f FAB_TBL_ADDR_TABLE) <
      (0 : Nat))) ∧
    (Reached st340 FAB_MB_CMD ∧ st340.mbBusyNow 38 = false ∧ (0 : Nat) = (st340.reg (FAB_MB_ARG 0)).toNat ∧ (0 :
      Nat) = (st340.reg (FAB_MB_ARG 1)).toNat + (st340.reg (FAB_MB_ARG 2)).toNat * 4294967296 ∧ (0 : Nat) =
      (st340.reg (FAB_MB_ARG 3)).toNat) := by
  unfold Reached
  and_intros <;> decide +kernel

def st343 : State :=
  withRegs [(PWR_DOM 72, 0), (FAB_CLK_STAT, 0xfffe)]

theorem test_meets_UserClockEdgesRegisterAndDrive :
    (st343.domainOn 72 = true ∧ bitOf (st343.f FAB_CLK_STAT_LOCK) (14 : Fin 16) = true) ∧
    (st340.domainOn 72 = true ∧ bitOf (st340.f FAB_CLK_STAT_LOCK) (11 : Fin 16) = false) ∧
    (st340.domainOn 72 = true) := by
  and_intros <;> decide +kernel

def st344 : State :=
  { State.reset with
    paths := [(1, { PathState.reset with heldTag := some 4194304, heldLo := (0x10003#32), answer := (5#32) })] }

def st345 : State :=
  { State.reset with
    paths := [(16, { PathState.reset with heldTag := some 4194304, heldLo := (0x20002#32), answer := (5#32) })],
    ost := { Ostler.reset with queue := [(16, (List.replicate 32 ⟨1, 2, 3⟩))] } }

def st346 : State :=
  { State.reset with
    paths := [(15, { PathState.reset with heldTag := some 4194304, heldLo := (0x60001#32), answer := (5#32) })] }

def st347 : State :=
  { State.reset with
    ost := { Ostler.reset with queue := [(0, [⟨1, 2, 3⟩])] } }

def st348 : State :=
  { State.reset with
    ost := { Ostler.reset with queue := [(0, [⟨2, 1, 8⟩])] } }

def st349 : State :=
  { State.reset with
    ost := { Ostler.reset with tasks := [(2, { Task.reset with state := 4 })], queue := [(0, [⟨2, 2, 7⟩])] } }

def st350 : State :=
  { State.reset with
    ost := { Ostler.reset with delay := ((List.range 4096).map fun i => (5 + i, 3)), queue := [(0, [⟨2, 0, 4⟩])] } }

def st351 : State :=
  { State.reset with
    ost := { Ostler.reset with queue := [(0, [⟨3, 0, 5⟩])] } }

def st352 : State :=
  { withRegs [(OST_CORE_STAT 0, 0x10015)] with
    ost := { Ostler.reset with queue := [(0, [⟨4, 5, 4⟩])] } }

def st353 : State :=
  { withRegs [(OST_CORE_STAT 0, 0x10005)] with
    ost := { Ostler.reset with tasks := [(1, { Task.reset with rerun := true })], queue := [(0, [⟨4, 0, 4⟩])] } }

def st354 : State :=
  { withRegs [(OST_CORE_STAT 0, 0x10006)] with
    ost := { Ostler.reset with tasks := [(1, { Task.reset with drerun := true })], queue := [(0, [⟨4, 3, 6⟩])] } }

def st355 : State :=
  { State.reset with
    ost := { Ostler.reset with queue := [(1, [⟨4, 1, 0⟩])] } }

def st356 : State :=
  { State.reset with
    ost := { Ostler.reset with events := [(5, (some 0))] } }

def st357 : State :=
  { State.reset with
    ost := { Ostler.reset with events := [(5, (some 3))] } }

def st358 : State :=
  { State.reset with
    ost := { Ostler.reset with events := [(5, (some 4))] } }

def st359 : State :=
  { State.reset with
    ost := { Ostler.reset with tasks := [(2, { Task.reset with state := 2 })], due := [2] } }

theorem test_meets_TasksMoveBetweenTheirLists :
    ((BitVec.ofNat 28 (OST_CMD + 4)).toNat = OST_CMD + 4 ∧ Reached st344 (BitVec.ofNat 28 (OST_CMD + 4)).toNat ∧
      (st344.path (1 : Path)).heldTag = some OST_CMD ∧ (⟨1, 3, 1⟩ : OstCmd) =
      ⟨slice (st344.path (1 : Path)).heldLo.toNat 16 3, slice (st344.path (1 : Path)).heldLo.toNat 0 14, (1#32).toNat⟩
      ∧ 1 ≤ (⟨1, 3, 1⟩ : OstCmd).op ∧ (⟨1, 3, 1⟩ : OstCmd).op ≤ 4 ∧ (((⟨1, 3, 1⟩ : OstCmd).op = 4 → (1 : Path).val <
      16)) ∧ (st344.ostQueue (1 : Path)).length < 32) ∧
    ((BitVec.ofNat 28 (OST_CMD + 4)).toNat = OST_CMD + 4 ∧ Reached st345 (BitVec.ofNat 28 (OST_CMD + 4)).toNat ∧
      (st345.path (16 : Path)).heldTag = some OST_CMD ∧ (⟨2, 2, 1⟩ : OstCmd) =
      ⟨slice (st345.path (16 : Path)).heldLo.toNat 16 3, slice (st345.path (16 : Path)).heldLo.toNat 0 14, (1#32).toNat⟩
      ∧ 1 ≤ (⟨2, 2, 1⟩ : OstCmd).op ∧ (⟨2, 2, 1⟩ : OstCmd).op ≤ 4 ∧ (((⟨2, 2, 1⟩ : OstCmd).op = 4 → (16 : Path).val
      < 16)) ∧ 32 ≤ (st345.ostQueue (16 : Path)).length ∧ Sparse.get none st345.ost.waiting (16 : Path) = none) ∧
    ((BitVec.ofNat 28 (OST_CMD + 4)).toNat = OST_CMD + 4 ∧ Reached st346 (BitVec.ofNat 28 (OST_CMD + 4)).toNat ∧
      (st346.path (15 : Path)).heldTag = some OST_CMD ∧ (⟨6, 1, 5⟩ : OstCmd) =
      ⟨slice (st346.path (15 : Path)).heldLo.toNat 16 3, slice (st346.path (15 : Path)).heldLo.toNat 0 14, (5#32).toNat⟩
      ∧ ((⟨6, 1, 5⟩ : OstCmd).op = 0 ∨ 4 < (⟨6, 1, 5⟩ : OstCmd).op ∨ ((⟨6, 1, 5⟩ : OstCmd).op = 4 ∧ 16 ≤ (15 :
      Path).val))) ∧
    (OstNext st347 (0 : Path) (⟨1, 2, 3⟩ : OstCmd) ([] : List OstCmd) ∧ (Task.reset : Task) = st347.task (⟨1, 2, 3⟩
      : OstCmd).task ∧ (⟨1, 2, 3⟩ : OstCmd).op = 1) ∧
    (OstNext st348 (0 : Path) (⟨2, 1, 8⟩ : OstCmd) ([] : List OstCmd) ∧ (Task.reset : Task) = st348.task (⟨2, 1, 8⟩
      : OstCmd).task ∧ (⟨2, 1, 8⟩ : OstCmd).op = 2 ∧ (⟨2, 1, 8⟩ : OstCmd).arg ≠ 0 ∧ (Task.reset : Task).state = 0 ∧
      st348.ost.delay.length < 4096) ∧
    (OstNext st349 (0 : Path) (⟨2, 2, 7⟩ : OstCmd) ([] : List OstCmd) ∧ ({ Task.reset with state := 4 } : Task) =
      st349.task (⟨2, 2, 7⟩ : OstCmd).task ∧ (⟨2, 2, 7⟩ : OstCmd).op = 2 ∧ (⟨2, 2, 7⟩ : OstCmd).arg ≠ 0 ∧
      ({ Task.reset with state := 4 } : Task).state = 4) ∧
    (OstNext st350 (0 : Path) (⟨2, 0, 4⟩ : OstCmd) ([] : List OstCmd) ∧ (Task.reset : Task) = st350.task (⟨2, 0, 4⟩
      : OstCmd).task ∧ (⟨2, 0, 4⟩ : OstCmd).op = 2 ∧ (⟨2, 0, 4⟩ : OstCmd).arg ≠ 0 ∧ ((Task.reset : Task).state = 0 ∨
      (Task.reset : Task).state = 1 ∨ (Task.reset : Task).state = 3) ∧ 4096 ≤ st350.ost.delay.length) ∧
    (OstNext st351 (0 : Path) (⟨3, 0, 5⟩ : OstCmd) ([] : List OstCmd) ∧ (Task.reset : Task) = st351.task (⟨3, 0, 5⟩
      : OstCmd).task ∧ (⟨3, 0, 5⟩ : OstCmd).op = 3) ∧
    (OstNext st352 (0 : Path) (⟨4, 5, 4⟩ : OstCmd) ([] : List OstCmd) ∧ (Task.reset : Task) = st352.task (⟨4, 5, 4⟩
      : OstCmd).task ∧ (⟨4, 5, 4⟩ : OstCmd).op = 4 ∧ (0 : Path).val < 16 ∧ st352.running (0 : Path) = some 5 ∧
      (Task.reset : Task) = st352.task 5 ∧ (Task.reset : Task).drerun = false ∧ (Task.reset : Task).rerun = false) ∧
    (OstNext st353 (0 : Path) (⟨4, 0, 4⟩ : OstCmd) ([] : List OstCmd) ∧ (Task.reset : Task) = st353.task (⟨4, 0, 4⟩
      : OstCmd).task ∧ (⟨4, 0, 4⟩ : OstCmd).op = 4 ∧ (0 : Path).val < 16 ∧ st353.running (0 : Path) = some 1 ∧
      ({ Task.reset with rerun := true } : Task) = st353.task 1 ∧ ({ Task.reset with rerun := true } : Task).drerun
      = false ∧ ({ Task.reset with rerun := true } : Task).rerun = true) ∧
    (OstNext st354 (0 : Path) (⟨4, 3, 6⟩ : OstCmd) ([] : List OstCmd) ∧ (Task.reset : Task) = st354.task (⟨4, 3, 6⟩
      : OstCmd).task ∧ (⟨4, 3, 6⟩ : OstCmd).op = 4 ∧ (0 : Path).val < 16 ∧ st354.running (0 : Path) = some 1 ∧
      ({ Task.reset with drerun := true } : Task) = st354.task 1 ∧ ({ Task.reset with drerun := true } :
      Task).drerun = true ∧ st354.ost.delay.length < 4096) ∧
    (OstNext st355 (1 : Path) (⟨4, 1, 0⟩ : OstCmd) ([] : List OstCmd) ∧ (Task.reset : Task) = st355.task (⟨4, 1, 0⟩
      : OstCmd).task ∧ (⟨4, 1, 0⟩ : OstCmd).op = 4 ∧ (1 : Path).val < 16 ∧ st355.running (1 : Path) = none) ∧
    (st356.domainOn 90 = true ∧ st356.ost.events = (5, some 0) :: ([] : List (Nat × Option Nat))) ∧
    (st357.domainOn 90 = true ∧ st357.ost.events = (5, some 3) :: ([] : List (Nat × Option Nat))) ∧
    (st358.domainOn 90 = true ∧ st358.ost.events = (5, some 4) :: ([] : List (Nat × Option Nat)) ∧ (st358.task
      4).state = 0) ∧
    (st359.domainOn 90 = true ∧ st359.ost.due = 2 :: ([] : List Nat) ∧ (st359.task 2).state = 2 ∧ (st359.task
      2).wake ≤ st359.ost.tick) ∧
    (st1.domainOn 90 = true ∧ st1.ost.due = ([] : List Nat) ∧ ((∀ n ∈ ([] : List Nat), (st1.task n).state ≠ 2 ∨
      st1.ost.tick < (st1.task n).wake))) := by
  unfold OstNext OstWaits Reached
  and_intros <;> decide +kernel

def st360 : State :=
  { State.reset with
    ost := { Ostler.reset with slot := [(15, (some 4))] } }

theorem test_meets_TasksArePlacedAndTaken :
    (Reached st360 (OST_CORE_TAKE (15 : Fin 16)) ∧ (15 : Path).val = (15 : Fin 16).val ∧ st360.slot (15 : Fin 16) =
      some 4 ∧ 4 < 16384) ∧
    (Reached st1 (OST_CORE_TAKE (0 : Fin 16)) ∧ ((15 : Path).val ≠ (0 : Fin 16).val ∨ st1.slot (0 : Fin 16) = none)) := by
  unfold Reached
  and_intros <;> decide +kernel

def st361 : State :=
  withRegs [(PWR_DOM 74, 0)]

def st362 : State :=
  { State.reset with
    ost := { Ostler.reset with tasks := [(0, { Task.reset with state := 1 })] } }

def st363 : State :=
  { State.reset with
    ost := { Ostler.reset with d0 := some (0xe06146f7#32), d1 := some (0x60e2faeb#32) } }

def st364 : State :=
  { withRegs [(OST_CORE_STAT 1, 0x10009), (OST_CORE_WDT 1, 0xfe010002)] with
    ost := { Ostler.reset with wdt := [(1, 4398046511104000000)] } }

def st365 : State :=
  withRegs [(OST_CORE_STAT 15, 21)]

def st366 : State :=
  { withRegs [(OST_CORE_STAT 1, 5), (OST_CORE_WDT 1, 0xff010000)] with
    ost := { Ostler.reset with wdt := [(1, 3298534883328000000)] } }

def st367 : State :=
  withRegs [(OST_CORE_STAT 15, 0x10011), (OST_CORE_WDT 15, 0xff000000)]

theorem test_meets_CoresDescriptorsAndWatchdogs :
    (Reached st361 (OST_CORE_CTRL (1 : Fin 16)) ∧ (0xb580d7dd#32).getLsbD 0 = true ∧ (0xb580d7dd#32).getLsbD 1 =
      false ∧ st361.f (OST_CORE_STAT_STATE (1 : Fin 16)) = 0 ∧ st361.domainOn (73 + (1 : Fin 16)) = true) ∧
    (Reached st1 (OST_CORE_CTRL (0 : Fin 16)) ∧ (0xa293d46#32).getLsbD 1 = true) ∧
    (Reached st362 (OST_TASK_D0 + 4 * (1 : Fin 3)) ∧ (0 : Nat) = st362.f OST_TASK_ADDR_TASK ∧ (st362.task (0 :
      Nat)).state ≠ 0) ∧
    (Reached st1 (OST_TASK_D0 + 4 * (0 : Fin 3)) ∧ (0 : Nat) = st1.f OST_TASK_ADDR_TASK ∧ (st1.task (0 : Nat)).state
      = 0 ∧ (0 : Fin 3) = 0) ∧
    (Reached st363 (OST_TASK_D0 + 4 * (2 : Fin 3)) ∧ (0 : Nat) = st363.f OST_TASK_ADDR_TASK ∧ (st363.task (0 :
      Nat)).state = 0 ∧ (2 : Fin 3) = 2 ∧ st363.ost.d0 = some (0xe06146f7#32) ∧ st363.ost.d1 = some (0x60e2faeb#32)) ∧
    (Reached st1 (OST_TASK_D0 + 4 * (0 : Fin 3)) ∧ (0 : Nat) = st1.f OST_TASK_ADDR_TASK ∧ (0 : Fin 3) = 0) ∧
    (Reached st1 (OST_TASK_D0 + 4 * (2 : Fin 3)) ∧ (0 : Nat) = st1.f OST_TASK_ADDR_TASK ∧ (2 : Fin 3) = 2) ∧
    (Reached st1 OST_DOORBELL ∧ st1.domainOn 90 = true) ∧
    (Reached st1 (OST_CORE_WDT (1 : Fin 16))) ∧
    (st364.domainOn 90 = true ∧ st364.f (OST_CORE_STAT_STATE (1 : Fin 16)) = 1 ∧ (2199023255552000000 : Nat) = max 1
      (st364.f (OST_CORE_WDT_TIMEOUT_MS (1 : Fin 16))) * 1000000 * 2 ^ 40 ∧ (2199023255552000000 : Nat) ≤ 2 *
      Sparse.get 0 st364.ost.wdt (1 : Fin 16)) ∧
    (st365.domainOn 90 = true ∧ st365.f (OST_CORE_STAT_STATE (15 : Fin 16)) = 1 ∧ (549755813888000000000 : Nat) =
      max 1 (st365.f (OST_CORE_WDT_TIMEOUT_MS (15 : Fin 16))) * 1000000 * 2 ^ 40 ∧ 2 * Sparse.get 0 st365.ost.wdt
      (15 : Fin 16) < (549755813888000000000 : Nat)) ∧
    (st366.domainOn 90 = true ∧ st366.f (OST_CORE_STAT_STATE (1 : Fin 16)) = 1 ∧ (1099511627776000000 : Nat) = max 1
      (st366.f (OST_CORE_WDT_TIMEOUT_MS (1 : Fin 16))) * 1000000 * 2 ^ 40 ∧ (1099511627776000000 : Nat) ≤ Sparse.get
      0 st366.ost.wdt (1 : Fin 16) ∧ st366.f (OST_CORE_WDT_EN (1 : Fin 16)) = 1) ∧
    (st367.domainOn 90 = true ∧ st367.f (OST_CORE_STAT_STATE (15 : Fin 16)) = 1 ∧ (1099511627776000000 : Nat) = max
      1 (st367.f (OST_CORE_WDT_TIMEOUT_MS (15 : Fin 16))) * 1000000 * 2 ^ 40 ∧ st367.f (OST_CORE_WDT_EN (15 : Fin
      16)) = 0) := by
  unfold Reached
  and_intros <;> decide +kernel

def st368 : State :=
  withRegs [(MGE_CTRL, 15)]

def st369 : State :=
  withRegs [(MGE_MAC, 0x33445566), (MGE_MAC + 4, 0x1122), (MGE_RAP_CFG, 0x31388)]

def st370 : State :=
  { withRegs [(MGE_MAC, 0x33445566), (MGE_MAC + 4, 0x1122), (MGE_RAP_CFG, 0x31388)] with
    mge := { MgePort.reset with waiting := [⟨1, 2, 3, []⟩, ⟨1, 2, 3, []⟩, ⟨1, 2, 3, []⟩, ⟨1, 2, 3, []⟩] } }

def st371 : State :=
  withRegs [(MGE_IP, 0xa000002)]

def st372 : State :=
  withRegs [(MGE_CTRL, 13), (MGE_RXR_BASE, 0x7fffe0), (MGE_RXR_LEN, 1), (MGE_RXR_HEAD, 1)]

def st373 : State :=
  { withRegs [(MGE_CTRL, 7), (MGE_RXR_BASE, 0x7fffe0), (MGE_RXR_LEN, 1)] with
    boot := [(8388586, (3#8))] }

def st374 : State :=
  withRegs [(MGE_CTRL, 15), (MGE_TXR_BASE, 0x900000), (MGE_TXR_LEN, 2)]

def st375 : State :=
  withRegs [(MGE_CTRL, 7), (MGE_TXR_LEN, 3)]

def st376 : State :=
  { withRegs [(MGE_CTRL, 7), (MGE_TXR_BASE, 0x1000), (MGE_TXR_LEN, 1), (MGE_TXR_HEAD, 2)] with
    boot := [(4163, (255#8)), (4168, (9#8)), (4170, (9#8))] }

def st377 : State :=
  { withRegs [(MGE_CTRL, 7), (MGE_TXR_LEN, 1)] with
    boot := [(10, (1#8))] }

def st378 : State :=
  withRegs [(MGE_MDIO_CMD, 0x80000001)]

def st379 : State :=
  withRegs [(MGE_MDIO_CMD, 0x8000e6ab)]

theorem test_meets_ManagementPortFramesAndRings :
    ((st3.jtagPins = true ∨ st3.mode = Mode.reset ∨ st3.f MGE_LB_MODE = 1 ∨ st3.f MGE_LB_MODE = 2)) ∧
    (PortOpen st368 ∧ pauseTime (([0, 0, 0, 0, 0, 0, 3, 53, 202, 248, 157, 47, 136, 8, 0, 1, 39, 75] ++
      List.replicate 46 0) : List (BitVec 8)) = some 10059 ∧ st368.f MGE_CTRL_PAUSE_EN = 1) ∧
    (PortOpen st369 ∧ pauseTime (([17, 34, 51, 68, 85, 102, 36, 130, 87, 203, 16, 32, 8, 0, 69, 0, 0, 56, 0, 7, 0,
      0, 64, 17, 102, 172, 10, 0, 0, 1, 10, 0, 0, 2, 3, 9, 19, 136, 0, 36] ++ List.replicate 20 0 ++ [20, 121, 228,
      221, 34, 41, 50, 67, 129, 32]) : List (BitVec 8)) = none ∧ st369.rapFrame (([17, 34, 51, 68, 85, 102, 36, 130,
      87, 203, 16, 32, 8, 0, 69, 0, 0, 56, 0, 7, 0, 0, 64, 17, 102, 172, 10, 0, 0, 1, 10, 0, 0, 2, 3, 9, 19, 136, 0,
      36] ++ List.replicate 20 0 ++ [20, 121, 228, 221, 34, 41, 50, 67, 129, 32]) : List (BitVec 8)) = some
      (⟨40142237274144, 167772161, 777, (List.replicate 18 0 ++ [20, 121, 228, 221, 34, 41, 50, 67, 129, 32])⟩ :
      RapRequest) ∧ st369.rst.stage ≠ 1 ∧ st369.mge.waiting.length < 4) ∧
    (PortOpen st370 ∧ pauseTime (([17, 34, 51, 68, 85, 102, 228, 44, 195, 24, 37, 40, 8, 0, 69, 0, 0, 50, 0, 7, 0,
      0, 64, 17, 102, 178, 10, 0, 0, 1, 10, 0, 0, 2, 3, 9, 19, 136, 0, 30] ++ List.replicate 14 0 ++ [18, 19, 19,
      82, 243, 23, 99, 24, 186, 104]) : List (BitVec 8)) = none ∧ st370.rapFrame (([17, 34, 51, 68, 85, 102, 228,
      44, 195, 24, 37, 40, 8, 0, 69, 0, 0, 50, 0, 7, 0, 0, 64, 17, 102, 178, 10, 0, 0, 1, 10, 0, 0, 2, 3, 9, 19,
      136, 0, 30] ++ List.replicate 14 0 ++ [18, 19, 19, 82, 243, 23, 99, 24, 186, 104]) : List (BitVec 8)) = some
      (⟨250880902833448, 167772161, 777, (List.replicate 12 0 ++ [18, 19, 19, 82, 243, 23, 99, 24, 186, 104])⟩ :
      RapRequest) ∧ st370.rst.stage ≠ 1 ∧ 4 ≤ st370.mge.waiting.length) ∧
    (PortOpen st371 ∧ pauseTime ([0, 0, 0, 0, 0, 5, 0, 0, 0, 0, 0, 7, 8, 6, 0, 1, 8, 0, 6, 4, 0, 1, 0, 0, 0, 0, 14,
      201, 26, 139, 36, 191, 0, 0, 0, 0, 0, 0, 10, 0, 0, 2, 0, 0, 0, 0, 0, 0, 0, 0] : List (BitVec 8)) = none ∧
      st371.rapFrame ([0, 0, 0, 0, 0, 5, 0, 0, 0, 0, 0, 7, 8, 6, 0, 1, 8, 0, 6, 4, 0, 1, 0, 0, 0, 0, 14, 201, 26,
      139, 36, 191, 0, 0, 0, 0, 0, 0, 10, 0, 0, 2, 0, 0, 0, 0, 0, 0, 0, 0] : List (BitVec 8)) = none ∧
      st371.arpRequest ([0, 0, 0, 0, 0, 5, 0, 0, 0, 0, 0, 7, 8, 6, 0, 1, 8, 0, 6, 4, 0, 1, 0, 0, 0, 0, 14, 201, 26,
      139, 36, 191, 0, 0, 0, 0, 0, 0, 10, 0, 0, 2, 0, 0, 0, 0, 0, 0, 0, 0] : List (BitVec 8)) = true) ∧
    (PortOpen st1 ∧ ForRing st1 ([17, 34, 51, 68, 85, 102, 156, 247, 179, 142, 204, 130, 8, 0, 69, 0, 0, 32, 0, 7,
      0, 0, 64, 17, 102, 196, 10, 0, 0, 1, 10, 0, 0, 2, 3, 9, 19, 136, 0, 12, 0, 0, 69, 25, 111, 146] : List (BitVec
      8)) false ∧ 0 = st1.f64 MGE_RXR_BASE + 32 * st1.f MGE_RXR_HEAD_HEAD ∧ 0 = st1.innNat 0 8 ∧ 0 = min ([17, 34,
      51, 68, 85, 102, 156, 247, 179, 142, 204, 130, 8, 0, 69, 0, 0, 32, 0, 7, 0, 0, 64, 17, 102, 196, 10, 0, 0, 1,
      10, 0, 0, 2, 3, 9, 19, 136, 0, 12, 0, 0, 69, 25, 111, 146] : List (BitVec 8)).length (st1.innNat (0 + 8) 2) ∧
      (st1.f MGE_CTRL_RX_EN = 0 ∨ st1.f MGE_RXR_LEN_LEN = 0 ∨ (innHolds 0 32 = true ∧ st1.innNat (0 + 10) 2 % 2 =
      0))) ∧
    (PortOpen st372 ∧ ForRing st372 (([0, 0, 0, 0, 0, 0, 14, 45, 132, 208, 74, 202, 136, 247, 2] ++ List.replicate
      34 0 ++ [99, 62, 161, 178, 11, 134]) : List (BitVec 8)) false ∧ 8388608 = st372.f64 MGE_RXR_BASE + 32 *
      st372.f MGE_RXR_HEAD_HEAD ∧ 0 = st372.innNat 8388608 8 ∧ 0 = min (([0, 0, 0, 0, 0, 0, 14, 45, 132, 208, 74,
      202, 136, 247, 2] ++ List.replicate 34 0 ++ [99, 62, 161, 178, 11, 134]) : List (BitVec 8)).length
      (st372.innNat (8388608 + 8) 2) ∧ st372.f MGE_CTRL_RX_EN = 1 ∧ st372.f MGE_RXR_LEN_LEN ≠ 0 ∧ innHolds 8388608
      32 = false) ∧
    (PortOpen st373 ∧ ForRing st373 ([17, 34, 51, 68, 85, 102, 209, 131, 13, 154, 145, 177, 8, 0, 69, 0, 0, 39, 0,
      7, 0, 0, 64, 17, 102, 189, 10, 0, 0, 1, 10, 0, 0, 2, 3, 9, 1, 63, 0, 19, 0, 0, 0, 36, 125, 181, 250, 163, 132,
      36, 239, 134, 185] : List (BitVec 8)) false ∧ 8388576 = st373.f64 MGE_RXR_BASE + 32 * st373.f
      MGE_RXR_HEAD_HEAD ∧ 0 = st373.innNat 8388576 8 ∧ 0 = min ([17, 34, 51, 68, 85, 102, 209, 131, 13, 154, 145,
      177, 8, 0, 69, 0, 0, 39, 0, 7, 0, 0, 64, 17, 102, 189, 10, 0, 0, 1, 10, 0, 0, 2, 3, 9, 1, 63, 0, 19, 0, 0, 0,
      36, 125, 181, 250, 163, 132, 36, 239, 134, 185] : List (BitVec 8)).length (st373.innNat (8388576 + 8) 2) ∧
      st373.f MGE_CTRL_RX_EN = 1 ∧ st373.f MGE_RXR_LEN_LEN ≠ 0 ∧ innHolds 8388576 32 = true ∧ st373.innNat (8388576
      + 10) 2 % 2 = 1 ∧ ((0 = 0 ∨ innHolds 0 0 = true)) ∧ innRegion 8388576 ≠ 2 ∧ innRegion 0 ≠ 2 ∧ ((0 + 0 ≤
      8388576 + 8 ∨ 8388576 + 32 ≤ 0))) ∧
    (0 = st1.f64 MGE_TXR_BASE + 32 * st1.f MGE_TXR_HEAD_HEAD ∧ 0 = st1.innNat 0 8 ∧ 0 = st1.innNat (0 + 8) 2 ∧ 0 =
      st1.innNat (0 + 10) 2 ∧ (st1.f MGE_CTRL_TX_EN = 0 ∨ st1.f MGE_TXR_LEN_LEN = 0 ∨ st1.hub < st1.mge.pauseUntil)) ∧
    (9437184 = st374.f64 MGE_TXR_BASE + 32 * st374.f MGE_TXR_HEAD_HEAD ∧ 0 = st374.innNat 9437184 8 ∧ 0 =
      st374.innNat (9437184 + 8) 2 ∧ 0 = st374.innNat (9437184 + 10) 2 ∧ st374.f MGE_CTRL_TX_EN = 1 ∧ st374.f
      MGE_TXR_LEN_LEN ≠ 0 ∧ st374.mge.pauseUntil ≤ st374.hub ∧ innHolds 9437184 32 = false) ∧
    (0 = st375.f64 MGE_TXR_BASE + 32 * st375.f MGE_TXR_HEAD_HEAD ∧ 0 = st375.innNat 0 8 ∧ 0 = st375.innNat (0 + 8) 2
      ∧ 0 = st375.innNat (0 + 10) 2 ∧ st375.f MGE_CTRL_TX_EN = 1 ∧ st375.f MGE_TXR_LEN_LEN ≠ 0 ∧
      st375.mge.pauseUntil ≤ st375.hub ∧ innHolds 0 32 = true ∧ 0 % 2 = 0) ∧
    (4160 = st376.f64 MGE_TXR_BASE + 32 * st376.f MGE_TXR_HEAD_HEAD ∧ 4278190080 = st376.innNat 4160 8 ∧ 9 =
      st376.innNat (4160 + 8) 2 ∧ 9 = st376.innNat (4160 + 10) 2 ∧ st376.f MGE_CTRL_TX_EN = 1 ∧ st376.f
      MGE_TXR_LEN_LEN ≠ 0 ∧ st376.mge.pauseUntil ≤ st376.hub ∧ innHolds 4160 32 = true ∧ 9 % 2 = 1 ∧ 9 ≠ 0 ∧
      innHolds 4278190080 9 = false) ∧
    (0 = st377.f64 MGE_TXR_BASE + 32 * st377.f MGE_TXR_HEAD_HEAD ∧ 0 = st377.innNat 0 8 ∧ 0 = st377.innNat (0 + 8) 2
      ∧ 1 = st377.innNat (0 + 10) 2 ∧ st377.f MGE_CTRL_TX_EN = 1 ∧ st377.f MGE_TXR_LEN_LEN ≠ 0 ∧
      st377.mge.pauseUntil ≤ st377.hub ∧ innHolds 0 32 = true ∧ 1 % 2 = 1 ∧ ((0 = 0 ∨ innHolds 0 0 = true)) ∧
      st377.f MGE_LB_MODE = 0) ∧
    (Reached st1 MGE_MDIO_CMD ∧ st1.f MGE_MDIO_CMD_GO_BUSY = 0) ∧
    (Reached st378 MGE_MDIO_CMD ∧ st378.f MGE_MDIO_CMD_GO_BUSY = 1 ∧ (0x8ed943b9#32).getLsbD 31 = true) ∧
    (st379.f MGE_MDIO_CMD_GO_BUSY = 1) ∧
    (st1.f MGE_MDIO_CMD_GO_BUSY = 0) := by
  unfold ForRing PortOpen Reached
  and_intros <;> decide +kernel

def st380 : State :=
  withRegs [(WKE_CORE_STAT 15, 0x10003)]

def st381 : State :=
  withRegs [(WKE_CORE_STAT 0, 3)]

def st382 : State :=
  withRegs [(WKE_CORE_STAT 15, 3)]

def st383 : State :=
  { withRegs [(WKE_CORE_STAT 0, 0xffff0002)] with
    tmk := { Tidemark.reset with steered := 10995116277760000000 } }

def st384 : State :=
  withRegs [(OST_CORE_STAT 0, 1)]

def st385 : State :=
  withRegs [(OST_CORE_STAT 15, 2)]

def st386 : State :=
  withRegs [(WKE_CORE_STAT 15, 0xfffe0003)]

def st387 : State :=
  { withRegs [(WKE_CORE_STAT 0, 0xa9690003)] with
    wke := { Wake.reset with cores := [(0, { Trace.reset with stopAt := 1 })] } }

def st388 : State :=
  withRegs [(WKE_CORE_STAT 15, 0xffff0003)]

def st389 : State :=
  { State.reset with
    tmk := { Tidemark.reset with steered := 10995116277760000000 } }

def st390 : State :=
  { withRegs [(WKE_CORE_STAT 0, 2)] with
    wke := { Wake.reset with cores := [(0, { Trace.reset with atoms := [true] })] } }

def st391 : State :=
  { withRegs [(WKE_CORE_STAT 1, 0x60002)] with
    wke := { Wake.reset with cores := [(1, { Trace.reset with atoms := [false, false, false, true, false, false, true, false, true, true, false, true, false, false, false, false, true, false, false, false, false, false, true, true, true, true, true, false, false, false, true] })] } }

def st392 : State :=
  { State.reset with
    tmk := { Tidemark.reset with steered := 10995116277760000000 },
    wke := { Wake.reset with cores := [(1, { Trace.reset with held := [[2305843009213693952, 5]], stallAt := some 9999000 })] } }

theorem test_meets_TracesRecordTheirCores :
    ((15 : Nat) = (15 : Fin 16).val ∧ CalmTrace st380 (15 : Nat) ∧ st380.tracing (15 : Nat) = true ∧
      st380.traceQuiet (15 : Nat) = false ∧ Awake st380 (15 : Nat) ∧ 0 = min ((st380.tr (15 : Nat)).count + 0) 65535
      ∧ (0 : Fin 4) ≠ 3) ∧
    ((0 : Nat) = (0 : Fin 16).val ∧ CalmTrace st381 (0 : Nat) ∧ st381.tracing (0 : Nat) = true ∧ st381.traceQuiet (0
      : Nat) = false ∧ Awake st381 (0 : Nat) ∧ 5 = min ((st381.tr (0 : Nat)).count + 5) 65535 ∧ (3 : Fin 4) = 3) ∧
    ((0 : Nat) = (0 : Fin 16).val ∧ CalmTrace st1 (0 : Nat) ∧ st1.tracing (0 : Nat) = false) ∧
    ((15 : Nat) = (15 : Fin 16).val ∧ CalmTrace st382 (15 : Nat) ∧ (st382.tr (15 : Nat)).isOver = false ∧
      st382.tracing (15 : Nat) = true ∧ Awake st382 (15 : Nat)) ∧
    ((0 : Nat) = (0 : Fin 16).val ∧ CalmTrace st383 (0 : Nat) ∧ st383.trState (0 : Nat) = TraceSt.active ∧ st383.f
      WKE_CTRL_TS_LOG2 ≠ 0 ∧ Awake st383 (0 : Nat) ∧ st383.elapsedSteered (st383.tr (0 : Nat)).tsAt (1000 * 2 ^
      st383.f WKE_CTRL_TS_LOG2) = true ∧ 5 = min ((st383.tr (0 : Nat)).count + 5) 65535) ∧
    ((0 : Nat) = (0 : Fin 16).val ∧ CalmTrace st384 (0 : Nat) ∧ st384.f (OST_CORE_STAT_STATE (0 : Nat)) = 1 ∧ Awake
      st384 (0 : Nat) ∧ 601 = min ((st384.tr (0 : Nat)).count + 601) 65535) ∧
    ((15 : Nat) = (15 : Fin 16).val ∧ CalmTrace st385 (15 : Nat) ∧ st385.f (OST_CORE_STAT_STATE (15 : Nat)) = 2) ∧
    ((15 : Nat) = (15 : Fin 16).val ∧ CalmTrace st386 (15 : Nat) ∧ st386.trState (15 : Nat) = TraceSt.stopping ∧
      Awake st386 (15 : Nat) ∧ 5 = min ((st386.tr (15 : Nat)).count + 5) 65535 ∧ st386.elapsedSteered (st386.tr (15
      : Nat)).stopAt (1000 * st386.f (WKE_CORE_CFG_STOP_DLY_US (15 : Nat))) = true) ∧
    ((0 : Nat) = (0 : Fin 16).val ∧ CalmTrace st387 (0 : Nat) ∧ st387.trState (0 : Nat) = TraceSt.stopping ∧ Awake
      st387 (0 : Nat) ∧ 65535 = min ((st387.tr (0 : Nat)).count + 70000) 65535 ∧ st387.elapsedSteered (st387.tr (0 :
      Nat)).stopAt (1000 * st387.f (WKE_CORE_CFG_STOP_DLY_US (0 : Nat))) = false) ∧
    ((15 : Nat) = (15 : Fin 16).val ∧ CalmTrace st388 (15 : Nat) ∧ (st388.tr (15 : Nat)).secure = false ∧
      st388.tracing (15 : Nat) = true ∧ Awake st388 (15 : Nat) ∧ 0 = min ((st388.tr (15 : Nat)).count + 0) 65535) ∧
    ((1 : Nat) = (1 : Fin 16).val ∧ CalmTrace st1 (1 : Nat)) ∧
    ((1 : Nat) = (1 : Fin 16).val ∧ CalmTrace st389 (1 : Nat) ∧ (st389.setTr (1 : Nat)
      { st389.tr (1 : Nat) with stallAt := some 100 }) = st389.setTr (1 : Nat)
      { st389.tr (1 : Nat) with stallAt := some 100 } ∧ (st389.setTr (1 : Nat)
      { st389.tr (1 : Nat) with stallAt := some 100 }).elapsedSteered 100 (1000 * max 1 ((st389.setTr (1 : Nat)
      { st389.tr (1 : Nat) with stallAt := some 100 }).f WKE_STALL_MAX_US)) = true) ∧
    ((15 : Nat) = (15 : Fin 16).val ∧ CalmTrace st1 (15 : Nat) ∧ (st1.setTr (15 : Nat)
      { st1.tr (15 : Nat) with stallAt := some 18446744073709551615 }) = st1.setTr (15 : Nat)
      { st1.tr (15 : Nat) with stallAt := some 18446744073709551615 } ∧ (st1.setTr (15 : Nat)
      { st1.tr (15 : Nat) with stallAt := some 18446744073709551615 }).elapsedSteered 18446744073709551615 (1000 *
      max 1 ((st1.setTr (15 : Nat) { st1.tr (15 : Nat) with stallAt := some 18446744073709551615 }).f
      WKE_STALL_MAX_US)) = false) ∧
    ((0 : Nat) = (0 : Fin 16).val ∧ st390.domainOn 90 = true ∧ st390.tracing (0 : Nat) = true ∧ st390.traceQuiet (0
      : Nat) = false ∧ Awake st390 (0 : Nat) ∧ (st390.tr (0 : Nat)).held = [] ∧ (st390.tr (0 : Nat)).level ≤ 480 ∧ 5
      = min ((st390.tr (0 : Nat)).count + 5) 65535 ∧ 0 < (st390.tr (0 : Nat)).atoms.length ∧ (st390.tr (0 :
      Nat)).atoms.length < 31) ∧
    ((1 : Nat) = (1 : Fin 16).val ∧ st391.domainOn 90 = true ∧ st391.tracing (1 : Nat) = true ∧ st391.traceQuiet (1
      : Nat) = false ∧ Awake st391 (1 : Nat) ∧ (st391.tr (1 : Nat)).held = [] ∧ (st391.tr (1 : Nat)).level ≤ 480 ∧ 2
      = min ((st391.tr (1 : Nat)).count + 2) 65535 ∧ (st391.tr (1 : Nat)).atoms.length = 31) ∧
    ((1 : Nat) = (1 : Fin 16).val ∧ st392.domainOn 90 = true ∧ (st392.tr (1 : Nat)).stallAt = some 9999000 ∧
      st392.elapsedSteered 9999000 (1000 * max 1 (st392.f WKE_STALL_MAX_US)) = true ∧ (2 = (((st392.tr (1 :
      Nat)).held.filter fun x => !([4, 5, 7, 9].contains (x.headD 0 / 2 ^ 60))).map List.length).sum) ∧ 0 < 2) := by
  unfold Awake CalmTrace
  and_intros <;> decide +kernel

def st393 : State :=
  withRegs [(WKE_CTRL, 0xd0023), (WKE_CORE_STAT 0, 2), (WKE_CMP_ADDR 0 6, 5), (WKE_CMP_CFG 0 6, 2)]

def st394 : State :=
  withRegs [(WKE_CTRL, 0x120001), (WKE_CORE_STAT 0, 1), (WKE_CMP_ADDR 0 3, 0x3e8), (WKE_CMP_CFG 0 3, 1)]

def st395 : State :=
  withRegs [(WKE_CTRL, 0x160001), (WKE_CMP_ADDR 0 2, 0x3e8), (WKE_CMP_CFG 0 2, 3)]

def st396 : State :=
  withRegs [(WKE_CTRL, 0x100011)]

def st397 : State :=
  withRegs [(WKE_CTRL, 1)]

def st398 : State :=
  withRegs [(WKE_SINK_BASE + 4, 16), (WKE_SINK_LEN, 0x2000)]

def st399 : State :=
  withRegs [(WKE_CTRL, 0x50001)]

def st400 : State :=
  { withRegs [(WKE_SINK_BASE + 4, 17)] with
    wke := { Wake.reset with line := [0, 15082248684230, 30164497368460, 45246746052690, 60328994736920, 75411243421150, 90493492105380, 105575740789610] } }

def st401 : State :=
  { withRegs [(WKE_SINK_BASE + 4, 17)] with
    wke := { Wake.reset with cores := [(1, { Trace.reset with fifo := [[9]] })] } }

def st402 : State :=
  withRegs [(WKE_STAT, 14)]

def st403 : State :=
  withRegs [(WKE_AUTH_ADDR + 4, 17)]

def st404 : State :=
  withRegs [(WKE_AUTH_STAT, 0x62020001)]

def st405 : State :=
  withRegs [(WKE_AUTH_STAT, 0xffff0001)]

def st406 : State :=
  withRegs [(WKE_AUTH_STAT, 1)]

theorem test_meets_TraceControlSinkAndAuthorisation :
    (st393.domainOn 90 = true ∧ 0 = (0 : Fin 2).val ∧ CalmTrace st393 0 ∧ st393.f WKE_CTRL_EN = 1 ∧ st393.traceQuiet
      0 = false ∧ Awake st393 0 ∧ 65535 = min ((st393.tr 0).count + 96407) 65535 ∧ OneComparator st393 0 6 2 ∧
      st393.f64 (WKE_CMP_ADDR 0 6) = (5#64).toNat ∧ st393.trState 0 = TraceSt.active) ∧
    (st394.domainOn 90 = true ∧ 0 = (0 : Fin 2).val ∧ CalmTrace st394 0 ∧ st394.f WKE_CTRL_EN = 1 ∧ st394.traceQuiet
      0 = false ∧ Awake st394 0 ∧ 65535 = min ((st394.tr 0).count + 65535) 65535 ∧ OneComparator st394 0 3 1 ∧
      st394.f64 (WKE_CMP_ADDR 0 3) = (0x3e8#64).toNat ∧ st394.trState 0 = TraceSt.armed) ∧
    (st395.domainOn 90 = true ∧ 0 = (0 : Fin 2).val ∧ CalmTrace st395 0 ∧ st395.f WKE_CTRL_EN = 1 ∧ st395.traceQuiet
      0 = false ∧ Awake st395 0 ∧ 4 = min ((st395.tr 0).count + 4) 65535 ∧ OneComparator st395 0 2 3 ∧ st395.f64
      (WKE_CMP_ADDR 0 2) = (0x3e8#64).toNat ∧ st395.trigEnabled (3 + 0) = true) ∧
    (st396.domainOn 90 = true ∧ (0#3).toNat ≤ 5 ∧ st396.trigEnabled (0#3).toNat = true ∧ st396.f WKE_CTRL_EN = 1 ∧
      st396.f WKE_STAT_TRIGGERED = 0) ∧
    (st1.domainOn 90 = true ∧ (0#3).toNat ≤ 5 ∧ st1.trigEnabled (0#3).toNat = true ∧ (st1.f WKE_CTRL_EN = 0 ∨ st1.f
      WKE_STAT_TRIGGERED = 1)) ∧
    (st1.domainOn 90 = true ∧ 5 < (6#3).toNat) ∧
    (st397.domainOn 90 = true ∧ Reached st397 WKE_CTRL ∧ st397.f WKE_CTRL_EN = 1 ∧ slice (5#32).toNat 1 1 = st397.f
      WKE_CTRL_SINK_MODE ∧ slice (5#32).toNat 4 4 = st397.f WKE_CTRL_TS_LOG2 ∧ slice (5#32).toNat 16 5 = st397.f
      WKE_CTRL_TRIG_SRC ∧ (5#32).getLsbD 0 = true ∧ (5#32).getLsbD 2 = true) ∧
    (st398.domainOn 90 = true ∧ Reached st398 WKE_CTRL ∧ (0x86229001#32).getLsbD 2 = false ∧ st398.f WKE_CTRL_EN = 0
      ∧ (0x86229001#32).getLsbD 0 = true ∧ st398.sinkOk = true) ∧
    (st1.domainOn 90 = true ∧ Reached st1 WKE_CTRL ∧ (3#32).getLsbD 2 = false ∧ st1.f WKE_CTRL_EN = 0 ∧
      (3#32).getLsbD 0 = true ∧ st1.sinkOk = false) ∧
    (st396.domainOn 90 = true ∧ Reached st396 WKE_CTRL ∧ (0#32).getLsbD 2 = false ∧ st396.f WKE_CTRL_EN = 1 ∧
      (0#32).getLsbD 0 = false) ∧
    (st399.domainOn 90 = true ∧ Reached st399 WKE_CTRL ∧ (0x246dc1cb#32).getLsbD 2 = false ∧ st399.f WKE_CTRL_EN = 1
      ∧ slice (0x246dc1cb#32).toNat 1 1 ≠ st399.f WKE_CTRL_SINK_MODE) ∧
    (st400.domainOn 90 = true ∧ st400.f WKE_STAT_SINK_FULL = 0 ∧ st400.f WKE_CTRL_SINK_MODE = 0 ∧ 73014444032 =
      st400.f64 WKE_SINK_BASE + st400.f64 WKE_SINK_WR % st400.f64 WKE_SINK_LEN ∧ inCarve 73014444032 64 = true ∧
      st400.wke.line.length = 8 ∧ ((∀ c, c < 16 → (st400.tr c).fifo = []))) ∧
    (st401.domainOn 90 = true ∧ st401.f WKE_STAT_SINK_FULL = 0 ∧ st401.f WKE_CTRL_SINK_MODE = 0 ∧ 73014444032 =
      st401.f64 WKE_SINK_BASE + st401.f64 WKE_SINK_WR % st401.f64 WKE_SINK_LEN ∧ inCarve 73014444032 64 = true ∧ 1 <
      16 ∧ st401.wke.line = [] ∧ st401.f WKE_CTRL_EN = 0 ∧ (st401.tr 1).fifo = [[9]] ∧ (st401.tr 1).held = [] ∧
      (st401.tr 1).lost = 0 ∧ 0 < [9].length ∧ [9].length ≤ 8 ∧ ((∀ j, j < 16 → j ≠ 1 → (st401.tr j).fifo = []))) ∧
    (st402.domainOn 90 = true ∧ st402.f WKE_STAT_SINK_FULL = 1) ∧
    (st403.domainOn 90 = true ∧ Reached st403 WKE_AUTH_CMD ∧ st403.f WKE_AUTH_STAT_BUSY = 0 ∧ (7#32).getLsbD 0 =
      true ∧ inCarve (st403.f64 WKE_AUTH_ADDR) 216 = true) ∧
    (st1.domainOn 90 = true ∧ Reached st1 WKE_AUTH_CMD ∧ st1.f WKE_AUTH_STAT_BUSY = 0 ∧ (2#32).getLsbD 0 = false ∧
      (2#32).getLsbD 1 = true) ∧
    (st404.domainOn 90 = true ∧ Reached st404 WKE_AUTH_CMD ∧ st404.f WKE_AUTH_STAT_BUSY = 1) ∧
    (st405.domainOn 90 = true ∧ Reached st405 WKE_AUTH_CMD ∧ st405.f WKE_AUTH_STAT_BUSY = 1) ∧
    (st406.domainOn 90 = true ∧ st406.f WKE_AUTH_STAT_BUSY = 1 ∧ st406.f CFG_STATUS_PHASE ≠ 2) := by
  unfold OneComparator Awake CalmTrace Reached
  and_intros <;> decide +kernel

def st407 : State :=
  { State.reset with
    gbk := { Guestbook.reset with open_ := [⟨224, 566, 5497559238391627776, 3235346180366, 448726788, 5, 1, 647069236073, [1, 0, 0, 65535, 5, 0, 0, 0], 1235806478, 69, true, false⟩] } }

def st408 : State :=
  { State.reset with
    gbk := { Guestbook.reset with open_ := [⟨0, 482, 5497559238391627776, 6627637190782, 212396927, 0, 69, 1325527438156, [1, 0, 0, 65535, 1, 0, 0, 0], 502653054, 69, true, false⟩] },
    tmk := { Tidemark.reset with steered := 10995116277760000000 } }

def st409 : State :=
  { State.reset with
    gbk := { Guestbook.reset with open_ := [⟨5, 474, 5497559238391627776, 9130848853474, 616284491, 0, 4294967294, 1826169770694, [1, 0, 0, 65535, 1, 0, 0, 0], 4043349474, 40, true, false⟩], queue := [⟨3586, 0, 63506, 703075361719962, 848853506, 3043616284502, 45654244267530, [1, 2, 70000, 0, 0, 0, 0, 65535], 4294967295, 4294967301, 40450, 2⟩, ⟨3590, 0, 63510, 703075361720270, 848853510, 3043616284503, 45654244267550, [1, 2, 70000, 0, 0, 0, 0, 65535], 4294967295, 4294967301, 40454, 6⟩, ⟨3594, 0, 63514, 703075361720578, 848853514, 3043616284504, 45654244267570, [1, 2, 70000, 0, 0, 0, 0, 65535], 4294967295, 4294967301, 40458, 2⟩, ⟨3598, 0, 63518, 703075361720886, 848853518, 3043616284506, 45654244267590, [1, 2, 70000, 0, 0, 0, 0, 65535], 4294967295, 4294967301, 40462, 6⟩, ⟨3602, 0, 63522, 703075361721194, 848853522, 3043616284507, 45654244267610, [1, 2, 70000, 0, 0, 0, 0, 65535], 4294967295, 4294967301, 40466, 2⟩, ⟨3606, 0, 63526, 703075361721502, 848853526, 3043616284508, 45654244267630, [1, 2, 70000, 0, 0, 0, 0, 65535], 4294967295, 4294967301, 40470, 6⟩, ⟨3610, 0, 63530, 703075361721810, 848853530, 3043616284510, 45654244267650, [1, 2, 70000, 0, 0, 0, 0, 65535], 4294967295, 4294967301, 40474, 2⟩, ⟨3614, 0, 63534, 703075361722118, 848853534, 3043616284511, 45654244267670, [1, 2, 70000, 0, 0, 0, 0, 65535], 4294967295, 4294967301, 40478, 6⟩, ⟨3618, 0, 63538, 703075361722426, 848853538, 3043616284512, 45654244267690, [1, 2, 70000, 0, 0, 0, 0, 65535], 4294967295, 4294967301, 40482, 2⟩, ⟨3622, 0, 63542, 703075361722734, 848853542, 3043616284514, 45654244267710, [1, 2, 70000, 0, 0, 0, 0, 65535], 4294967295, 4294967301, 40486, 6⟩, ⟨3626, 0, 63546, 703075361723042, 848853546, 3043616284515, 45654244267730, [1, 2, 70000, 0, 0, 0, 0, 65535], 4294967295, 4294967301, 40490, 2⟩, ⟨3630, 0, 63550, 703075361723350, 848853550, 3043616284516, 45654244267750, [1, 2, 70000, 0, 0, 0, 0, 65535], 4294967295, 4294967301, 40494, 6⟩, ⟨3634, 0, 63554, 703075361723658, 848853554, 3043616284518, 45654244267770, [1, 2, 70000, 0, 0, 0, 0, 65535], 4294967295, 4294967301, 40498, 2⟩, ⟨3638, 0, 63558, 703075361723966, 848853558, 3043616284519, 45654244267790, [1, 2, 70000, 0, 0, 0, 0, 65535], 4294967295, 4294967301, 40502, 6⟩, ⟨3642, 0, 63562, 703075361724274, 848853562, 3043616284520, 45654244267810, [1, 2, 70000, 0, 0, 0, 0, 65535], 4294967295, 4294967301, 40506, 2⟩, ⟨3646, 0, 63566, 703075361724582, 848853566, 3043616284522, 45654244267830, [1, 2, 70000, 0, 0, 0, 0, 65535], 4294967295, 4294967301, 40510, 6⟩, ⟨3650, 0, 63570, 703075361724890, 848853570, 3043616284523, 45654244267850, [1, 2, 70000, 0, 0, 0, 0, 65535], 4294967295, 4294967301, 40514, 2⟩, ⟨3654, 0, 63574, 703075361725198, 848853574, 3043616284524, 45654244267870, [1, 2, 70000, 0, 0, 0, 0, 65535], 4294967295, 4294967301, 40518, 6⟩, ⟨3658, 0, 63578, 703075361725506, 848853578, 3043616284526, 45654244267890, [1, 2, 70000, 0, 0, 0, 0, 65535], 4294967295, 4294967301, 40522, 2⟩, ⟨3662, 0, 63582, 703075361725814, 848853582, 3043616284527, 45654244267910, [1, 2, 70000, 0, 0, 0, 0, 65535], 4294967295, 4294967301, 40526, 6⟩, ⟨3666, 0, 63586, 703075361726122, 848853586, 3043616284528, 45654244267930, [1, 2, 70000, 0, 0, 0, 0, 65535], 4294967295, 4294967301, 40530, 2⟩, ⟨3670, 0, 63590, 703075361726430, 848853590, 3043616284530, 45654244267950, [1, 2, 70000, 0, 0, 0, 0, 65535], 4294967295, 4294967301, 40534, 6⟩, ⟨3674, 0, 63594, 703075361726738, 848853594, 3043616284531, 45654244267970, [1, 2, 70000, 0, 0, 0, 0, 65535], 4294967295, 4294967301, 40538, 2⟩, ⟨3678, 0, 63598, 703075361727046, 848853598, 3043616284532, 45654244267990, [1, 2, 70000, 0, 0, 0, 0, 65535], 4294967295, 4294967301, 40542, 6⟩] },
    tmk := { Tidemark.reset with steered := 10995116277760000000 } }

def st410 : State :=
  { State.reset with
    gbk := { Guestbook.reset with open_ := [⟨224, 651, 1099511627776000000, 6091769088251, 589696083, 10, 0, 1218353817650, [1, 0, 0, 65535, 8, 0, 0, 0], 1505462523, 0, false, false⟩] } }

def st411 : State :=
  { withRegs [(GBK_STAT, 0x1ffff)] with
    gbk := { Guestbook.reset with queue := [⟨50, 0, 18242, 631560062074634, 78728242, 2734026242747, 41010393641210, [1, 2, 70000, 0, 0, 0, 0, 65535], 4294967295, 4294967301, 12338, 2⟩] } }

def st412 : State :=
  withRegs [(GBK_MB_ARG 2, 17), (GBK_MB_ARG 3, 1)]

def st413 : State :=
  withRegs [(GBK_MB_ARG 0, 0xffff), (GBK_MB_ARG 3, 7)]

def st414 : State :=
  withRegs [(GBK_MB_ARG 3, 1)]

def st415 : State :=
  withRegs [(DEV_MODE, 2), (GBK_MB_ARG 3, 7)]

def st416 : State :=
  { State.reset with
    gbk := { Guestbook.reset with open_ := [⟨224, 99, 1099511627776000000, 1596960285999, 320095333, 5, 4294967294, 319392057199, [1, 0, 0, 65535, 6, 0, 0, 0], 3527419183, 1, false, false⟩] } }

def st417 : State :=
  withRegs [(GBK_SEV_ADDR, 224)]

set_option maxRecDepth 20000 in
theorem test_meets_OccurrencesBecomeRecordsOfTheLog :
    (st1.access (BitVec.ofNat 28 FAB_CLK_STAT).toNat = .off ∧ st1.f GBK_CFG_EN = 1 ∧ ((∀ a ∈ st1.gbk.open_, a.src ≠
      224)) ∧ st1.gbk.open_.length < 64) ∧
    (st407.access (BitVec.ofNat 28 FAB_CLK_STAT).toNat = .off ∧ st407.f GBK_CFG_EN = 1 ∧ st407.gbk.open_ =
      [(⟨224, 566, 5497559238391627776, 3235346180366, 448726788, 5, 1, 647069236073, [1, 0, 0, 65535, 5, 0, 0, 0], 1235806478, 69, true, false⟩
      : Aggregator)] ∧
      (⟨224, 566, 5497559238391627776, 3235346180366, 448726788, 5, 1, 647069236073, [1, 0, 0, 65535, 5, 0, 0, 0], 1235806478, 69, true, false⟩
      : Aggregator).src = 224 ∧ st407.elapsedSteered
      (⟨224, 566, 5497559238391627776, 3235346180366, 448726788, 5, 1, 647069236073, [1, 0, 0, 65535, 5, 0, 0, 0], 1235806478, 69, true, false⟩
      : Aggregator).t0
      ((⟨224, 566, 5497559238391627776, 3235346180366, 448726788, 5, 1, 647069236073, [1, 0, 0, 65535, 5, 0, 0, 0], 1235806478, 69, true, false⟩
      : Aggregator).interval * 1000000) = false ∧
      (⟨224, 566, 5497559238391627776, 3235346180366, 448726788, 5, 1, 647069236073, [1, 0, 0, 65535, 5, 0, 0, 0], 1235806478, 69, true, false⟩
      : Aggregator).count < 0xFFFFFFFF) ∧
    (((st408.gbk.open_.find? fun x => x.src == (0#12).toNat) = some
      (⟨0, 482, 5497559238391627776, 6627637190782, 212396927, 0, 69, 1325527438156, [1, 0, 0, 65535, 1, 0, 0, 0], 502653054, 69, true, false⟩
      : Aggregator)) ∧ st408.elapsedSteered
      (⟨0, 482, 5497559238391627776, 6627637190782, 212396927, 0, 69, 1325527438156, [1, 0, 0, 65535, 1, 0, 0, 0], 502653054, 69, true, false⟩
      : Aggregator).t0
      ((⟨0, 482, 5497559238391627776, 6627637190782, 212396927, 0, 69, 1325527438156, [1, 0, 0, 65535, 1, 0, 0, 0], 502653054, 69, true, false⟩
      : Aggregator).interval * 1000000) = true ∧ RecordRoom st408 (st408.sevOf
      (⟨0, 482, 5497559238391627776, 6627637190782, 212396927, 0, 69, 1325527438156, [1, 0, 0, 65535, 1, 0, 0, 0], 502653054, 69, true, false⟩
      : Aggregator).src)) ∧
    (((st409.gbk.open_.find? fun x => x.src == (5#12).toNat) = some
      (⟨5, 474, 5497559238391627776, 9130848853474, 616284491, 0, 4294967294, 1826169770694, [1, 0, 0, 65535, 1, 0, 0, 0], 4043349474, 40, true, false⟩
      : Aggregator)) ∧ st409.elapsedSteered
      (⟨5, 474, 5497559238391627776, 9130848853474, 616284491, 0, 4294967294, 1826169770694, [1, 0, 0, 65535, 1, 0, 0, 0], 4043349474, 40, true, false⟩
      : Aggregator).t0
      ((⟨5, 474, 5497559238391627776, 9130848853474, 616284491, 0, 4294967294, 1826169770694, [1, 0, 0, 65535, 1, 0, 0, 0], 4043349474, 40, true, false⟩
      : Aggregator).interval * 1000000) = true ∧ ¬ RecordRoom st409 (st409.sevOf
      (⟨5, 474, 5497559238391627776, 9130848853474, 616284491, 0, 4294967294, 1826169770694, [1, 0, 0, 65535, 1, 0, 0, 0], 4043349474, 40, true, false⟩
      : Aggregator).src)) ∧
    (((st410.gbk.open_.find? fun x => x.src == (224#12).toNat) = some
      (⟨224, 651, 1099511627776000000, 6091769088251, 589696083, 10, 0, 1218353817650, [1, 0, 0, 65535, 8, 0, 0, 0], 1505462523, 0, false, false⟩
      : Aggregator)) ∧ st410.elapsedSteered
      (⟨224, 651, 1099511627776000000, 6091769088251, 589696083, 10, 0, 1218353817650, [1, 0, 0, 65535, 8, 0, 0, 0], 1505462523, 0, false, false⟩
      : Aggregator).t0
      ((⟨224, 651, 1099511627776000000, 6091769088251, 589696083, 10, 0, 1218353817650, [1, 0, 0, 65535, 8, 0, 0, 0], 1505462523, 0, false, false⟩
      : Aggregator).interval * 1000000) = false) ∧
    (st411.f GBK_STAT_SCAN_DONE = 1 ∧ st411.gbk.writeAt ≤ st411.tmk.steered ∧ st411.mode ≠ Mode.reset ∧
      st411.gbkCommandRuns = false ∧ st411.gbk.queue =
      (⟨50, 0, 18242, 631560062074634, 78728242, 2734026242747, 41010393641210, [1, 2, 70000, 0, 0, 0, 0, 65535], 4294967295, 4294967301, 12338, 2⟩
      : Record) :: ([] : List Record) ∧ (((65535 : Nat) = st411.f GBK_STAT_HEAD ∧ (slotValid (st411.logSlot (65535 :
      Nat)) = false ∨ slotSev (st411.logSlot (65535 : Nat)) ≤
      (⟨50, 0, 18242, 631560062074634, 78728242, 2734026242747, 41010393641210, [1, 2, 70000, 0, 0, 0, 0, 65535], 4294967295, 4294967301, 12338, 2⟩
      : Record).sev) ∨ (65535 : Nat) = (st411.f GBK_STAT_HEAD + 1) % 65536 ∧ slotValid (st411.logSlot (st411.f
      GBK_STAT_HEAD)) = true ∧
      (⟨50, 0, 18242, 631560062074634, 78728242, 2734026242747, 41010393641210, [1, 2, 70000, 0, 0, 0, 0, 65535], 4294967295, 4294967301, 12338, 2⟩
      : Record).sev < slotSev (st411.logSlot (st411.f GBK_STAT_HEAD)) ∧ (slotValid (st411.logSlot (65535 : Nat)) =
      false ∨ slotSev (st411.logSlot (65535 : Nat)) ≤
      (⟨50, 0, 18242, 631560062074634, 78728242, 2734026242747, 41010393641210, [1, 2, 70000, 0, 0, 0, 0, 65535], 4294967295, 4294967301, 12338, 2⟩
      : Record).sev)))) ∧
    (st1.f GBK_STAT_SCAN_DONE = 0) ∧
    (Reached st412 GBK_MB_CMD ∧ st412.mbBusyNow 39 = false ∧ (0 : Nat) = (st412.reg (GBK_MB_ARG 0)).toNat ∧
      (73014444032 : Nat) = st412.f64 (GBK_MB_ARG 1) ∧ (1 : Nat) = (st412.reg (GBK_MB_ARG 3)).toNat ∧ st412.mode ≠
      Mode.standby ∧ 0 < (1 : Nat) ∧ (0 : Nat) + (1 : Nat) ≤ 65536 ∧ (73014444032 : Nat) % 64 = 0 ∧ inCarve
      (73014444032 : Nat) (64 * (1 : Nat)) = true) ∧
    (Reached st413 GBK_MB_CMD ∧ st413.mbBusyNow 39 = false ∧ (65535 : Nat) = (st413.reg (GBK_MB_ARG 0)).toNat ∧ (0 :
      Nat) = st413.f64 (GBK_MB_ARG 1) ∧ (7 : Nat) = (st413.reg (GBK_MB_ARG 3)).toNat ∧ st413.mode ≠ Mode.standby ∧ 0
      < (7 : Nat) ∧ 65536 < (65535 : Nat) + (7 : Nat)) ∧
    (Reached st414 GBK_MB_CMD ∧ st414.mbBusyNow 39 = false ∧ (0 : Nat) = (st414.reg (GBK_MB_ARG 0)).toNat ∧ (0 :
      Nat) = st414.f64 (GBK_MB_ARG 1) ∧ (1 : Nat) = (st414.reg (GBK_MB_ARG 3)).toNat ∧ st414.mode ≠ Mode.standby ∧ 0
      < (1 : Nat) ∧ (0 : Nat) + (1 : Nat) ≤ 65536 ∧ ((0 : Nat) % 64 ≠ 0 ∨ inCarve (0 : Nat) (64 * (1 : Nat)) =
      false)) ∧
    (Reached st1 GBK_MB_CMD ∧ st1.mbBusyNow 39 = false ∧ (0 : Nat) = (st1.reg (GBK_MB_ARG 0)).toNat ∧ (0 : Nat) =
      st1.f64 (GBK_MB_ARG 1) ∧ (0 : Nat) = (st1.reg (GBK_MB_ARG 3)).toNat ∧ (0 : Nat) = 0) ∧
    (Reached st415 GBK_MB_CMD ∧ st415.mbBusyNow 39 = false ∧ (0 : Nat) = (st415.reg (GBK_MB_ARG 0)).toNat ∧ (0 :
      Nat) = st415.f64 (GBK_MB_ARG 1) ∧ (7 : Nat) = (st415.reg (GBK_MB_ARG 3)).toNat ∧ st415.mode = Mode.standby ∧ 0
      < (7 : Nat)) ∧
    (Reached st1 GBK_MB_CMD ∧ st1.mbBusyNow 39 = false) ∧
    (Reached st416 GBK_MB_CMD ∧ st416.mbBusyNow 39 = false ∧ st416.gbk.open_ =
      [(⟨224, 99, 1099511627776000000, 1596960285999, 320095333, 5, 4294967294, 319392057199, [1, 0, 0, 65535, 6, 0, 0, 0], 3527419183, 1, false, false⟩
      : Aggregator)] ∧ RecordRoom st416 (st416.sevOf
      (⟨224, 99, 1099511627776000000, 1596960285999, 320095333, 5, 4294967294, 319392057199, [1, 0, 0, 65535, 6, 0, 0, 0], 3527419183, 1, false, false⟩
      : Aggregator).src)) ∧
    (Reached st1 GBK_SEV_DATA ∧ (isFatal (st1.f GBK_SEV_ADDR_SRC) = true ∨ slice (7#32).toNat 0 2 = 3)) ∧
    (Reached st417 GBK_SEV_DATA ∧ isFatal (st417.f GBK_SEV_ADDR_SRC) = false ∧ isSource (st417.f GBK_SEV_ADDR_SRC) =
      true ∧ slice (0xd9766185#32).toNat 0 2 ≠ 3) := by
  unfold RecordRoom Reached
  and_intros <;> decide +kernel

def st418 : State :=
  { withRegs [(PWR_DOM 75, 3)] with
    pwr := { Power.reset with wake := [(75, [1, 2])] } }

def st419 : State :=
  { withRegs [(PWR_DOM 41, 67)] with
    pwr := { Power.reset with wake := [(41, [2])] } }

def st420 : State :=
  { withRegs [(PWR_DOM 1, 99)] with
    pwr := { Power.reset with wake := [(1, [4])] },
    tmk := { Tidemark.reset with steered := 1099511627776000000 } }

def st421 : State :=
  { withRegs [(PWR_DOM 33, 43)] with
    pwr := { Power.reset with wake := [(33, [2])] } }

def st422 : State :=
  withRegs [(PWR_DOM 89, 33)]

def st423 : State :=
  { withRegs [(PWR_DOM 90, 25)] with
    pwr := { Power.reset with exit := 1 } }

def st424 : State :=
  withRegs [(PWR_DOM 72, 41)]

def st425 : State :=
  withRegs [(PWR_DOM 0, 65)]

def st426 : State :=
  withRegs [(DEV_MODE, 3), (PWR_DOM 33, 81)]

def st427 : State :=
  withRegs [(PWR_DOM 72, 80)]

def st428 : State :=
  withRegs [(PWR_DOM 36, 80)]

theorem test_meets_PowerDomainsFollowVotesAndSteps :
    (Reached st1 (PWR_VOTE_SW (1 : Fin 3))) ∧
    (st418.f (PWR_DOM_STATE (75 : Fin 91)) = 3 ∧ st418.wakeSteps (75 : Fin 91) = (1 : Nat) :: ([2] : List Nat) ∧ (1
      : Nat) ≠ 4 ∧ ([2] : List Nat) ≠ []) ∧
    (st419.f (PWR_DOM_STATE (41 : Fin 91)) = 3 ∧ st419.wakeSteps (41 : Fin 91) = (2 : Nat) :: ([] : List Nat) ∧ ([]
      : List Nat) = []) ∧
    (st420.f (PWR_DOM_STATE (1 : Fin 91)) = 3 ∧ st420.wakeSteps (1 : Fin 91) = (4 : Nat) :: ([] : List Nat) ∧
      st420.elapsedSteered (Sparse.get 0 st420.pwr.since (1 : Fin 91)) (1000 * max 1 (st420.f PWR_TMO_STEP_US)) =
      true) ∧
    (st421.f (PWR_DOM_STATE (33 : Fin 91)) = 3 ∧ st421.wakeSteps (33 : Fin 91) = (2 : Nat) :: ([] : List Nat) ∧
      st421.elapsedSteered (Sparse.get 0 st421.pwr.since (33 : Fin 91)) (1000 * max 1 (st421.f PWR_TMO_STEP_US)) =
      false) ∧
    (st1.f (PWR_DOM_STATE (89 : Fin 91)) ≠ 3) ∧
    (st1.f (PWR_DOM_STATE (32 : Fin 91)) ≠ 3) ∧
    (st422.f (PWR_DOM_STATE (89 : Fin 91)) = 1 ∧ (2 : Nat) = st422.f (PWR_DOM_PD_STEP (89 : Fin 91)) ∧ (2 : Nat) < 5
      ∧ (2 : Nat) ≠ 3 ∧ st422.wantedBack (89 : Fin 91) = false ∧ (((89 : Fin 91).val < 32 → (2 : Nat) = 1 →
      RingDrained st422 (89 : Fin 91)))) ∧
    (st423.f (PWR_DOM_STATE (90 : Fin 91)) = 1 ∧ (1 : Nat) = st423.f (PWR_DOM_PD_STEP (90 : Fin 91)) ∧ (1 : Nat) = 1
      ∧ st423.wantedBack (90 : Fin 91) = true ∧ (((90 : Fin 91).val < 32 → RingDrained st423 (90 : Fin 91)))) ∧
    (st424.f (PWR_DOM_STATE (72 : Fin 91)) = 1 ∧ (2 : Nat) = st424.f (PWR_DOM_PD_STEP (72 : Fin 91)) ∧ (2 : Nat) = 2
      ∧ st424.wantedBack (72 : Fin 91) = true) ∧
    (st425.f (PWR_DOM_STATE (0 : Fin 91)) = 1 ∧ (4 : Nat) = st425.f (PWR_DOM_PD_STEP (0 : Fin 91)) ∧ (4 : Nat) = 4 ∧
      st425.wantedBack (0 : Fin 91) = true) ∧
    (st426.f (PWR_DOM_STATE (33 : Fin 91)) = 1 ∧ (5 : Nat) = st426.f (PWR_DOM_PD_STEP (33 : Fin 91)) ∧ (5 : Nat) = 5
      ∧ (33 : Fin 91).val < 89 ∧ st426.wanted (33 : Fin 91) = false) ∧
    (st1.f (PWR_DOM_STATE (0 : Fin 91)) ≠ 1) ∧
    (Reached st1 (PWR_DOM (89 : Fin 91)) ∧ (384#32).getLsbD 7 = true ∧ (st1.domainOn (89 : Fin 91) = false ∨ 89 ≤
      (89 : Fin 91).val ∨ ((89 : Fin 91).val ≤ 72 ∧ st1.framesMode = true))) ∧
    (Reached st427 (PWR_DOM (72 : Fin 91)) ∧ (384#32).getLsbD 7 = true ∧ (72 : Fin 91).val = 72 ∧ st427.domainOn 72
      = true ∧ st427.framesMode = false) ∧
    (Reached st428 (PWR_DOM (36 : Fin 91)) ∧ (0x747c83fa#32).getLsbD 7 = true ∧ 36 ≤ (36 : Fin 91).val ∧ (36 : Fin
      91).val < 40 ∧ st428.domainOn (36 : Fin 91) = true ∧ st428.framesMode = false) ∧
    ((stopBusy.f (PWR_DOM_STATE 0) = 1 ∧ stopBusy.f (PWR_DOM_PD_STEP 0) = 1 ∧ stopBusy.stopDrained (dieOf (34 * 0 +
      33)) (ringOf (34 * 0 + 33)) (posOf (34 * 0 + 33)) = false)) := by
  unfold RingDrained Reached
  and_intros <;> decide +kernel

def st429 : State :=
  withRegs [(DEV_MODE, 2), (PWR_DOM 90, 58)]

def st430 : State :=
  { State.reset with
    pwr := { Power.reset with entry := 5 } }

def st431 : State :=
  { State.reset with
    pwr := { Power.reset with entry := 1 } }

def st432 : State :=
  { State.reset with
    pwr := { Power.reset with entry := 2 } }

def st433 : State :=
  { withRegs [(PWR_DOM 90, 18)] with
    pwr := { Power.reset with entry := 7 } }

def st434 : State :=
  { State.reset with
    pwr := { Power.reset with exit := 2 } }

def st435 : State :=
  { State.reset with
    pwr := { Power.reset with exit := 1 } }

def st436 : State :=
  { withRegs [(DEV_MODE, 2)] with
    pwr := { Power.reset with exit := 4 } }

theorem test_meets_StandbyEntryAndExit :
    (st1.mode ≠ Mode.standby) ∧
    (st429.mode = Mode.standby ∧ st429.pwr.exit = 0 ∧ st429.pwr.entry = 0 ∧ st429.f PWR_CFG_WAKE_EDGE = 0 ∧ st429.f
      (PWR_DOM_STATE 90) = 2) ∧
    (st29.mode = Mode.standby ∧ st29.pwr.exit = 0 ∧ st29.pwr.entry = 0 ∧ st29.f PWR_CFG_WAKE_EDGE = 0 ∧
      st29.pwr.wakeEdge = false) ∧
    (st1.pwr.entry = 0) ∧
    (st430.pwr.entry ≠ 0 ∧ st430.entryDone = false) ∧
    (1 ≤ st431.pwr.entry ∧ st431.pwr.entry < 7 ∧ st431.entryDone = true) ∧
    (st432.pwr.entry = 2) ∧
    (st431.pwr.entry = 1) ∧
    (st433.pwr.entry = 7 ∧ st433.f (PWR_DOM_STATE 90) = 2 ∧ st433.pwr.exit = 0 ∧ st433.pwr.wakeN = false ∧
      st433.pwr.wakeEdge = false) ∧
    (st1.pwr.exit = 0) ∧
    (st434.pwr.exit ≠ 0 ∧ st434.exitDone = false) ∧
    (1 ≤ st435.pwr.exit ∧ st435.pwr.exit < 4 ∧ st435.exitDone = true) ∧
    (st436.pwr.exit = 4 ∧ st436.mode = Mode.standby ∧ (st436.cfg.fwEntry = none ∨ st436.f (OST_CORE_STAT_STATE 0) ≠
      0 ∨ st436.f (PWR_DOM_FAIL 73) = 1)) := by
  and_intros <;> decide +kernel

def st437 : State :=
  { State.reset with
    hub := 1000000 }

theorem test_meets_TemperaturesAlarmsAndSlowdown :
    ((0 : Nat) = sensorClass (32 : Fin 44) ∧ (-1 : Int) = Machine.signed 11 (0x7ff#11).toNat ∧ (380 : Int) = 4 *
      st1.f (PWR_THR_CLS_WARN (0 : Nat)) ∧ (12 : Int) = 4 * st1.f (PWR_THR_CLS_HYST (0 : Nat)) ∧ (460 : Int) = 4 *
      st1.f (PWR_THR_CLS_CRIT (0 : Nat)) ∧ (((32 : Fin 44).val < 40 ∨ st1.domainOn ((32 : Fin 44).val - 4) = true))) ∧
    (40 ≤ (43 : Fin 44).val ∧ st1.domainOn ((43 : Fin 44).val - 4) = false) ∧
    (st437.pwr.evalAt ≤ st437.hub) ∧
    (st1.hub < st1.pwr.evalAt) ∧
    (Reached st1 (PWR_THR_CLS (0 : Fin 3)) ∧ (0 : Nat) = slice (0#32).toNat 0 8 ∧ (0 : Nat) = slice (0#32).toNat 8 8
      ∧ (0 : Nat) = slice (0#32).toNat 16 8 ∧ (0 : Fin 3) ≠ 1 ∧ (0 : Nat) ≤ (0 : Nat) ∧ (0 : Nat) ≤ (0 : Nat)) ∧
    (Reached st1 (PWR_THR_CLS (1 : Fin 3)) ∧ (0 : Nat) = slice (0#32).toNat 0 8 ∧ (0 : Nat) = slice (0#32).toNat 8 8
      ∧ (0 : Nat) = slice (0#32).toNat 16 8 ∧ (1 : Fin 3) = 1 ∧ (0 : Nat) ≤ (0 : Nat)) ∧
    (Reached st1 (PWR_THR_CLS (0 : Fin 3)) ∧ (142 : Nat) = slice (0x7903698e#32).toNat 0 8 ∧ (105 : Nat) = slice
      (0x7903698e#32).toNat 8 8 ∧ (3 : Nat) = slice (0x7903698e#32).toNat 16 8 ∧ (((0 : Fin 3) ≠ 1 ∧ ((105 : Nat) <
      (142 : Nat) ∨ (3 : Nat) < (105 : Nat))) ∨ ((0 : Fin 3) = 1 ∧ (3 : Nat) < (142 : Nat)))) := by
  unfold Reached
  and_intros <;> decide +kernel

def st438 : State :=
  withRegs [(DEV_MODE, 7), (PWR_DOM 32, 0)]

def st439 : State :=
  withRegs [(DEV_MODE, 7), (PWR_DOM 35, 0)]

def st440 : State :=
  { withRegs [(PWR_DOM 32, 0)] with
    mlr := [(0, { Millrace.reset with lb := [(252, { Loopback.reset with left := 1, mode := 1 })] })] }

def st441 : State :=
  { withRegs [(MLR_STOP_LBSTAT (stopBase 3 7 0), 0x80000000)] with
    hub := 10000005000 }

def st442 : State :=
  withRegs [(DEV_MODE, 7), (DEV_BIST_ARG 0, 2)]

def st443 : State :=
  withRegs [(DEV_MODE, 7), (DEV_BIST_ARG 0, 48)]

def st444 : State :=
  { withRegs [(DEV_BIST_STATUS, 1)] with
    tmk := { Tidemark.reset with steered := 1099511627776000000000000 } }

theorem test_meets_LoopbackBuiltInTestAndTap :
    ((62980096 : Nat) = stopBase (3 : Fin 4) (0 : Fin 8) (0 : Fin 36) ∧ Reached st111 (MLR_STOP_LB (62980096 : Nat))
      ∧ st111.mode ≠ Mode.diagnose ∧ (slice (3#32).toNat 0 2 ≠ 0 ∨ (3#32).getLsbD 3 = true)) ∧
    ((50397248 : Nat) = stopBase (0 : Fin 4) (0 : Fin 8) (1 : Fin 36) ∧ Reached st126 (MLR_STOP_LB (50397248 : Nat))
      ∧ st126.mode ≠ Mode.diagnose ∧ (slice (9#32).toNat 0 2 ≠ 0 ∨ (9#32).getLsbD 3 = true)) ∧
    ((50425920 : Nat) = stopBase (0 : Fin 4) (7 : Fin 8) (1 : Fin 36) ∧ Reached st438 (MLR_STOP_LB (50425920 : Nat))
      ∧ st438.mode = Mode.diagnose ∧ (0xf55e7d53#32).getLsbD 3 = false) ∧
    ((63011008 : Nat) = stopBase (3 : Fin 4) (7 : Fin 8) (35 : Fin 36) ∧ Reached st439 (MLR_STOP_LB (63011008 :
      Nat)) ∧ st439.mode = Mode.diagnose ∧ (0x51d999a#32).getLsbD 3 = true) ∧
    ((50425856 : Nat) = stopBase (0 : Fin 4) (7 : Fin 8) (0 : Fin 36) ∧
      ({ Loopback.reset with left := 1, mode := 1 } : Loopback) = st440.loopback (0 : Fin 4) (stopIx (7 : Fin 8) (0
      : Fin 36)) ∧ ({ Loopback.reset with left := 1, mode := 1 } : Loopback).left ≠ 0 ∧ st440.domainOn (32 + (0 :
      Fin 4)) = true ∧ st440.testArrives (0 : Fin 4) (7 : Fin 8) (0 : Fin 36)
      ({ Loopback.reset with left := 1, mode := 1 } : Loopback) = some st440) ∧
    ((63011008 : Nat) = stopBase (3 : Fin 4) (7 : Fin 8) (35 : Fin 36) ∧ (Loopback.reset : Loopback) = st1.loopback
      (3 : Fin 4) (stopIx (7 : Fin 8) (35 : Fin 36)) ∧ ((Loopback.reset : Loopback).left = 0 ∨ (Loopback.reset :
      Loopback).mode = 0)) ∧
    ((63008768 : Nat) = stopBase (3 : Fin 4) (7 : Fin 8) (0 : Fin 36) ∧ (Loopback.reset : Loopback) = st441.loopback
      (3 : Fin 4) (stopIx (7 : Fin 8) (0 : Fin 36)) ∧ st441.f (MLR_STOP_LBSTAT_BUSY (63008768 : Nat)) = 1 ∧
      (Loopback.reset : Loopback).sentAt ≤ st441.hub ∧ st441.elapsedRing (Loopback.reset : Loopback).sentAt 4096 =
      true ∧ ((Loopback.reset : Loopback).mode ≠ 2 ∨ (Loopback.reset : Loopback).toSend = 0)) ∧
    ((63011008 : Nat) = stopBase (3 : Fin 4) (7 : Fin 8) (35 : Fin 36) ∧ (Loopback.reset : Loopback) = st1.loopback
      (3 : Fin 4) (stopIx (7 : Fin 8) (35 : Fin 36)) ∧ st1.elapsedRing (Loopback.reset : Loopback).sentAt 4096 =
      false) ∧
    (Reached st203 (BitVec.ofNat 28 MGE_LB).toNat ∧ ((BitVec.ofNat 28 MGE_LB).toNat = MGE_LB ∨ (BitVec.ofNat 28
      MGE_LB).toNat = FAB_IO_LB ∨ (BitVec.ofNat 28 MGE_LB).toNat = TMK_LB) ∧ st203.mode = Mode.diagnose ∧
      (((BitVec.ofNat 28 MGE_LB).toNat = MGE_LB → (17 : Path).val ≠ 16))) ∧
    (Reached st1 (BitVec.ofNat 28 MGE_LB).toNat ∧ ((BitVec.ofNat 28 MGE_LB).toNat = MGE_LB ∨ (BitVec.ofNat 28
      MGE_LB).toNat = FAB_IO_LB ∨ (BitVec.ofNat 28 MGE_LB).toNat = TMK_LB) ∧ st1.mode ≠ Mode.diagnose ∧ slice
      (9#32).toNat 0 2 ≠ 0) ∧
    (Reached st1 (BitVec.ofNat 28 MGE_LB).toNat ∧ ((BitVec.ofNat 28 MGE_LB).toNat = MGE_LB ∨ (BitVec.ofNat 28
      MGE_LB).toNat = FAB_IO_LB ∨ (BitVec.ofNat 28 MGE_LB).toNat = TMK_LB) ∧ (BitVec.ofNat 28 MGE_LB).toNat = MGE_LB
      ∧ (16 : Path).val = 16) ∧
    (Reached st1 DEV_BIST_CMD ∧ st1.mbBusyNow 41 = false ∧ (st1.mode ≠ Mode.diagnose ∨ st1.mbBusyNow 0 = true)) ∧
    (BistFree st203 ∧ (3 : Nat) = (st203.testables.filter ((([0, 40, 1087] : List (Fin 1088)).map (·.val)).contains
      ·)).length) ∧
    (BistFree st203 ∧ (1 : Nat) = (st203.testables.filter ((([1, 1] : List (Fin 1088)).map (·.val)).contains
      ·)).length ∧ 0 = (st203.reg (DEV_BIST_ARG 0)).toNat) ∧
    (BistFree st442 ∧ (1 : Nat) < 4 ∧ st442.reg (DEV_BIST_ARG 0) = BitVec.ofNat 32 (2 ^ (1 : Nat))) ∧
    (BistFree st203 ∧ (0 : Nat) < 4 ∧ slice (st203.reg (DEV_BIST_ARG 0)).toNat 4 2 ≤ 1) ∧
    (BistFree st443 ∧ (0 : Nat) < 4 ∧ 1 < slice (st443.reg (DEV_BIST_ARG 0)).toNat 4 2) ∧
    (st444.mbRuns 41 = true ∧ st444.elapsedSteered st444.tst.bistAt 10000000000 = true) ∧
    ((st1.mbRuns 41 = false ∨ st1.elapsedSteered st1.tst.bistAt 10000000000 = false)) := by
  unfold BistFree Reached
  and_intros <;> decide +kernel

def st445 : State :=
  { withRegs [(PWR_DOM 36, 0), (HBC_MB_ARG2 0, 28)] with
    hbc := [(0, { HbmCtl.reset with mem := [(0, 9223376331822073091)] })] }

def st446 : State :=
  { withRegs [(PWR_DOM 37, 0), (HBC_MB_ARG2 1, 28)] with
    hbc := [(1, { HbmCtl.reset with mem := [(0, 9223376331822072099)] })] }

def st447 : State :=
  { withRegs [(PWR_DOM 37, 0), (HBC_MB_ARG2 1, 28)] with
    hbc := [(1, { HbmCtl.reset with mem := [(0, 9223376331822072100)] })] }

def st448 : State :=
  { withRegs [(PWR_DOM 37, 0), (HBC_MB_ARG1 1, 5), (HBC_MB_ARG2 1, 29)] with
    hbc := [(1, { HbmCtl.reset with mem := [(0, 9223376331822072836)] })] }

def st449 : State :=
  { withRegs [(PWR_DOM 39, 0), (HBC_MB_ARG2 3, 28)] with
    hbc := [(3, { HbmCtl.reset with mem := [(0, 9223376331822071873)] })] }

def st450 : State :=
  { withRegs [(PWR_DOM 39, 0), (HBC_MB_ARG2 3, 28)] with
    hbc := [(3, { HbmCtl.reset with mem := [(0, 9223376331822073953)] })] }

def st451 : State :=
  { withRegs [(PWR_DOM 39, 0), (HBC_MB_ARG2 3, 28)] with
    hbc := [(3, { HbmCtl.reset with mem := [(0, 9223376331822072641)] })] }

def st452 : State :=
  { withRegs [(PWR_DOM 36, 0), (HBC_MB_ARG2 0, 28)] with
    hbc := [(0, { HbmCtl.reset with mem := [(0, 9223376331822071809)] })] }

def st453 : State :=
  { withRegs [(PWR_DOM 39, 0), (HBC_MB_ARG1 3, 140), (HBC_MB_ARG2 3, 28)] with
    hbc := [(3, { HbmCtl.reset with mem := [(0, 9223376331822072417)] })] }

def st454 : State :=
  withRegs [(DEV_MODE, 5), (PWR_DOM 36, 0)]

theorem test_meets_HbcCommandsTransferWords :
    (Reached st445 (HBC_MB_CMD (0 : Fin 4)) ∧ st445.mbBusyNow (1 + (0 : Fin 4)) = false ∧ (0 : Nat) = st445.f
      (HBC_MB_ARG0_MID (0 : Fin 4)) ∧ (0 : Nat) = (st445.reg (HBC_MB_ARG1 (0 : Fin 4))).toNat ∧ (28 : Nat) =
      (st445.reg (HBC_MB_ARG2 (0 : Fin 4))).toNat ∧ (0 : Nat) = (st445.reg (HBC_MB_ARG3 (0 : Fin 4))).toNat ∧
      memNpcLog2 (st445.memEntry (0 : Fin 4) (0 : Nat)) ≤ 5 ∧ memBasePc (st445.memEntry (0 : Fin 4) (0 : Nat)) + 2 ^
      memNpcLog2 (st445.memEntry (0 : Fin 4) (0 : Nat)) ≤ 32 ∧ ((∀ a, (0 : Nat) ≤ a → a < (0 : Nat) + (28 : Nat) →
      memTagOk st445 (0 : Fin 4) (0 : Nat) a = true)) ∧ st445.hbcRefusal (0 : Fin 4) 1 = none) ∧
    (Reached st446 (HBC_MB_CMD (1 : Fin 4)) ∧ st446.mbBusyNow (1 + (1 : Fin 4)) = false ∧ (0 : Nat) = st446.f
      (HBC_MB_ARG0_MID (1 : Fin 4)) ∧ (0 : Nat) = (st446.reg (HBC_MB_ARG1 (1 : Fin 4))).toNat ∧ (28 : Nat) =
      (st446.reg (HBC_MB_ARG2 (1 : Fin 4))).toNat ∧ (0 : Nat) = (st446.reg (HBC_MB_ARG3 (1 : Fin 4))).toNat ∧
      memNpcLog2 (st446.memEntry (1 : Fin 4) (0 : Nat)) ≤ 5 ∧ memBasePc (st446.memEntry (1 : Fin 4) (0 : Nat)) + 2 ^
      memNpcLog2 (st446.memEntry (1 : Fin 4) (0 : Nat)) ≤ 32 ∧ ((∀ a, (0 : Nat) ≤ a → a < (0 : Nat) + (28 : Nat) →
      memTagOk st446 (1 : Fin 4) (0 : Nat) a = true)) ∧ st446.hbcRefusal (1 : Fin 4) 3 = none) ∧
    (Reached st447 (HBC_MB_CMD (1 : Fin 4)) ∧ st447.mbBusyNow (1 + (1 : Fin 4)) = false ∧ (0 : Nat) = st447.f
      (HBC_MB_ARG0_MID (1 : Fin 4)) ∧ (0 : Nat) = (st447.reg (HBC_MB_ARG1 (1 : Fin 4))).toNat ∧ (28 : Nat) =
      (st447.reg (HBC_MB_ARG2 (1 : Fin 4))).toNat ∧ (0 : Nat) = (st447.reg (HBC_MB_ARG3 (1 : Fin 4))).toNat ∧
      memNpcLog2 (st447.memEntry (1 : Fin 4) (0 : Nat)) ≤ 5 ∧ memBasePc (st447.memEntry (1 : Fin 4) (0 : Nat)) + 2 ^
      memNpcLog2 (st447.memEntry (1 : Fin 4) (0 : Nat)) ≤ 32 ∧ ((∀ a, (0 : Nat) ≤ a → a < (0 : Nat) + (28 : Nat) →
      memTagOk st447 (1 : Fin 4) (0 : Nat) a = true)) ∧ st447.hbcRefusal (1 : Fin 4) 2 = none) ∧
    (Reached st448 (HBC_MB_CMD (1 : Fin 4)) ∧ st448.mbBusyNow (1 + (1 : Fin 4)) = false ∧ (0 : Nat) = st448.f
      (HBC_MB_ARG0_MID (1 : Fin 4)) ∧ (5 : Nat) = (st448.reg (HBC_MB_ARG1 (1 : Fin 4))).toNat ∧ (29 : Nat) =
      (st448.reg (HBC_MB_ARG2 (1 : Fin 4))).toNat ∧ (0 : Nat) = (st448.reg (HBC_MB_ARG3 (1 : Fin 4))).toNat ∧
      memNpcLog2 (st448.memEntry (1 : Fin 4) (0 : Nat)) ≤ 5 ∧ memBasePc (st448.memEntry (1 : Fin 4) (0 : Nat)) + 2 ^
      memNpcLog2 (st448.memEntry (1 : Fin 4) (0 : Nat)) ≤ 32 ∧ st448.hbcRefusal (1 : Fin 4) 1 = none ∧ (5 : Nat) %
      28 ≠ 0) ∧
    (Reached st449 (HBC_MB_CMD (3 : Fin 4)) ∧ st449.mbBusyNow (1 + (3 : Fin 4)) = false ∧ 0 = st449.f
      (HBC_MB_ARG0_MID (3 : Fin 4)) ∧ (st449.reg (HBC_MB_ARG1 (3 : Fin 4))).toNat = 28 * 0 ∧ (st449.reg (HBC_MB_ARG2
      (3 : Fin 4))).toNat = 28 ∧ 0 = (st449.reg (HBC_MB_ARG3 (3 : Fin 4))).toNat ∧ (1, 0) = placeBlock
      (st449.memEntry (3 : Fin 4) 0) 0 ∧ st449.hbcRefusal (3 : Fin 4) 1 = none) ∧
    (Reached st450 (HBC_MB_CMD (3 : Fin 4)) ∧ st450.mbBusyNow (1 + (3 : Fin 4)) = false ∧ 0 = st450.f
      (HBC_MB_ARG0_MID (3 : Fin 4)) ∧ (st450.reg (HBC_MB_ARG1 (3 : Fin 4))).toNat = 28 * 0 ∧ (st450.reg (HBC_MB_ARG2
      (3 : Fin 4))).toNat = 28 ∧ 0 = (st450.reg (HBC_MB_ARG3 (3 : Fin 4))).toNat ∧ (1, 8) = placeBlock
      (st450.memEntry (3 : Fin 4) 0) 0 ∧ st450.hbcRefusal (3 : Fin 4) 3 = none) ∧
    (Reached st451 (HBC_MB_CMD (3 : Fin 4)) ∧ st451.mbBusyNow (1 + (3 : Fin 4)) = false ∧ 0 = st451.f
      (HBC_MB_ARG0_MID (3 : Fin 4)) ∧ (st451.reg (HBC_MB_ARG1 (3 : Fin 4))).toNat = 28 * 0 ∧ (st451.reg (HBC_MB_ARG2
      (3 : Fin 4))).toNat = 28 ∧ 0 = (st451.reg (HBC_MB_ARG3 (3 : Fin 4))).toNat ∧ (1, 3) = placeBlock
      (st451.memEntry (3 : Fin 4) 0) 0 ∧ st451.hbcRefusal (3 : Fin 4) 2 = none ∧ tagOk (st451.readBlock (3 : Fin 4)
      (1, 3).1 (1, 3).2) 0 0 = true) ∧
    (Reached st452 (HBC_MB_CMD (0 : Fin 4)) ∧ st452.mbBusyNow (1 + (0 : Fin 4)) = false ∧ 0 = st452.f
      (HBC_MB_ARG0_MID (0 : Fin 4)) ∧ (st452.reg (HBC_MB_ARG1 (0 : Fin 4))).toNat = 28 * 0 ∧ (st452.reg (HBC_MB_ARG2
      (0 : Fin 4))).toNat = 28 ∧ 0 = (st452.reg (HBC_MB_ARG3 (0 : Fin 4))).toNat ∧ (1, 0) = placeBlock
      (st452.memEntry (0 : Fin 4) 0) 0 ∧ st452.hbcRefusal (0 : Fin 4) 2 = none ∧ tagOk (st452.readBlock (0 : Fin 4)
      (1, 0).1 (1, 0).2) 0 0 = true ∧ 0 < 28) ∧
    (Reached st453 (HBC_MB_CMD (3 : Fin 4)) ∧ st453.mbBusyNow (1 + (3 : Fin 4)) = false ∧ 0 = st453.f
      (HBC_MB_ARG0_MID (3 : Fin 4)) ∧ (st453.reg (HBC_MB_ARG1 (3 : Fin 4))).toNat = 28 * 5 ∧ (st453.reg (HBC_MB_ARG2
      (3 : Fin 4))).toNat = 28 ∧ 0 = (st453.reg (HBC_MB_ARG3 (3 : Fin 4))).toNat ∧ (6, 2) = placeBlock
      (st453.memEntry (3 : Fin 4) 0) 5 ∧ st453.hbcRefusal (3 : Fin 4) 2 = none ∧ tagOk (st453.readBlock (3 : Fin 4)
      (6, 2).1 (6, 2).2) 5 0 = false) ∧
    (Reached st159 (HBC_MB_CMD (3 : Fin 4)) ∧ st159.mbBusyNow (1 + (3 : Fin 4)) = false ∧ st159.hbcRefusal (3 : Fin
      4) 1 = some 0) ∧
    (Reached st159 (HBC_MB_CMD (3 : Fin 4)) ∧ st159.mbBusyNow (1 + (3 : Fin 4)) = false ∧ st159.hbcRefusal (3 : Fin
      4) 2 = some 0) ∧
    (Reached st159 (HBC_MB_CMD (3 : Fin 4)) ∧ st159.mbBusyNow (1 + (3 : Fin 4)) = false ∧ st159.hbcRefusal (3 : Fin
      4) 3 = some 0) ∧
    (Reached st454 (HBC_MB_CMD (0 : Fin 4)) ∧ st454.mbBusyNow (1 + (0 : Fin 4)) = false ∧ (st454.mode = Mode.run ∨
      st454.mode = Mode.timed)) := by
  unfold Reached
  and_intros <;> decide +kernel

/-! ### Hypotheses about every task, every slot of the log, a full queue, or SHA-384 -/

/-- A task of priority 7 waits, and core 0 runs and takes tasks. -/
def placedOnIdle : State :=
  { withRegs [(OST_CORE_CTRL 0, 24), (OST_CORE_STAT 0, 1)] with
    ost := { Ostler.reset with tasks := [(5, { Task.reset with mask := 1, pri := 7 })], ready := [(7, [5])] } }

def placedOnRunning : State :=
  { withRegs [(OST_CORE_CTRL 1, 24), (OST_CORE_STAT 1, 0x10002)] with
    ost := { Ostler.reset with tasks := [(4, { Task.reset with mask := 2, pri := 6 })], ready := [(6, [4])] } }

def placedOverSlot : State :=
  { withRegs [(OST_CORE_CTRL 1, 24), (OST_CORE_STAT 1, 14)] with
    ost := { Ostler.reset with tasks := [(3, { Task.reset with mask := 2, pri := 6 })], ready := [(6, [3])], slot := [(1, some 2)] } }

theorem topTask_of (s : State) (n : Nat) (l : List Nat)
    (h : s.domainOn 90 = true ∧ (s.task n).pri < 8 ∧ s.readyList (s.task n).pri = n :: l)
    (h2 : ∀ q, q < 8 → (s.task n).pri < q → s.readyList q = []) : TopTask s n l :=
  ⟨h.1, h.2.1, h.2.2, fun q a b => h2 q b a⟩

theorem fits_only (s : State) (k : Task) (c : Nat) (hm : k.mask = 2 ^ c) (c' : Nat) (h : c' ≠ c) : ¬ Fits s k c' := by
  intro hf
  have h1 := hf.1
  have h2 : (2 ^ c).testBit c' = true := by rw [Nat.testBit_eq_decide_div_mod_eq]; simpa [bitOf, hm] using h1
  rw [Nat.testBit_two_pow] at h2
  exact h (by simpa using h2 : c = c').symm

theorem test_meets_a_task_has_a_core :
    (TopTask placedOnIdle 5 [] ∧ Fits placedOnIdle (placedOnIdle.task 5) (0 : Fin 16) ∧ placedOnIdle.slot (0 : Fin 16) = none ∧
      placedOnIdle.running (0 : Fin 16) = none ∧
      ∀ c', c' < (0 : Fin 16).val → Fits placedOnIdle (placedOnIdle.task 5) c' →
        placedOnIdle.slot c' ≠ none ∨ placedOnIdle.running c' ≠ none) ∧
    (TopTask placedOnRunning 4 [] ∧ Fits placedOnRunning (placedOnRunning.task 4) (1 : Fin 16) ∧ placedOnRunning.slot (1 : Fin 16) = none ∧
      placedOnRunning.running (1 : Fin 16) = some 0 ∧ (∀ c', c' ≠ 1 → ¬ Fits placedOnRunning (placedOnRunning.task 4) c') ∧
      placedOnRunning.f (OST_CORE_CTRL_STYLE (1 : Fin 16)) = 0 ∧ (placedOnRunning.task 0).pri < (placedOnRunning.task 4).pri) ∧
    (TopTask placedOverSlot 3 [] ∧ Fits placedOverSlot (placedOverSlot.task 3) (1 : Fin 16) ∧ placedOverSlot.slot (1 : Fin 16) = some 2 ∧
      (∀ c', c' ≠ 1 → ¬ Fits placedOverSlot (placedOverSlot.task 3) c') ∧ (placedOverSlot.task 2).pri < (placedOverSlot.task 3).pri) ∧
    (∀ q n c, q < 8 → n ∈ State.reset.readyList q → c < 16 → ¬ Fits State.reset (State.reset.task n) c) := by
  refine ⟨⟨topTask_of _ _ _ ?_ ?_, ?_, ?_, ?_, fun c' h => absurd h (Nat.not_lt_zero c')⟩, ⟨topTask_of _ _ _ ?_ ?_, ?_, ?_, ?_, fits_only _ _ 1 ?_, ?_, ?_⟩,
    ⟨topTask_of _ _ _ ?_ ?_, ?_, ?_, fits_only _ _ 1 ?_, ?_⟩, fun q n c _ hn => absurd hn (List.not_mem_nil)⟩
  all_goals first | decide +kernel | (unfold Fits; decide +kernel)

/-- Bytes read where a memory lists none are zeros. -/
theorem readBytes_outside (m : List Host.Cell) (a n : Nat) (h : ∀ kv ∈ m, kv.1 < a ∨ a + n ≤ kv.1) :
    readBytes m a n = List.replicate n 0 := by
  have get0 : ∀ (m : List Host.Cell) b, (∀ kv ∈ m, kv.1 ≠ b) → Sparse.get (0 : Byte) m b = 0 := by
    intro m b
    induction m with
    | nil => intro _; rfl
    | cons x xs ih =>
      intro hb
      have h1 : (b == x.1) = false := by simpa using (hb x (by simp)).symm
      obtain ⟨k, v⟩ := x
      simp only [Sparse.get, h1]
      exact ih fun kv hk => hb kv (by simp [hk])
  induction n generalizing a with
  | zero => rfl
  | succ n ih =>
    show Sparse.get 0 m a :: readBytes m (a + 1) n = _
    rw [get0 m a fun kv hk => by have := h kv hk; omega, ih (a + 1) fun kv hk => by have := h kv hk; omega]
    rfl

theorem slotValid_zeros : slotValid (List.replicate 64 0) = false := by decide +kernel

/-- A log with no record. -/
theorem test_meets_scan_of_an_empty_log :
    State.reset.mode ≠ Mode.reset ∧ State.reset.f GBK_STAT_SCAN_DONE = 0 ∧
      ∀ k, k < 65536 → slotValid (State.reset.logSlot k) = false := by
  refine ⟨by decide +kernel, by decide +kernel, fun k _ => ?_⟩
  have : State.reset.logSlot k = List.replicate 64 0 := readBytes_outside _ _ _ (by intro kv hk; cases hk)
  rw [this]; exact slotValid_zeros

/-- A record of SEQ 7 in slot 65,535, the last. -/
def oneRecord : State :=
  { State.reset with mram := writeBytes [] (slotAddr 65535) (recordBytes ⟨5, 2, 0, 1, 2, 3, 4, [1], 0, 0, 5, 0⟩ 7) }

/-- A log with one record, in its last slot. -/
theorem test_meets_scan_of_one_record :
    oneRecord.mode ≠ Mode.reset ∧ oneRecord.f GBK_STAT_SCAN_DONE = 0 ∧ Memory.wf oneRecord.mram = true ∧
      ∀ j, j < 65536 → (slotValid (oneRecord.logSlot j) = true ↔ j = 65535) := by
  refine ⟨by decide +kernel, by decide +kernel, by decide +kernel, fun j _ => ?_⟩
  by_cases h : j = 65535
  · subst h; exact ⟨fun _ => rfl, fun _ => by decide +kernel⟩
  · have all : ∀ kv ∈ oneRecord.mram, slotAddr 65535 ≤ kv.1 := by decide +kernel
    have : oneRecord.logSlot j = List.replicate 64 0 := readBytes_outside _ _ _ (by
      intro kv hk
      have := all kv hk
      simp only [slotAddr] at this ⊢
      omega)
    rw [this, slotValid_zeros]
    simp [h]

/-- SHA-384 of 96 bytes of zero, whatever it is. -/
def zeroKeyHash : Nat := (Config.sha384 (List.replicate 96 0)).toNat

/-- A load in its header phase, whose image in slot 0 has a public key of zeros that slot 0 of the fuses knows. -/
def goodHeader : State :=
  { State.reset with
    mram := writeBytes [] 0x100000
      ([0x57, 0x50, 0x43, 0x46, 1, 0, 7, 0] ++ List.replicate 8 0 ++ bytesLE 4 272)
    cfg := { CfgUnit.reset with
      fuses := (List.range 12).map fun r => (8 + r, zeroKeyHash / 2 ^ (32 * r) % 2 ^ 32) } }

theorem slices_sum (h n : Nat) :
    (List.range n).foldl (fun x r => x + h / 2 ^ (32 * r) % 2 ^ 32 * 2 ^ (32 * r)) 0 = h % 2 ^ (32 * n) := by
  induction n with
  | zero => simp [Nat.mod_one]
  | succ n ih =>
    rw [List.range_succ, List.foldl_append, ih, Nat.mul_add, Nat.pow_add, Nat.mod_mul]
    simp [Nat.mul_comm]

theorem goodHeader_fuse (r : Nat) (h : r < 12) : goodHeader.fuse (8 + r) = zeroKeyHash / 2 ^ (32 * r) % 2 ^ 32 := by
  interval_cases r <;> rfl

theorem foldl_congr (f g : Nat → Nat → Nat) (l : List Nat) (a : Nat) (h : ∀ x, ∀ r ∈ l, f x r = g x r) :
    l.foldl f a = l.foldl g a := by
  induction l generalizing a with
  | nil => rfl
  | cons r l ih =>
    rw [List.foldl_cons, List.foldl_cons, h a r (by simp)]
    exact ih _ fun x r hr => h x r (by simp [hr])

theorem goodHeader_key : goodHeader.keyHash 0 = zeroKeyHash := by
  have h : zeroKeyHash % 2 ^ (32 * 12) = zeroKeyHash := Nat.mod_eq_of_lt (Config.sha384 (List.replicate 96 0)).isLt
  rw [← h, ← slices_sum]
  exact foldl_congr _ _ _ _ fun x r hr => by rw [Nat.mul_zero, Nat.add_zero, goodHeader_fuse r (List.mem_range.mp hr)]

theorem test_meets_header_without_error : goodHeader.f CFG_STATUS_PHASE = 1 ∧ goodHeader.headerErr = none := by
  have hk : goodHeader.badKey = false := by
    have h1 : goodHeader.bootBytes 48 96 = List.replicate 96 0 := by decide +kernel
    have h2 : goodHeader.bootNat 29 1 = 0 := by decide +kernel
    have h3 : bitOf (goodHeader.fuse 56) 0 = false := by decide +kernel
    have h4 : Nat.blt (goodHeader.bootNat 24 4) (popcount 32 (goodHeader.fuse 57)) = false := by decide +kernel
    have h5 : goodHeader.badKeySel = false := by decide +kernel
    unfold State.badKey
    simp only [h1, h2, h3, h4, h5, goodHeader_key, zeroKeyHash]
    simp; decide
  refine ⟨by decide +kernel, ?_⟩
  have h1 : goodHeader.badHeader = false := by decide +kernel
  have h2 : goodHeader.cfg.job = 1 ∧ goodHeader.imageLen = 272 ∧ goodHeader.bootNat 6 2 = 7 ∧
      goodHeader.bootNat 8 8 = 0 := by decide +kernel
  unfold State.headerErr
  simp [h1, hk, h2, slotSize]

/-- Die 0 has a flit for die 3, whose queue is full. -/
def crossingFull : State :=
  { withRegs [(PWR_DOM 32, 0), (PWR_DOM 35, 0)] with
    mlr := [(0, { Millrace.reset with cross := [(17, [⟨17, 2394736455337692⟩])] }),
      (3, { Millrace.reset with exits := [(592, List.replicate (Config.crossDepth + 1) 2251801862888654)] })] }

theorem test_meets_full_crossing :
    crossingFull.domainOn (32 + 0) = true ∧
      bestCross (Sparse.get [] (crossingFull.die 0).cross 17) = some ⟨17, 2394736455337692⟩ ∧
      isScheduled 2394736455337692 = true ∧ crossingFull.crossRoom 0 17 2394736455337692 = false := by
  refine ⟨by decide +kernel, by decide +kernel, by decide +kernel, ?_⟩
  have hd : crossingFull.domainOn (farDomain 0 17) = true := by decide +kernel
  have he : crossingFull.exitsAt (farQueue 0 17).1 (farQueue 0 17).2 =
      List.replicate (Config.crossDepth + 1) 2251801862888654 := rfl
  unfold State.crossRoom
  simp only [hd, he, List.length_replicate]
  exact Bool.eq_false_iff.mpr (by simp [Nat.ble_eq])

/-- A cluster in BARRIER whose rows all read without error. -/
theorem test_meets_commit_with_good_rows :
    let s := withRegs [(CLU_STATUS 40, 4)]
    s.cluState 40 = Clu.barrier ∧ (s.cl 40).owed = [] ∧ (s.cl 40).wb = [] ∧ (s.cl 40).committed = false ∧
      (∀ kv ∈ (s.cl 40).marks, kv.2 = 1) ∧ ∀ h r, secDecode 7 64 ((s.cl 40).row h r) = .ok := by
  refine ⟨by decide +kernel, by decide +kernel, by decide +kernel, by decide +kernel, by decide +kernel, fun h r => ?_⟩
  have : ((withRegs [(CLU_STATUS 40, 4)]).cl 40).row h r = xRow := rfl
  rw [this]
  decide +kernel

end Sys2Proof.Tests
end

/-! Accesses that reach no register: what a read leaves on its path, and what an access to a block that is off records. -/

namespace Sys2Proof.Machine

open Reg

variable {s t : State}

/-! ### Fields -/

/-- A saturating count (R740). -/
theorem State.f_bump_same (s : State) (F : Fld) (k : Nat) (hw : F.lo + F.w ≤ 32) :
    (s.bump F k).f F = min (s.f F + k) (2 ^ F.w - 1) := by
  rw [State.bump, s.f_setF_same F _ hw, satAdd]
  exact Nat.mod_eq_of_lt (by have := Nat.two_pow_pos F.w; omega)

/-- A counter that is raised leaves the fields of other registers and those apart from it. -/
theorem State.f_bump_ne (s : State) {F G : Fld} (k : Nat) (hw : F.lo + F.w ≤ 32)
    (h : G.off ≠ F.off ∨ G.lo + G.w ≤ F.lo ∨ F.lo + F.w ≤ G.lo) : (s.bump F k).f G = s.f G :=
  s.f_setF_ne _ hw h

theorem frame_bump (s : State) (F : Fld) (k : Nat) : Frame [F.off] s (s.bump F k) := frame_setF s F _

/-- An occurrence that is counted leaves every field outside the notice registers. -/
theorem Noticed.f (h : Noticed s t) {F : Fld} (hF : F.off ∉ noticeRegs) : t.f F = s.f F := by
  rw [State.f, h.regs F.off hF, State.f]

/-! ### Paths -/

/-- A read changes its path alone. -/
theorem frame_setPath (s : State) (p : Path) (x : PathState) : Frame [] s (s.setPath p x) :=
  ⟨fun _ _ => rfl, sameMemory_of_eq rfl rfl rfl⟩

theorem frame_answer (s : State) (p : Path) (v : Word) : Frame [] s (s.answer p v) := frame_setPath s p _

/-- An offset tested as a half of a 64-bit value is that half (R14). -/
theorem halfOf_of_isHalf {h off : Nat} (hh : isHalf h off = true) : halfOf off = h := by
  unfold isHalf at hh
  unfold halfOf
  split at hh
  · next d i e => simpa [e] using hh
  · exact absurd hh (by decide)

/-- A read that no register answers changes its path alone. -/
theorem State.readAs_eq_setPath (s : State) (p : Path) (off : Nat) (v : Word) : ∃ x, s.readAs p off v = s.setPath p x := by
  unfold State.readAs
  split
  · exact ⟨_, rfl⟩
  · exact ⟨_, rfl⟩

theorem frame_readAs (s : State) (p : Path) (off : Nat) (v : Word) : Frame [] s (s.readAs p off v) := by
  obtain ⟨x, hx⟩ := s.readAs_eq_setPath p off v
  rw [hx]; exact frame_setPath s p x

@[simp] theorem State.readAs_reg (s : State) (p : Path) (off : Nat) (v : Word) (o : Nat) :
    (s.readAs p off v).reg o = s.reg o := (frame_readAs s p off v).1 o (List.not_mem_nil)

@[simp] theorem State.readAs_f (s : State) (p : Path) (off : Nat) (v : Word) (F : Fld) :
    (s.readAs p off v).f F = s.f F := by rw [State.f, State.readAs_reg, State.f]

@[simp] theorem State.readAs_answer (s : State) (p : Path) (off : Nat) (v : Word) :
    ((s.readAs p off v).path p).answer = v := by
  unfold State.readAs
  split
  · simp [State.path_setPath]
  · exact s.answer_answer p v

/-- Of a _LO half the latch takes the word for the _HI half (R15, R36). -/
theorem State.readAs_latch (s : State) {p : Path} {off : Nat} {v : Word} (h : isHalf 1 off = true) :
    ((s.readAs p off v).path p).latchTag = some off ∧ ((s.readAs p off v).path p).latchHi = v := by
  unfold State.readAs
  rw [if_pos (halfOf_of_isHalf h), State.path_setPath, if_pos rfl]
  exact ⟨rfl, rfl⟩

/-! ### The record of an access to a block that is off (R35, R789) -/

/-- PWR_OFFACC takes the first access. -/
def State.firstOff (s : State) (p : Path) (off : Nat) (write : Bool) : State :=
  if s.flag PWR_OFFACC_VALID then s
  else
    (((s.setF PWR_OFFACC_OFFSET (off / 4)).setF PWR_OFFACC_PATH p.val).setF PWR_OFFACC_VALID 1).setF
      PWR_OFFACC_CNT_WRITE (ofBool write)

theorem State.recordOff_eq (s : State) (p : Path) (off : Nat) (write : Bool) :
    s.recordOff p off write = ((s.firstOff p off write).bump PWR_OFFACC_CNT_COUNT 1).count (srcOf 1 3 0) 0 0 := rfl

theorem State.firstOff_valid (h : s.f PWR_OFFACC_VALID = 1) (p : Path) (off : Nat) (write : Bool) :
    s.firstOff p off write = s := by
  unfold State.firstOff State.flag; simp [h]

theorem State.firstOff_count (s : State) (p : Path) (off : Nat) (write : Bool) :
    (s.firstOff p off write).f PWR_OFFACC_CNT_COUNT = s.f PWR_OFFACC_CNT_COUNT := by
  unfold State.firstOff
  split
  · rfl
  · simp (disch := decide) only [State.f_setF_ne]

/-- What the first access leaves in PWR_OFFACC and PWR_OFFACC_CNT.WRITE. -/
theorem State.firstOff_fields (h : s.f PWR_OFFACC_VALID = 0) (p : Path) (off : WinOff) (write : Bool) :
    let t := s.firstOff p off.toNat write
    t.f PWR_OFFACC_VALID = 1 ∧ t.f PWR_OFFACC_OFFSET = off.toNat / 4 ∧ t.f PWR_OFFACC_PATH = p.val ∧
      t.f PWR_OFFACC_CNT_WRITE = ofBool write := by
  have hoff : off.toNat / 4 < 2 ^ 26 := by have := off.isLt; omega
  have hpath : p.val < 2 ^ 5 := lt_trans p.isLt (by decide)
  unfold State.firstOff State.flag
  simp (disch := decide) only [h, bne_self_eq_false, Bool.false_eq_true, if_false, State.f_setF_ne, State.f_setF_same]
  exact ⟨rfl, Nat.mod_eq_of_lt hoff, Nat.mod_eq_of_lt hpath, Nat.mod_eq_of_lt (ofBool_lt write)⟩

theorem frame_firstOff (s : State) (p : Path) (off : Nat) (write : Bool) :
    Frame [PWR_OFFACC, PWR_OFFACC_CNT] s (s.firstOff p off write) := by
  have step (v : State) (F : Fld) (n : Nat) (h : [F.off] ⊆ [PWR_OFFACC, PWR_OFFACC_CNT]) :
      Frame [PWR_OFFACC, PWR_OFFACC_CNT] v (v.setF F n) := (frame_setF v F n).mono h
  unfold State.firstOff
  split
  · exact .rfl'
  · exact (((step _ _ _ (by decide)).trans (step _ _ _ (by decide))).trans (step _ _ _ (by decide))).trans
      (step _ _ _ (by decide))

/-- A field outside the notice registers and apart from COUNT after an access has been recorded. -/
theorem State.recordOff_f (s : State) (p : Path) (off : Nat) (write : Bool) {F : Fld} (hF : F.off ∉ noticeRegs)
    (hc : F.off ≠ PWR_OFFACC_CNT ∨ 16 ≤ F.lo) : (s.recordOff p off write).f F = (s.firstOff p off write).f F := by
  rw [State.recordOff_eq, (noticed_count _ _ _).f hF]
  exact State.f_bump_ne _ _ (by decide) (hc.imp_right .inr)

theorem State.recordOff_count (s : State) (p : Path) (off : Nat) (write : Bool) :
    (s.recordOff p off write).f PWR_OFFACC_CNT_COUNT = min (s.f PWR_OFFACC_CNT_COUNT + 1) 65535 := by
  rw [State.recordOff_eq, (noticed_count _ _ _).f (by decide), State.f_bump_same _ _ _ (by decide), State.firstOff_count]
  rfl

theorem frame_recordOff (s : State) (p : Path) (off : Nat) (write : Bool) :
    Frame ([PWR_OFFACC, PWR_OFFACC_CNT] ++ noticeRegs) s (s.recordOff p off write) := by
  rw [State.recordOff_eq]
  exact (((frame_firstOff s p off write).mono (List.subset_append_left _ _)).trans ((frame_bump _ _ _).mono (by decide))).trans
    ((noticed_count _ _ _).frame.mono (List.subset_append_right _ _))

/-- What the first access to a block that is off leaves on record (R35). -/
theorem State.recordOff_first (h : s.f PWR_OFFACC_VALID = 0) (p : Path) (off : WinOff) (write : Bool) :
    let t := s.recordOff p off.toNat write
    t.f PWR_OFFACC_VALID = 1 ∧ t.f PWR_OFFACC_OFFSET = off.toNat / 4 ∧ t.f PWR_OFFACC_PATH = p.val ∧
      t.f PWR_OFFACC_CNT_WRITE = ofBool write := by
  obtain ⟨hv, ho, hp, hw⟩ := State.firstOff_fields h p off write
  refine ⟨?_, ?_, ?_, ?_⟩
  · rw [State.recordOff_f _ _ _ _ (by decide) (by decide), hv]
  · rw [State.recordOff_f _ _ _ _ (by decide) (by decide), ho]
  · rw [State.recordOff_f _ _ _ _ (by decide) (by decide), hp]
  · rw [State.recordOff_f _ _ _ _ (by decide) (by decide), hw]

/-- A later access leaves PWR_OFFACC as it stands. -/
theorem State.recordOff_later (h : s.f PWR_OFFACC_VALID = 1) (p : Path) (off : Nat) (write : Bool) :
    (s.recordOff p off write).reg PWR_OFFACC = s.reg PWR_OFFACC := by
  rw [State.recordOff_eq, (noticed_count _ _ _).regs _ (by decide), State.reg_bump_ne _ _ (by decide),
    State.firstOff_valid h]

/-! ### Accesses that reach no register -/

theorem State.writeAt_off {off : Nat} (h : s.access off = .off) (p : Path) (v : Word) :
    s.writeAt p off v = s.recordOff p off true := by
  simp only [State.writeAt, State.onWrite, h]

theorem State.readAt_off {off : Nat} (h : s.access off = .off) (p : Path) :
    s.readAt p off = (s.recordOff p off false).readAs p off 0xDEAD0FF0 := by
  simp only [State.readAt, State.onRead, h]

theorem State.access_unmapped {off : Nat} (hb : blockDomain off = none) (hm : s.mode ≠ Mode.reset)
    (hr : s.rst.stage ≠ 1) : s.access off = .unmapped := by
  unfold State.access; rw [if_neg hm, if_neg hr, hb]

theorem State.accessAt_unmapped {off : Nat} (h : s.access off = .unmapped) (p : Path) (wr : Option Word) :
    s.accessAt p off wr = if wr = none then s.answer p 0 else s := by
  cases wr <;> simp [State.accessAt, State.writeAt, State.readAt, State.onWrite, State.onRead, h]

theorem State.accessAt_silent {off : Nat} (h : s.mode = Mode.reset) (p : Path) (wr : Option Word) :
    s.accessAt p off wr = s := by
  have ha : s.access off = .silent := by unfold State.access; rw [if_pos h]
  cases wr <;> simp only [State.accessAt, State.writeAt, State.readAt, State.onWrite, State.onRead, ha]

/-- Settles O5: the record and the answer of an access to a block that is off, and the two kinds of access that leave no
trace. -/
theorem accessesThatReachNoRegister : Obligations.AccessesThatReachNoRegister := by
  intro s p off wr
  refine ⟨fun hoff => ⟨_, rfl, ?_⟩, fun hb hm hr => ⟨_, rfl, ?_⟩, fun hm => ⟨⟨_, rfl, ?_⟩, ⟨_, rfl, ?_⟩⟩⟩
  · cases wr with
    | some v =>
      rw [State.accessAt, State.writeAt_off hoff]
      exact ⟨nofun, nofun, s.recordOff_count p _ true, fun h => State.recordOff_first h p off true,
        fun h => State.recordOff_later h p _ true, frame_recordOff s p _ true⟩
    | none =>
      have frame := (frame_recordOff s p off.toNat false).trans ((frame_readAs _ p off.toNat 0xDEAD0FF0).mono (List.nil_subset _))
      rw [State.accessAt, State.readAt_off hoff]
      simp only [State.readAs_f, State.readAs_reg]
      exact ⟨fun _ => State.readAs_answer _ _ _ _, fun _ hlo _ => State.readAs_latch _ hlo, s.recordOff_count p _ false,
        fun h => State.recordOff_first h p off false, fun h => State.recordOff_later h p _ false, frame⟩
  · rw [State.accessAt_unmapped (State.access_unmapped hb hm hr)]
    exact ⟨fun h => if_pos h, fun h => if_neg (by rintro rfl; cases h)⟩
  · exact State.accessAt_silent hm p wr
  · exact State.accessAt_silent hm p wr

end Sys2Proof.Machine

/-! Reads of the register window: reads that clear RC fields, plain reads, and reads of RESULT registers. -/

namespace Sys2Proof.Machine

open Reg

variable {s t : State}

/-! ### Reads of registers with RC fields (R8, R11, R13) -/

/-- The RC bits of the register at a window offset; none where no register is. -/
def rcOf (off : Nat) : Nat :=
  match regAt off with
  | none => 0
  | some (d, _) => d.rc

theorem rcOf_of_regAt {off i : Nat} {d : RegDef} (h : regAt off = some (d, i)) : rcOf off = d.rc := by
  unfold rcOf; rw [h]

theorem rcOf_of_none {off : Nat} (h : regAt off = none) : rcOf off = 0 := by
  unfold rcOf; rw [h]

/-- A register found in a list is one of the list. -/
theorem mem_of_findReg {l : List RegDef} {o i : Nat} {d : RegDef} (h : findReg l o = some (d, i)) : d ∈ l := by
  induction l with
  | nil => cases h
  | cons x xs ih =>
    unfold findReg at h
    split at h
    · cases h; exact List.mem_cons_self
    · exact List.mem_cons_of_mem _ (ih h)

/-- The register lists of the window. -/
def regLists : List (List RegDef) :=
  [devRegs, pwrRegs, pulseRegs, captureRegs, tmkRegs, gbkRegs, ostRegs, ostCoreRegs, wkeRegs, wkeCoreRegs, bltRegs, cfgRegs,
    fabRegs, mgeRegs, frdRegs, acqRegs, quadRegs, laneRegs, hbcRegs, mlrRegs, stopRegs, seqRegs, cluRegs, []]

theorem mem_regLists_of_hubBlock {b o o' : Nat} {l : List RegDef} (h : hubBlock b o = some (l, o')) : l ∈ regLists := by
  unfold hubBlock at h
  repeat' split at h
  all_goals cases h <;> simp [regLists]

theorem mem_regLists_of_blockOf {off o : Nat} {l : List RegDef} (h : blockOf off = some (l, o)) : l ∈ regLists := by
  unfold blockOf at h
  split at h
  · exact mem_regLists_of_hubBlock h
  · dsimp only at h
    repeat' split at h
    all_goals cases h <;> simp [regLists]

/-- No register with RC fields is half of a 64-bit value. -/
theorem half_of_rc : ∀ l ∈ regLists, ∀ d ∈ l, d.rc ≠ 0 → d.half = 0 := by decide +kernel

theorem halfOf_of_regAt {off i : Nat} {d : RegDef} (h : regAt off = some (d, i)) : halfOf off = d.half := by
  unfold halfOf; rw [h]

theorem mem_regLists_of_regAt {off i : Nat} {d : RegDef} (h : regAt off = some (d, i)) : ∃ l ∈ regLists, d ∈ l := by
  unfold regAt at h
  split at h
  · cases h
  · next l o hb => exact ⟨l, mem_regLists_of_blockOf hb, mem_of_findReg h⟩

theorem halfOf_of_rc {off : Nat} (h : rcOf off ≠ 0) : halfOf off = 0 := by
  match e : regAt off with
  | none => exact absurd (rcOf_of_none e) h
  | some (d, i) =>
    obtain ⟨l, hl, hd⟩ := mem_regLists_of_regAt e
    rw [halfOf_of_regAt e]
    exact half_of_rc l hl d hd (rcOf_of_regAt e ▸ h)

/-! ### Reads with a rule of their own -/

/-- The registers of the first 12 MiB, apart from arrays, whose reads have a rule of their own. -/
def ownReadRegs : List Nat :=
  [TMK_SEC, TMK_SEC + 4, TMK_NS, TMK_FRAC, TMK_TXTS_SEC, OST_TASK_D0, OST_TASK_D1, OST_TASK_D2, CFG_MRAM_DATA,
    FAB_TBL_DATA, MGE_STAT, ACQ_TAP_DATA]

/-- The offsets whose reads have a rule of their own: single registers, RESULT registers, the entries of a transmit
timestamp and of a captured time, the register by which a core takes a task, and the table ports of a cluster. -/
def OwnRead (off : Nat) : Prop :=
  off ∈ ownReadRegs ∨ (∃ u : Fin 42, off ∈ mbResults u) ∨ (TMK_TXTS_SEC < off ∧ off ≤ TMK_TXTS_ID) ∨
    (0x200A00 ≤ off ∧ off < 0x200B20 ∧ 8 ≤ off % 0x20) ∨ (0x401000 ≤ off ∧ off < 0x402000 ∧ off % 0x100 = 0x10) ∨
    ∃ c : Fin 1088, off = CLU_MRT_DATA c ∨ off = CLU_SRW_DATA c

theorem mem_of_resultUnit {off u : Nat} (h : resultUnit off = some u) : u < 42 ∧ off ∈ mbResults u := by
  unfold resultUnit at h
  have hc : (mbResults u).contains off = true := List.find?_some (p := fun u => (mbResults u).contains off) h
  exact ⟨List.mem_range.mp (List.mem_of_find?_eq_some h), List.contains_iff_mem.mp hc⟩

theorem resultUnit_of_not_ownRead {off : Nat} (h : ¬ OwnRead off) : resultUnit off = none := by
  match e : resultUnit off with
  | none => rfl
  | some u =>
    obtain ⟨hu, ho⟩ := mem_of_resultUnit e
    exact absurd (.inr (.inl ⟨⟨u, hu⟩, ho⟩)) h

/-- Any other read is plain. -/
theorem State.readHit_plain (s : State) (p : Path) {off : Nat} (h : ¬ OwnRead off) : s.readHit p off = s.readPlain p off := by
  have hres := resultUnit_of_not_ownRead h
  simp only [OwnRead, ownReadRegs, List.mem_cons, List.not_mem_nil, or_false, not_or, not_exists] at h
  obtain ⟨⟨h1, h2, h3, h4, h5, h6, h7, h8, h9, h10, h11, h12⟩, -, htx, hcap, htake, hport⟩ := h
  unfold State.readHit State.readHub State.readTmk
  simp only [hres, h1, h2, h3, h4, h5, h6, h7, h8, h9, h10, h11, h12, htx, hcap, htake, hport, if_false, ite_self]

/-- A register whose read has a rule of its own has no RC field. -/
theorem rcOf_of_ownRead {off : Nat} (h : OwnRead off) : rcOf off = 0 := by
  have single : ∀ o ∈ ownReadRegs, rcOf o = 0 := by decide +kernel
  have result : ∀ u : Fin 42, ∀ o ∈ mbResults u, rcOf o = 0 := by decide +kernel
  have stamp : ∀ k < TMK_TXTS_ID - TMK_TXTS_SEC + 1, rcOf (TMK_TXTS_SEC + k) = 0 := by decide +kernel
  have capture : ∀ k < 0x120, 8 ≤ k % 0x20 → rcOf (0x200A00 + k) = 0 := by decide +kernel
  have take : ∀ c < 16, rcOf (0x401010 + 0x100 * c) = 0 := by decide +kernel
  have port : ∀ c : Fin 1088, rcOf (CLU_MRT_DATA c) = 0 ∧ rcOf (CLU_SRW_DATA c) = 0 := by decide +kernel
  rcases h with h | ⟨u, h⟩ | ⟨hlo, hhi⟩ | ⟨hlo, hhi, h⟩ | ⟨hlo, hhi, h⟩ | ⟨c, rfl | rfl⟩
  · exact single off h
  · exact result u off h
  · exact Nat.add_sub_cancel' hlo.le ▸ stamp (off - TMK_TXTS_SEC) (by omega)
  · exact Nat.add_sub_cancel' hlo ▸ capture (off - 0x200A00) (by omega) (by omega)
  · have := take ((off - 0x401010) / 0x100) (by omega)
    rwa [show 0x401010 + 0x100 * ((off - 0x401010) / 0x100) = off by omega] at this
  · exact (port c).1
  · exact (port c).2

/-- A register of plainRegs is a 32-bit register without RC fields whose read has no rule of its own. -/
theorem read_of_plainRegs : ∀ o ∈ plainRegs, ¬ OwnRead o ∧ halfOf o = 0 ∧ rcOf o = 0 ∧ regAt o ≠ none := by
  unfold OwnRead
  decide +kernel

/-! ### What a plain read does -/

/-- A reading of the temperature forgets its maximum and changes no register. -/
theorem State.tempSeen_rest (s : State) (off : Nat) :
    (s.tempSeen off).regs = s.regs ∧ (s.tempSeen off).paths = s.paths ∧ SameMemory s (s.tempSeen off) := by
  unfold State.tempSeen
  split
  · exact ⟨rfl, rfl, sameMemory_of_eq rfl rfl rfl⟩
  · exact ⟨rfl, rfl, .rfl'⟩

theorem State.clearRc_paths (s : State) (off : Nat) : (s.clearRc off).paths = s.paths := by
  unfold State.clearRc
  split
  · rfl
  · split <;> rfl

theorem frame_clearRc (s : State) (off : Nat) : Frame [off] s (s.clearRc off) := by
  unfold State.clearRc
  split
  · exact .rfl'
  · split
    · exact .rfl'
    · exact frame_setReg _ _ _

/-- The RC bits of a register that is read are cleared, the others stay. -/
theorem State.clearRc_bit (s : State) (off : Nat) {b : Nat} (hb : b < 32) :
    ((s.clearRc off).reg off).getLsbD b = ((s.reg off).getLsbD b && !(rcOf off).testBit b) := by
  unfold State.clearRc
  split
  · next e => simp [rcOf_of_none e]
  · next d i e =>
    rw [rcOf_of_regAt e]
    split
    · next h0 => simp [h0]
    · rw [State.reg_setReg_same, BitVec.getLsbD_and, BitVec.getLsbD_not, BitVec.getLsbD_ofNat]
      simp [hb]

/-- Paths that are stored alike answer alike. -/
theorem State.path_of_paths_eq (h : t.paths = s.paths) (p : Path) : t.path p = s.path p := by
  rw [State.path, h, State.path]

theorem State.reg_of_regs_eq (h : t.regs = s.regs) (o : Nat) : t.reg o = s.reg o := by
  rw [State.reg, h, State.reg]

/-- A read of a 32-bit register with no rule of its own. -/
theorem State.readPlain_word (s : State) (p : Path) {off : Nat} (h : halfOf off = 0) :
    s.readPlain p off = ((s.answer p (s.live off)).clearRc off).tempSeen off := by
  unfold State.readPlain
  simp only [h]

theorem State.readPlain_answer (s : State) (p : Path) {off : Nat} (h : halfOf off = 0) :
    ((s.readPlain p off).path p).answer = s.live off := by
  rw [s.readPlain_word p h, State.path_of_paths_eq (State.tempSeen_rest _ _).2.1,
    State.path_of_paths_eq (State.clearRc_paths _ _), State.answer_answer]

theorem State.readPlain_reg (s : State) (p : Path) {off : Nat} (h : halfOf off = 0) (o : Nat) :
    (s.readPlain p off).reg o = (s.clearRc off).reg o := by
  rw [s.readPlain_word p h, State.reg_of_regs_eq (State.tempSeen_rest _ _).1]
  unfold State.clearRc
  split
  · rfl
  · split <;> rfl

theorem frame_readPlain (s : State) (p : Path) {off : Nat} (h : halfOf off = 0) : Frame [off] s (s.readPlain p off) := by
  rw [s.readPlain_word p h]
  obtain ⟨hr, -, hm⟩ := State.tempSeen_rest ((s.answer p (s.live off)).clearRc off) off
  have ht : Frame [off] ((s.answer p (s.live off)).clearRc off) _ := ⟨fun o _ => State.reg_of_regs_eq hr o, hm⟩
  exact (((frame_answer s p _).mono (List.nil_subset _)).trans (frame_clearRc _ off)).trans ht

/-! ### Reads of a given size (R8) -/

/-- The addressed bytes of a word are a number of that many bits. -/
theorem toNat_narrow (w : Word) (a size : Nat) (h : 8 * size ≤ 32) :
    (narrow w a size).toNat = w.toNat / 2 ^ (8 * a) % 2 ^ (8 * size) := by
  rw [narrow, BitVec.toNat_ofNat]
  exact Nat.mod_eq_of_lt (lt_of_lt_of_le (slice_lt _ _ _) (Nat.pow_le_pow_right (by decide) h))

/-- The sizes of an access (R8). -/
theorem sizeOk_cases {off size : Nat} (h : sizeOk off size = true) : (size = 4 ∧ off % 4 = 0) ∨ size = 1 ∨ size = 2 := by
  simp only [sizeOk, Bool.and_eq_true, Bool.or_eq_true, beq_iff_eq] at h
  obtain ⟨(rfl | rfl) | rfl, h0⟩ := h
  · exact .inr (.inl rfl)
  · exact .inr (.inr rfl)
  · exact .inl ⟨rfl, h0⟩

/-- A read of a given size is the read of the register's word, with the addressed bytes as its answer (R8). -/
theorem completes_readClearField (p : Path) (off : WinOff) {size : Nat} (hs : sizeOk off.toNat size = true)
    (hr : Reached s (off.toNat - off.toNat % 4)) :
    Completes (.readClearField p off size) s fun t =>
      (t.path p).answer.toNat = ((s.readAt p (off.toNat - off.toNat % 4)).path p).answer.toNat /
          2 ^ (8 * (off.toNat % 4)) % 2 ^ (8 * size) ∧
        Frame [] (s.readAt p (off.toNat - off.toNat % 4)) t := by
  have hns : s.access (off.toNat - off.toNat % 4) ≠ .silent := by rw [show s.access _ = .reached from hr]; decide
  have hx : exec (.readClearField p off size) s = execReadClearField p off size s := rfl
  unfold execReadClearField at hx
  dsimp only at hx
  rw [if_neg hns] at hx
  refine ⟨_, hx, ?_⟩
  rcases sizeOk_cases hs with ⟨rfl, h0⟩ | hsize
  · rw [if_pos rfl, h0]
    rw [Nat.mul_zero, Nat.pow_zero, Nat.div_one]
    exact ⟨(Nat.mod_eq_of_lt (BitVec.isLt _)).symm, .rfl'⟩
  · rw [if_neg (by omega), State.answer_answer, toNat_narrow _ _ _ (by omega)]
    exact ⟨rfl, frame_answer _ p _⟩

/-- A read of a register that is reached and assigned. -/
theorem State.readAt_reached {off : Nat} (h : Reached s off) (hr : regAt off ≠ none) (p : Path) :
    s.readAt p off = s.readHit p off := by
  unfold State.readAt
  rw [State.onRead_reached h]
  split
  · next e => exact absurd e hr
  · rfl

theorem State.readAt_unassigned {off : Nat} (h : Reached s off) (hr : regAt off = none) (p : Path) :
    s.readAt p off = s.answer p 0 := by
  unfold State.readAt
  rw [State.onRead_reached h, hr]

theorem readsClearRcFields : ReadsClearRcFields := by
  intro s p off size d i hs hr hd hrc
  have hrc' : rcOf (off.toNat - off.toNat % 4) ≠ 0 := rcOf_of_regAt hd ▸ hrc
  have hread : s.readAt p (off.toNat - off.toNat % 4) = s.readPlain p (off.toNat - off.toNat % 4) := by
    rw [State.readAt_reached hr (by rw [hd]; exact Option.some_ne_none _), s.readHit_plain p fun h => hrc' (rcOf_of_ownRead h)]
  have hhalf := halfOf_of_rc hrc'
  obtain ⟨t, ht, hans, hframe⟩ := completes_readClearField p off hs hr
  rw [hread] at hans hframe
  refine ⟨t, ht, by rw [hans, s.readPlain_answer p hhalf], fun b hb => ?_, ?_⟩
  · rw [hframe.1 _ List.not_mem_nil, s.readPlain_reg p hhalf, s.clearRc_bit _ hb, rcOf_of_regAt hd]
  · exact (frame_readPlain s p hhalf).trans (hframe.mono (List.nil_subset _))

theorem State.clearRc_of_zero (s : State) {off : Nat} (h : rcOf off = 0) : s.clearRc off = s := by
  unfold State.clearRc
  split
  · rfl
  · next e => exact if_pos (rcOf_of_regAt e ▸ h)

theorem readsOfOtherOffsets : ReadsOfOtherOffsets := by
  intro s p off size hs hr
  obtain ⟨t, ht, hans, hframe⟩ := completes_readClearField p off hs hr
  refine ⟨fun hnone => ⟨t, ht, ?_⟩, fun hplain => ⟨t, ht, ?_⟩⟩
  · rw [State.readAt_unassigned hr hnone] at hans hframe
    rw [State.answer_answer] at hans
    exact ⟨BitVec.eq_of_toNat_eq (by simpa using hans), (frame_answer s p 0).trans hframe⟩
  · obtain ⟨hown, hhalf, hrc, hreg⟩ := read_of_plainRegs _ hplain
    rw [State.readAt_reached hr hreg, s.readHit_plain p hown] at hans hframe
    refine ⟨by rw [hans, s.readPlain_answer p hhalf], Frame.trans ⟨fun o _ => ?_, (frame_readPlain s p hhalf).2⟩ hframe⟩
    rw [s.readPlain_reg p hhalf, s.clearRc_of_zero hrc]

/-! ### Reads of RESULT registers (R26, R27) -/

/-- A field of STATUS reads as before when one that lies apart is set. -/
theorem State.f_setF_status (s : State) (u n : Nat) {lo w lo' w' : Nat} (hw : lo + w ≤ 32)
    (h : lo' + w' ≤ lo ∨ lo + w ≤ lo') : (s.setF ⟨mbStatus u, lo, w⟩ n).f ⟨mbStatus u, lo', w'⟩ = s.f ⟨mbStatus u, lo', w'⟩ :=
  s.f_setF_apart n rfl hw h

/-- A field of STATUS reads what it was set to. -/
theorem State.f_setF_status_same (s : State) (u n : Nat) {lo w : Nat} (hw : lo + w ≤ 32) :
    (s.setF ⟨mbStatus u, lo, w⟩ n).f ⟨mbStatus u, lo, w⟩ = n % 2 ^ w :=
  s.f_setF_same ⟨mbStatus u, lo, w⟩ n hw

/-- A RESULT register belongs to one unit, and is assigned. -/
theorem resultUnit_of_mem : ∀ u : Fin 42, ∀ o ∈ mbResults u, resultUnit o = some u.val ∧ regAt o ≠ none := by decide +kernel

/-- READ_EARLY is set and the word is zero while DONE is 0. -/
theorem resultReadsBeforeDone : ResultReadsBeforeDone := by
  intro s p off u hr ho
  obtain ⟨hu, hreg⟩ := resultUnit_of_mem u off.toNat ho
  have hread : s.readAt p off.toNat = s.resultRead p off.toNat u := by
    rw [State.readAt_reached hr hreg, State.readHit, hu]
  have hx : exec (.resultRead p off) s = .next (s.resultRead p off.toNat u) := congrArg Host.Outcome.next hread
  refine ⟨fun hdone => ⟨_, hx, ?_⟩, fun hdone => ⟨_, hx, ?_⟩⟩
  · exact if_pos ((s.flag_iff _).mpr (by rw [hdone]; decide))
  · have hfl : s.flag (mbDone u) = false := by unfold State.flag; rw [hdone]; rfl
    rw [State.resultRead, hfl, if_neg Bool.false_ne_true]
    simp only [State.answer_f, State.answer_answer]
    have done := s.f_setF_status u 1 (lo := 10) (w := 1) (lo' := 1) (w' := 1) (by decide) (by decide)
    exact ⟨trivial, s.f_setF_status_same u 1 (by decide), done.trans hdone, s.f_setF_status u 1 (by decide) (by decide),
      s.f_setF_status u 1 (by decide) (by decide), s.f_setF_status u 1 (by decide) (by decide),
      s.f_setF_status u 1 (by decide) (by decide),
      (frame_setF s (mbReadEarly u) 1).trans ((frame_answer _ p 0).mono (List.nil_subset _))⟩

/-- Settles O4: reads of RC fields, reads of the other offsets, and reads of RESULT registers. -/
theorem readsClearFieldsAndWaitForResults : Obligations.ReadsClearFieldsAndWaitForResults :=
  ⟨readsClearRcFields, readsOfOtherOffsets, resultReadsBeforeDone⟩

end Sys2Proof.Machine

/-! The mailbox convention (R20 to R28): a command that is accepted, a command that is rejected, and what the work of a
command leaves of its unit's STATUS and RESULT registers. -/

namespace Sys2Proof.Machine

open Reg

variable {s t v : State}

/-! ### The registers of a mailbox unit -/

/-- A unit is accepted: BUSY is set, DONE and ERR are cleared, TICKET counts the command and every RESULT is zero. -/
def Accepted (u : Nat) (s t : State) : Prop :=
  t.f (mbBusy u) = 1 ∧ t.f (mbDone u) = 0 ∧ t.f (mbErr u) = 0 ∧ t.f (mbTicket u) = (s.f (mbTicket u) + 1) % 16 ∧
    ∀ o ∈ mbResults u, t.reg o = 0

/-- The low ten bits of a unit's STATUS, which hold BUSY, DONE, ERR and TICKET, and its RESULT registers are kept. -/
structure MbKept (u : Nat) (s t : State) : Prop where
  /-- The fields of STATUS that the convention names. -/
  status : ∀ {lo w : Nat}, lo + w ≤ 10 → t.f ⟨mbStatus u, lo, w⟩ = s.f ⟨mbStatus u, lo, w⟩
  /-- The RESULT registers. -/
  results : ∀ o ∈ mbResults u, t.reg o = s.reg o

namespace MbKept

variable {u : Nat}

theorem rfl' : MbKept u s s := ⟨fun _ => rfl, fun _ _ => rfl⟩

theorem trans (h : MbKept u s t) (k : MbKept u t v) : MbKept u s v :=
  ⟨fun hw => (k.status hw).trans (h.status hw), fun o ho => (k.results o ho).trans (h.results o ho)⟩

theorem of_regs_eq (h : t.regs = s.regs) : MbKept u s t :=
  ⟨fun _ => by rw [State.f, State.reg_of_regs_eq h, State.f], fun o _ => State.reg_of_regs_eq h o⟩

theorem of_regs (h : ∀ o ∈ mbStatus u :: mbResults u, t.reg o = s.reg o) : MbKept u s t :=
  ⟨fun _ => by rw [State.f, h _ List.mem_cons_self, State.f], fun o ho => h o (List.mem_cons_of_mem _ ho)⟩

theorem of_onlyRegs {l : List Nat} (h : OnlyRegs l s t) (hd : ∀ o ∈ mbStatus u :: mbResults u, o ∉ l) : MbKept u s t :=
  of_regs fun o ho => h o (hd o ho)

/-- What a command outcome changes is no register. -/
theorem mbFinish (h : MbKept u s t) (n err r0 r1 : Nat) : MbKept u s (t.mbFinish n err r0 r1) := h.trans (of_regs_eq rfl)

theorem accepted (h : Accepted u s t) (k : MbKept u t v) : Accepted u s v := by
  obtain ⟨hb, hd, he, ht, hr⟩ := h
  exact ⟨(k.status (lo := 0) (w := 1) (by decide)).trans hb, (k.status (lo := 1) (w := 1) (by decide)).trans hd,
    (k.status (lo := 2) (w := 4) (by decide)).trans he, (k.status (lo := 6) (w := 4) (by decide)).trans ht,
    fun o ho => (k.results o ho).trans (hr o ho)⟩

end MbKept

/-- STATUS is no RESULT register. -/
theorem mbStatus_not_mem_mbResults (u : Nat) : mbStatus u ∉ mbResults u := by
  unfold mbStatus mbResults
  repeat' split
  all_goals simp [BLT_STATUS, BLT_RESULT, HBC_MB_STATUS, HBC_MB_RESULT, ACQ_MB_STATUS, ACQ_MB_RESULT, SHR_MB_STATUS,
    SHR_MB_RESULT, FAB_MB_STATUS, FAB_MB_RESULT, GBK_MB_STATUS, GBK_MB_RESULT, CFG_STATUS, CFG_RESULT, DEV_BIST_STATUS,
    DEV_BIST_RESULT]

/-- A field of STATUS above TICKET is no part of the convention that a command keeps. -/
theorem MbKept.setF_status (u : Nat) {lo w : Nat} (n : Nat) (hlo : 10 ≤ lo) (hw : lo + w ≤ 32) :
    MbKept u s (s.setF ⟨mbStatus u, lo, w⟩ n) :=
  ⟨fun h => s.f_setF_status u n hw (.inl (h.trans hlo)),
    fun o ho => s.reg_setF_ne n (by rintro rfl; exact mbStatus_not_mem_mbResults u ho)⟩

/-! ### Acceptance and rejection (R22, R23) -/

/-- The state in which an accepted command begins to act. -/
def State.mbAccept (s : State) (u cmd : Nat) : State :=
  let s1 := (((s.setF (mbBusy u) 1).setF (mbDone u) 0).setF (mbErr u) 0).setF (mbTicket u) (s.f (mbTicket u) + 1)
  let s2 := (mbResults u).foldl (fun s o => s.setReg o 0) s1
  { s2 with mbs := Sparse.put Mailbox.reset s2.mbs u ⟨cmd, 0, 0, 0, false⟩ }

/-- A command for a unit that is not busy acts on the state in which it is accepted. -/
theorem State.mbCommand_idle {u cmd : Nat} {act : State → State} (h : s.f (mbBusy u) = 0) :
    s.mbCommand u cmd act = act (s.mbAccept u cmd) := by
  have hb : s.mbBusyNow u = false := by unfold State.mbBusyNow State.flag; rw [h]; rfl
  unfold State.mbCommand
  rw [hb]; rfl

/-- Registers cleared one after the other. -/
theorem State.reg_foldl_clear (os : List Nat) (s : State) (b : Nat) :
    (os.foldl (fun s o => s.setReg o 0) s).reg b = if b ∈ os then 0 else s.reg b := by
  induction os generalizing s with
  | nil => simp
  | cons o os ih =>
    rw [List.foldl_cons, ih, State.reg_setReg]
    by_cases h1 : b ∈ os <;> by_cases h2 : b = o <;> simp [h1, h2]

theorem accepted_mbAccept (s : State) (u cmd : Nat) : Accepted u s (s.mbAccept u cmd) := by
  have hs (lo w : Nat) : (s.mbAccept u cmd).f ⟨mbStatus u, lo, w⟩ =
      ((((s.setF (mbBusy u) 1).setF (mbDone u) 0).setF (mbErr u) 0).setF (mbTicket u) (s.f (mbTicket u) + 1)).f
        ⟨mbStatus u, lo, w⟩ := by
    have h := State.reg_foldl_clear (mbResults u)
      ((((s.setF (mbBusy u) 1).setF (mbDone u) 0).setF (mbErr u) 0).setF (mbTicket u) (s.f (mbTicket u) + 1)) (mbStatus u)
    rw [if_neg (mbStatus_not_mem_mbResults u)] at h
    exact congrArg (fun r : Word => slice r.toNat lo w) h
  refine ⟨(hs 0 1).trans ?_, (hs 1 1).trans ?_, (hs 2 4).trans ?_, (hs 6 4).trans ?_, fun o ho => ?_⟩
  · exact ((State.f_setF_status _ u _ (by decide) (by decide)).trans
      ((State.f_setF_status _ u _ (by decide) (by decide)).trans
        ((State.f_setF_status _ u _ (by decide) (by decide)).trans (State.f_setF_status_same _ u 1 (by decide)))))
  · exact ((State.f_setF_status _ u _ (by decide) (by decide)).trans
      ((State.f_setF_status _ u _ (by decide) (by decide)).trans (State.f_setF_status_same _ u 0 (by decide))))
  · exact ((State.f_setF_status _ u _ (by decide) (by decide)).trans (State.f_setF_status_same _ u 0 (by decide)))
  · exact State.f_setF_status_same _ u _ (by decide)
  · exact (State.reg_foldl_clear (mbResults u) _ o).trans (if_pos ho)

/-- A command for a unit, whose work keeps the unit's registers. -/
def RunsCommand (u : Nat) (s t : State) : Prop :=
  ∃ cmd act, (∀ v, MbKept u v (act v)) ∧ t = s.mbCommand u cmd act

theorem RunsCommand.accepted {u : Nat} (h : RunsCommand u s t) (hb : s.f (mbBusy u) = 0) : Accepted u s t := by
  obtain ⟨cmd, act, hk, rfl⟩ := h
  rw [State.mbCommand_idle hb]
  exact (hk _).accepted (accepted_mbAccept s u cmd)

theorem RunsCommand.rejected {u : Nat} (h : RunsCommand u s t) (hb : s.f (mbBusy u) = 1) :
    t = s.setF (mbCmdReject u) 1 := by
  obtain ⟨cmd, act, -, rfl⟩ := h
  exact State.mbCommand_busy hb

/-- A command code that its unit does not define. -/
theorem runsCommand_badCode (s : State) (u c : Nat) : RunsCommand u s (s.badCode u c) :=
  ⟨c, fun s => s.mbFinish u 2 0 0, fun _ => .of_regs_eq rfl, rfl⟩

/-- The outcome of a command that is reached in its unit's block. -/
def Runs (u : Nat) (s : State) (r : Result) : Prop := ∃ t, r = .next t ∧ RunsCommand u s t

/-- A command row that writes a CMD register that is reached runs a command of its unit. -/
theorem runs_of_onWrite {u off cmd : Nat} {p : Path} {act : State → State} (hr : Reached s off)
    (h : ∀ v, MbKept u v (act v)) : Runs u s (.next (s.onWrite p off fun s => s.mbCommand u cmd act)) :=
  ⟨_, rfl, cmd, act, h, State.onWrite_reached hr⟩

end Sys2Proof.Machine

/-! The work of the mailbox commands that act on one unit alone: the HBM copies, the acquisition copy, the quads, the
fabric snapshot and the Guestbook. -/

namespace Sys2Proof.Machine

open Reg

variable {s t v : State}

/-! ### Bytes of the carve-out -/

@[simp] theorem State.carveWrite_regs (bs : List Byte) (s : State) (a : Nat) : (s.carveWrite a bs).regs = s.regs := by
  induction bs generalizing s a with
  | nil => rfl
  | cons b bs ih => exact (ih _ _).trans rfl

@[simp] theorem State.exportSlots_regs (n : Nat) (s : State) (first addr : Nat) :
    (s.exportSlots first addr n).regs = s.regs := by
  induction n generalizing s first addr with
  | zero => rfl
  | succ n ih => exact (ih _ _ _).trans (State.carveWrite_regs _ _ _)

/-- A row of works that change no register. -/
theorem State.foldl_regs {α : Type} {f : State → α → State} (h : ∀ v x, (f v x).regs = v.regs) (xs : List α) (s : State) :
    (xs.foldl f s).regs = s.regs := by
  induction xs generalizing s with
  | nil => rfl
  | cons x xs ih => exact (ih _).trans (h s x)

/-! ### The HBM controllers: units 1 to 4 -/

theorem mb_of_hbc {d : Nat} (h : d < 4) :
    mbStatus (1 + d) = HBC_MB_STATUS d ∧ mbResults (1 + d) = [HBC_MB_RESULT d] := by
  unfold mbStatus mbResults
  rw [if_neg (by omega), if_pos (by omega), if_neg (by omega), if_pos (by omega), Nat.add_sub_cancel_left]
  exact ⟨rfl, rfl⟩

/-- The registers in which a controller notes an error lie apart from its mailbox. -/
theorem hbcMailbox_apart {d : Nat} (h : d < 4) :
    ∀ o ∈ mbStatus (1 + d) :: mbResults (1 + d), o ∉ [HBC_ERR d, HBC_ERR_INFO d] ++ noticeRegs := by
  rw [(mb_of_hbc h).1, (mb_of_hbc h).2]
  simp only [List.mem_append, List.mem_cons, List.not_mem_nil, or_false, noticeRegs, HBC_MB_STATUS,
    HBC_MB_RESULT, HBC_ERR, HBC_ERR_INFO, hbcBase, OST_EVT_PEND, GBK_ERR, GBK_DROP]
  omega

/-- An error of a controller changes its record and what a counted occurrence changes. -/
theorem onlyRegs_hbcErr (s : State) (d : Nat) (F : Nat → Fld) (h : (F d).off = HBC_ERR d) :
    OnlyRegs ([HBC_ERR d, HBC_ERR_INFO d] ++ noticeRegs) s (s.hbcErr d F) :=
  (frame_raise (F d) 13 0 d 0).1.mono (by rw [h]; simp)

theorem onlyRegs_hbcRecord (s : State) (d : Nat) (F : Nat → Fld) (code pc blk : Nat) (h : (F d).off = HBC_ERR d) :
    OnlyRegs ([HBC_ERR d, HBC_ERR_INFO d] ++ noticeRegs) s (s.hbcRecord d F code pc blk) := by
  have info (v : State) (G : Fld) (n : Nat) (hG : G.off = HBC_ERR_INFO d) :
      OnlyRegs ([HBC_ERR d, HBC_ERR_INFO d] ++ noticeRegs) v (v.setF G n) :=
    (onlyRegs_setF v G n).mono (by rw [hG]; simp)
  unfold State.hbcRecord
  extract_lets s1
  have h1 : OnlyRegs ([HBC_ERR d, HBC_ERR_INFO d] ++ noticeRegs) s s1 := onlyRegs_hbcErr s d F h
  split
  · exact h1
  · exact (((h1.trans (info _ _ _ rfl)).trans (info _ _ _ rfl)).trans (info _ _ _ rfl)).trans (info _ _ _ rfl)

theorem State.regs_withHbm (s : State) (m : List Host.Cell) : ({ s with hbm := m } : State).regs = s.regs := rfl

@[simp] theorem State.writeBlock_regs (s : State) (d pc k blk tag : Nat) : (s.writeBlock d pc k blk tag).regs = s.regs :=
  s.regs_withHbm _

/-- A part of a block is written, or an error noted. -/
theorem onlyRegs_writePart (s : State) (d mid first len : Nat) (value : Nat → Nat) (ue : Bool) (i : Nat) :
    OnlyRegs ([HBC_ERR d, HBC_ERR_INFO d] ++ noticeRegs) s (s.writePart d mid first len value ue i).2 := by
  unfold State.writePart
  extract_lets b pl inside words whole old
  split
  · exact onlyRegs_hbcRecord s d HBC_ERR_UE _ _ _ rfl
  split
  · exact onlyRegs_hbcRecord s d HBC_ERR_TAG _ _ _ rfl
  · exact fun _ _ => State.reg_of_regs_eq (State.writeBlock_regs _ _ _ _ _ _) _

theorem onlyRegs_writeWords (s : State) (d mid first : Nat) (value : Nat → Nat) (len : Nat) (ue : Bool × Bool) :
    OnlyRegs ([HBC_ERR d, HBC_ERR_INFO d] ++ noticeRegs) s (s.writeWords d mid first value len ue).2 := by
  unfold State.writeWords
  extract_lets n
  have row (xs : List Nat) (r : Nat × State) (h : OnlyRegs ([HBC_ERR d, HBC_ERR_INFO d] ++ noticeRegs) s r.2) :
      OnlyRegs ([HBC_ERR d, HBC_ERR_INFO d] ++ noticeRegs) s (xs.foldl (fun t i =>
        let r := t.2.writePart d mid first len value ((i == 0 && ue.1) || (i + 1 == n && ue.2)) i
        (t.1 + r.1, r.2)) r).2 := by
    induction xs generalizing r with
    | nil => exact h
    | cons x xs ih => exact ih _ (h.trans (onlyRegs_writePart _ _ _ _ _ _ _ _))
  exact row _ (0, s) .rfl'

theorem mbKept_hbcWrite {d : Nat} (h : d < 4) (s : State) (value : Nat → Nat) (ue : Bool × Bool) :
    MbKept (1 + d) s (s.hbcWrite d value ue) :=
  (MbKept.of_onlyRegs (onlyRegs_writeWords _ _ _ _ _ _ _) (hbcMailbox_apart h)).mbFinish _ _ _ _

theorem mbKept_hbcCopyOut {d : Nat} (h : d < 4) (s : State) (eccAt : Option Nat) :
    MbKept (1 + d) s (s.hbcCopyOut d eccAt) := by
  unfold State.hbcCopyOut
  extract_lets mid first len e tag ecc n word bytes err s1 s2
  have h1 : MbKept (1 + d) s s1 := .of_regs_eq rfl
  have h2 : MbKept (1 + d) s1 s2 := by
    unfold s2
    split
    · exact .of_onlyRegs (onlyRegs_hbcErr s1 d HBC_ERR_TAG rfl) (hbcMailbox_apart h)
    · exact .rfl'
  exact (h1.trans h2).mbFinish _ _ _ _

/-- A command of a controller is refused with an error, or acts. -/
theorem runsCommand_hbcCommand (s : State) (d cmd : Nat) {act : State → State} (h : ∀ v, MbKept (1 + d) v (act v)) :
    RunsCommand (1 + d) s (s.hbcCommand d cmd act) := by
  refine ⟨cmd, _, ?_, rfl⟩
  intro v
  split
  · exact .of_regs_eq rfl
  · exact h v

/-! ### The acquisition copy, the quads and the fabric: units 5 to 38 -/

theorem mbKept_acqCopy (s : State) : MbKept 5 s s.acqCopy := by
  unfold State.acqCopy
  split
  · exact .of_regs_eq rfl
  · exact .of_regs_eq (State.carveWrite_regs _ _ _)

theorem mbKept_eyeCommand (s : State) (u q r0 r1 : Nat) : MbKept u s (s.eyeCommand q r0 r1) := by
  unfold State.eyeCommand
  dsimp only
  split
  · exact .of_regs_eq rfl
  split
  · exact .of_regs_eq rfl
  · exact .of_regs_eq rfl

theorem State.laneLoad_regs (s : State) (l : Nat) (bs : List Byte) : (s.laneLoad l bs).regs = s.regs := by
  unfold State.laneLoad
  dsimp only
  split
  · rfl
  · rfl

theorem mbKept_loadSend (s : State) (u q : Nat) : MbKept u s (s.loadSend q) := by
  unfold State.loadSend
  dsimp only
  split
  · exact .of_regs_eq rfl
  split
  · exact .of_regs_eq rfl
  split
  · exact .of_regs_eq rfl
  · exact .of_regs_eq (State.foldl_regs (fun _ _ => State.laneLoad_regs _ _ _) _ s)

theorem mbKept_snap (s : State) (u : Nat) : MbKept u s s.snap := by
  unfold State.snap
  dsimp only
  split
  · exact .of_regs_eq rfl
  · exact .of_regs_eq (State.carveWrite_regs _ _ _)

/-! ### The Guestbook: unit 39 -/

/-- Closing the aggregators changes the notice registers alone. -/
theorem noticed_flushAggregators (s : State) : Noticed s s.flushAggregators := by
  have row (as : List Aggregator) (v : State) (h : Noticed s v) :
      Noticed s (as.foldl (fun s a => s.closeAggregator a.src true) v) := by
    induction as generalizing v with
    | nil => exact h
    | cons a as ih => exact ih _ (h.trans (noticed_closeAggregator _ _))
  exact row _ s (.refl s)

end Sys2Proof.Machine

/-! What settling the power domains and resetting clusters leave: the mailbox registers of Billet, the configuration unit
and the built-in test unit. -/

namespace Sys2Proof.Machine

open Reg

variable {s t v : State}

/-! ### The mailbox registers of the hub -/

/-- STATUS and RESULT of Billet, the configuration unit and the built-in test unit. -/
def hubMailbox : List Nat :=
  [BLT_STATUS, BLT_RESULT 0, BLT_RESULT 1, CFG_STATUS, CFG_RESULT 0, CFG_RESULT 1, DEV_BIST_STATUS, DEV_BIST_RESULT 0,
    DEV_BIST_RESULT 1]

/-- The mailbox registers of the hub are kept. -/
structure KeepsHub (s t : State) : Prop where
  /-- Each of them reads as before. -/
  reg : ∀ o ∈ hubMailbox, t.reg o = s.reg o

/-- A register of a quad, a die, the sequencer or a cluster is none of them. -/
theorem not_hubMailbox_of_far {o : Nat} (h : 0x1000000 ≤ o) : o ∉ hubMailbox := by
  have near : ∀ x ∈ hubMailbox, x < 0x1000000 := by decide
  exact fun hm => absurd (near o hm) (Nat.not_lt.mpr h)

/-- A PWR_DOM register is none of them. -/
theorem not_hubMailbox_of_domain {i : Nat} (h : i < 89) : PWR_DOM i ∉ hubMailbox := by
  have apart : ∀ x ∈ hubMailbox, x < 0x100000 ∨ 0x200000 ≤ x := by decide
  intro hm
  have := apart _ hm
  unfold PWR_DOM at this
  omega

namespace KeepsHub

theorem rfl' : KeepsHub s s := ⟨fun _ _ => rfl⟩

theorem trans (h : KeepsHub s t) (k : KeepsHub t v) : KeepsHub s v :=
  ⟨fun o ho => (k.reg o ho).trans (h.reg o ho)⟩

theorem of_regs_eq (h : t.regs = s.regs) : KeepsHub s t := ⟨fun o _ => State.reg_of_regs_eq h o⟩

/-- Work on a state with the same registers. -/
theorem after (h : t.regs = s.regs) (k : KeepsHub t v) : KeepsHub s v := (of_regs_eq h).trans k

theorem of_onlyRegs {l : List Nat} (h : OnlyRegs l s t) (hl : ∀ o ∈ l, o ∉ hubMailbox) : KeepsHub s t :=
  ⟨fun o ho => h o fun hm => hl o hm ho⟩

theorem setReg (h : KeepsHub s t) {off : Nat} {w : Word} (ho : off ∉ hubMailbox) : KeepsHub s (t.setReg off w) :=
  h.trans ⟨fun _ hm => t.reg_setReg_ne w fun e => ho (e ▸ hm)⟩

theorem setF (h : KeepsHub s t) {F : Fld} {n : Nat} (ho : F.off ∉ hubMailbox) : KeepsHub s (t.setF F n) := h.setReg ho

theorem set64 (h : KeepsHub s t) {off n : Nat} (ho : off ∉ hubMailbox) (ho4 : off + 4 ∉ hubMailbox) :
    KeepsHub s (t.set64 off n) :=
  (h.setReg ho).setReg ho4

theorem noticed (h : Noticed s t) : KeepsHub s t := of_onlyRegs h.regs (by decide)

theorem raise {F : Fld} {b r i n : Nat} (ho : F.off ∉ hubMailbox) : KeepsHub s (s.raise F b r i n) :=
  of_onlyRegs (frame_raise F b r i n).1 (List.forall_mem_cons.mpr ⟨ho, by decide⟩)

/-- A row of works, each of which keeps them. -/
theorem foldl {α : Type} {f : State → α → State} (xs : List α) (h : ∀ v, ∀ x ∈ xs, KeepsHub v (f v x)) (s : State) :
    KeepsHub s (xs.foldl f s) := by
  induction xs generalizing s with
  | nil => exact rfl'
  | cons x xs ih => exact (h s x List.mem_cons_self).trans (ih (fun v y hy => h v y (List.mem_cons_of_mem _ hy)) _)

end KeepsHub

/-! ### The packet network (05_millrace_network) -/

theorem State.takeHead_regs (s : State) (stream node f : Nat) : (s.takeHead stream node f).regs = s.regs := by
  unfold State.takeHead
  dsimp only
  repeat' split
  all_goals rfl

theorem State.takeBody_regs (s : State) (stream f : Nat) : (s.takeBody stream f).regs = s.regs := by
  unfold State.takeBody
  extract_lets x s1 key
  have h1 : s1.regs = s.regs := by
    unfold s1
    split <;> rfl
  repeat' split
  all_goals exact h1

theorem State.nodeTake_regs (s : State) (stream node f : Nat) : (s.nodeTake stream node f).regs = s.regs := by
  unfold State.nodeTake
  split
  · rfl
  · exact s.takeHead_regs stream node f
  · exact s.takeBody_regs stream f
  · rfl

theorem keepsHub_cflErr (s : State) (d : Nat) {F : Nat → Fld} (hF : 0x1000000 ≤ (F d).off) (port tag : Nat) :
    KeepsHub s (s.cflErr d F port tag) := by
  have info : MLR_CFL_INFO d ∉ hubMailbox := not_hubMailbox_of_far (by unfold MLR_CFL_INFO mlrBase; omega)
  unfold State.cflErr
  extract_lets s1
  have h1 : KeepsHub s s1 := .raise (not_hubMailbox_of_far hF)
  split
  · exact h1
  · exact (((h1.setF info).setF info).setF info).setF info

theorem State.cflForward_regs (s : State) (d port : Nat) (flits : List Nat) :
    (s.cflForward d port flits).regs = s.regs := by
  unfold State.cflForward
  dsimp only
  split
  · exact State.foldl_regs (fun v x => v.nodeTake_regs _ _ x) flits s
  · rfl

theorem keepsHub_cflRoute (s : State) (d port : Nat) (flits : List Nat) : KeepsHub s (s.cflRoute d port flits) := by
  unfold State.cflRoute
  dsimp only
  split
  · exact (keepsHub_cflErr s d (by unfold MLR_CFL_ERR_NO_NODE MLR_CFL_ERR mlrBase; dsimp only; omega) _ _).trans
      (.of_regs_eq (State.cflForward_regs _ _ _ _))
  · exact .of_regs_eq (State.cflForward_regs _ _ _ _)

theorem keepsHub_transitDone (s : State) (d key : Nat) (flits : List Nat) : KeepsHub s (s.transitDone d key flits) := by
  unfold State.transitDone
  extract_lets n s1
  have h1 : KeepsHub s s1 := keepsHub_cflRoute _ _ _ _
  split
  · exact h1
  · exact h1.trans (.of_regs_eq (s1.setDie_regs _ _))

theorem State.takeEndMark_regs (s : State) (d r f : Nat) : (s.takeEndMark d r f).regs = s.regs := by
  unfold State.takeEndMark
  dsimp only
  split <;> rfl

theorem keepsHub_cflTake {d key f : Nat} (h : s.cflTake d key f = some t) : KeepsHub s t := by
  unfold State.cflTake at h
  dsimp only at h
  split at h
  · cases h
    split
    · exact .of_regs_eq (s.takeEndMark_regs _ _ _)
    · exact .rfl'
  · cases h
    exact keepsHub_cflRoute _ _ _ _
  · split at h
    · cases h
      split
      · exact keepsHub_transitDone _ _ _ _
      · exact .of_regs_eq rfl
    · cases h
  · split at h
    · cases h
      exact .rfl'
    · cases h
      split
      · exact .after (s.setDie_regs _ _) (keepsHub_transitDone _ _ _ _)
      · exact .of_regs_eq rfl
  · cases h
    exact .rfl'

theorem State.setExits_regs (s : State) (d key : Nat) (q : List Nat) : (s.setExits d key q).regs = s.regs := rfl

theorem keepsHub_drainQueue (n : Nat) (s : State) (d key : Nat) : KeepsHub s (s.drainQueue d key n) := by
  induction n generalizing s with
  | zero => exact .rfl'
  | succ n ih =>
    unfold State.drainQueue
    split
    · exact .rfl'
    split
    · exact .rfl'
    split
    · next h => exact (KeepsHub.after (s.setExits_regs d key _) (keepsHub_cflTake h)).trans (ih _)
    · exact .rfl'

theorem keepsHub_pushExit (s : State) (d key f : Nat) : KeepsHub s (s.pushExit d key f) := by
  unfold State.pushExit
  dsimp only
  exact .after (s.setExits_regs _ _ _) (keepsHub_drainQueue _ _ _ _)

theorem keepsHub_netSend (s : State) (node : Nat) (flits : List Nat) : KeepsHub s (s.netSend node flits) := by
  unfold State.netSend
  dsimp only
  split
  · split
    · exact .of_regs_eq (State.foldl_regs (fun v x => v.nodeTake_regs _ _ x) flits s)
    split
    · exact .foldl flits (fun v x _ => keepsHub_pushExit v _ _ x) s
    split
    · exact .of_regs_eq (State.nodeTake_regs _ _ _ _)
    · exact .rfl'
  · split
    · exact .of_regs_eq rfl
    split
    · exact .foldl flits (fun v x _ => keepsHub_pushExit v _ _ x) s
    · exact keepsHub_cflRoute _ _ _ _

theorem State.setRecv_regs (s : State) (node : Nat) (resp : Bool) (buf : Nat) (x : RecvBuf) :
    (s.setRecv node resp buf x).regs = s.regs := s.setNet_regs _

/-- A row of receive buffers replaced. -/
theorem State.foldl_setRecv_regs {n : Nat} (g : State → Bool × Nat → RecvBuf) (xs : List (Bool × Nat)) (s : State) :
    (xs.foldl (fun t x => t.setRecv n x.1 x.2 (g t x)) s).regs = s.regs := by
  induction xs generalizing s with
  | nil => rfl
  | cons x xs ih => rw [List.foldl_cons, ih, State.setRecv_regs]

theorem keepsHub_returnPacket (s : State) (node : Nat) (resp : Bool) (buf status : Nat) :
    KeepsHub s (s.returnPacket node resp buf status) := by
  unfold State.returnPacket
  extract_lets b s1
  have h1 : KeepsHub s s1 := .after (s.setRecv_regs node resp buf _) (keepsHub_netSend _ node _)
  split
  · refine h1.setF (not_hubMailbox_of_far ?_)
    simp only [MLR_STOP_UCNT_RET, MLR_STOP_UCNT, nodeStop, stopBase, mlrBase]
    omega
  · exact h1

/-! ### The stop of a cluster, and the reset of a cluster -/

theorem State.tapForget_regs (s : State) (c : Nat) : (s.tapForget c).regs = s.regs := rfl

theorem keepsHub_stopDrain (s : State) (c : Nat) : KeepsHub s (s.stopDrain c) := by
  unfold State.stopDrain
  extract_lets n s1
  have h1 : KeepsHub s s1 := .foldl _ (fun v x _ => keepsHub_returnPacket v n x.1 x.2 1) s
  exact h1.trans (.of_regs_eq (State.foldl_setRecv_regs _ _ s1))

theorem State.complete_regs (s : State) (node tag status : Nat) : (s.complete node tag status).regs = s.regs := by
  unfold State.complete
  dsimp only
  repeat' split
  all_goals rfl

theorem keepsHub_stopReset (s : State) (c : Nat) : KeepsHub s (s.stopReset c) := by
  unfold State.stopReset
  extract_lets n s1 tags s2
  have h1 : KeepsHub s s1 := keepsHub_stopDrain s c
  have h2 : s2.regs = s1.regs := State.foldl_regs (fun v g => v.complete_regs n g 1) _ s1
  exact (h1.trans (.of_regs_eq h2)).trans (.of_regs_eq (State.foldl_setRecv_regs _ _ s2))

theorem State.endFill_regs (s : State) (c : Nat) : (s.endFill c).regs = s.regs := by
  unfold State.endFill
  split
  · rfl
  · dsimp only
    rw [State.takeFree_regs, State.setCl_regs]

/-- The reset of a cluster returns registers of its own window. -/
theorem keepsHub_resetCluRegs (s : State) (c : Nat) : KeepsHub s (s.resetCluRegs c) := by
  refine ⟨fun o ho => ?_⟩
  have hlt : o < cluBase c := by
    have near : ∀ x ∈ hubMailbox, x < 0x1000000 := by decide
    have := near o ho
    unfold cluBase
    omega
  have hb : Nat.ble (cluBase c) o = false := by
    rw [← Bool.not_eq_true, Nat.ble_eq]; omega
  unfold State.resetCluRegs State.reg
  rw [Sparse.get_keep, hb]
  rfl

theorem keepsHub_clusterReset (s : State) (c : Nat) : KeepsHub s (s.clusterReset c) := by
  have h0 : KeepsHub s ((s.endFill c).stopReset c) := (KeepsHub.of_regs_eq (s.endFill_regs c)).trans (keepsHub_stopReset _ c)
  have fresh (v : State) (x : Cluster) : KeepsHub v (((v.setCl c x).resetCluRegs c).tapForget c) :=
    ((KeepsHub.of_regs_eq (v.setCl_regs c x)).trans (keepsHub_resetCluRegs _ c)).trans
      (.of_regs_eq (State.tapForget_regs _ c))
  unfold State.clusterReset
  exact h0.trans (fresh _ _)

/-! ### The power domains (19_power_thermal) -/

theorem keepsHub_startWake {i : Nat} (h : i < 89) (s : State) (steps : List Nat) : KeepsHub s (s.startWake i steps) := by
  have hi := not_hubMailbox_of_domain h
  unfold State.startWake
  have h1 (p : Power) : KeepsHub s { s with pwr := p } := .of_regs_eq rfl
  exact ((h1 _).setF (F := PWR_DOM_STATE i) hi).setF (F := PWR_DOM_PD_STEP i) hi

theorem keepsHub_selfRefresh (s : State) (d : Nat) : KeepsHub s (s.selfRefresh d) := by
  have hd : HBC_STAT d ∉ hubMailbox := not_hubMailbox_of_far (by unfold HBC_STAT hbcBase; omega)
  exact (KeepsHub.rfl'.setF hd).setF hd

theorem keepsHub_startDown {i : Nat} (h : i < 89) (s : State) : KeepsHub s (s.startDown i) := by
  have hi := not_hubMailbox_of_domain h
  unfold State.startDown
  extract_lets s1
  have h1 : KeepsHub s s1 := (KeepsHub.rfl'.setF hi).setF hi
  split
  · exact h1.trans (.foldl _ (fun v c _ => keepsHub_stopDrain v c) s1)
  split
  · exact h1.trans (keepsHub_selfRefresh s1 _)
  · exact h1

theorem keepsHub_settleDomain {i : Nat} (h : i < 89) (s : State) : KeepsHub s (s.settleDomain i) := by
  unfold State.settleDomain
  dsimp only
  split
  · split
    · exact keepsHub_startWake h s _
    · exact .rfl'
  split
  · split
    · exact keepsHub_startDown h s
    · exact .rfl'
  · exact .rfl'

theorem keepsHub_settlePower (s : State) : KeepsHub s s.settlePower :=
  .foldl _ (fun v _ hi => keepsHub_settleDomain (List.mem_range.mp hi) v) s

end Sys2Proof.Machine

/-! The work of the commands of Billet: an image is read, a program is cleared, a cluster is reset. -/

namespace Sys2Proof.Machine

open Reg

variable {s t v : State}

/-- The units whose mailboxes stand in the hub and whose commands reach beyond their own block. -/
theorem MbKept.of_keepsHub {u : Nat} (hu : u ∈ [0, 40, 41]) (h : KeepsHub s t) : MbKept u s t := by
  have mem : ∀ u ∈ [0, 40, 41], ∀ o ∈ mbStatus u :: mbResults u, o ∈ hubMailbox := by decide
  exact .of_regs fun o ho => h.reg o (mem u hu o ho)

/-- The stacks, the acquisition unit and the power unit hold no register. -/
theorem KeepsHub.of_stores (s : State) (m : List Host.Cell) (a : Acquisition) (p : Power) :
    KeepsHub s { s with hbm := m, acq := a, pwr := p } := .of_regs_eq rfl

/-! ### The end of a capture (R474 to R486) -/

theorem keepsHub_dropLater (s : State) (last : Nat) : KeepsHub s (s.dropLater last) := by
  unfold State.dropLater
  split
  · exact .rfl'
  · dsimp only
    have cut (a : Acquisition) (n : Nat) : KeepsHub s (State.set64 { s with acq := a } ACQ_TRIG_PTR n) :=
      (KeepsHub.of_stores s s.hbm a s.pwr).set64 (by decide) (by decide)
    exact (cut _ _).set64 (off := ACQ_OLDEST) (by decide) (by decide)

theorem keepsHub_acqErr (s : State) {F : Fld} (hF : F.off ∉ hubMailbox) : KeepsHub s (s.acqErr F) := .raise hF

theorem keepsHub_acqAppend (s : State) (typ step aux frame time topBits : Nat) (payload : List Byte) :
    KeepsHub s (s.acqAppend typ step aux frame time topBits payload) := by
  unfold State.acqAppend
  dsimp only
  split
  · have dropped (a : Acquisition) : KeepsHub s (State.bump { s with acq := a } ACQ_DROP_RECORDS 1) :=
      (KeepsHub.of_stores s s.hbm a s.pwr).setF (by decide)
    exact (dropped _).trans (keepsHub_acqErr _ (F := ACQ_ERR_DROP) (by decide))
  · exact .of_regs_eq rfl

theorem keepsHub_acqFlushPins (s : State) (keep : PinRecord → Bool) : KeepsHub s (s.acqFlushPins keep) := by
  unfold State.acqFlushPins
  have pin (v : State) (r : PinRecord) : KeepsHub v (v.acqPin r) := keepsHub_acqAppend v _ _ _ _ _ _ _
  exact (KeepsHub.of_stores s s.hbm _ s.pwr).trans (.foldl _ (fun v r _ => pin v r) _)

theorem keepsHub_acqPad (s : State) : KeepsHub s s.acqPad := by
  unfold State.acqPad
  split
  · exact .rfl'
  · exact keepsHub_acqAppend s _ _ _ _ _ _ _

theorem keepsHub_overwrite (s : State) (low : Nat) : KeepsHub s (s.overwrite low) := by
  unfold State.overwrite
  extract_lets old s1
  have h1 : KeepsHub s s1 := by
    unfold s1
    split
    · exact .rfl'
    split
    · exact (KeepsHub.rfl'.set64 (by decide) (by decide)).setF (by decide)
    · exact KeepsHub.rfl'.set64 (by decide) (by decide)
  have h2 (a : Acquisition) : KeepsHub s { s1 with acq := a } := h1.trans (.of_stores s1 s1.hbm a s1.pwr)
  split
  · exact (KeepsHub.setReg (h2 _) (by decide)).trans (keepsHub_acqErr _ (by decide))
  · exact h2 _

theorem keepsHub_blockOut (s : State) : KeepsHub s s.blockOut := by
  have h1 (m : List Host.Cell) (a : Acquisition) (n : Nat) :
      KeepsHub s (State.set64 { s with hbm := m, acq := a } ACQ_WR_PTR n) :=
    (KeepsHub.of_stores s m a s.pwr).set64 (by decide) (by decide)
  unfold State.blockOut
  dsimp only
  split
  · exact (h1 _ _ _).trans (keepsHub_overwrite _ _)
  · exact h1 _ _ _

theorem keepsHub_blocksOut (n : Nat) (s : State) : KeepsHub s (State.blocksOut n s) := by
  induction n generalizing s with
  | zero => exact .rfl'
  | succ n ih => exact (keepsHub_blockOut s).trans (ih _)

theorem keepsHub_acqEnd (s : State) (cause frame : Nat) : KeepsHub s (s.acqEnd cause frame) := by
  unfold State.acqEnd
  split
  · extract_lets s1 s2 s3
    have h1 : KeepsHub s s1 := (keepsHub_dropLater s frame).trans (keepsHub_acqFlushPins _ _)
    have h2 : KeepsHub s1 s2 := (keepsHub_acqAppend s1 _ _ _ _ _ _ _).trans (keepsHub_acqPad _)
    have h3 : KeepsHub s s3 := (h1.trans h2).trans (keepsHub_blocksOut _ s2)
    exact ((h3.setF (by decide)).setF (by decide)).trans (.noticed (noticed_fire 17 (by decide)))
  · exact .rfl'

/-! ### Billet clears a program (R408) -/

theorem keepsHub_clearDie (s : State) (keepMems : Bool) (d : Nat) : KeepsHub s (s.clearDie keepMems d) := by
  have wack : HBC_WACK d ∉ hubMailbox := not_hubMailbox_of_far (by unfold HBC_WACK hbcBase; omega)
  unfold State.clearDie
  dsimp only
  exact .setF (F := HBC_WACK_PEND d) (.of_regs_eq ((State.setCtl_regs _ _ _).trans (s.setDie_regs _ _))) wack

theorem keepsHub_setSeqFields (s : State) (flen inmask : Nat) : KeepsHub s (s.setSeqFields flen inmask) := by
  have mask (i : Nat) : SEQ_INMASK i ∉ hubMailbox := not_hubMailbox_of_far (by unfold SEQ_INMASK; omega)
  unfold State.setSeqFields
  exact (KeepsHub.rfl'.setF (by decide)).trans (.foldl _ (fun v i _ => KeepsHub.rfl'.setReg (mask i)) _)

theorem keepsHub_setTaps (s : State) (taps : List Nat) : KeepsHub s (s.setTaps taps) := by
  have h1 (a : Acquisition) : KeepsHub s { s.acqEnd 3 s.frameNo with acq := a } :=
    (keepsHub_acqEnd s 3 s.frameNo).trans (.of_stores _ (s.acqEnd 3 s.frameNo).hbm a (s.acqEnd 3 s.frameNo).pwr)
  unfold State.setTaps
  exact (h1 _).setF (by decide)

theorem keepsHub_parkOutputs (s : State) : KeepsHub s s.parkOutputs :=
  .setF (.of_regs_eq (s.setFab_regs _)) (by decide)

theorem keepsHub_bltClear (s : State) (keepMems : Bool) : KeepsHub s (s.bltClear keepMems) := by
  unfold State.bltClear
  extract_lets s1 s2 s3 s4 s5
  have h1 : KeepsHub s s1 := .foldl _ (fun v c _ => keepsHub_clusterReset v c) s
  have h2 : KeepsHub s1 s2 := .foldl _ (fun v d _ => keepsHub_clearDie v keepMems d) s1
  have h3 : KeepsHub s2 s3 := .foldl _ (fun v c _ => .of_regs_eq (v.setCl_regs c _)) s2
  have h4 : KeepsHub s3 s4 :=
    ((keepsHub_setSeqFields s3 0 0).trans (keepsHub_setTaps _ [])).trans (keepsHub_parkOutputs _)
  have h5 : KeepsHub s s5 := ((((h1.trans h2).trans h3).trans h4).setF (by decide)).setF (by decide)
  exact h5.trans (.of_regs_eq (s5.setBlt_regs _))

theorem keepsHub_bltVotes (s : State) (votes : Nat) : KeepsHub s (s.bltVotes votes) :=
  (KeepsHub.of_stores s s.hbm s.acq _).trans (keepsHub_settlePower _)

theorem keepsHub_bltRemove (s : State) : KeepsHub s s.bltRemove := by
  unfold State.bltRemove
  exact (keepsHub_bltClear s false).trans (keepsHub_bltVotes _ _)

/-! ### Billet: unit 0 (R399 to R412) -/

theorem mbKept_bltStart (s : State) (addr len : Nat) : MbKept 0 s (s.bltStart addr len) :=
  (MbKept.of_regs_eq (s.setBlt_regs _)).trans (.setF_status 0 0 (by decide) (by decide))

theorem mbKept_bltFail (s : State) (e : BErr) : MbKept 0 s (s.bltFail e) := .of_regs_eq rfl

theorem mbKept_bltStop (s : State) (x : Nat × BErr) : MbKept 0 s (s.bltStop x) := .of_regs_eq rfl

/-- A command that reads an image is refused, or acts in phase 1. -/
theorem mbKept_withImage (s : State) (modes : List Nat) (addr len : Nat) (ldch : Bool) (eccAt : Option Nat)
    {act : State → State} (h : ∀ v, MbKept 0 v (act v)) : MbKept 0 s (s.withImage modes addr len ldch eccAt act) := by
  unfold State.withImage
  split
  · exact .of_regs_eq rfl
  split
  · exact mbKept_bltFail s _
  split
  · exact mbKept_bltFail s _
  split
  · exact mbKept_bltFail s _
  · exact (MbKept.setF_status 0 1 (by decide) (by decide)).trans (h _)

theorem mbKept_bltLoad (s : State) (addr len : Nat) (r : ImageRead) (reload : Bool) :
    MbKept 0 s (s.bltLoad addr len r reload) := by
  unfold State.bltLoad
  split
  · exact mbKept_bltStop s _
  · exact .of_regs_eq rfl

theorem mbKept_bltCheck (s : State) (addr len : Nat) (eccAt : Option Nat) : MbKept 0 s (s.bltCheck addr len eccAt) := by
  unfold State.bltCheck
  split
  · exact mbKept_bltStop s _
  · exact .of_regs_eq rfl

theorem keepsHub_progInvalid (s : State) : KeepsHub s (s.setF DEV_MODE_PROG_VALID 0) := KeepsHub.rfl'.setF (by decide)

theorem keepsHub_resetMapped (s : State) (c : Nat) : KeepsHub s (s.resetMapped c) := by
  unfold State.resetMapped
  split
  · exact keepsHub_clusterReset s c
  · exact .rfl'

theorem runs_load (hr : Reached s BLT_CMD) (p : Path) (r : ImageRead) : Runs 0 s (execLoad p r s) :=
  runs_of_onWrite hr fun v =>
    (mbKept_bltStart v _ _).trans (mbKept_withImage _ _ _ _ _ _ fun v => mbKept_bltLoad v _ _ _ _)

theorem runs_billetCheck (hr : Reached s BLT_CMD) (p : Path) (e : Option Nat) : Runs 0 s (execBilletCheck p e s) :=
  runs_of_onWrite hr fun v =>
    (mbKept_bltStart v _ _).trans (mbKept_withImage _ _ _ _ _ _ fun v => mbKept_bltCheck v _ _ _)

theorem runs_unload (hr : Reached s BLT_CMD) (p : Path) : Runs 0 s (execUnload p s) := by
  refine runs_of_onWrite hr fun v => ?_
  dsimp only
  split
  · exact (mbKept_bltStart v _ _).trans (mbKept_bltFail _ _)
  · exact ((mbKept_bltStart v _ _).trans (.of_keepsHub (by decide) (keepsHub_bltRemove _))).mbFinish _ _ _ _

theorem runs_reload (hr : Reached s BLT_CMD) (p : Path) (r : ImageRead) : Runs 0 s (execReload p r s) := by
  refine runs_of_onWrite hr fun v => ?_
  dsimp only
  split
  · exact (mbKept_bltStart v _ _).trans (mbKept_bltFail _ _)
  · exact (mbKept_bltStart v _ _).trans (mbKept_withImage _ _ _ _ _ _ fun v => mbKept_bltLoad v _ _ _ _)

theorem runs_replace (hr : Reached s BLT_CMD) (p : Path) (e : ImageEcc) : Runs 0 s (execReplace p e s) := by
  refine runs_of_onWrite hr fun v => ?_
  dsimp only
  split
  · exact (mbKept_bltStart v _ _).trans (mbKept_bltFail _ _)
  · refine (mbKept_bltStart v _ _).trans (mbKept_withImage _ _ _ _ _ _ fun w => ?_)
    have invalid (b : Billet) : MbKept 0 w ((w.setBlt b).setF DEV_MODE_PROG_VALID 0) :=
      .of_keepsHub (by decide) (.after (w.setBlt_regs _) (keepsHub_progInvalid _))
    split
    · exact (invalid _).trans (mbKept_bltStop _ _)
    · exact ((invalid _).trans (.of_regs_eq (State.setBlt_regs _ _))).mbFinish _ _ _ _

theorem runs_clreset (hr : Reached s BLT_CMD) (p : Path) : Runs 0 s (execClreset p s) := by
  refine runs_of_onWrite hr fun v => ?_
  dsimp only
  have start := mbKept_bltStart v (v.f BLT_SEL_CLUSTER) 0
  split
  · exact start.trans (mbKept_bltFail _ _)
  split
  · exact start.trans (mbKept_bltFail _ _)
  · split
    · exact (start.trans (.of_keepsHub (by decide)
        ((keepsHub_progInvalid _).trans (keepsHub_resetMapped _ _)))).mbFinish _ _ _ _
    · exact (start.trans (.of_keepsHub (by decide) (keepsHub_resetMapped _ _))).mbFinish _ _ _ _

end Sys2Proof.Machine

/-! Every CMD write runs a command of its unit, by the command rows and by REGISTER_WRITE. -/

namespace Sys2Proof.Machine

open Reg

variable {s t v : State}

/-! ### The controllers, the copy, the quads, the fabric and the Guestbook -/

theorem runs_hbc {d cmd : Nat} {p : Path} {act : State → State} (hr : Reached s (HBC_MB_CMD d))
    (h : ∀ v, MbKept (1 + d) v (act v)) :
    Runs (1 + d) s (.next (s.onWrite p (HBC_MB_CMD d) fun s => s.hbcCommand d cmd act)) :=
  ⟨_, rfl, by rw [State.onWrite_reached hr]; exact runsCommand_hbcCommand s d cmd h⟩

theorem runs_fill {d : Fin 4} (hr : Reached s (HBC_MB_CMD d)) (p : Path) (first last : Bool) :
    Runs (1 + d) s (execFill p ⟨d, first, last⟩ s) :=
  runs_hbc hr fun v => mbKept_hbcWrite d.isLt v _ _

theorem runs_copyOut {d : Fin 4} (hr : Reached s (HBC_MB_CMD d)) (p : Path) (e : Option Nat) :
    Runs (1 + d) s (execCopyOut p d e s) :=
  runs_hbc hr fun v => mbKept_hbcCopyOut d.isLt v e

theorem runs_copyIn {d : Fin 4} (hr : Reached s (HBC_MB_CMD d)) (p : Path) (first last : Bool) :
    Runs (1 + d) s (execCopyIn p ⟨d, first, last⟩ s) :=
  runs_hbc hr fun v => mbKept_hbcWrite d.isLt v _ _

theorem runs_copy (hr : Reached s ACQ_MB_CMD) (p : Path) : Runs 5 s (execCopy p s) :=
  runs_of_onWrite hr mbKept_acqCopy

theorem runs_eyePoint {q : Fin 32} (hr : Reached s (SHR_MB_CMD q)) (p : Path) (n : Nat) :
    Runs (6 + q) s (execEyePoint p q n s) :=
  runs_of_onWrite hr fun v => mbKept_eyeCommand v _ _ _ _

theorem runs_eyeWidth {q : Fin 32} (hr : Reached s (SHR_MB_CMD q)) (p : Path) (left right : Byte) :
    Runs (6 + q) s (execEyeWidth p q left right s) :=
  runs_of_onWrite hr fun v => mbKept_eyeCommand v _ _ _ _

theorem runs_loadSend {q : Fin 32} (hr : Reached s (SHR_MB_CMD q)) (p : Path) : Runs (6 + q) s (execLoadSend p q s) :=
  runs_of_onWrite hr fun v => mbKept_loadSend v _ _

theorem runs_snap (hr : Reached s FAB_MB_CMD) (p : Path) : Runs 38 s (execSnap p s) :=
  runs_of_onWrite hr fun v => mbKept_snap v 38

theorem runs_exportLog (hr : Reached s GBK_MB_CMD) (p : Path) : Runs 39 s (execExportLog p s) := by
  refine runs_of_onWrite hr fun v => ?_
  dsimp only
  split
  · exact .of_regs_eq rfl
  split
  · exact .of_regs_eq rfl
  split
  · exact .of_regs_eq rfl
  split
  · exact .of_regs_eq rfl
  · exact .of_regs_eq (State.exportSlots_regs _ _ _ _)

theorem runs_gbkErase (hr : Reached s GBK_MB_CMD) (p : Path) : Runs 39 s (execGbkErase p s) :=
  runs_of_onWrite hr fun _ => .of_regs_eq rfl

theorem runs_flush (hr : Reached s GBK_MB_CMD) (p : Path) : Runs 39 s (execFlush p s) :=
  runs_of_onWrite hr fun v =>
    (MbKept.of_onlyRegs (noticed_flushAggregators v).regs (by decide)).mbFinish _ _ _ _

/-! ### The configuration unit: unit 40 (R659 to R668) -/

/-- A command in a mode that does not take it ends with STATE. -/
theorem mbKept_cfgIn (s : State) (modes : List Nat) {act : State → State} (h : ∀ v, MbKept 40 v (act v)) :
    MbKept 40 s (s.cfgIn modes act) := by
  unfold State.cfgIn
  split
  · exact h s
  · exact .of_regs_eq rfl

theorem mbKept_cfgPhase (s : State) (n : Nat) : MbKept 40 s (s.cfgPhase n) :=
  (MbKept.setF_status 40 n (by decide) (by decide)).trans (.of_regs_eq (State.setCfg_regs _ _))

theorem mbKept_settlePower (s : State) : MbKept 40 s s.settlePower := .of_keepsHub (by decide) (keepsHub_settlePower s)

theorem mbKept_cfgStart (s : State) (job slot addr len : Nat) : MbKept 40 s (s.cfgStart job slot addr len) :=
  ((MbKept.of_regs_eq (s.setCfg_regs _)).trans (mbKept_cfgPhase _ 1)).trans (mbKept_settlePower _)

theorem mbKept_loadMem (s : State) : MbKept 40 s s.loadMem := by
  unfold State.loadMem
  dsimp only
  split
  · exact .of_regs_eq rfl
  · exact mbKept_cfgStart s _ _ _ _

theorem mbKept_fuseProg (s : State) : MbKept 40 s s.fuseProg := by
  unfold State.fuseProg
  dsimp only
  split
  · exact .of_regs_eq rfl
  · exact (MbKept.of_regs_eq (s.setCfg_regs _)).mbFinish _ _ _ _

/-- The fabric stops: flags of the fabric and of CFG_STATE change. -/
theorem keepsHub_fabricStop (s : State) : KeepsHub s s.fabricStop := by
  unfold State.fabricStop
  extract_lets s1 s2
  have h1 : KeepsHub s s1 :=
    (((KeepsHub.rfl'.setF (by decide)).setF (by decide)).setF (by decide)).setF (by decide)
  have h2 : KeepsHub s1 s2 := (KeepsHub.rfl'.setF (by decide)).trans (keepsHub_parkOutputs _)
  exact (h1.trans h2).trans (.of_regs_eq rfl)

theorem runs_loadSlot (hr : Reached s CFG_CMD) (p : Path) : Runs 40 s (execLoadSlot p s) :=
  runs_of_onWrite hr fun v => mbKept_cfgIn v _ fun v => mbKept_cfgStart v _ _ _ _

theorem runs_loadMem (hr : Reached s CFG_CMD) (p : Path) : Runs 40 s (execLoadMem p s) := by
  refine runs_of_onWrite hr fun v => ?_
  split
  · exact .of_regs_eq rfl
  · exact mbKept_cfgIn v _ mbKept_loadMem

theorem runs_verify (hr : Reached s CFG_CMD) (p : Path) : Runs 40 s (execVerify p s) :=
  runs_of_onWrite hr fun v => mbKept_cfgIn v _ fun v => mbKept_cfgStart v _ _ _ _

theorem runs_cfgClear (hr : Reached s CFG_CMD) (p : Path) : Runs 40 s (execCfgClear p s) := by
  refine runs_of_onWrite hr fun v => mbKept_cfgIn v _ fun v => ?_
  have h1 : MbKept 40 v (v.fabricStop.cfgPhase 6) :=
    (MbKept.of_keepsHub (by decide) (keepsHub_fabricStop v)).trans (mbKept_cfgPhase _ 6)
  exact (h1.trans (.of_regs_eq (State.setCfg_regs _ _))).trans (mbKept_settlePower _)

theorem runs_fuseProg (hr : Reached s CFG_CMD) (p : Path) : Runs 40 s (execFuseProg p s) :=
  runs_of_onWrite hr fun v => mbKept_cfgIn v _ mbKept_fuseProg

/-! ### The built-in tests: unit 41 (20_test_loopback) -/

/-- A test outside DIAGNOSE, or while Billet runs, ends with STATE. -/
theorem mbKept_bistIn (s : State) {act : State → State} (h : ∀ v, MbKept 41 v (act v)) : MbKept 41 s (s.bistIn act) := by
  unfold State.bistIn
  split
  · exact .of_regs_eq rfl
  · exact (MbKept.of_regs_eq (s.setTst_regs _)).trans (h _)

theorem MbKept.bistFinish {u : Nat} (h : MbKept u s t) (r0 r1 : Nat) : MbKept u s (t.bistFinish r0 r1) :=
  h.mbFinish _ _ _ _

theorem keepsHub_testClusters (s : State) (failed : List Nat) : KeepsHub s (s.testClusters failed) := by
  have one (v : State) (c : Nat) : KeepsHub v (v.testCluster c) :=
    (keepsHub_clusterReset v c).trans (.of_regs_eq (State.setCl_regs _ c _))
  unfold State.testClusters
  exact (KeepsHub.foldl _ (fun v c _ => one v c) s).trans (.of_regs_eq (State.setTst_regs _ _))

theorem keepsHub_testStack (depth : Nat) (s : State) (d : Nat) : KeepsHub s (s.testStack depth d) := by
  have stat : HBC_STAT d ∉ hubMailbox := not_hubMailbox_of_far (by unfold HBC_STAT hbcBase; omega)
  unfold State.testStack
  split
  · exact keepsHub_selfRefresh s d
  · exact (KeepsHub.rfl'.setF stat).trans (.of_regs_eq rfl)

theorem runs_mbist (hr : Reached s DEV_BIST_CMD) (p : Path) (failed : List (Fin 1088)) (cfgFailed : Bool) :
    Runs 41 s (execMbist p failed cfgFailed s) := by
  refine runs_of_onWrite hr fun v => mbKept_bistIn v fun v => ?_
  extract_lets arg s1 s2
  have h1 : KeepsHub v s1 := by
    unfold s1
    split
    · exact keepsHub_testClusters v _
    · exact .rfl'
  have h2 : KeepsHub s1 s2 := by
    unfold s2
    split
    · exact (keepsHub_fabricStop s1).trans (.of_regs_eq rfl)
    · exact .rfl'
  exact (MbKept.of_keepsHub (by decide) (h1.trans h2)).bistFinish _ _

theorem runs_lbist (hr : Reached s DEV_BIST_CMD) (p : Path) (failed : List (Fin 1088)) :
    Runs 41 s (execLbist p failed s) :=
  runs_of_onWrite hr fun v => mbKept_bistIn v fun v =>
    (MbKept.of_keepsHub (by decide) (keepsHub_testClusters v _)).bistFinish _ _

theorem runs_hbmBist (hr : Reached s DEV_BIST_CMD) (p : Path) (failed : List (Fin 128)) :
    Runs 41 s (execHbmBist p failed s) := by
  refine runs_of_onWrite hr fun v => mbKept_bistIn v fun v => ?_
  dsimp only
  split
  · exact .of_regs_eq rfl
  · exact (MbKept.of_keepsHub (by decide) (.foldl _ (fun v d _ => keepsHub_testStack _ v d) v)).bistFinish _ _

/-! ### Command rows -/

/-- Each command row that writes a CMD register runs a command of its unit. -/
theorem runs_of_mailboxRow {c : Instr} {u off : Nat} (h : mailboxRow c = some (u, off)) (hr : Reached s off) :
    Runs u s (exec c s) := by
  unfold mailboxRow at h
  split at h
  all_goals cases h
  · exact runs_load hr _ _
  · exact runs_billetCheck hr _ _
  · exact runs_unload hr _
  · exact runs_reload hr _ _
  · exact runs_replace hr _ _
  · exact runs_clreset hr _
  · exact runs_copyOut hr _ _
  · exact runs_fill hr _ _ _
  · exact runs_copyIn hr _ _ _
  · exact runs_copy hr _
  · exact runs_eyePoint hr _ _
  · exact runs_eyeWidth hr _ _ _
  · exact runs_loadSend hr _
  · exact runs_snap hr _
  · exact runs_exportLog hr _
  · exact runs_gbkErase hr _
  · exact runs_flush hr _
  · exact runs_loadSlot hr _
  · exact runs_loadMem hr _
  · exact runs_verify hr _
  · exact runs_cfgClear hr _
  · exact runs_fuseProg hr _
  · exact runs_mbist hr _ _ _
  · exact runs_lbist hr _ _
  · exact runs_hbmBist hr _ _

/-! ### Writes of CMD registers by REGISTER_WRITE -/

/-- A command of a unit, with the free values that its outcomes used up. -/
def WritesCommand (u : Nat) (s t : State) : Prop := ∃ n v, RunsCommand u s v ∧ t = v.drew n

theorem RunsCommand.writes {u : Nat} (h : RunsCommand u s t) (n : Nat := 0) : WritesCommand u s (t.drew n) := ⟨n, t, h, rfl⟩

theorem writesCommand_badCode (s : State) (u c : Nat) : WritesCommand u s (s.badCode u c) :=
  (runsCommand_badCode s u c).writes 0

/-- A meaning that a register write runs. -/
theorem Runs.writes {u : Nat} {r : Result} (h : Runs u s r) (n : Nat := 0) : WritesCommand u s ((s.ran r).drew n) := by
  obtain ⟨t, rfl, ht⟩ := h
  exact ht.writes n

theorem writes_cmdBillet (hr : Reached s BLT_CMD) (p : Path) (c : Nat) : WritesCommand 0 s (s.cmdBillet p c) := by
  unfold State.cmdBillet
  split
  · exact (runs_load hr p _).writes 3
  · exact (runs_billetCheck hr p _).writes 1
  · exact (runs_unload hr p).writes
  · exact (runs_reload hr p _).writes 3
  · exact (runs_replace hr p _).writes 2
  · exact (runs_clreset hr p).writes
  · exact writesCommand_badCode s 0 c

theorem writes_cmdHbc {d : Fin 4} (hr : Reached s (HBC_MB_CMD d)) (p : Path) (c : Nat) :
    WritesCommand (1 + d) s (s.cmdHbc p d c) := by
  unfold State.cmdHbc
  split
  · exact (runs_fill hr p _ _).writes 1
  · exact (runs_copyOut hr p _).writes 1
  · exact (runs_copyIn hr p _ _).writes 1
  · exact (runsCommand_hbcCommand s d c fun _ => .rfl').writes 0

theorem writes_cmdQuad {q : Fin 32} (hr : Reached s (SHR_MB_CMD q)) (p : Path) (c : Nat) :
    WritesCommand (6 + q) s (s.cmdQuad p q c) := by
  unfold State.cmdQuad
  split
  · exact (runs_eyePoint hr p _).writes 1
  · exact (runs_eyeWidth hr p _ _).writes 2
  · exact (runs_loadSend hr p).writes
  · exact writesCommand_badCode s _ c

theorem writes_cmdGuestbook (hr : Reached s GBK_MB_CMD) (p : Path) (c : Nat) :
    WritesCommand 39 s (s.cmdGuestbook p c) := by
  unfold State.cmdGuestbook
  split
  · exact (runs_exportLog hr p).writes
  · exact (runs_gbkErase hr p).writes
  · exact (runs_flush hr p).writes
  · exact writesCommand_badCode s 39 c

theorem writes_cmdConfig (hr : Reached s CFG_CMD) (p : Path) (c : Nat) : WritesCommand 40 s (s.cmdConfig p c) := by
  unfold State.cmdConfig
  split
  · exact (runs_loadSlot hr p).writes
  · exact (runs_loadMem hr p).writes
  · exact (runs_verify hr p).writes
  · exact (runs_cfgClear hr p).writes
  · exact (runs_fuseProg hr p).writes
  · exact writesCommand_badCode s 40 c

theorem writes_cmdBist (hr : Reached s DEV_BIST_CMD) (p : Path) (c : Nat) : WritesCommand 41 s (s.cmdBist p c) := by
  unfold State.cmdBist
  split
  · exact (runs_mbist hr p _ _).writes 35
  · exact (runs_lbist hr p _).writes 34
  · exact (runs_hbmBist hr p _).writes 4
  · exact writesCommand_badCode s 41 c

/-! ### The dispatch of a write to a CMD register -/

theorem State.writeHit_bltCmd (s : State) (p : Path) (v : Word) :
    s.writeHit p BLT_CMD v = s.cmdBillet p (slice v.toNat 0 4) := rfl

theorem State.writeHit_acqCmd (s : State) (p : Path) (v : Word) :
    s.writeHit p ACQ_MB_CMD v =
      if slice v.toNat 0 4 = 1 then s.ran (execCopy p s) else s.badCode 5 (slice v.toNat 0 4) := rfl

theorem State.writeHit_fabCmd (s : State) (p : Path) (v : Word) :
    s.writeHit p FAB_MB_CMD v =
      if slice v.toNat 0 4 = 1 then s.ran (execSnap p s) else s.badCode 38 (slice v.toNat 0 4) := rfl

theorem State.writeHit_gbkCmd (s : State) (p : Path) (v : Word) :
    s.writeHit p GBK_MB_CMD v = s.cmdGuestbook p (slice v.toNat 0 4) := rfl

theorem State.writeHit_cfgCmd (s : State) (p : Path) (v : Word) :
    s.writeHit p CFG_CMD v = s.cmdConfig p (slice v.toNat 0 4) := rfl

theorem State.writeHit_bistCmd (s : State) (p : Path) (v : Word) :
    s.writeHit p DEV_BIST_CMD v = s.cmdBist p (slice v.toNat 0 4) := rfl

theorem State.writeHit_hbcCmd (s : State) (p : Path) (d : Fin 4) (v : Word) :
    s.writeHit p (HBC_MB_CMD d) v = s.cmdHbc p d (slice v.toNat 0 4) := by
  have hd := d.isLt
  have hoff : HBC_MB_CMD d = 0x2000080 + d.val * 0x100000 := by unfold HBC_MB_CMD hbcBase; omega
  have hdie : Fin.ofNat 4 ((HBC_MB_CMD d - 0x2000000) / 0x100000) = d := by
    rw [hoff, show (0x2000080 + d.val * 0x100000 - 0x2000000) / 0x100000 = d.val by omega]
    exact Fin.ofNat_val_eq_self d
  unfold State.writeHit
  rw [if_neg (by omega), if_neg (by omega), if_pos (by omega)]
  unfold State.writeHbc
  rw [hdie, if_pos rfl]

theorem State.writeHit_shrCmd (s : State) (p : Path) (q : Fin 32) (v : Word) :
    s.writeHit p (SHR_MB_CMD q) v = s.cmdQuad p q (slice v.toNat 0 4) := by
  have hq := q.isLt
  have hoff : SHR_MB_CMD q = 0x1000100 + q.val * 0x10000 := by unfold SHR_MB_CMD quadBase; omega
  have hquad : (SHR_MB_CMD q - 0x1000000) / 0x10000 = q.val := by omega
  unfold State.writeHit
  rw [if_neg (by omega), if_pos (by omega)]
  unfold State.writeShr
  dsimp only
  rw [if_pos (by omega), hquad, if_pos rfl, Fin.ofNat_val_eq_self q]

/-- The CMD registers by kind of unit. -/
theorem mbCmd_cases (u : Fin 42) :
    (u.val = 0 ∧ mbCmd u = BLT_CMD) ∨ (∃ d : Fin 4, u.val = 1 + d.val ∧ mbCmd u = HBC_MB_CMD d) ∨
      (u.val = 5 ∧ mbCmd u = ACQ_MB_CMD) ∨ (∃ q : Fin 32, u.val = 6 + q.val ∧ mbCmd u = SHR_MB_CMD q) ∨
      (u.val = 38 ∧ mbCmd u = FAB_MB_CMD) ∨ (u.val = 39 ∧ mbCmd u = GBK_MB_CMD) ∨ (u.val = 40 ∧ mbCmd u = CFG_CMD) ∨
      (u.val = 41 ∧ mbCmd u = DEV_BIST_CMD) := by
  revert u; decide

theorem regAt_mbCmd : ∀ u : Fin 42, regAt (mbCmd u) ≠ none := by decide +kernel

/-- A write of a register that is reached and assigned. -/
theorem State.writeAt_reached {off : Nat} (h : Reached s off) (hr : regAt off ≠ none) (p : Path) (v : Word) :
    s.writeAt p off v = s.writeHit p off v := by
  unfold State.writeAt
  rw [State.onWrite_reached h]
  split
  · next e => exact absurd e hr
  · rfl

/-- A write of a CMD register that is reached runs a command of its unit. -/
theorem writesCommand_writeAt (u : Fin 42) (hr : Reached s (mbCmd u)) (p : Path) (v : Word) :
    WritesCommand u s (s.writeAt p (mbCmd u) v) := by
  rw [State.writeAt_reached hr (regAt_mbCmd u)]
  rcases mbCmd_cases u with ⟨hu, hc⟩ | ⟨d, hu, hc⟩ | ⟨hu, hc⟩ | ⟨q, hu, hc⟩ | ⟨hu, hc⟩ | ⟨hu, hc⟩ | ⟨hu, hc⟩ | ⟨hu, hc⟩ <;>
    rw [hc] at hr ⊢ <;> rw [hu]
  · rw [State.writeHit_bltCmd]; exact writes_cmdBillet hr p _
  · rw [State.writeHit_hbcCmd]; exact writes_cmdHbc hr p _
  · rw [State.writeHit_acqCmd]
    split
    · exact (runs_copy hr p).writes
    · exact writesCommand_badCode s 5 _
  · rw [State.writeHit_shrCmd]; exact writes_cmdQuad hr p _
  · rw [State.writeHit_fabCmd]
    split
    · exact (runs_snap hr p).writes
    · exact writesCommand_badCode s 38 _
  · rw [State.writeHit_gbkCmd]; exact writes_cmdGuestbook hr p _
  · rw [State.writeHit_cfgCmd]; exact writes_cmdConfig hr p _
  · rw [State.writeHit_bistCmd]; exact writes_cmdBist hr p _

/-- Settles O6: every CMD write, by a command row or by REGISTER_WRITE, runs a command whose work keeps the unit's STATUS
and RESULT registers as its acceptance left them. -/
theorem mailboxCommandsAreAcceptedOrRejected : Obligations.MailboxCommandsAreAcceptedOrRejected := by
  refine ⟨fun s c u off hrow hr => ?_, fun s p off v u hoff hr => ?_⟩
  · obtain ⟨t, ht, hrun⟩ := runs_of_mailboxRow hrow hr
    exact ⟨fun hb => ⟨t, ht, hrun.accepted hb⟩, fun hb => ⟨t, ht, hrun.rejected hb⟩⟩
  · rw [hoff] at hr
    obtain ⟨n, t, hrun, ht⟩ := writesCommand_writeAt u hr p v
    have hx : exec (.registerWrite p off 4 v) s = .next (t.drew n) := by
      rw [← ht, ← hoff]; rfl
    refine ⟨fun hb => ⟨_, hx, MbKept.accepted (hrun.accepted hb) (.of_regs_eq rfl)⟩, fun hb => ⟨_, hx, ?_⟩⟩
    rw [hrun.rejected hb]
    exact ⟨rfl, rfl, sameMemory_of_eq rfl rfl rfl⟩

end Sys2Proof.Machine

/-! The TAP controller (R813 to R816) and the supplies of the user I/O banks (R835): what an edge of TCK leaves, and which
pins read their levels. -/

namespace Sys2Proof.Machine

open Reg

variable {s t v : State}

/-! ### Single bits -/

theorem bitOf_eq_testBit (n i : Nat) : bitOf n i = n.testBit i := by
  rw [bitOf, Nat.testBit_eq_decide_div_mod_eq, beq_eq_decide]

theorem bitOf_toNat {w : Nat} (v : BitVec w) (i : Nat) : bitOf v.toNat i = v.getLsbD i := bitOf_eq_testBit _ _

theorem testBit_putBit (n i : Nat) (b : Bool) (j : Nat) :
    (putBit n i b).testBit j = if j = i then b else n.testBit j := by
  unfold putBit
  rw [testBit_splice]
  by_cases h : j = i
  · subst h; cases b <;> simp
  · rw [if_neg h]
    by_cases h1 : j < i
    · rw [if_pos h1]
    · rw [if_neg h1, if_neg (by omega)]

/-! ### The TAP controller (R813 to R816) -/

/-- The table of next states. -/
theorem tapStep_eq : ∀ st < 16, ∀ tms, tapStep st tms =
    (if tms then [0, 2, 9, 5, 5, 8, 7, 8, 2, 0, 12, 12, 15, 14, 15, 2] else
      [1, 1, 3, 4, 4, 6, 6, 4, 1, 10, 11, 11, 13, 13, 11, 1]).getD st 0 := by decide

/-- The TAP holds no register and no byte of the memories. -/
theorem frame_setTap (s : State) (x : TapUnit) : Frame [] s (s.setTap x) :=
  ⟨fun _ _ => rfl, sameMemory_of_eq rfl rfl rfl⟩

/-- A rising edge leaves the instruction in force. -/
theorem State.tckRise_ir (s : State) (tms tdi : Bool) (pins : List Bool) :
    (s.tckRise tms tdi pins).tst.tap.ir = s.tst.tap.ir := by
  unfold State.tckRise
  dsimp only [State.setTap, State.setTst]
  split <;> rfl

/-- Capture-DR. -/
theorem State.tckRise_capture (h : s.tst.tap.st = 3) (tms tdi : Bool) (pins : List Bool) :
    (s.tckRise tms tdi pins).tst.tap.dr = s.tapCapture pins := by
  unfold State.tckRise
  dsimp only [State.setTap, State.setTst]
  rw [h]; rfl

/-- Shift-DR. -/
theorem State.tckRise_shift (h : s.tst.tap.st = 4) (tms tdi : Bool) (pins : List Bool) :
    (s.tckRise tms tdi pins).tst.tap.dr = s.tst.tap.dr / 2 + ofBool tdi * 2 ^ (tapLength s.tst.tap.ir - 1) := by
  unfold State.tckRise
  dsimp only [State.setTap, State.setTst]
  rw [h]; rfl

/-- Shift-IR. -/
theorem State.tckRise_irShift (h : s.tst.tap.st = 11) (tms tdi : Bool) (pins : List Bool) :
    (s.tckRise tms tdi pins).tst.tap.irShift = s.tst.tap.irShift / 2 + ofBool tdi * 128 := by
  unfold State.tckRise
  dsimp only [State.setTap, State.setTst]
  rw [h]; rfl

/-- IDCODE is captured while its instruction is in force. -/
theorem State.tapCapture_idcode (h : s.tst.tap.ir = 1) (pins : List Bool) : s.tapCapture pins = s.idcode := by
  unfold State.tapCapture
  rw [h]; rfl

/-- What the work of a falling edge leaves: the state of the controller, the registers and the memories. -/
theorem State.tckFall_rest (s : State) : s.tckFall.tst.tap.st = s.tst.tap.st ∧ Frame [] s s.tckFall := by
  unfold State.tckFall
  extract_lets t s1 out
  have h1 : s1.tst.tap.st = t.st ∧ Frame [] s s1 := by
    unfold s1
    repeat' split
    all_goals exact ⟨rfl, fun _ _ => rfl, sameMemory_of_eq rfl rfl rfl⟩
  exact ⟨h1.1, h1.2.trans (frame_setTap s1 _)⟩

theorem State.tckFall_ir (s : State) (n : Nat)
    (h : (s.tst.tap.st = 15 ∧ n = s.tst.tap.irShift) ∨ (s.tst.tap.st = 0 ∧ n = 1)) :
    s.tckFall.tst.tap.ir = n := by
  unfold State.tckFall
  obtain ⟨h, rfl⟩ | ⟨h, rfl⟩ := h
  all_goals
    simp only [h]
    rfl

/-- TDO changes at a falling edge, and is high-impedance outside the two shift states. -/
theorem State.tckFall_tdo (s : State) : s.tckFall.tst.tap.tdo =
    if s.tst.tap.st = 4 then some (s.tst.tap.dr % 2 == 1)
    else if s.tst.tap.st = 11 then some (s.tst.tap.irShift % 2 == 1)
    else none := by
  unfold State.tckFall
  dsimp only [State.setTap, State.setTst]
  split
  · next h => rw [h]; rfl
  · next h => rw [h]; rfl
  · next h4 h11 => rw [if_neg h4, if_neg h11]

/-! ### The supplies of the user I/O banks (R835) -/

/-- A bank without VCCIO reads 0, and each other one its levels. -/
theorem State.slice_pinLevels (s : State) (levels : Nat) {g : Nat} (hg : g < 24) :
    slice (s.pinLevels levels) (16 * g) 16 = if bitOf s.tst.vccioLow g then 0 else slice levels (16 * g) 16 := by
  have row (xs : List Nat) (n : Nat) :
      slice (xs.foldl (fun n g => if bitOf s.tst.vccioLow g then splice n (16 * g) 16 0 else n) n) (16 * g) 16 =
        if g ∈ xs ∧ bitOf s.tst.vccioLow g = true then 0 else slice n (16 * g) 16 := by
    induction xs generalizing n with
    | nil => simp
    | cons x xs ih =>
      rw [List.foldl_cons, ih]
      by_cases hx : g = x
      · subst hx
        by_cases hb : bitOf s.tst.vccioLow g = true <;> simp [hb, slice_splice_same]
      · by_cases hb : bitOf s.tst.vccioLow x = true
        · rw [if_pos hb, slice_splice_apart _ _ _ _ _ _ (by omega)]; simp [hx]
        · rw [if_neg hb]; simp [hx]
  rw [State.pinLevels, row]
  simp [hg]

end Sys2Proof.Machine

/-! The loopback registers of a stop (R310, R311): fields set and counted within one register, and what a write of
MLR_STOP_LB does. -/

namespace Sys2Proof.Machine

open Reg

variable {s t v : State}

/-! ### Fields and flags -/

/-- A field of a register outside the list reads as before. -/
theorem OnlyRegs.f {l : List Nat} (h : OnlyRegs l s t) {F : Fld} (hF : F.off ∉ l) : t.f F = s.f F := by
  rw [State.f, h F.off hF, State.f]

/-- A flag that is set reads 1. -/
theorem State.f_of_flag {F : Fld} (h : s.flag F = true) (hw : F.w = 1) : s.f F = 1 := by
  have h0 := (s.flag_iff F).mp h
  have h1 := s.f_lt F
  rw [hw] at h1
  omega

theorem State.flag_of_f {F : Fld} (h : s.f F = 1) : s.flag F = true := (s.flag_iff F).mpr (by rw [h]; decide)

theorem State.f_eq_zero {F : Fld} (h : s.flag F = false) : s.f F = 0 := by simpa [State.flag] using h

/-- A field of a register reads what it was set to. -/
theorem State.f_setF_fld_same (s : State) (o n : Nat) {lo w : Nat} (hw : lo + w ≤ 32) :
    (s.setF ⟨o, lo, w⟩ n).f ⟨o, lo, w⟩ = n % 2 ^ w :=
  s.f_setF_same ⟨o, lo, w⟩ n hw

/-- A field reads as before when one of the same register that lies apart is set. -/
theorem State.f_setF_fld (s : State) (o n : Nat) {lo w lo' w' : Nat} (hw : lo + w ≤ 32)
    (h : lo' + w' ≤ lo ∨ lo + w ≤ lo') :
    (s.setF ⟨o, lo, w⟩ n).f ⟨o, lo', w'⟩ = s.f ⟨o, lo', w'⟩ :=
  s.f_setF_apart n rfl hw h

/-- A field of a register set: the register alone changes. -/
theorem frame_setF_fld (s : State) (o lo w n : Nat) : Frame [o] s (s.setF ⟨o, lo, w⟩ n) := frame_setF s ⟨o, lo, w⟩ n

/-- A saturating count in a field of a register. -/
theorem State.f_bump_fld_same (s : State) (o k : Nat) {lo w : Nat} (hw : lo + w ≤ 32) :
    (s.bump ⟨o, lo, w⟩ k).f ⟨o, lo, w⟩ = min (s.f ⟨o, lo, w⟩ + k) (2 ^ w - 1) :=
  s.f_bump_same ⟨o, lo, w⟩ k hw

/-- A field reads as before when one of the same register that lies apart counts. -/
theorem State.f_bump_fld (s : State) (o k : Nat) {lo w lo' w' : Nat} (hw : lo + w ≤ 32)
    (h : lo' + w' ≤ lo ∨ lo + w ≤ lo') :
    (s.bump ⟨o, lo, w⟩ k).f ⟨o, lo', w'⟩ = s.f ⟨o, lo', w'⟩ :=
  s.f_setF_fld o _ hw h

theorem frame_bump_fld (s : State) (o lo w k : Nat) : Frame [o] s (s.bump ⟨o, lo, w⟩ k) := frame_setF_fld s o lo w _

/-- An error flag reads 1 once it is raised. -/
theorem State.f_raise_same (s : State) {F : Fld} (b r i n : Nat) (hw : F.w = 1) (hlo : F.lo < 32)
    (hF : F.off ∉ noticeRegs) :
    (s.raise F b r i n).f F = 1 := by
  unfold State.raise
  split
  · next h => exact State.f_of_flag h hw
  · rw [(noticed_count _ _ _).f hF, s.f_setF_same F 1 (by omega), hw]; rfl

/-- A bit that is RW and has no other access code takes the value written to it. -/
theorem State.f_writeBits_rw (s : State) (v : Word) {F : Fld} {d : RegDef} {i : Nat} (h : regAt F.off = some (d, i))
    (hw : F.lo + F.w ≤ 32)
    (hrw : ∀ k < F.w, d.rw.testBit (F.lo + k) = true ∧
      d.w1c.testBit (F.lo + k) = false ∧ d.w1s.testBit (F.lo + k) = false) :
    (s.writeBits F.off v).f F = slice v.toNat F.lo F.w := by
  unfold State.writeBits
  rw [h]
  dsimp only
  rw [State.f_setReg_same _ _ rfl]
  refine Nat.eq_of_testBit_eq fun k => ?_
  rw [testBit_slice, testBit_slice]
  by_cases hk : k < F.w
  · obtain ⟨h1, h2, h3⟩ := hrw k hk
    have h32 : F.lo + k < 32 := by omega
    simp only [BitVec.testBit_toNat, BitVec.getLsbD_or, BitVec.getLsbD_and, BitVec.getLsbD_not, BitVec.getLsbD_ofNat, h1,
      h2, h3, h32]
    simp
  · simp [hk]

/-! ### The registers of a stop -/

/-- The registers of a stop lie beyond the hub. -/
theorem not_noticeRegs_of_far {o : Nat} (h : 0x1000000 ≤ o) : o ∉ noticeRegs := by
  have near : ∀ x ∈ noticeRegs, x < 0x1000000 := by decide
  exact fun hm => absurd (near o hm) (Nat.not_lt.mpr h)

theorem stopBase_far (d r p : Nat) : 0x1000000 ≤ stopBase d r p := by unfold stopBase mlrBase; omega

/-- The register of a block at a local offset. -/
theorem regAt_of_block {off o i : Nat} {l : List RegDef} {d : RegDef} (h : blockOf off = some (l, o))
    (e : findReg l o = some (d, i)) : regAt off = some (d, i) := by
  unfold regAt
  rw [h]
  exact e

/-- The block of a die holds its stops from offset 0x10000 (R313). -/
theorem blockOf_stop {off : Nat} (h1 : 0x3000000 ≤ off) (h2 : off < 0x4000000) (h3 : 0x10000 ≤ off % 0x400000)
    (h4 : off % 0x400000 < 0x18000) (h5 : off % 0x1000 < 0x900) : blockOf off = some (stopRegs, off % 0x40) := by
  unfold blockOf
  rw [if_neg (by omega), if_neg (by omega), if_neg (by omega), if_neg (by omega), if_neg (by omega), if_pos (by omega)]
  dsimp only
  rw [if_neg (by omega), if_pos (by omega), Nat.mod_mod_of_dvd off (by decide)]

theorem regAt_stopLb (d : Fin 4) (r : Fin 8) (pos : Fin 36) :
    regAt (MLR_STOP_LB (stopBase d r pos)) = some (⟨0x14, 4, 1, 0, 0, 0xffff0007, 0, 0, 0, 0⟩, 0) := by
  have hd := d.isLt
  have hr := r.isLt
  have hp := pos.isLt
  have entry : findReg stopRegs 0x14 = some (⟨0x14, 4, 1, 0, 0, 0xffff0007, 0, 0, 0, 0⟩, 0) := by decide
  refine regAt_of_block ?_ entry
  unfold MLR_STOP_LB stopBase mlrBase
  rw [blockOf_stop (by omega) (by omega) (by omega) (by omega) (by omega)]
  congr 2
  omega

/-- A bit of MLR_STOP_ERR that is set (R314): the bit, and what a counted occurrence changes. -/
theorem State.stopErr_same (s : State) (d r p : Nat) (F : Nat → Fld) {lo : Nat} (hlo : lo < 32)
    (hF : F (stopBase d r p) = ⟨MLR_STOP_ERR (stopBase d r p), lo, 1⟩) :
    (s.stopErr d r p F).f (F (stopBase d r p)) = 1 := by
  refine s.f_raise_same _ _ _ _ ?_ ?_ ?_ <;> rw [hF]
  · exact hlo
  · exact not_noticeRegs_of_far ((stopBase_far d r p).trans (Nat.le_add_right _ _))

theorem State.stopErr_mlr (s : State) (d r p : Nat) (F : Nat → Fld) : (s.stopErr d r p F).mlr = s.mlr := by
  unfold State.stopErr State.raise
  split
  · rfl
  · rw [(noticed_count _ _ _).rest]; rfl

theorem frame_stopErr (s : State) (d r p : Nat) (F : Nat → Fld)
    (hF : (F (stopBase d r p)).off = MLR_STOP_ERR (stopBase d r p)) :
    Frame (MLR_STOP_ERR (stopBase d r p) :: noticeRegs) s (s.stopErr d r p F) := hF ▸ frame_raise _ _ _ _ _

/-! ### The test generator of a stop -/

@[simp] theorem State.loopback_setLoopback (s : State) (d stop : Nat) (x : Loopback) :
    (s.setLoopback d stop x).loopback d stop = x := by
  simp [State.loopback, State.setLoopback, State.setDie, State.die]

@[simp] theorem State.setLoopback_f (s : State) (d stop : Nat) (x : Loopback) (F : Fld) :
    (s.setLoopback d stop x).f F = s.f F := s.setDie_f d _ F

theorem State.loopback_of_mlr_eq (h : t.mlr = s.mlr) (d stop : Nat) : t.loopback d stop = s.loopback d stop := by
  rw [State.loopback, State.die, h, State.loopback, State.die]

theorem frame_setLoopback (s : State) (d stop : Nat) (x : Loopback) : Frame [] s (s.setLoopback d stop x) :=
  ⟨fun _ _ => rfl, sameMemory_of_eq rfl rfl rfl⟩

/-! ### Writes of MLR_STOP_LB (R310, R311) -/

section Writes

variable {d : Fin 4} {r : Fin 8} {pos : Fin 36} (hr : Reached s (MLR_STOP_LB (stopBase d r pos))) (p : Path) (w : Word)
include hr

theorem exec_loopbackModeWrite : exec (.loopbackModeWrite p d r pos w) s = .next (s.loopbackWrite d r pos w) :=
  congrArg Host.Outcome.next (State.onWrite_reached hr)

theorem exec_loopbackGo : exec (.loopbackGo p d r pos w) s = .next (s.loopbackWrite d r pos w) :=
  congrArg Host.Outcome.next (State.onWrite_reached hr)

end Writes

section LoopbackWrite

variable (s : State) (d : Fin 4) (r : Fin 8) (pos : Fin 36) (v : Word)

/-- Outside DIAGNOSE a mode, and GO, are refused. -/
theorem State.loopbackWrite_refused (hm : s.mode ≠ Mode.diagnose) (hv : slice v.toNat 0 2 ≠ 0 ∨ v.getLsbD 3 = true) :
    s.loopbackWrite d r pos v = s.stopErr d r pos MLR_STOP_ERR_LB_STATE := by
  unfold State.loopbackWrite
  rw [bitOf_toNat]
  exact if_pos ⟨hm, hv⟩

/-- What a refused write leaves. -/
theorem State.stopErr_lbState :
    (s.stopErr d r pos MLR_STOP_ERR_LB_STATE).f (MLR_STOP_ERR_LB_STATE (stopBase d r pos)) = 1 ∧
    (s.stopErr d r pos MLR_STOP_ERR_LB_STATE).mlr = s.mlr ∧
    Frame (MLR_STOP_ERR (stopBase d r pos) :: noticeRegs) s (s.stopErr d r pos MLR_STOP_ERR_LB_STATE) :=
  ⟨s.stopErr_same d r pos _ (by decide) rfl, s.stopErr_mlr d r pos _, frame_stopErr s d r pos _ rfl⟩

theorem State.loopbackWrite_plain (hm : s.mode = Mode.diagnose) (hg : v.getLsbD 3 = false) :
    s.loopbackWrite d r pos v = s.writeBits (MLR_STOP_LB (stopBase d r pos)) v := by
  unfold State.loopbackWrite
  rw [bitOf_toNat, hg]
  dsimp only
  rw [if_neg (fun h => h.1 hm), if_neg Bool.false_ne_true]

theorem State.loopbackWrite_go (hm : s.mode = Mode.diagnose) (hg : v.getLsbD 3 = true) :
    s.loopbackWrite d r pos v =
      (s.writeBits (MLR_STOP_LB (stopBase d r pos)) v).loopbackStart d r pos (slice v.toNat 16 16) := by
  unfold State.loopbackWrite
  rw [bitOf_toNat, hg]
  dsimp only
  rw [if_neg (fun h => h.1 hm), if_pos rfl]

/-- The fields of MLR_STOP_LB take the value written. -/
theorem State.f_writeBits_stopLb {lo w : Nat} (hw : lo + w ≤ 32) (hrw : ∀ k < w, (0xffff0007).testBit (lo + k) = true) :
    (s.writeBits (MLR_STOP_LB (stopBase d r pos)) v).f ⟨MLR_STOP_LB (stopBase d r pos), lo, w⟩ = slice v.toNat lo w :=
  s.f_writeBits_rw v (F := ⟨MLR_STOP_LB (stopBase d r pos), lo, w⟩) (regAt_stopLb d r pos) hw
    fun k hk => ⟨hrw k hk, Nat.zero_testBit _, Nat.zero_testBit _⟩

/-- GO with a count: the counters are cleared and the generator starts. -/
theorem State.loopbackStart_fields (d r p : Nat) {n : Nat} (hn : n ≠ 0) :
    let t := s.loopbackStart d r p n
    t.f (MLR_STOP_LBSTAT_BUSY (stopBase d r p)) = 1 ∧ t.f (MLR_STOP_LBSTAT_RCVD (stopBase d r p)) = 0 ∧
      t.f (MLR_STOP_LBSTAT_ERRS (stopBase d r p)) = 0 ∧ (t.loopback d (stopIx r p)).left = n ∧
      (t.loopback d (stopIx r p)).expect = 0 ∧ Frame [MLR_STOP_LBSTAT (stopBase d r p)] s t := by
  unfold State.loopbackStart
  rw [if_neg hn]
  extract_lets b mode s1 t
  have busy : s1.f (MLR_STOP_LBSTAT_BUSY b) = 1 := State.f_setF_fld_same _ _ _ (by decide)
  have rcvd : s1.f (MLR_STOP_LBSTAT_RCVD b) = 0 :=
    (State.f_setF_fld _ _ _ (by decide) (by decide)).trans
      ((State.f_setF_fld _ _ _ (by decide) (by decide)).trans (State.f_setF_fld_same _ _ _ (by decide)))
  have errs : s1.f (MLR_STOP_LBSTAT_ERRS b) = 0 :=
    (State.f_setF_fld _ _ _ (by decide) (by decide)).trans (State.f_setF_fld_same _ _ _ (by decide))
  have frame : Frame [MLR_STOP_LBSTAT b] s s1 :=
    ((frame_setF_fld s _ 0 16 0).trans (frame_setF_fld _ _ 16 15 0)).trans (frame_setF_fld _ _ 31 1 1)
  simp only [t, State.setLoopback_f, State.loopback_setLoopback]
  exact ⟨busy, rcvd, errs, trivial, trivial, frame.trans ((frame_setLoopback s1 _ _ _).mono (List.nil_subset _))⟩

theorem State.loopbackStart_zero (d r p : Nat) : s.loopbackStart d r p 0 = s := if_pos rfl

end LoopbackWrite

end Sys2Proof.Machine

/-! The loopback test of a stop as its flits arrive or time out (R309, R310), and the loopback enables of the
other units (R801). -/

namespace Sys2Proof.Machine

open Reg

variable {s t u : State}

/-! ### Test flits that reach their checker (R309, R310) -/

/-- A test flit that has reached the checker is counted. -/
def State.testCount (u : State) (d r p : Nat) : State :=
  let x := u.loopback d (stopIx r p)
  (u.bump (MLR_STOP_LBSTAT_RCVD (stopBase d r p)) 1).setLoopback d (stopIx r p)
    { x with left := x.left - 1, expect := x.expect + 1 }

/-- A test flit whose payload is not the expected count. -/
def State.testMiss (s : State) (d r p : Nat) : State :=
  (s.bump (MLR_STOP_LBSTAT_ERRS (stopBase d r p)) 1).stopErr d r p MLR_STOP_ERR_LB_MISMATCH

/-- BUSY of the generator at offset b is cleared with the last flit. -/
def State.testEnd (s : State) (b left : Nat) : State := if left = 1 then s.setF (MLR_STOP_LBSTAT_BUSY b) 0 else s

/-- A flit of the generator x reaches the checker in state u. -/
theorem exec_loopbackReceive {d : Fin 4} {r : Fin 8} {pos : Fin 36} {x : Loopback} (f : Syl)
    (hx : x = s.loopback d (stopIx r pos)) (hl : x.left ≠ 0) (hon : s.domainOn (32 + d) = true)
    (hu : s.testArrives d r pos x = some u) :
    exec (.loopbackReceive d r pos f) s = .next (State.testEnd
      (if f.toNat = x.expect % 262144 then u.testCount d r pos else (u.testCount d r pos).testMiss d r pos)
      (stopBase d r pos) x.left) := by
  subst hx
  have h : ¬ ((s.loopback d (stopIx r pos)).left = 0 ∨ (!s.dieOn d) = true) := by simp [hl, State.dieOn, hon]
  show execLoopbackReceive d r pos f s = _
  unfold execLoopbackReceive
  dsimp only
  rw [if_neg h, hu]
  rfl

/-- No flit is waited for, or none is under way: nothing happens. -/
theorem exec_loopbackReceive_idle {d : Fin 4} {r : Fin 8} {pos : Fin 36} (f : Syl)
    (h : (s.loopback d (stopIx r pos)).left = 0 ∨ (s.loopback d (stopIx r pos)).mode = 0) :
    exec (.loopbackReceive d r pos f) s = .next s := by
  show execLoopbackReceive d r pos f s = _
  unfold execLoopbackReceive
  dsimp only
  split
  · rfl
  · next hn =>
    have hmode := h.resolve_left fun h0 => hn (.inl h0)
    have none : s.testArrives d r pos (s.loopback d (stopIx r pos)) = none := by
      unfold State.testArrives
      rw [hmode]
      rfl
    rw [none]

/-- After its way round the ring a test flit leaves the link on which it stands. -/
theorem State.testArrives_ring {d : Nat} {r pos : Nat} {x : Loopback} {g : Nat} (hm : x.mode = 2)
    (hb : isBridge pos = false) (hg : (s.linkAt d (stopIx r pos) x.dir).find? (fun y => flitDst y == pos) = some g) :
    s.testArrives d r pos x = some (s.leaveLink d (stopIx r pos) x.dir g) := by
  unfold State.testArrives
  dsimp only
  rw [if_neg (by simp [hm]), if_neg (not_not_intro hm), hb, if_neg Bool.false_ne_true, hg]

section Checker

variable (s : State) (d r p : Nat)

/-- A field of MLR_STOP_LBSTAT lies outside what an error of the stop changes. -/
theorem stopLbstat_apart : MLR_STOP_LBSTAT (stopBase d r p) ∉ MLR_STOP_ERR (stopBase d r p) :: noticeRegs := by
  have far := not_noticeRegs_of_far ((stopBase_far d r p).trans (Nat.le_add_right _ 0x18))
  simp only [List.mem_cons, not_or]
  exact ⟨by unfold MLR_STOP_LBSTAT MLR_STOP_ERR; omega, far⟩

/-- RCVD, the flits still waited for and the next count, and nothing else, follow a flit that is counted. -/
theorem State.testCount_fields :
    (s.testCount d r p).f (MLR_STOP_LBSTAT_RCVD (stopBase d r p)) =
        min (s.f (MLR_STOP_LBSTAT_RCVD (stopBase d r p)) + 1) 65535 ∧
      (s.testCount d r p).f (MLR_STOP_LBSTAT_ERRS (stopBase d r p)) = s.f (MLR_STOP_LBSTAT_ERRS (stopBase d r p)) ∧
      (s.testCount d r p).f (MLR_STOP_LBSTAT_BUSY (stopBase d r p)) = s.f (MLR_STOP_LBSTAT_BUSY (stopBase d r p)) ∧
      ((s.testCount d r p).loopback d (stopIx r p)).left = (s.loopback d (stopIx r p)).left - 1 ∧
      ((s.testCount d r p).loopback d (stopIx r p)).expect = (s.loopback d (stopIx r p)).expect + 1 ∧
      Frame [MLR_STOP_LBSTAT (stopBase d r p)] s (s.testCount d r p) := by
  simp only [State.testCount, State.setLoopback_f, State.loopback_setLoopback]
  exact ⟨s.f_bump_fld_same _ 1 (by decide), s.f_bump_fld _ 1 (by decide) (by decide),
    s.f_bump_fld _ 1 (by decide) (by decide), trivial, trivial,
    (frame_bump_fld s _ 0 16 1).trans ((frame_setLoopback _ _ _ _).mono (List.nil_subset _))⟩

/-- ERRS and the error bit, and nothing else of the stop, follow a flit that is not the expected one. -/
theorem State.testMiss_fields :
    (s.testMiss d r p).f (MLR_STOP_LBSTAT_ERRS (stopBase d r p)) =
        min (s.f (MLR_STOP_LBSTAT_ERRS (stopBase d r p)) + 1) 32767 ∧
      (s.testMiss d r p).f (MLR_STOP_LBSTAT_RCVD (stopBase d r p)) = s.f (MLR_STOP_LBSTAT_RCVD (stopBase d r p)) ∧
      (s.testMiss d r p).f (MLR_STOP_LBSTAT_BUSY (stopBase d r p)) = s.f (MLR_STOP_LBSTAT_BUSY (stopBase d r p)) ∧
      (s.testMiss d r p).f (MLR_STOP_ERR_LB_MISMATCH (stopBase d r p)) = 1 ∧ (s.testMiss d r p).mlr = s.mlr ∧
      Frame ([MLR_STOP_LBSTAT (stopBase d r p), MLR_STOP_ERR (stopBase d r p)] ++ noticeRegs) s (s.testMiss d r p) := by
  have err := frame_stopErr (s.bump (MLR_STOP_LBSTAT_ERRS (stopBase d r p)) 1) d r p MLR_STOP_ERR_LB_MISMATCH rfl
  have stat (lo w : Nat) : (s.testMiss d r p).f ⟨MLR_STOP_LBSTAT (stopBase d r p), lo, w⟩ =
      (s.bump (MLR_STOP_LBSTAT_ERRS (stopBase d r p)) 1).f ⟨MLR_STOP_LBSTAT (stopBase d r p), lo, w⟩ :=
    err.1.f (stopLbstat_apart d r p)
  refine ⟨(stat 16 15).trans (s.f_bump_fld_same _ 1 (by decide)),
    (stat 0 16).trans (s.f_bump_fld _ 1 (by decide) (by decide)), (stat 31 1).trans (s.f_bump_fld _ 1 (by decide) (by decide)),
    State.stopErr_same _ d r p _ (by decide) rfl, (State.stopErr_mlr _ d r p _).trans (State.bump_mlr s _ 1), ?_⟩
  exact ((frame_bump_fld s _ 16 15 1).mono (by simp)).trans (err.mono (List.subset_cons_self _ _))

/-- BUSY alone follows the last flit. -/
theorem State.testEnd_fields (b left : Nat) :
    (∀ {lo w : Nat}, lo + w ≤ 31 → (s.testEnd b left).f ⟨MLR_STOP_LBSTAT b, lo, w⟩ = s.f ⟨MLR_STOP_LBSTAT b, lo, w⟩) ∧
      (s.testEnd b left).f (MLR_STOP_LBSTAT_BUSY b) = (if left = 1 then 0 else s.f (MLR_STOP_LBSTAT_BUSY b)) ∧
      (s.testEnd b left).mlr = s.mlr ∧ Frame [MLR_STOP_LBSTAT b] s (s.testEnd b left) := by
  unfold State.testEnd
  split
  · exact ⟨fun h => s.f_setF_fld _ _ (by decide) (.inl h), s.f_setF_fld_same _ _ (by decide), s.setF_mlr _ 0,
      frame_setF_fld s _ 31 1 0⟩
  · exact ⟨fun _ => rfl, rfl, rfl, .rfl'⟩

end Checker

/-- What the checker of a stop leaves of a flit that has reached it. -/
theorem completes_loopbackReceive {d : Fin 4} {r : Fin 8} {pos : Fin 36} {b : Nat} {x : Loopback} (f : Syl)
    (hb : b = stopBase d r pos) (hx : x = s.loopback d (stopIx r pos)) (hl : x.left ≠ 0)
    (hon : s.domainOn (32 + d) = true) (hu : s.testArrives d r pos x = some u) :
    Completes (.loopbackReceive d r pos f) s fun t =>
      t.f (MLR_STOP_LBSTAT_RCVD b) = min (u.f (MLR_STOP_LBSTAT_RCVD b) + 1) 65535 ∧
        (t.loopback d (stopIx r pos)).left = (u.loopback d (stopIx r pos)).left - 1 ∧
        (t.loopback d (stopIx r pos)).expect = (u.loopback d (stopIx r pos)).expect + 1 ∧
        t.f (MLR_STOP_LBSTAT_BUSY b) = (if x.left = 1 then 0 else u.f (MLR_STOP_LBSTAT_BUSY b)) ∧
        (f.toNat = x.expect % 262144 →
          t.f (MLR_STOP_LBSTAT_ERRS b) = u.f (MLR_STOP_LBSTAT_ERRS b) ∧ Frame [MLR_STOP_LBSTAT b] u t) ∧
        (f.toNat ≠ x.expect % 262144 →
          t.f (MLR_STOP_LBSTAT_ERRS b) = min (u.f (MLR_STOP_LBSTAT_ERRS b) + 1) 32767 ∧
            t.f (MLR_STOP_ERR_LB_MISMATCH b) = 1 ∧
            Frame ([MLR_STOP_LBSTAT b, MLR_STOP_ERR b] ++ noticeRegs) u t) := by
  refine ⟨_, exec_loopbackReceive f hx hl hon hu, ?_⟩
  subst hb
  obtain ⟨rcvd, errs, busy, left, expect, frame⟩ := u.testCount_fields d r pos
  by_cases hf : f.toNat = x.expect % 262144
  · rw [if_pos hf]
    obtain ⟨estat, ebusy, emlr, eframe⟩ := (u.testCount d r pos).testEnd_fields (stopBase d r pos) x.left
    rw [State.loopback_of_mlr_eq emlr]
    exact ⟨(estat (by decide)).trans rcvd, left, expect, by rw [ebusy, busy],
      fun _ => ⟨(estat (by decide)).trans errs, frame.trans eframe⟩, fun h => absurd hf h⟩
  · rw [if_neg hf]
    obtain ⟨merrs, mrcvd, mbusy, mbit, mmlr, mframe⟩ := (u.testCount d r pos).testMiss_fields d r pos
    obtain ⟨estat, ebusy, emlr, eframe⟩ :=
      ((u.testCount d r pos).testMiss d r pos).testEnd_fields (stopBase d r pos) x.left
    rw [State.loopback_of_mlr_eq (emlr.trans mmlr)]
    have bit : MLR_STOP_ERR (stopBase d r pos) ∉ [MLR_STOP_LBSTAT (stopBase d r pos)] := by
      simp only [List.mem_singleton, MLR_STOP_LBSTAT, MLR_STOP_ERR]
      omega
    refine ⟨(estat (by decide)).trans (mrcvd.trans rcvd), left, expect, by rw [ebusy, mbusy, busy],
      fun h => absurd h hf, fun _ => ⟨(estat (by decide)).trans (merrs.trans (by rw [errs])),
        (eframe.1.f bit).trans mbit, ?_⟩⟩
    exact ((frame.mono (by simp)).trans mframe).trans (eframe.mono (by simp))

/-! ### The end of a loopback test without its flits (R310) -/

theorem exec_loopbackBusyTimeout {d : Fin 4} {r : Fin 8} {pos : Fin 36} {x : Loopback}
    (hx : x = s.loopback d (stopIx r pos)) (hb : s.f (MLR_STOP_LBSTAT_BUSY (stopBase d r pos)) = 1)
    (hs : x.sentAt ≤ s.hub) (he : s.elapsedRing x.sentAt 4096 = true) (hm : x.mode ≠ 2 ∨ x.toSend = 0) :
    exec (.loopbackBusyTimeout d r pos) s =
      .next ((s.setLoopback d (stopIx r pos) { x with left := 0 }).setF (MLR_STOP_LBSTAT_BUSY (stopBase d r pos)) 0) := by
  subst hx
  refine if_pos ⟨State.flag_of_f hb, hs, ?_, he⟩
  simpa only [Bool.not_eq_true', decide_eq_false_iff_not, not_and_or, not_not] using hm

theorem exec_loopbackBusyTimeout_early {d : Fin 4} {r : Fin 8} {pos : Fin 36}
    (he : s.elapsedRing (s.loopback d (stopIx r pos)).sentAt 4096 = false) :
    exec (.loopbackBusyTimeout d r pos) s = .next s := by
  refine if_neg fun ⟨_, _, _, h⟩ => ?_
  rw [he] at h
  exact Bool.false_ne_true h

/-! ### Writes of the loopback enables (R801) -/

theorem exec_loopbackEnableWrite {off : WinOff} (hr : Reached s off.toNat)
    (ho : off.toNat = MGE_LB ∨ off.toNat = FAB_IO_LB ∨ off.toNat = TMK_LB) (p : Path) (v : Word) :
    exec (.loopbackEnableWrite p off v) s = .next (s.loopWrite p off.toNat v) := by
  show execLoopbackEnableWrite p off v s = _
  unfold execLoopbackEnableWrite
  rw [State.onWrite_reached hr, if_pos ho]

theorem slice_zero_of_wider {n w w' : Nat} (h : w ≤ w') (h0 : slice n 0 w' = 0) : slice n 0 w = 0 := by
  unfold slice at *
  rw [pow_zero, Nat.div_one] at *
  exact Nat.mod_eq_zero_of_dvd ((pow_dvd_pow 2 h).trans (Nat.dvd_of_mod_eq_zero h0))

theorem State.loopWrite_diagnose (hm : s.mode = Mode.diagnose) {p : Path} {off : Nat}
    (hp : off = MGE_LB → p.val ≠ 16) (v : Word) :
    s.loopWrite p off v = s.writeBits off v :=
  if_neg fun h => h.elim (fun h => h.1 hm) fun h => hp h.1 h.2

/-- Outside DIAGNOSE no loopback is enabled. -/
theorem State.loopWrite_refused (hm : s.mode ≠ Mode.diagnose) {v : Word} (hv : slice v.toNat 0 2 ≠ 0)
    (p : Path) (off : Nat) :
    s.loopWrite p off v = s := by
  refine if_pos (.inl ⟨hm, ?_⟩)
  split
  · exact hv
  split
  · exact fun h => hv (slice_zero_of_wider (by decide) h)
  · exact fun h => hv (slice_zero_of_wider (by decide) h)

/-- The management Ethernet port does not loop itself back. -/
theorem State.loopWrite_port {p : Path} {off : Nat} (ho : off = MGE_LB) (hp : p.val = 16) (v : Word) :
    s.loopWrite p off v = s := if_pos (.inr ⟨ho, hp⟩)

end Sys2Proof.Machine

/-! What the packet network writes of the registers, and the status that a cluster reads after its reset (R130, R133). -/

namespace Sys2Proof.Machine

open Reg

variable {s t v : State}

/-! ### The registers that the packet network writes -/

/-- The errors of a Confluence (R276, R316), the packets that a stop returned (R285), and what a counted occurrence
changes. -/
def PacketReg (o : Nat) : Prop :=
  (∃ d, o = MLR_CFL_ERR d ∨ o = MLR_CFL_INFO d) ∨ (∃ n, o = MLR_STOP_UCNT (nodeStop n)) ∨ o ∈ noticeRegs

/-- The packet network has been at work: the registers that it does not write are kept. -/
structure PacketKept (s t : State) : Prop where
  /-- Each of them reads as before. -/
  reg : ∀ o, ¬ PacketReg o → t.reg o = s.reg o

namespace PacketKept

theorem rfl' : PacketKept s s := ⟨fun _ _ => rfl⟩

theorem trans (h : PacketKept s t) (k : PacketKept t v) : PacketKept s v :=
  ⟨fun o ho => (k.reg o ho).trans (h.reg o ho)⟩

theorem of_regs_eq (h : t.regs = s.regs) : PacketKept s t := ⟨fun o _ => State.reg_of_regs_eq h o⟩

theorem setF (h : PacketKept s t) {F : Fld} {n : Nat} (hF : PacketReg F.off) : PacketKept s (t.setF F n) :=
  h.trans ⟨fun _ ho => t.reg_setF_ne n fun e => ho (e ▸ hF)⟩

theorem bump (h : PacketKept s t) {F : Fld} {n : Nat} (hF : PacketReg F.off) : PacketKept s (t.bump F n) := h.setF hF

theorem raise {F : Fld} {b r i n : Nat} (hF : PacketReg F.off) : PacketKept s (s.raise F b r i n) :=
  ⟨fun o ho => (frame_raise F b r i n).1 o fun hm =>
    (List.mem_cons.mp hm).elim (fun e => ho (e ▸ hF)) fun hn => ho (.inr (.inr hn))⟩

/-- A row of works, each of which keeps them. -/
theorem foldl {α : Type} {f : State → α → State} (xs : List α) (h : ∀ v x, PacketKept v (f v x)) (s : State) :
    PacketKept s (xs.foldl f s) := by
  induction xs generalizing s with
  | nil => exact rfl'
  | cons x xs ih => exact (h s x).trans (ih _)

end PacketKept

theorem packetKept_cflErr (s : State) (d : Nat) {F : Nat → Fld} (hF : (F d).off = MLR_CFL_ERR d) (port tag : Nat) :
    PacketKept s (s.cflErr d F port tag) := by
  have info : PacketReg (MLR_CFL_INFO d) := .inl ⟨d, .inr rfl⟩
  unfold State.cflErr
  extract_lets s1
  have h1 : PacketKept s s1 := .raise (.inl ⟨d, .inl hF⟩)
  split
  · exact h1
  · exact (((h1.setF (F := MLR_CFL_INFO_PORT d) info).setF (F := MLR_CFL_INFO_TAG d) info).setF
      (F := MLR_CFL_INFO_CODE d) info).setF (F := MLR_CFL_INFO_VALID d) info

theorem packetKept_cflRoute (s : State) (d port : Nat) (flits : List Nat) : PacketKept s (s.cflRoute d port flits) := by
  unfold State.cflRoute
  dsimp only
  split
  · exact (packetKept_cflErr s d rfl _ _).trans (.of_regs_eq (State.cflForward_regs _ _ _ _))
  · exact .of_regs_eq (State.cflForward_regs _ _ _ _)

theorem packetKept_transitDone (s : State) (d key : Nat) (flits : List Nat) :
    PacketKept s (s.transitDone d key flits) := by
  unfold State.transitDone
  extract_lets n s1
  have h1 : PacketKept s s1 := packetKept_cflRoute _ _ _ _
  split
  · exact h1
  · exact h1.trans (.of_regs_eq (s1.setDie_regs _ _))

theorem packetKept_cflTake {d key f : Nat} (h : s.cflTake d key f = some t) : PacketKept s t := by
  unfold State.cflTake at h
  dsimp only at h
  split at h
  · cases h
    split
    · exact .of_regs_eq (s.takeEndMark_regs _ _ _)
    · exact .rfl'
  · cases h
    exact packetKept_cflRoute _ _ _ _
  · split at h
    · cases h
      split
      · exact packetKept_transitDone _ _ _ _
      · exact .of_regs_eq (s.setDie_regs _ _)
    · cases h
  · split at h
    · cases h
      exact .rfl'
    · cases h
      split
      · exact (PacketKept.of_regs_eq (s.setDie_regs _ _)).trans (packetKept_transitDone _ _ _ _)
      · exact .of_regs_eq (s.setDie_regs _ _)
  · cases h
    exact .rfl'

theorem packetKept_drainQueue (n : Nat) (s : State) (d key : Nat) : PacketKept s (s.drainQueue d key n) := by
  induction n generalizing s with
  | zero => exact .rfl'
  | succ n ih =>
    unfold State.drainQueue
    split
    · exact .rfl'
    split
    · exact .rfl'
    split
    · next h => exact ((PacketKept.of_regs_eq (s.setExits_regs d key _)).trans (packetKept_cflTake h)).trans (ih _)
    · exact .rfl'

theorem packetKept_pushExit (s : State) (d key f : Nat) : PacketKept s (s.pushExit d key f) := by
  unfold State.pushExit
  exact (PacketKept.of_regs_eq (s.setExits_regs _ _ _)).trans (packetKept_drainQueue _ _ _ _)

theorem packetKept_netSend (s : State) (node : Nat) (flits : List Nat) : PacketKept s (s.netSend node flits) := by
  unfold State.netSend
  dsimp only
  split
  · split
    · exact .of_regs_eq (State.foldl_regs (fun v x => v.nodeTake_regs _ _ x) flits s)
    split
    · exact .foldl flits (fun v x => packetKept_pushExit v _ _ x) s
    split
    · exact .of_regs_eq (State.nodeTake_regs _ _ _ _)
    · exact .rfl'
  · split
    · exact .of_regs_eq (s.setDie_regs _ _)
    split
    · exact .foldl flits (fun v x => packetKept_pushExit v _ _ x) s
    · exact packetKept_cflRoute _ _ _ _

theorem stopUcntRet_off (b : Nat) : (MLR_STOP_UCNT_RET b).off = MLR_STOP_UCNT b := rfl

theorem packetKept_returnPacket (s : State) (node : Nat) (resp : Bool) (buf status : Nat) :
    PacketKept s (s.returnPacket node resp buf status) := by
  unfold State.returnPacket
  extract_lets b s1
  have h1 : PacketKept s s1 :=
    (PacketKept.of_regs_eq (s.setRecv_regs node resp buf _)).trans (packetKept_netSend _ node _)
  split
  · exact h1.bump (.inr (.inl ⟨node, stopUcntRet_off _⟩))
  · exact h1

theorem packetKept_stopDrain (s : State) (c : Nat) : PacketKept s (s.stopDrain c) := by
  unfold State.stopDrain
  extract_lets n s1
  have back (v : State) (x : Bool × Nat) : PacketKept v (v.returnPacket n x.1 x.2 1) :=
    packetKept_returnPacket v n x.1 x.2 1
  have h1 : PacketKept s s1 := .foldl _ back s
  exact h1.trans (.of_regs_eq (State.foldl_setRecv_regs _ _ s1))

theorem packetKept_stopReset (s : State) (c : Nat) : PacketKept s (s.stopReset c) := by
  unfold State.stopReset
  extract_lets n s1 tags s2
  have h1 : PacketKept s s1 := packetKept_stopDrain s c
  have h2 : s2.regs = s1.regs := State.foldl_regs (fun v g => v.complete_regs n g 1) _ s1
  exact (h1.trans (.of_regs_eq h2)).trans (.of_regs_eq (State.foldl_setRecv_regs _ _ s2))

/-! ### The state of clusters that are reset (R130) -/

theorem not_packetReg_cluStatus (c : Nat) : ¬ PacketReg (CLU_STATUS c) := by
  have far : 0x8000000 ≤ CLU_STATUS c := by unfold CLU_STATUS cluBase; omega
  rintro (⟨d, h | h⟩ | ⟨n, h⟩ | h)
  · unfold CLU_STATUS cluBase MLR_CFL_ERR mlrBase at h; omega
  · unfold CLU_STATUS cluBase MLR_CFL_INFO mlrBase at h; omega
  · unfold CLU_STATUS cluBase MLR_STOP_UCNT nodeStop stopBase mlrBase at h; omega
  · exact not_noticeRegs_of_far (le_trans (by decide) far) h

theorem resetOf_cluStatus {c : Nat} (hc : c < 1088) : resetOf (CLU_STATUS c) = 0 := by
  have entry : findReg cluRegs 8 = some (⟨8, 4, 1, 0, 0, 0, 0, 0, 0, 0⟩, 0) := by decide
  have block : blockOf (CLU_STATUS c) = some (cluRegs, 8) := by
    have hoff : CLU_STATUS c % 0x4000 = 8 := by unfold CLU_STATUS cluBase; omega
    have hlo : 0x8000000 ≤ CLU_STATUS c := by unfold CLU_STATUS cluBase; omega
    have hhi : CLU_STATUS c < 0x9100000 := by unfold CLU_STATUS cluBase; omega
    unfold blockOf
    rw [if_neg (by omega), if_neg (by omega), if_neg (by omega), if_neg (by omega), if_neg (by omega), if_neg (by omega),
      if_neg (by omega), if_neg (by omega), if_pos hhi, hoff]
  have fix : resetFix (CLU_STATUS c) 0 0 = 0 := by
    have hoff : CLU_STATUS c % 0x4000 ≠ 0 := by unfold CLU_STATUS cluBase; omega
    have hlo : 0x8000000 ≤ CLU_STATUS c := by unfold CLU_STATUS cluBase; omega
    unfold resetFix
    rw [if_neg (by omega), if_neg (by omega), if_neg (by omega), if_neg (by omega), if_neg (by omega), if_neg hoff]
  unfold resetOf
  rw [regAt_of_block block entry]
  dsimp only
  rw [fix]
  rfl

/-- Cluster reset returns CLU_STATUS to its reset value (R133). -/
theorem State.resetCluRegs_status (s : State) (c : Nat) :
    (s.resetCluRegs c).reg (CLU_STATUS c) = resetOf (CLU_STATUS c) := by
  have lo : Nat.ble (cluBase c) (CLU_STATUS c) = true := Nat.ble_eq.mpr (Nat.le_add_right _ _)
  have hi : Nat.blt (CLU_STATUS c) (cluBase c + 0x4000) = true := Nat.blt_eq.mpr (Nat.add_lt_add_left (by decide) _)
  have own : CLU_STATUS c - cluBase c = 8 := Nat.add_sub_cancel_left _ _
  rw [State.reg, State.resetCluRegs, Sparse.get_keep, lo, hi, own]
  rfl

/-- A register outside the window of the cluster reads as before. -/
theorem State.resetCluRegs_other (s : State) {c o : Nat} (h : o < cluBase c ∨ cluBase c + 0x4000 ≤ o) :
    (s.resetCluRegs c).reg o = s.reg o := by
  have out : (Nat.ble (cluBase c) o && Nat.blt o (cluBase c + 0x4000)) = false := by
    rw [← Bool.not_eq_true, Bool.and_eq_true, Nat.ble_eq, Nat.blt_eq]
    omega
  rw [State.reg, State.resetCluRegs, Sparse.get_keep, out]
  rfl

theorem State.resetCluRegs_regs (h : t.regs = s.regs) (c : Nat) : (t.resetCluRegs c).regs = (s.resetCluRegs c).regs := by
  unfold State.resetCluRegs
  rw [h]

/-- The registers after a cluster reset: those of its own window, and those that the packets of its stop write. -/
theorem State.clusterReset_reg (s : State) (c o : Nat) :
    (s.clusterReset c).reg o = (((s.endFill c).stopReset c).resetCluRegs c).reg o := by
  refine State.reg_of_regs_eq ?_ o
  unfold State.clusterReset
  rw [State.tapForget_regs, State.resetCluRegs_regs (State.setCl_regs _ _ _)]

/-- A cluster that is reset reads RESET. -/
theorem State.clusterReset_status (s : State) {c : Nat} (hc : c < 1088) : (s.clusterReset c).reg (CLU_STATUS c) = 0 := by
  rw [State.clusterReset_reg, State.resetCluRegs_status, resetOf_cluStatus hc]

/-- The status of another cluster stays. -/
theorem State.clusterReset_status_ne (s : State) {c c' : Nat} (h : c' ≠ c) :
    (s.clusterReset c).reg (CLU_STATUS c') = s.reg (CLU_STATUS c') := by
  have apart : CLU_STATUS c' < cluBase c ∨ cluBase c + 0x4000 ≤ CLU_STATUS c' := by
    unfold CLU_STATUS cluBase
    omega
  rw [State.clusterReset_reg, State.resetCluRegs_other _ apart,
    (packetKept_stopReset _ c).reg _ (not_packetReg_cluStatus c'), State.reg_of_regs_eq (s.endFill_regs c)]

end Sys2Proof.Machine

/-! The built-in tests (R805 to R809): acceptance, the clusters under test and the fabric under test. -/

namespace Sys2Proof.Machine

open Reg

variable {s t v : State}

theorem State.f_of_regs_eq (h : t.regs = s.regs) (F : Fld) : t.f F = s.f F := by
  rw [State.f, State.reg_of_regs_eq h, State.f]

/-! ### Rows of works -/

/-- Each work of a row makes its own fact true, and each keeps the facts of the others: all of them hold in the end. -/
theorem State.foldl_settles {α : Type} {f : State → α → State} {P : α → State → Prop} (same : ∀ v x, P x (f v x))
    (keep : ∀ v x y, P y v → P y (f v x)) (xs : List α) (s : State) : ∀ y ∈ xs, P y (xs.foldl f s) := by
  have kept (xs : List α) (y : α) (v : State) (h : P y v) : P y (xs.foldl f v) := by
    induction xs generalizing v with
    | nil => exact h
    | cons x xs ih => exact ih _ (keep v x y h)
  induction xs generalizing s with
  | nil => nofun
  | cons x xs ih =>
    intro y hy
    rcases List.mem_cons.mp hy with rfl | hy
    · exact kept xs y _ (same s y)
    · exact ih _ y hy

/-! ### The outcome of a test (R812) -/

theorem State.mbFinish_get (s : State) (u err r0 r1 : Nat) :
    Sparse.get Mailbox.reset (s.mbFinish u err r0 r1).mbs u =
      ⟨(Sparse.get Mailbox.reset s.mbs u).cmd, err, BitVec.ofNat 32 r0, BitVec.ofNat 32 r1, false⟩ :=
  Sparse.get_put_same _ _ _ _

theorem State.bistFinish_get (s : State) (r0 r1 : Nat) :
    Sparse.get Mailbox.reset (s.bistFinish r0 r1).mbs 41 =
      ⟨(Sparse.get Mailbox.reset s.mbs 41).cmd, if r0 = 0 ∧ r1 = 0 then 0 else 8, BitVec.ofNat 32 r0, BitVec.ofNat 32 r1,
        false⟩ := s.mbFinish_get 41 _ r0 r1

theorem State.bistFinish_f (s : State) (r0 r1 : Nat) (F : Fld) : (s.bistFinish r0 r1).f F = s.f F := rfl

/-! ### Acceptance of a test (R805) -/

/-- The mailbox of the built-in test unit. -/
def bistMailbox : List Nat := [DEV_BIST_STATUS, DEV_BIST_RESULT 0, DEV_BIST_RESULT 1]

/-- Acceptance changes the mailbox of the unit alone. -/
theorem onlyRegs_mbAccept (s : State) (u cmd : Nat) : OnlyRegs (mbStatus u :: mbResults u) s (s.mbAccept u cmd) := by
  intro o ho
  obtain ⟨hs, hr⟩ := not_or.mp (fun h => ho (List.mem_cons.mpr h))
  have status (v : State) (lo w n : Nat) : (v.setF ⟨mbStatus u, lo, w⟩ n).reg o = v.reg o := v.reg_setF_ne n hs
  refine (State.reg_foldl_clear (mbResults u) _ o).trans ((if_neg hr).trans ?_)
  exact (status _ 6 4 _).trans ((status _ 2 4 _).trans ((status _ 1 1 _).trans (status s 0 1 _)))

/-- The state in which an accepted test begins. -/
def State.bistStart (s : State) (cmd : Nat) : State :=
  (s.mbAccept 41 cmd).setTst { s.tst with bistAt := s.tmk.steered, tested := [], failed := [] }

theorem onlyRegs_bistStart (s : State) (cmd : Nat) : OnlyRegs bistMailbox s (s.bistStart cmd) :=
  fun o ho => (State.setTst_reg _ _ o).trans (onlyRegs_mbAccept s 41 cmd o ho)

/-- What no acceptance changes. -/
theorem State.bistStart_rest (s : State) (cmd : Nat) :
    (s.bistStart cmd).hbm = s.hbm ∧ (s.bistStart cmd).cfg = s.cfg ∧ (s.bistStart cmd).tst.failed = [] := ⟨rfl, rfl, rfl⟩

/-- A test is refused with STATE outside DIAGNOSE or while Billet runs, and otherwise acts on the state in which it
begins. -/
theorem State.mbCommand_bistIn (hb : s.mbBusyNow 41 = false) (cmd : Nat) (act : State → State) :
    s.mbCommand 41 cmd (fun s => s.bistIn act) =
      if s.mode ≠ Mode.diagnose ∨ s.mbBusyNow 0 = true then (s.mbAccept 41 cmd).mbFinish 41 3 0 0
      else act (s.bistStart cmd) := by
  have only := onlyRegs_mbAccept s 41 cmd
  have mode : (s.mbAccept 41 cmd).mode = s.mode := only.f (by decide)
  have busy : (s.mbAccept 41 cmd).mbBusyNow 0 = s.mbBusyNow 0 := by
    rw [State.mbBusyNow, State.flag, only.f (by decide), State.mbBusyNow, State.flag]
  rw [State.mbCommand_idle (State.f_eq_zero hb)]
  unfold State.bistIn
  rw [mode, busy]
  rfl

theorem State.mbCommand_bistIn_runs (hb : s.mbBusyNow 41 = false) (hm : s.mode = Mode.diagnose)
    (h0 : s.mbBusyNow 0 = false) (cmd : Nat) (act : State → State) :
    s.mbCommand 41 cmd (fun s => s.bistIn act) = act (s.bistStart cmd) :=
  (State.mbCommand_bistIn hb cmd act).trans (if_neg (by simp [hm, h0]))

/-- A command that is refused with STATE: the outcome, and nothing of the clusters and the memories. -/
theorem State.bistRefused (s : State) (cmd : Nat) :
    let t := (s.mbAccept 41 cmd).mbFinish 41 3 0 0
    (Sparse.get Mailbox.reset t.mbs 41).err = 3 ∧ t.clusters = s.clusters ∧ SameMemory s t := by
  dsimp only
  rw [State.mbFinish_get]
  exact ⟨rfl, rfl, sameMemory_of_eq rfl rfl rfl⟩

section Commands

variable (hr : Reached s DEV_BIST_CMD) (p : Path) (fc : List (Fin 1088)) (bad : Bool) (pc : List (Fin 128))

/-- The work of MBIST (R806, R808 to R810). -/
def State.mbistRun (fc : List (Fin 1088)) (bad : Bool) (s : State) : State :=
  let arg := (s.reg (DEV_BIST_ARG 0)).toNat
  let s1 := if bitOf arg 0 then s.testClusters (fc.map (·.val)) else s
  let s2 := if bitOf arg 1 then s1.fabricStop.cfgErase else s1
  s2.bistFinish s2.tst.failed.length (ofBool (bitOf arg 1 && bad))

/-- The work of LBIST (R807 to R809). -/
def State.lbistRun (fc : List (Fin 1088)) (s : State) : State :=
  let s1 := s.testClusters (fc.map (·.val))
  s1.bistFinish s1.tst.failed.length 0

/-- The stacks that HBM_BIST tests (R811). -/
def State.bistStacks (s : State) : List Nat := (List.range 4).filter fun d => bitOf (s.reg (DEV_BIST_ARG 0)).toNat d

/-- The pseudo channels of them that fail. -/
def State.badChannels (s : State) (pc : List (Fin 128)) : List Nat :=
  (List.range 128).filter fun i => (pc.map (·.val)).contains i && s.bistStacks.contains (i / 32)

/-- A mask of the stacks that pass a test. -/
def stackMask (bad : Nat → Bool) (ds : List Nat) : Nat := ds.foldl (fun m d => if bad d then putBit m d true else m) 0

/-- The work of HBM_BIST (R811, R812). -/
def State.hbmBistRun (pc : List (Fin 128)) (s : State) : State :=
  if 1 < slice (s.reg (DEV_BIST_ARG 0)).toNat 4 2 then s.mbFinish 41 2 0 0
  else
    (s.bistStacks.foldl (State.testStack (slice (s.reg (DEV_BIST_ARG 0)).toNat 4 2)) s).bistFinish
      (stackMask (fun d => (s.badChannels pc).any fun i => i / 32 == d) s.bistStacks) (s.badChannels pc).length

include hr

theorem exec_mbist : exec (.mbist p fc bad) s = .next (s.mbCommand 41 1 fun s => s.bistIn (State.mbistRun fc bad)) :=
  congrArg Host.Outcome.next (State.onWrite_reached hr)

theorem exec_lbist : exec (.lbist p fc) s = .next (s.mbCommand 41 2 fun s => s.bistIn (State.lbistRun fc)) :=
  congrArg Host.Outcome.next (State.onWrite_reached hr)

theorem exec_hbmBist : exec (.hbmBist p pc) s = .next (s.mbCommand 41 3 fun s => s.bistIn (State.hbmBistRun pc)) :=
  congrArg Host.Outcome.next (State.onWrite_reached hr)

end Commands

/-! ### Tests of clusters (R806 to R810) -/

theorem State.testables_of (hcfg : t.cfg = s.cfg) (hdom : ∀ i, t.reg (PWR_DOM i) = s.reg (PWR_DOM i)) :
    t.testables = s.testables := by
  have one (c : Nat) : t.testable c = s.testable c := by
    rw [State.testable, State.fuseFailed, hcfg, State.flag, State.f,
      show (PWR_DOM_FAIL (c / 34)).off = PWR_DOM (c / 34) from rfl, hdom, State.testable,
      State.fuseFailed, State.flag, State.f]
    rfl
  unfold State.testables
  rw [funext one]

/-- Acceptance leaves the clusters that are tested, and the operands. -/
theorem State.bistStart_testables (s : State) (cmd : Nat) : (s.bistStart cmd).testables = s.testables := by
  refine State.testables_of (s.bistStart_rest cmd).2.1 fun i => onlyRegs_bistStart s cmd _ ?_
  have near : ∀ x ∈ bistMailbox, x < 0x100000 := by decide
  exact fun hm => absurd (near _ hm) (by unfold PWR_DOM; omega)

theorem State.bistStart_arg (s : State) (cmd : Nat) : (s.bistStart cmd).reg (DEV_BIST_ARG 0) = s.reg (DEV_BIST_ARG 0) :=
  onlyRegs_bistStart s cmd _ (by decide)

theorem State.lt_of_mem_testables {c : Nat} (h : c ∈ s.testables) : c < 1088 := by
  unfold State.testables at h
  exact List.mem_range.mp (List.mem_filter.mp h).1

/-- Every cluster that was tested reads RESET. -/
theorem State.testClusters_status (s : State) (failed : List Nat) :
    ∀ c ∈ s.testables, (s.testClusters failed).f (CLU_STATUS_STATE c) = 0 := by
  have row := State.foldl_settles (f := State.testCluster) (P := fun c v => c < 1088 → v.reg (CLU_STATUS c) = 0)
    (fun v c hc => (State.setCl_reg _ c _ _).trans (v.clusterReset_status hc))
    (fun v c c' h hc => by
      by_cases e : c' = c
      · subst e
        exact (State.setCl_reg _ _ _ _).trans (v.clusterReset_status hc)
      · exact (State.setCl_reg _ _ _ _).trans ((v.clusterReset_status_ne e).trans (h hc)))
    s.testables s
  intro c hc
  have status : (s.testClusters failed).reg (CLU_STATUS c) = 0 := by
    unfold State.testClusters
    exact (State.setTst_reg _ _ _).trans (row c hc (State.lt_of_mem_testables hc))
  unfold State.f CLU_STATUS_STATE
  dsimp only
  rw [status]
  rfl

theorem State.testClusters_tst (s : State) (failed : List Nat) :
    (s.testClusters failed).tst.tested = s.testables ∧
      (s.testClusters failed).tst.failed = s.testables.filter failed.contains := by
  unfold State.testClusters
  generalize s.testables = cs
  exact ⟨rfl, rfl⟩

/-! ### The fabric under test (R809, R663) -/

/-- The flags that a fabric that stops sets and clears. -/
theorem State.fabricStop_regs (s : State) : s.fabricStop.regs =
    ((((((s.setF CFG_STATE_CONFIGURED 0).setF FAB_STATUS_CONFIGURED 0).setF CFG_STATE_GSR 1).setF CFG_STATE_KEYSEL 0).setF
      FAB_CLK_STAT_LOCK 0).setF FAB_STATUS_PARKED 1).regs := by
  unfold State.fabricStop State.parkOutputs
  rfl

theorem State.fabricStop_fields (s : State) :
    s.fabricStop.f CFG_STATE_CONFIGURED = 0 ∧ s.fabricStop.f FAB_STATUS_CONFIGURED = 0 ∧
    OnlyRegs [CFG_STATE, FAB_STATUS, FAB_CLK_STAT] s s.fabricStop := by
  have regs := s.fabricStop_regs
  refine ⟨(State.f_of_regs_eq regs _).trans ?_, (State.f_of_regs_eq regs _).trans ?_,
    fun o ho => (State.reg_of_regs_eq regs o).trans ?_⟩
  · simp (disch := decide) only [State.f_setF_ne, State.f_setF_same, Nat.zero_mod]
  · simp (disch := decide) only [State.f_setF_ne, State.f_setF_same, Nat.zero_mod]
  · simp only [List.mem_cons, List.not_mem_nil, or_false, not_or] at ho
    obtain ⟨hcfg, hfab, hclk⟩ := ho
    rw [State.reg_setF_ne _ _ hfab, State.reg_setF_ne _ _ hclk, State.reg_setF_ne _ _ hcfg, State.reg_setF_ne _ _ hcfg,
      State.reg_setF_ne _ _ hfab, State.reg_setF_ne _ _ hcfg]

theorem State.cfgErase_rest (s : State) :
    s.cfgErase.regs = s.regs ∧ s.cfgErase.tst = s.tst ∧ s.cfgErase.cfg.frames = [] := ⟨rfl, rfl, rfl⟩

end Sys2Proof.Machine

/-! The outcomes of the built-in tests (R806 to R812): clusters, configuration memory, stacks, and the limit of 10 s. -/

namespace Sys2Proof.Machine

open Reg

variable {s t v : State}

/-! ### The outcomes of MBIST and LBIST (R806 to R812) -/

theorem State.bistFinish_rest (s : State) (r0 r1 : Nat) :
    (s.bistFinish r0 r1).tst = s.tst ∧ (s.bistFinish r0 r1).cfg = s.cfg ∧ (s.bistFinish r0 r1).hbm = s.hbm :=
  ⟨rfl, rfl, rfl⟩

/-- The number of clusters under test that fail. -/
def State.failCount (s : State) (fc : List (Fin 1088)) : Nat :=
  (s.testables.filter ((fc.map (·.val)).contains ·)).length

theorem State.testClusters_failed (s : State) (fc : List (Fin 1088)) :
    (s.testClusters (fc.map (·.val))).tst.failed.length = s.failCount fc := by
  rw [(s.testClusters_tst _).2, State.failCount]

theorem State.lbistRun_outcome (s : State) (fc : List (Fin 1088)) :
    let m := Sparse.get Mailbox.reset (State.lbistRun fc s).mbs 41
    m.err = (if s.failCount fc = 0 then 0 else 8) ∧ m.res0 = BitVec.ofNat 32 (s.failCount fc) := by
  unfold State.lbistRun
  dsimp only
  rw [State.bistFinish_get, State.testClusters_failed]
  simp only [and_true, and_self]

theorem State.lbistRun_clusters (s : State) (fc : List (Fin 1088)) :
    ∀ c ∈ s.testables, (State.lbistRun fc s).f (CLU_STATUS_STATE c) = 0 ∧
      (State.lbistRun fc s).tst.tested = s.testables := by
  intro c hc
  unfold State.lbistRun
  dsimp only
  rw [State.bistFinish_f, (State.bistFinish_rest _ _ _).1]
  exact ⟨s.testClusters_status _ c hc, (s.testClusters_tst _).1⟩

/-- The clusters that MBIST tests when its first operand bit asks for them. -/
def State.mbistClusters (s : State) (fc : List (Fin 1088)) : State :=
  if bitOf (s.reg (DEV_BIST_ARG 0)).toNat 0 then s.testClusters (fc.map (·.val)) else s

/-- The configuration memory is tested when the second operand bit asks for it. -/
def State.mbistFrames (s : State) (asked : Bool) : State := if asked then s.fabricStop.cfgErase else s

theorem State.mbistRun_eq (s : State) (fc : List (Fin 1088)) (bad : Bool) :
    let t := (s.mbistClusters fc).mbistFrames (bitOf (s.reg (DEV_BIST_ARG 0)).toNat 1)
    State.mbistRun fc bad s =
      t.bistFinish t.tst.failed.length (ofBool (bitOf (s.reg (DEV_BIST_ARG 0)).toNat 1 && bad)) := rfl

theorem State.fabricStop_tst (s : State) : s.fabricStop.tst = s.tst := rfl

/-- The test of the configuration memory leaves the test unit and the status of every cluster. -/
theorem State.mbistFrames_kept (s : State) (asked : Bool) : (s.mbistFrames asked).tst = s.tst ∧
    ∀ c, (s.mbistFrames asked).f (CLU_STATUS_STATE c) = s.f (CLU_STATUS_STATE c) := by
  unfold State.mbistFrames
  split
  · refine ⟨(s.fabricStop.cfgErase_rest).2.1.trans s.fabricStop_tst, fun c => ?_⟩
    have far : CLU_STATUS c ∉ [CFG_STATE, FAB_STATUS, FAB_CLK_STAT] := by
      have near : ∀ x ∈ [CFG_STATE, FAB_STATUS, FAB_CLK_STAT], x < 0x1000000 := by decide
      exact fun hm => absurd (near _ hm) (by unfold CLU_STATUS cluBase; omega)
    exact (State.f_of_regs_eq s.fabricStop.cfgErase_rest.1 _).trans
      (s.fabricStop_fields.2.2.f (F := CLU_STATUS_STATE c) far)
  · exact ⟨rfl, fun _ => rfl⟩

theorem ofBool_eq_zero (b : Bool) : ofBool b = 0 ↔ ¬ b = true := by cases b <;> decide

theorem State.mbistRun_outcome (s : State) (fc : List (Fin 1088)) (bad : Bool) (h : s.tst.failed = []) {arg : Nat}
    (harg : arg = (s.reg (DEV_BIST_ARG 0)).toNat) :
    let m := Sparse.get Mailbox.reset (State.mbistRun fc bad s).mbs 41
    m.err = (if (bitOf arg 0 = true ∧ s.failCount fc ≠ 0) ∨ (bitOf arg 1 = true ∧ bad = true) then 8 else 0) ∧
      m.res0 = BitVec.ofNat 32 (if bitOf arg 0 then s.failCount fc else 0) ∧
      m.res1 = BitVec.ofNat 32 (ofBool (bitOf arg 1 && bad)) := by
  have failed : ((s.mbistClusters fc).mbistFrames (bitOf arg 1)).tst.failed.length =
      if bitOf arg 0 then s.failCount fc else 0 := by
    rw [(State.mbistFrames_kept _ _).1, State.mbistClusters, ← harg]
    split
    · exact s.testClusters_failed fc
    · rw [h]; rfl
  subst harg
  dsimp only
  rw [State.mbistRun_eq]
  rw [State.bistFinish_get, failed]
  refine ⟨?_, rfl, rfl⟩
  have clusters (b : Bool) (n : Nat) : (if b = true then n else 0) = 0 ↔ ¬ (b = true ∧ n ≠ 0) := by
    cases b <;> simp
  simp only [clusters, ofBool_eq_zero, Bool.and_eq_true, ← not_or, ite_not]

theorem State.mbistRun_clusters (s : State) (fc : List (Fin 1088)) (bad : Bool)
    (h : bitOf (s.reg (DEV_BIST_ARG 0)).toNat 0 = true) :
    ∀ c ∈ s.testables, (State.mbistRun fc bad s).f (CLU_STATUS_STATE c) = 0 := by
  intro c hc
  rw [State.mbistRun_eq]
  rw [State.bistFinish_f, (State.mbistFrames_kept _ _).2, State.mbistClusters, if_pos h]
  exact s.testClusters_status _ c hc

/-- A test of the configuration memory leaves no image active. -/
theorem State.mbistRun_frames (s : State) (fc : List (Fin 1088)) (bad : Bool)
    (h : bitOf (s.reg (DEV_BIST_ARG 0)).toNat 1 = true) :
    (State.mbistRun fc bad s).f CFG_STATE_CONFIGURED = 0 ∧ (State.mbistRun fc bad s).f FAB_STATUS_CONFIGURED = 0 ∧
      (State.mbistRun fc bad s).cfg.frames = [] := by
  rw [State.mbistRun_eq, h]
  rw [State.bistFinish_f, State.bistFinish_f, (State.bistFinish_rest _ _ _).2.1, State.mbistFrames, if_pos rfl]
  obtain ⟨hregs, -, hframes⟩ := (s.mbistClusters fc).fabricStop.cfgErase_rest
  obtain ⟨hcfg, hfab, -⟩ := (s.mbistClusters fc).fabricStop_fields
  exact ⟨(State.f_of_regs_eq hregs _).trans hcfg, (State.f_of_regs_eq hregs _).trans hfab, hframes⟩

/-! ### The stacks under test (R811, R812) -/

theorem hbcStat_ne {d d' : Nat} (h : d' ≠ d) : HBC_STAT d' ≠ HBC_STAT d := by unfold HBC_STAT hbcBase; omega

theorem State.eraseStack_regs (s : State) (d : Nat) : (s.eraseStack d).regs = s.regs := rfl

/-- A stack that is tested is no longer trained. -/
theorem State.testStack_trained (depth : Nat) (s : State) (d : Nat) :
    (s.testStack depth d).f (HBC_STAT_TRAINED d) = 0 := by
  unfold State.testStack
  split
  · unfold State.selfRefresh HBC_STAT_TRAINED
    exact State.f_setF_fld_same _ (HBC_STAT d) 0 (by decide)
  · rw [State.f_of_regs_eq (State.eraseStack_regs _ d)]
    exact s.f_setF_fld_same (HBC_STAT d) 0 (by decide)

/-- The test of another stack leaves its registers. -/
theorem State.testStack_other (depth : Nat) (s : State) {d d' : Nat} (h : d' ≠ d) :
    (s.testStack depth d).reg (HBC_STAT d') = s.reg (HBC_STAT d') := by
  have ne := hbcStat_ne h
  unfold State.testStack
  split
  · unfold State.selfRefresh HBC_STAT_TRAINED HBC_STAT_SELF_REF
    rw [State.reg_setF_ne _ _ ne, State.reg_setF_ne _ _ ne]
  · rw [State.reg_of_regs_eq (State.eraseStack_regs _ d)]
    exact s.reg_setF_ne 0 ne

theorem State.testStacks_trained (depth : Nat) (ds : List Nat) (s : State) :
    ∀ d ∈ ds, (ds.foldl (State.testStack depth) s).f (HBC_STAT_TRAINED d) = 0 := by
  refine State.foldl_settles (P := fun d v => v.f (HBC_STAT_TRAINED d) = 0) (fun v d => v.testStack_trained depth d)
    (fun v d d' h => ?_) ds s
  by_cases e : d' = d
  · subst e
    exact v.testStack_trained depth d'
  · exact (congrArg (fun w : Word => slice w.toNat 0 1) (v.testStack_other depth e)).trans h

/-- Depth 0 keeps the contents of the stacks. -/
theorem State.testStacks_hbm (ds : List Nat) (s : State) : (ds.foldl (State.testStack 0) s).hbm = s.hbm := by
  induction ds generalizing s with
  | nil => rfl
  | cons d ds ih => exact (ih _).trans ((State.setF_hbm _ _ _).trans (s.setF_hbm _ _))

/-- A stack's bit of the mask. -/
theorem testBit_stackMask (bad : Nat → Bool) (ds : List Nat) (d : Nat) :
    (stackMask bad ds).testBit d = (ds.contains d && bad d) := by
  have row (m : Nat) : (ds.foldl (fun m d => if bad d then putBit m d true else m) m).testBit d =
      (m.testBit d || (ds.contains d && bad d)) := by
    induction ds generalizing m with
    | nil => simp
    | cons x ds ih =>
      rw [List.foldl_cons, ih]
      by_cases e : d = x
      · subst e
        cases h : bad d <;> simp [testBit_putBit]
      · cases h : bad x <;> simp [testBit_putBit, e]
  rw [stackMask, row, Nat.zero_testBit, Bool.false_or]

theorem State.mem_bistStacks {d : Nat} (hd : d < 4) :
    d ∈ s.bistStacks ↔ bitOf (s.reg (DEV_BIST_ARG 0)).toNat d = true := by
  simp [State.bistStacks, hd]

theorem State.mem_badChannels (pc : List (Fin 128)) (i : Nat) :
    i ∈ s.badChannels pc ↔ (∃ j ∈ pc, j.val = i) ∧ i / 32 ∈ s.bistStacks := by
  simp only [State.badChannels, List.mem_filter, List.mem_range, Bool.and_eq_true, List.contains_iff_mem, List.mem_map]
  exact ⟨fun h => h.2, fun h => ⟨by obtain ⟨⟨j, -, rfl⟩, -⟩ := h; exact j.isLt, h⟩⟩

/-- A stack under test fails with one of its channels. -/
theorem State.any_badChannels (pc : List (Fin 128)) {d : Nat} (hd : d ∈ s.bistStacks) :
    ((s.badChannels pc).any fun i => i / 32 == d) = pc.any fun i => i.val / 32 == d := by
  rw [Bool.eq_iff_iff, List.any_eq_true, List.any_eq_true]
  constructor
  · rintro ⟨i, hi, he⟩
    obtain ⟨⟨j, hj, rfl⟩, -⟩ := (State.mem_badChannels pc i).mp hi
    exact ⟨j, hj, he⟩
  · rintro ⟨j, hj, he⟩
    exact ⟨j.val, (State.mem_badChannels pc _).mpr ⟨⟨j, hj, rfl⟩, by rw [eq_of_beq he]; exact hd⟩, he⟩

theorem State.hbmBistRun_refused (pc : List (Fin 128)) (h : 1 < slice (s.reg (DEV_BIST_ARG 0)).toNat 4 2) :
    State.hbmBistRun pc s = s.mbFinish 41 2 0 0 := if_pos h

theorem State.hbmBistRun_runs (pc : List (Fin 128)) (h : slice (s.reg (DEV_BIST_ARG 0)).toNat 4 2 ≤ 1) :
    State.hbmBistRun pc s =
      (s.bistStacks.foldl (State.testStack (slice (s.reg (DEV_BIST_ARG 0)).toNat 4 2)) s).bistFinish
        (stackMask (fun d => (s.badChannels pc).any fun i => i / 32 == d) s.bistStacks) (s.badChannels pc).length :=
  if_neg (Nat.not_lt.mpr h)

/-- Every stack that the operand names loses its training, and its bit of RESULT0 says whether a channel of it fails. -/
theorem State.hbmBistRun_stack (pc : List (Fin 128)) (h : slice (s.reg (DEV_BIST_ARG 0)).toNat 4 2 ≤ 1)
    {d : Nat} (hd : d < 4) :
    (bitOf (s.reg (DEV_BIST_ARG 0)).toNat d = true → (State.hbmBistRun pc s).f (HBC_STAT_TRAINED d) = 0) ∧
      (slice (s.reg (DEV_BIST_ARG 0)).toNat 4 2 = 0 → (State.hbmBistRun pc s).hbm = s.hbm) ∧
      (Sparse.get Mailbox.reset (State.hbmBistRun pc s).mbs 41).res0.getLsbD d =
        (bitOf (s.reg (DEV_BIST_ARG 0)).toNat d && pc.any fun i => i.val / 32 == d) := by
  rw [State.hbmBistRun_runs pc h, State.bistFinish_get, State.bistFinish_f, (State.bistFinish_rest _ _ _).2.2]
  refine ⟨fun hb => State.testStacks_trained _ _ s d ((State.mem_bistStacks hd).mpr hb), fun h0 => ?_, ?_⟩
  · rw [h0]
    exact State.testStacks_hbm _ s
  · have h32 : d < 32 := by omega
    rw [BitVec.getLsbD_ofNat, testBit_stackMask]
    by_cases hb : bitOf (s.reg (DEV_BIST_ARG 0)).toNat d = true
    · have hm := (State.mem_bistStacks hd).mpr hb
      simp [h32, hb, hm, State.any_badChannels pc hm]
    · have hm := mt (State.mem_bistStacks hd).mp hb
      simp [hb, hm]

/-- An operand that names one stack, at depth 0. -/
theorem oneStack : ∀ d < 4, slice (2 ^ d) 4 2 = 0 ∧ ((List.range 4).filter fun e => bitOf (2 ^ d) e) = [d] ∧
    putBit 0 d true = 2 ^ d ∧ (BitVec.ofNat 32 (2 ^ d)).toNat = 2 ^ d := by decide

/-- The test of one stack at depth 0. -/
theorem State.hbmBistRun_one (pc : List (Fin 128)) {d : Nat} (hd : d < 4)
    (h : s.reg (DEV_BIST_ARG 0) = BitVec.ofNat 32 (2 ^ d)) :
    let t := State.hbmBistRun pc s
    t.f (HBC_STAT_TRAINED d) = 0 ∧ t.f (HBC_STAT_SELF_REF d) = 1 ∧ t.hbm = s.hbm ∧
      ((∃ i ∈ pc, i.val / 32 = d) → (Sparse.get Mailbox.reset t.mbs 41).err = 8 ∧
        (Sparse.get Mailbox.reset t.mbs 41).res0 = BitVec.ofNat 32 (2 ^ d)) ∧
      ((∀ i ∈ pc, i.val / 32 ≠ d) → (Sparse.get Mailbox.reset t.mbs 41).err = 0) := by
  obtain ⟨hslice, hfilter, hput, hnat⟩ := oneStack d hd
  have harg : (s.reg (DEV_BIST_ARG 0)).toNat = 2 ^ d := by rw [h, hnat]
  have named : s.bistStacks = [d] := by rw [State.bistStacks, harg, hfilter]
  have depth : slice (s.reg (DEV_BIST_ARG 0)).toNat 4 2 = 0 := by rw [harg, hslice]
  have any := State.any_badChannels (s := s) pc (d := d) (by rw [named]; exact List.mem_singleton_self d)
  dsimp only
  rw [State.hbmBistRun_runs pc (by rw [depth]; decide), State.bistFinish_get, State.bistFinish_f, State.bistFinish_f,
    (State.bistFinish_rest _ _ _).2.2, depth, named]
  refine ⟨State.testStack_trained 0 s d, ?_, State.testStacks_hbm [d] s, ?_, ?_⟩
  · exact (State.f_setF_fld _ (HBC_STAT d) 0 (by decide) (by decide)).trans
      (s.f_setF_fld_same (HBC_STAT d) 1 (by decide))
  · rintro ⟨i, hi, he⟩
    have hany : ((s.badChannels pc).any fun i => i / 32 == d) = true := by
      rw [any]; exact List.any_eq_true.mpr ⟨i, hi, beq_iff_eq.mpr he⟩
    have hmask : stackMask (fun d => (s.badChannels pc).any fun i => i / 32 == d) [d] = 2 ^ d := by
      rw [stackMask, List.foldl_cons, List.foldl_nil, if_pos hany, hput]
    dsimp only
    rw [hmask]
    exact ⟨if_neg fun h0 => absurd h0.1 (Nat.two_pow_pos d).ne', rfl⟩
  · intro hnone
    have hempty : s.badChannels pc = [] := List.eq_nil_iff_forall_not_mem.mpr fun i hi => by
      obtain ⟨⟨j, hj, rfl⟩, hs⟩ := (State.mem_badChannels pc i).mp hi
      rw [named, List.mem_singleton] at hs
      exact hnone j hj hs
    rw [hempty]
    rfl

/-! ### The limit of a test (R812) -/

/-- What a completion of the built-in test unit writes (R24). -/
theorem State.mbComplete_bist (s : State) {m : Mailbox} (hm : Sparse.get Mailbox.reset s.mbs 41 = m) :
    (s.mbComplete 41).regs =
        (((s.setReg (DEV_BIST_RESULT 0) m.res0).setReg (DEV_BIST_RESULT 1) m.res1).setF DEV_BIST_STATUS_ERR m.err).regs ∧
      Sparse.get Mailbox.reset (s.mbComplete 41).mbs 41 = { m with ended := true } := by
  unfold State.mbComplete
  rw [hm]
  exact ⟨rfl, Sparse.get_put_same _ _ _ _⟩

theorem State.bistTimeout_fields (h : s.mbRuns 41 = true) :
    let t := ((s.setTst { s.tst with tested := [], failed := [] }).mbFinish 41 4 0 0).mbComplete 41
    t.f DEV_BIST_STATUS_BUSY = 1 ∧ t.f DEV_BIST_STATUS_ERR = 4 ∧ (Sparse.get Mailbox.reset t.mbs 41).ended = true ∧
      t.reg (DEV_BIST_RESULT 0) = 0 ∧ t.reg (DEV_BIST_RESULT 1) = 0 ∧
      Frame [DEV_BIST_STATUS, DEV_BIST_RESULT 0, DEV_BIST_RESULT 1] s t := by
  have busy : s.f DEV_BIST_STATUS_BUSY = 1 := State.f_of_flag (Bool.and_eq_true_iff.mp h).1 rfl
  dsimp only
  obtain ⟨regs, mbs⟩ :=
    State.mbComplete_bist _ ((s.setTst { s.tst with tested := [], failed := [] }).mbFinish_get 41 4 0 0)
  have only := onlyRegs_mbComplete (s := (s.setTst { s.tst with tested := [], failed := [] }).mbFinish 41 4 0 0) 41
  generalize hw : (s.setTst { s.tst with tested := [], failed := [] }).mbFinish 41 4 0 0 = w at *
  have same : w.regs = s.regs := hw ▸ rfl
  have mem : SameMemory s (w.mbComplete 41) := hw ▸ sameMemory_of_eq rfl rfl rfl
  rw [State.f_of_regs_eq regs, State.f_of_regs_eq regs, State.reg_of_regs_eq regs, State.reg_of_regs_eq regs, mbs]
  refine ⟨?_, ?_, rfl, ?_, ?_, fun o ho => (only o ho).trans (State.reg_of_regs_eq same o), mem⟩
  · simp (disch := decide) only [State.f_setF_ne, State.f_setReg_ne]
    exact (State.f_of_regs_eq same _).trans busy
  · simp (disch := decide) only [State.f_setF_same]
    rfl
  · simp (disch := decide) only [State.reg_setF_ne, State.reg_setReg_ne, State.reg_setReg_same]
    rfl
  · simp (disch := decide) only [State.reg_setF_ne, State.reg_setReg_same]
    rfl

end Sys2Proof.Machine

/-! The loopback tests, the built-in tests, the TAP and the bank supplies together. -/

namespace Sys2Proof.Machine

open Reg

variable {s : State}

/-! ### The rules of each unit -/

/-- Writes of MLR_STOP_LB (R310, R311). -/
theorem completes_loopbackWrite (p : Path) {d : Fin 4} {r : Fin 8} {pos : Fin 36} (v : Word) {b : Nat}
    (hb : b = stopBase d r pos) (hr : Reached s (MLR_STOP_LB b)) :
    (s.mode ≠ Mode.diagnose → slice v.toNat 0 2 ≠ 0 ∨ v.getLsbD 3 = true →
      ∀ c ∈ [Instr.loopbackModeWrite p d r pos v, .loopbackGo p d r pos v], Completes c s fun t =>
        t.f (MLR_STOP_ERR_LB_STATE b) = 1 ∧ t.mlr = s.mlr ∧ Frame (MLR_STOP_ERR b :: noticeRegs) s t) ∧
    (s.mode = Mode.diagnose → v.getLsbD 3 = false →
      Completes (.loopbackModeWrite p d r pos v) s fun t =>
        t.f (MLR_STOP_LB_MODE b) = slice v.toNat 0 2 ∧ t.f (MLR_STOP_LB_DIR b) = slice v.toNat 2 1 ∧
          t.f (MLR_STOP_LB_COUNT b) = slice v.toNat 16 16 ∧ Frame [MLR_STOP_LB b] s t) ∧
    (s.mode = Mode.diagnose → v.getLsbD 3 = true →
      Completes (.loopbackGo p d r pos v) s fun t =>
        (slice v.toNat 16 16 = 0 → Frame [MLR_STOP_LB b] s t) ∧
          (slice v.toNat 16 16 ≠ 0 →
            t.f (MLR_STOP_LBSTAT_BUSY b) = 1 ∧ t.f (MLR_STOP_LBSTAT_RCVD b) = 0 ∧ t.f (MLR_STOP_LBSTAT_ERRS b) = 0 ∧
              (t.loopback d (stopIx r pos)).left = slice v.toNat 16 16 ∧ (t.loopback d (stopIx r pos)).expect = 0 ∧
              Frame [MLR_STOP_LB b, MLR_STOP_LBSTAT b] s t)) := by
  subst hb
  refine ⟨fun hm hv c hc => ⟨_, ?_, s.stopErr_lbState d r pos⟩, fun hm hg => ?_, fun hm hg => ?_⟩
  · rw [← s.loopbackWrite_refused d r pos v hm hv]
    rcases List.mem_pair.mp hc with rfl | rfl
    · exact exec_loopbackModeWrite hr p v
    · exact exec_loopbackGo hr p v
  · refine ⟨_, exec_loopbackModeWrite hr p v, ?_⟩
    rw [s.loopbackWrite_plain d r pos v hm hg]
    exact ⟨s.f_writeBits_stopLb d r pos v (by decide) (by decide),
      s.f_writeBits_stopLb d r pos v (by decide) (by decide), s.f_writeBits_stopLb d r pos v (by decide) (by decide),
      frame_writeBits _ v⟩
  · refine ⟨_, exec_loopbackGo hr p v, ?_⟩
    rw [s.loopbackWrite_go d r pos v hm hg]
    refine ⟨fun h0 => ?_, fun hn => ?_⟩
    · rw [h0, State.loopbackStart_zero]
      exact frame_writeBits _ v
    · obtain ⟨busy, rcvd, errs, left, expect, frame⟩ :=
        (s.writeBits (MLR_STOP_LB (stopBase d r pos)) v).loopbackStart_fields d r pos hn
      exact ⟨busy, rcvd, errs, left, expect, ((frame_writeBits _ v).mono (by simp)).trans (frame.mono (by simp))⟩

/-- A rising edge of TCK. -/
theorem State.tckRise_fields (s : State) (tms tdi : Bool) (pins : List Bool) :
    let t := s.tckRise tms tdi pins
    (s.tst.tap.st < 16 → t.tst.tap.st =
      (if tms then [0, 2, 9, 5, 5, 8, 7, 8, 2, 0, 12, 12, 15, 14, 15, 2] else
        [1, 1, 3, 4, 4, 6, 6, 4, 1, 10, 11, 11, 13, 13, 11, 1]).getD s.tst.tap.st 0) ∧
      t.tst.tap.ir = s.tst.tap.ir ∧
      (s.tst.tap.st = 3 → s.tst.tap.ir = 1 →
        t.tst.tap.dr = s.f DEV_ID_REV * 2 ^ 28 + s.f DEV_ID_PART * 2 ^ 12 + 0x4D1 * 2 + 1) ∧
      (s.tst.tap.st = 4 → s.tst.tap.ir = 1 → t.tst.tap.dr = s.tst.tap.dr / 2 + ofBool tdi * 2 ^ 31) ∧
      (s.tst.tap.st = 11 → t.tst.tap.irShift = s.tst.tap.irShift / 2 + ofBool tdi * 128) ∧ Frame [] s t := by
  refine ⟨fun h => tapStep_eq _ h tms, s.tckRise_ir tms tdi pins, fun h hir => ?_, fun h hir => ?_,
    fun h => State.tckRise_irShift h tms tdi pins, frame_setTap s _⟩
  · rw [State.tckRise_capture h, State.tapCapture_idcode hir]; rfl
  · rw [State.tckRise_shift h, hir]; rfl

/-- A falling edge of TCK. -/
theorem State.tckFall_fields (s : State) :
    let t := s.tckFall
    (s.tst.tap.st = 15 → t.tst.tap.ir = s.tst.tap.irShift) ∧ (s.tst.tap.st = 0 → t.tst.tap.ir = 1) ∧
      (s.tst.tap.st = 4 → t.tst.tap.tdo = some (s.tst.tap.dr % 2 == 1)) ∧
      (s.tst.tap.st = 11 → t.tst.tap.tdo = some (s.tst.tap.irShift % 2 == 1)) ∧
      (s.tst.tap.st ≠ 4 → s.tst.tap.st ≠ 11 → t.tst.tap.tdo = none) ∧ t.tst.tap.st = s.tst.tap.st ∧ Frame [] s t := by
  obtain ⟨hst, frame⟩ := s.tckFall_rest
  refine ⟨fun h => s.tckFall_ir _ (.inl ⟨h, rfl⟩), fun h => s.tckFall_ir _ (.inr ⟨h, rfl⟩), fun h => ?_, fun h => ?_,
    fun h4 h11 => ?_, hst, frame⟩
  · rw [State.tckFall_tdo, if_pos h]
  · rw [State.tckFall_tdo, if_neg (by rw [h]; decide), if_pos h]
  · rw [State.tckFall_tdo, if_neg h4, if_neg h11]

/-- A bank's supply fails or returns: its own pins alone read otherwise. -/
theorem completes_vccio (s : State) (bank : Fin 24) (low : Bool) (levels : Nat) :
    let t := s.setTst { s.tst with vccioLow := putBit s.tst.vccioLow bank low }
    slice (t.pinLevels levels) (16 * bank) 16 = (if low then 0 else slice levels (16 * bank) 16) ∧
      (∀ g : Fin 24, g ≠ bank → slice (t.pinLevels levels) (16 * g) 16 = slice (s.pinLevels levels) (16 * g) 16) ∧
      Frame [] s t := by
  intro t
  have bit (g : Fin 24) : bitOf t.tst.vccioLow g = if g.val = bank.val then low else bitOf s.tst.vccioLow g := by
    rw [bitOf_eq_testBit, bitOf_eq_testBit]
    exact testBit_putBit _ _ _ _
  refine ⟨?_, fun g hg => ?_, fun _ _ => rfl, sameMemory_of_eq rfl rfl rfl⟩
  · rw [State.slice_pinLevels _ _ bank.isLt, bit, if_pos rfl]
  · rw [State.slice_pinLevels _ _ g.isLt, State.slice_pinLevels _ _ g.isLt, bit, if_neg fun e => hg (Fin.ext e)]

/-! ### The obligation -/

/-- Settles O55: the loopback tests of a stop (log entry 35), the loopback enables, the built-in tests (log entry 65), the
TAP (log entry 66) and the bank supplies, each by the rules of its unit. -/
theorem loopbackBuiltInTestAndTap : Obligations.LoopbackBuiltInTestAndTap := by
  refine ⟨fun s p d r pos v b hb hr => ?_, fun s d r pos b x f hb hx => ?_, fun s p off v hr ho => ?_,
    fun s p fc pc bad hr hb hm => ?_, fun s p fc bad n ⟨hr, hb, hm, h0⟩ hn => ?_, fun s p pc d ⟨hr, hb, hm, h0⟩ hd => ?_,
    fun s => ?_, fun s tms tdi pins code => ?_, fun s bank levels => ?_⟩
  · obtain ⟨refused, plain, go⟩ := completes_loopbackWrite p v hb hr
    exact ⟨fun hm hv => refused hm hv _ (by simp), fun hm hv => refused hm hv _ (by simp), plain, go⟩
  · refine ⟨fun hl hon u hu => completes_loopbackReceive f hb hx hl hon hu, fun h => if_pos h, fun h2 hbr g hg => ?_,
      fun h => ⟨s, exec_loopbackReceive_idle f (hx ▸ h), rfl⟩, fun hbusy hsent he hmode => ?_,
      fun he => ⟨s, exec_loopbackBusyTimeout_early (hx ▸ he), rfl⟩⟩
    · exact State.testArrives_ring h2 hbr hg
    · subst hb
      refine ⟨_, exec_loopbackBusyTimeout hx hbusy hsent he hmode, State.f_setF_fld_same _ _ _ (by decide), ?_, ?_⟩
      · rw [State.loopback_of_mlr_eq (State.setF_mlr _ _ _), State.loopback_setLoopback]
      · exact ((frame_setLoopback s _ _ _).mono (List.nil_subset _)).trans (frame_setF_fld _ _ 31 1 0)
  · have hx := exec_loopbackEnableWrite hr ho p v
    refine ⟨fun hm hp => ⟨_, hx, ?_⟩, fun hm hv => ⟨_, hx, State.loopWrite_refused hm hv p _⟩,
      fun ho hp => ⟨_, hx, State.loopWrite_port ho hp v⟩⟩
    rw [State.loopWrite_diagnose hm hp]
    exact ⟨rfl, frame_writeBits _ v⟩
  · have refused (cmd : Nat) (act : State → State) := (State.mbCommand_bistIn hb cmd act).trans (if_pos hm)
    exact ⟨⟨_, (exec_mbist hr p fc bad).trans (congrArg _ (refused 1 _)), s.bistRefused 1⟩,
      ⟨_, (exec_lbist hr p fc).trans (congrArg _ (refused 2 _)), s.bistRefused 2⟩,
      ⟨_, (exec_hbmBist hr p pc).trans (congrArg _ (refused 3 _)), s.bistRefused 3⟩⟩
  · have runs (cmd : Nat) (act : State → State) := State.mbCommand_bistIn_runs hb hm h0 cmd act
    have clusters (cmd : Nat) := s.bistStart_testables cmd
    have count (cmd : Nat) : (s.bistStart cmd).failCount fc = n := by rw [State.failCount, clusters, hn]
    refine ⟨⟨_, (exec_lbist hr p fc).trans (congrArg _ (runs 2 _)), ?_⟩, fun arg harg =>
      ⟨_, (exec_mbist hr p fc bad).trans (congrArg _ (runs 1 _)), ?_⟩⟩
    · obtain ⟨err, res0⟩ := (s.bistStart 2).lbistRun_outcome fc
      have status := (s.bistStart 2).lbistRun_clusters fc
      rw [clusters] at status
      rw [count] at err res0
      exact ⟨err, res0, status⟩
    · rw [← s.bistStart_arg 1] at harg
      obtain ⟨err, res0, res1⟩ := (s.bistStart 1).mbistRun_outcome fc bad (s.bistStart_rest 1).2.2 harg
      have status := (s.bistStart 1).mbistRun_clusters fc bad
      have frames := (s.bistStart 1).mbistRun_frames fc bad
      rw [clusters, ← harg] at status
      rw [← harg] at frames
      rw [count] at err res0
      exact ⟨err, res0, res1, status, frames⟩
  · have runs (act : State → State) := State.mbCommand_bistIn_runs hb hm h0 3 act
    have hx := (exec_hbmBist hr p pc).trans (congrArg _ (runs _))
    obtain ⟨hbm, -, -⟩ := s.bistStart_rest 3
    rw [← hbm, ← s.bistStart_arg 3]
    refine ⟨fun h => ⟨_, hx, State.hbmBistRun_one pc hd h⟩, fun h => ⟨_, hx, State.hbmBistRun_stack pc h hd⟩,
      fun h => ⟨_, hx, ?_⟩⟩
    rw [State.hbmBistRun_refused pc h]
    exact ⟨congrArg Mailbox.err (State.mbFinish_get _ 41 2 0 0), rfl⟩
  · refine ⟨fun hruns he => ⟨_, if_pos ⟨hruns, he⟩, State.bistTimeout_fields hruns⟩,
      fun h => ⟨s, if_neg fun hc => ?_, rfl⟩⟩
    obtain ⟨hruns, he⟩ := hc
    rcases h with h | h
    · exact absurd hruns (by rw [h]; decide)
    · exact absurd he (by rw [h]; decide)
  · exact ⟨⟨_, rfl, s.tckRise_fields tms tdi pins⟩, ⟨_, rfl, s.tckFall_fields⟩,
      ⟨_, rfl, rfl, rfl, frame_setTap s _⟩, ⟨_, rfl, rfl, rfl, rfl, frame_setTap s _⟩⟩
  · exact ⟨⟨_, rfl, completes_vccio s bank true levels⟩, ⟨_, rfl, completes_vccio s bank false levels⟩⟩

end Sys2Proof.Machine

/-! The task lists of Ostler (R683, R684, R693): what a task, a list, a slot and a core's status read after each move of a
task, and what settling the external interrupts of the cores leaves. -/

namespace Sys2Proof.Machine

open Reg

variable (s : State)

/-! ### Tasks, lists and slots -/

@[simp] theorem State.task_setTask (n m : Nat) (k : Task) :
    (s.setTask n k).task m = if m = n then k else s.task m :=
  Sparse.get_put _ _ _ _ _

@[simp] theorem State.readyList_setTask (n p : Nat) (k : Task) : (s.setTask n k).readyList p = s.readyList p := rfl

@[simp] theorem State.slot_setTask (n c : Nat) (k : Task) : (s.setTask n k).slot c = s.slot c := rfl

@[simp] theorem State.task_setReady (p m : Nat) (l : List Nat) : (s.setReady p l).task m = s.task m := rfl

@[simp] theorem State.readyList_setReady (p q : Nat) (l : List Nat) :
    (s.setReady p l).readyList q = if q = p then l else s.readyList q :=
  Sparse.get_put _ _ _ _ _

@[simp] theorem State.slot_setReady (p c : Nat) (l : List Nat) : (s.setReady p l).slot c = s.slot c := rfl

@[simp] theorem State.task_setSlot (c m : Nat) (n : Option Nat) : (s.setSlot c n).task m = s.task m := rfl

@[simp] theorem State.readyList_setSlot (c p : Nat) (n : Option Nat) : (s.setSlot c n).readyList p = s.readyList p := rfl

@[simp] theorem State.slot_setSlot (c d : Nat) (n : Option Nat) :
    (s.setSlot c n).slot d = if d = c then n else s.slot d :=
  Sparse.get_put _ _ _ _ _

/-- A task that enters READY is in that state, on no core; the other tasks stay. -/
@[simp] theorem State.task_enterReady (n m : Nat) (head : Bool) :
    (s.enterReady n head).task m = if m = n then { s.task n with state := 1, core := 0 } else s.task m := by
  simp [State.enterReady]

/-- A task that returns to READY at the head stands first in the list of its priority; the other lists stay. -/
@[simp] theorem State.readyList_enterReady_head (n p : Nat) :
    (s.enterReady n true).readyList p =
      if p = (s.task n).pri then n :: s.readyList (s.task n).pri else s.readyList p := by
  simp [State.enterReady]

@[simp] theorem State.slot_enterReady (n c : Nat) (head : Bool) : (s.enterReady n head).slot c = s.slot c := rfl

@[simp] theorem State.task_leaveReady (n m : Nat) : (s.leaveReady n).task m = s.task m := rfl

/-- A task that leaves READY stands no longer in the list of its priority; the other lists stay. -/
@[simp] theorem State.readyList_leaveReady (n p : Nat) :
    (s.leaveReady n).readyList p =
      if p = (s.task n).pri then (s.readyList (s.task n).pri).filter (· != n) else s.readyList p := by
  simp [State.leaveReady]

@[simp] theorem State.slot_leaveReady (n c : Nat) : (s.leaveReady n).slot c = s.slot c := rfl

/-! ### Moves of tasks -/

/-- Nothing but Ostler's own state differs. -/
def OstlerOnly (s t : State) : Prop := ∃ x, t = s.setOst x

namespace OstlerOnly

variable {s} {t u : State}

theorem rfl' : OstlerOnly s s := ⟨s.ost, rfl⟩

theorem trans (h : OstlerOnly s t) (k : OstlerOnly t u) : OstlerOnly s u := by
  obtain ⟨x, rfl⟩ := h
  obtain ⟨y, rfl⟩ := k
  exact ⟨y, rfl⟩

theorem frame (h : OstlerOnly s t) : Frame [] s t := by
  obtain ⟨x, rfl⟩ := h
  exact ⟨fun _ _ => rfl, sameMemory_of_eq rfl rfl rfl⟩

/-- The RUNNING task of a core stands in the registers. -/
theorem running (h : OstlerOnly s t) (c : Nat) : t.running c = s.running c := by
  obtain ⟨x, rfl⟩ := h
  rfl

end OstlerOnly

theorem ostlerOnly_setTask (n : Nat) (k : Task) : OstlerOnly s (s.setTask n k) := ⟨_, rfl⟩

theorem ostlerOnly_setReady (p : Nat) (l : List Nat) : OstlerOnly s (s.setReady p l) := ⟨_, rfl⟩

theorem ostlerOnly_setSlot (c : Nat) (n : Option Nat) : OstlerOnly s (s.setSlot c n) := ⟨_, rfl⟩

theorem ostlerOnly_enterReady (n : Nat) (head : Bool) : OstlerOnly s (s.enterReady n head) :=
  (ostlerOnly_setTask s n _).trans (ostlerOnly_setReady _ _ _)

theorem ostlerOnly_leaveReady (n : Nat) : OstlerOnly s (s.leaveReady n) := ostlerOnly_setReady s _ _

theorem ostlerOnly_wdtRestart (c : Nat) : OstlerOnly s (s.wdtRestart c) := ⟨_, rfl⟩

/-! ### The external interrupts (R693) -/

/-- Two cores have two status registers. -/
theorem coreStat_ne {c d : Nat} (h : c ≠ d) : OST_CORE_STAT c ≠ OST_CORE_STAT d := by
  unfold OST_CORE_STAT ostCoreBase
  omega

theorem coreStat_mem_ostTaskRegs {c : Nat} (h : c < 16) : OST_CORE_STAT c ∈ ostTaskRegs :=
  List.mem_cons_of_mem _ (List.mem_map_of_mem (List.mem_range.mpr h))

/-- No interrupt for an empty slot. -/
theorem State.irq_empty {c : Nat} (h : s.slot c = none) : s.irq c = false := by
  unfold State.irq
  rw [h]

/-- A task in the slot interrupts a core that runs none. -/
theorem State.irq_idle {c n : Nat} (h : s.slot c = some n) (hr : s.running c = none) : s.irq c = true := by
  unfold State.irq
  rw [h, hr]

theorem State.interrupts_of_style {c : Nat} (h : s.f (OST_CORE_CTRL_STYLE c) = 0) : s.interrupts c = true := by
  simp [State.interrupts, State.flag, h]

/-- A task in the slot interrupts an INTERRUPT core that runs one of lower priority. -/
theorem State.irq_preempts {c n b : Nat} (h : s.slot c = some n) (hr : s.running c = some b)
    (hs : s.f (OST_CORE_CTRL_STYLE c) = 0) (hp : (s.task b).pri < (s.task n).pri) : s.irq c = true := by
  unfold State.irq
  rw [h, hr]
  simp [s.interrupts_of_style hs, hp]

/-- All that the interrupts can change as they settle: the IRQ bits, which lie above bit 16, of the status of the
cores. -/
structure IrqsOnly (s t : State) : Prop where
  /-- Ostler's lists stay. -/
  ost : t.ost = s.ost
  /-- The fields below IRQ stay in every register. -/
  low : ∀ {o lo w : Nat}, lo + w ≤ 17 → t.f ⟨o, lo, w⟩ = s.f ⟨o, lo, w⟩
  /-- Registers other than the status of the cores stay, and the memories. -/
  frame : Frame ostTaskRegs s t

namespace IrqsOnly

variable {s} {t u : State}

theorem rfl' : IrqsOnly s s := ⟨rfl, fun _ => rfl, .rfl'⟩

theorem trans (h : IrqsOnly s t) (k : IrqsOnly t u) : IrqsOnly s u :=
  ⟨k.ost.trans h.ost, fun hw => (k.low hw).trans (h.low hw), h.frame.trans k.frame⟩

theorem task (h : IrqsOnly s t) (n : Nat) : t.task n = s.task n := by rw [State.task, h.ost, State.task]

theorem readyList (h : IrqsOnly s t) (p : Nat) : t.readyList p = s.readyList p := by
  rw [State.readyList, h.ost, State.readyList]

theorem slot (h : IrqsOnly s t) (c : Nat) : t.slot c = s.slot c := by rw [State.slot, h.ost, State.slot]

theorem running (h : IrqsOnly s t) (c : Nat) : t.running c = s.running c := by
  have cur : t.f (OST_CORE_STAT_CUR c) = s.f (OST_CORE_STAT_CUR c) := h.low (by decide)
  have valid : t.f (OST_CORE_STAT_CUR_V c) = s.f (OST_CORE_STAT_CUR_V c) := h.low (by decide)
  rw [State.running, State.running, State.flag, State.flag, cur, valid]

theorem interrupts (h : IrqsOnly s t) (c : Nat) : t.interrupts c = s.interrupts c := by
  have style : t.f (OST_CORE_CTRL_STYLE c) = s.f (OST_CORE_CTRL_STYLE c) := h.low (by decide)
  rw [State.interrupts, State.interrupts, State.flag, State.flag, style]

/-- Whether a core is interrupted does not depend on the IRQ bits. -/
theorem irq (h : IrqsOnly s t) (c : Nat) : t.irq c = s.irq c := by
  unfold State.irq
  rw [h.slot, h.running]
  simp only [h.interrupts, h.task]

end IrqsOnly

theorem irqsOnly_settleIrq {c : Nat} (h : c < 16) : IrqsOnly s (s.settleIrq c) where
  ost := State.setF_ost s _ _
  low hw := by
    refine s.f_setF_ne _ (by decide : 17 + 1 ≤ 32) ?_
    exact .inr (.inl hw)
  frame := (frame_setF_fld s (OST_CORE_STAT c) 17 1 _).mono (by simpa using coreStat_mem_ostTaskRegs h)

theorem irqsOnly_foldl_settleIrq (l : List Nat) (h : ∀ c ∈ l, c < 16) : IrqsOnly s (l.foldl State.settleIrq s) := by
  induction l generalizing s with
  | nil => exact .rfl'
  | cons c l ih =>
    exact (irqsOnly_settleIrq s (h c List.mem_cons_self)).trans (ih _ fun d hd => h d (List.mem_cons_of_mem _ hd))

theorem irqsOnly_settleIrqs : IrqsOnly s s.settleIrqs :=
  irqsOnly_foldl_settleIrq s _ fun _ h => List.mem_range.mp h

/-- The IRQ bit of a core follows its interrupt as its turn comes. -/
theorem State.irqBit_settleIrq (c d : Nat) :
    (s.settleIrq d).f (OST_CORE_STAT_IRQ c) = if c = d then ofBool (s.irq c) else s.f (OST_CORE_STAT_IRQ c) := by
  split
  · next h =>
    subst h
    refine (s.f_setF_fld_same _ _ (by decide)).trans ?_
    cases s.irq c <;> rfl
  · next h => exact s.f_setF_off _ (coreStat_ne h)

theorem State.irqBit_foldl_settleIrq (c : Nat) (l : List Nat) (h : ∀ d ∈ l, d < 16) :
    (l.foldl State.settleIrq s).f (OST_CORE_STAT_IRQ c) =
      if c ∈ l then ofBool (s.irq c) else s.f (OST_CORE_STAT_IRQ c) := by
  induction l generalizing s with
  | nil => rfl
  | cons d l ih =>
    have hd : d < 16 := h d List.mem_cons_self
    rw [List.foldl_cons, ih _ fun e he => h e (List.mem_cons_of_mem _ he), (irqsOnly_settleIrq s hd).irq,
      s.irqBit_settleIrq]
    by_cases hl : c ∈ l <;> simp [hl]

/-- The IRQ bit of every core follows R693. -/
theorem State.irqBit_settleIrqs {c : Nat} (h : c < 16) :
    s.settleIrqs.f (OST_CORE_STAT_IRQ c) = ofBool (s.irq c) := by
  have hb := s.irqBit_foldl_settleIrq c (List.range 16) fun _ hd => List.mem_range.mp hd
  rwa [if_pos (List.mem_range.mpr h)] at hb

end Sys2Proof.Machine

/-! The placement of tasks and their delivery to the cores (R692 to R695): which core a task goes to, which task is placed,
and what the placement and the read of OST_CORE_TAKE change. -/

namespace Sys2Proof.Machine

open Reg

variable {s : State}

/-! ### The core for a task (R692) -/

theorem State.eligible_iff {k : Task} {c : Nat} : s.eligible k c = true ↔ Fits s k c := by
  have dispatch : s.flag (OST_CORE_CTRL_DISPATCH c) = true ↔ s.f (OST_CORE_CTRL_DISPATCH c) = 1 :=
    ⟨fun h => State.f_of_flag h rfl, State.flag_of_f⟩
  simp [State.eligible, Fits, dispatch, and_assoc]

/-- A task goes to the first idle core that fits. -/
theorem State.coreFor_idle {k : Task} {c : Nat} (hc : c < 16) (hf : Fits s k c) (hs : s.slot c = none)
    (hr : s.running c = none) (first : ∀ d, d < c → Fits s k d → s.slot d ≠ none ∨ s.running d ≠ none) :
    s.coreFor k = some c := by
  have idle : (((List.range 16).filter (s.eligible k)).filter fun d => (s.slot d).isNone).find?
      (fun d => (s.running d).isNone) = some c := by
    rw [List.find?_filter, List.find?_filter, List.find?_range_eq_some]
    refine ⟨by simp [s.eligible_iff.mpr hf, hs, hr], List.mem_range.mpr hc, fun d hd => ?_⟩
    by_cases he : s.eligible k d = true
    · rcases first d hd (State.eligible_iff.mp he) with h | h <;> simp [h]
    · simp [he]
  unfold State.coreFor
  dsimp only
  rw [idle]

/-- The only core that fits is the only one that is eligible. -/
theorem State.eligible_only {k : Task} {c : Nat} (hc : c < 16) (hf : Fits s k c)
    (only : ∀ d, d ≠ c → ¬ Fits s k d) : (List.range 16).filter (s.eligible k) = [c] := by
  have he : s.eligible k = fun d => d == c := by
    funext d
    by_cases h : d = c
    · subst h; simpa using State.eligible_iff.mpr hf
    · rw [beq_eq_false_iff_ne.mpr h]
      exact Bool.eq_false_iff.mpr (mt State.eligible_iff.mp (only d h))
  rw [he, List.filter_beq, List.count_eq_one_of_mem List.nodup_range (List.mem_range.mpr hc)]
  rfl

/-- With no idle core, a task goes to the slot of an INTERRUPT core that runs one of lower priority. -/
theorem State.coreFor_interrupt {k : Task} {c b : Nat} (hc : c < 16) (hf : Fits s k c)
    (only : ∀ d, d ≠ c → ¬ Fits s k d) (hs : s.slot c = none) (hr : s.running c = some b)
    (style : s.f (OST_CORE_CTRL_STYLE c) = 0) (lower : (s.task b).pri < k.pri) : s.coreFor k = some c := by
  have runs : s.runPri c = (s.task b).pri := by simp [State.runPri, hr]
  simp [State.coreFor, State.eligible_only hc hf only, hs, hr, s.interrupts_of_style style, runs, lower, lowestBy]

/-- With no empty slot, a task displaces a slotted one of lower priority. -/
theorem State.coreFor_displace {k : Task} {c a : Nat} (hc : c < 16) (hf : Fits s k c)
    (only : ∀ d, d ≠ c → ¬ Fits s k d) (hs : s.slot c = some a) (lower : (s.task a).pri < k.pri) :
    s.coreFor k = some c := by
  have slotted : s.slotPri c = (s.task a).pri := by simp [State.slotPri, hs]
  simp [State.coreFor, State.eligible_only hc hf only, hs, slotted, lower, lowestBy]

/-- No core for a task that fits none. -/
theorem State.coreFor_none {k : Task} (h : ∀ c, c < 16 → ¬ Fits s k c) : s.coreFor k = none := by
  have he : (List.range 16).filter (s.eligible k) = [] :=
    List.filter_eq_nil_iff.mpr fun c hc e => h c (List.mem_range.mp hc) (State.eligible_iff.mp e)
  simp [State.coreFor, he, lowestBy]

/-! ### The task that is placed (R692) -/

/-- In a falling list, the first answer is that of a member before which nothing larger answers. -/
theorem findSome?_of_falling {β : Type} {f : Nat → Option β} {p : Nat} {x : β} (hx : f p = some x) :
    ∀ {l : List Nat}, l.Pairwise (· > ·) → p ∈ l → (∀ q ∈ l, p < q → f q = none) → l.findSome? f = some x
  | q :: l, sorted, hp, larger => by
    obtain ⟨falling, rest⟩ := List.pairwise_cons.mp sorted
    rcases List.mem_cons.mp hp with rfl | hl
    · simp [hx]
    · rw [List.findSome?_cons, larger q List.mem_cons_self (falling p hl)]
      exact findSome?_of_falling hx rest hl fun r hr => larger r (List.mem_cons_of_mem _ hr)

theorem mem_priorities_iff {q : Nat} : q ∈ [7, 6, 5, 4, 3, 2, 1, 0] ↔ q < 8 := by
  simp only [List.mem_cons, List.not_mem_nil, or_false]
  omega

/-- The oldest task of the highest priority is placed when it has a core. -/
theorem State.placement_top {n c : Nat} {l : List Nat} (top : TopTask s n l) (hc : s.coreFor (s.task n) = some c) :
    s.placement = some (n, c) := by
  obtain ⟨-, hp, hl, higher⟩ := top
  refine findSome?_of_falling (p := (s.task n).pri) ?_ (by decide) (mem_priorities_iff.mpr hp) fun q hq h => ?_
  · simp [hl, hc]
  · rw [higher q h (mem_priorities_iff.mp hq)]
    rfl

/-- No task is placed when none has a core. -/
theorem State.placement_none (h : ∀ q n, q < 8 → n ∈ s.readyList q → s.coreFor (s.task n) = none) :
    s.placement = none := by
  refine List.findSome?_eq_none_iff.mpr fun q hq => List.findSome?_eq_none_iff.mpr fun n hn => ?_
  rw [h q n (mem_priorities_iff.mp hq) hn]
  rfl

/-! ### The placement of a task -/

/-- The task in the slot of a core, if there is one, returns to the head of its ready list. -/
def State.clearWay (s : State) (c : Nat) : State :=
  match s.slot c with
  | some old => s.enterReady old true
  | none => s

/-- A task goes to the slot of a core. -/
def State.putInSlot (s : State) (n c : Nat) : State :=
  (s.setTask n { s.task n with state := 3, core := c }).setSlot c (some n)

/-- Ostler's lists after task n, which was READY, has been placed on core c. -/
def State.placed (s : State) (n c : Nat) : State := ((s.leaveReady n).clearWay c).putInSlot n c

theorem exec_taskPlace {n c : Nat} (hon : s.domainOn 90 = true) (h : s.placement = some (n, c)) :
    exec .taskPlace s = .next (s.placed n c).settleIrqs := by
  have hon' : s.ostOn = true := hon
  show execTaskPlace s = _
  unfold execTaskPlace
  rw [hon', h]
  rfl

theorem exec_taskPlace_none (h : s.placement = none) : exec .taskPlace s = .next s := by
  show execTaskPlace s = _
  unfold execTaskPlace
  rw [h]
  split <;> rfl

theorem State.clearWay_empty {c : Nat} (h : s.slot c = none) : s.clearWay c = s := by
  unfold State.clearWay
  rw [h]

theorem State.clearWay_full {c a : Nat} (h : s.slot c = some a) : s.clearWay c = s.enterReady a true := by
  unfold State.clearWay
  rw [h]

theorem ostlerOnly_clearWay (s : State) (c : Nat) : OstlerOnly s (s.clearWay c) := by
  unfold State.clearWay
  split
  · exact ostlerOnly_enterReady s _ _
  · exact .rfl'

theorem ostlerOnly_placed (s : State) (n c : Nat) : OstlerOnly s (s.placed n c) :=
  (((ostlerOnly_leaveReady s n).trans (ostlerOnly_clearWay _ c)).trans (ostlerOnly_setTask _ n _)).trans
    (ostlerOnly_setSlot _ c (some n))

theorem State.slot_placed (s : State) (n c : Nat) : (s.placed n c).slot c = some n := by
  simp [State.placed, State.putInSlot]

theorem State.task_placed (s : State) (n c : Nat) :
    ((s.placed n c).task n).state = 3 ∧ ((s.placed n c).task n).core = c := by
  simp [State.placed, State.putInSlot]

/-- The oldest task of the highest priority is placed on its core, and the interrupts settle. -/
theorem completes_placed {n c : Nat} {l : List Nat} {P : State → Prop} (top : TopTask s n l)
    (hc : s.coreFor (s.task n) = some c) (hP : P (s.placed n c).settleIrqs) : Completes .taskPlace s P :=
  ⟨_, exec_taskPlace top.1 (State.placement_top top hc), hP⟩

theorem frame_placed_settleIrqs (s : State) (n c : Nat) : Frame ostTaskRegs s (s.placed n c).settleIrqs :=
  ((ostlerOnly_placed s n c).frame.mono (List.nil_subset _)).trans (irqsOnly_settleIrqs _).frame

/-- R692: an idle core. -/
theorem completes_taskPlace_idle {n c : Nat} {l : List Nat} (top : TopTask s n l) (hc : c < 16)
    (hf : Fits s (s.task n) c) (hs : s.slot c = none) (hr : s.running c = none)
    (first : ∀ d, d < c → Fits s (s.task n) d → s.slot d ≠ none ∨ s.running d ≠ none) :
    Completes .taskPlace s fun t =>
      t.slot c = some n ∧ (t.task n).state = 3 ∧ (t.task n).core = c ∧
        t.readyList (s.task n).pri = (n :: l).filter (· != n) ∧ t.f (OST_CORE_STAT_IRQ c) = 1 ∧
        Frame ostTaskRegs s t := by
  refine completes_placed top (State.coreFor_idle hc hf hs hr first) ?_
  have settled := irqsOnly_settleIrqs (s.placed n c)
  have slotted := s.slot_placed n c
  have list : (s.placed n c).readyList (s.task n).pri = (n :: l).filter (· != n) := by
    obtain ⟨-, -, hl, -⟩ := top
    rw [State.placed, State.clearWay_empty (by simpa using hs)]
    simp [State.putInSlot, hl]
  have irq := (s.placed n c).irq_idle slotted (((ostlerOnly_placed s n c).running c).trans hr)
  obtain ⟨state, core⟩ := s.task_placed n c
  exact ⟨(settled.slot c).trans slotted, by rw [settled.task, state], by rw [settled.task, core],
    (settled.readyList _).trans list, by rw [State.irqBit_settleIrqs _ hc, irq]; rfl, frame_placed_settleIrqs s n c⟩

/-- R692, R693: an INTERRUPT core that runs a task of lower priority. -/
theorem completes_taskPlace_interrupt {n c b : Nat} {l : List Nat} (top : TopTask s n l) (hc : c < 16)
    (hf : Fits s (s.task n) c) (hs : s.slot c = none) (hr : s.running c = some b)
    (only : ∀ d, d ≠ c → ¬ Fits s (s.task n) d) (style : s.f (OST_CORE_CTRL_STYLE c) = 0)
    (lower : (s.task b).pri < (s.task n).pri) :
    Completes .taskPlace s fun t =>
      t.slot c = some n ∧ t.running c = some b ∧ t.f (OST_CORE_STAT_IRQ c) = 1 ∧ Frame ostTaskRegs s t := by
  refine completes_placed top (State.coreFor_interrupt hc hf only hs hr style lower) ?_
  have settled := irqsOnly_settleIrqs (s.placed n c)
  have slotted := s.slot_placed n c
  have runs := ((ostlerOnly_placed s n c).running c).trans hr
  have pri (m : Nat) : ((s.placed n c).task m).pri = (s.task m).pri := by
    rw [State.placed, State.clearWay_empty (by simpa using hs)]
    by_cases h : m = n <;> simp [State.putInSlot, h]
  have style' : (s.placed n c).f (OST_CORE_CTRL_STYLE c) = 0 := by
    rw [(ostlerOnly_placed s n c).frame.1.f List.not_mem_nil, style]
  have irq := (s.placed n c).irq_preempts slotted runs style' (by rwa [pri, pri])
  exact ⟨(settled.slot c).trans slotted, (settled.running c).trans runs,
    by rw [State.irqBit_settleIrqs _ hc, irq]; rfl, frame_placed_settleIrqs s n c⟩

/-- R692: a slotted task of lower priority is displaced. -/
theorem completes_taskPlace_displace {n c a : Nat} {l : List Nat} (top : TopTask s n l) (hc : c < 16)
    (hf : Fits s (s.task n) c) (hs : s.slot c = some a) (only : ∀ d, d ≠ c → ¬ Fits s (s.task n) d)
    (lower : (s.task a).pri < (s.task n).pri) :
    Completes .taskPlace s fun t =>
      t.slot c = some n ∧ (t.task a).state = 1 ∧ t.readyList (s.task a).pri = a :: s.readyList (s.task a).pri ∧
        Frame ostTaskRegs s t := by
  refine completes_placed top (State.coreFor_displace hc hf only hs lower) ?_
  have settled := irqsOnly_settleIrqs (s.placed n c)
  have hpri : (s.task a).pri ≠ (s.task n).pri := lower.ne
  have hne : a ≠ n := by rintro rfl; exact hpri rfl
  have hway := State.clearWay_full (s := s.leaveReady n) (c := c) (a := a) (by simpa using hs)
  have returned : ((s.placed n c).task a).state = 1 := by
    rw [State.placed, hway]; simp [State.putInSlot, hne]
  have list : (s.placed n c).readyList (s.task a).pri = a :: s.readyList (s.task a).pri := by
    rw [State.placed, hway]; simp [State.putInSlot, hpri]
  exact ⟨(settled.slot c).trans (s.slot_placed n c), by rw [settled.task, returned],
    (settled.readyList _).trans list, frame_placed_settleIrqs s n c⟩

/-- R692: with no core, the tasks stay. -/
theorem completes_taskPlace_none (h : ∀ q n c, q < 8 → n ∈ s.readyList q → c < 16 → ¬ Fits s (s.task n) c) :
    Completes .taskPlace s fun t => t = s :=
  ⟨s, exec_taskPlace_none (State.placement_none fun q n hq hn => State.coreFor_none fun c hc => h q n c hq hn hc), rfl⟩

/-! ### The read of OST_CORE_TAKE (R694, R695) -/

/-- The task that an INTERRUPT core runs returns to the head of its ready list (R695). -/
def State.preempt (s : State) (c : Nat) : State :=
  match s.running c with
  | some r => if s.interrupts c then s.enterReady r true else s
  | none => s

/-- Ostler's lists after core c has taken task n. -/
def State.takenLists (s : State) (c n : Nat) : State :=
  ((s.preempt c).setTask n { (s.preempt c).task n with state := 4, core := c }).setSlot c none

/-- Core c runs task n and reads its word, and its watchdog restarts (R694, R696). -/
def State.giveTask (s : State) (c n word : Nat) : State :=
  ((s.setRunning c (some n)).set64 (OST_CORE_WORD c) word).wdtRestart c

/-- The state after core c has taken task n, before the interrupts settle. -/
def State.taken (s : State) (c n : Nat) : State :=
  (s.takenLists c n).giveTask c n ((s.takenLists c n).task n).word

theorem State.take_eq (s : State) (c n : Nat) : s.take c n = (s.taken c n).settleIrqs := rfl

theorem exec_coreTake {p : Path} {core : Fin 16} {n : Nat} (hr : Reached s (OST_CORE_TAKE core)) (hp : p.val = core.val)
    (hs : s.slot core = some n) :
    exec (.coreTake p core) s = .next ((s.take core n).answer p (BitVec.ofNat 32 (n + 2147483648))) := by
  show execCoreTake p core s = _
  unfold execCoreTake
  rw [State.onRead_reached hr, if_pos hp, hs]

theorem exec_coreTake_none {p : Path} {core : Fin 16} (hr : Reached s (OST_CORE_TAKE core))
    (h : p.val ≠ core.val ∨ s.slot core = none) : exec (.coreTake p core) s = .next (s.answer p 0) := by
  have none_taken : (if p.val = core.val then s.slot core else none) = none := by
    rcases h with h | h <;> simp [h]
  show execCoreTake p core s = _
  unfold execCoreTake
  rw [State.onRead_reached hr, none_taken]

theorem ostlerOnly_preempt (s : State) (c : Nat) : OstlerOnly s (s.preempt c) := by
  unfold State.preempt
  split
  · split
    · exact ostlerOnly_enterReady s _ _
    · exact .rfl'
  · exact .rfl'

theorem ostlerOnly_takenLists (s : State) (c n : Nat) : OstlerOnly s (s.takenLists c n) :=
  ((ostlerOnly_preempt s c).trans (ostlerOnly_setTask _ n _)).trans (ostlerOnly_setSlot _ c none)

/-- Preemption changes no task's word. -/
theorem State.word_preempt (s : State) (c n : Nat) : ((s.preempt c).task n).word = (s.task n).word := by
  unfold State.preempt
  split
  · next r _ =>
    split
    · by_cases h : n = r <;> simp [h]
    · rfl
  · rfl

theorem State.word_takenLists (s : State) (c n : Nat) : ((s.takenLists c n).task n).word = (s.task n).word := by
  rw [← s.word_preempt c]
  simp [State.takenLists]

/-- An INTERRUPT core returns the task it runs. -/
theorem State.preempt_interrupt {c r : Nat} (hr : s.running c = some r) (style : s.f (OST_CORE_CTRL_STYLE c) = 0) :
    s.preempt c = s.enterReady r true := by
  unfold State.preempt
  rw [hr]
  exact if_pos (s.interrupts_of_style style)

theorem State.task_takenLists (s : State) (c n : Nat) :
    ((s.takenLists c n).task n).state = 4 ∧ ((s.takenLists c n).task n).core = c := by
  simp [State.takenLists]

/-- The task that an INTERRUPT core ran stands at the head of its ready list. -/
theorem State.returned_takenLists {c n r : Nat} (hne : r ≠ n) (hr : s.running c = some r)
    (style : s.f (OST_CORE_CTRL_STYLE c) = 0) :
    (s.takenLists c n).task r = { s.task r with state := 1, core := 0 } ∧
      (s.takenLists c n).readyList (s.task r).pri = r :: s.readyList (s.task r).pri := by
  rw [State.takenLists, State.preempt_interrupt hr style]
  simp [hne]

/-! ### The word and the status of a core that takes a task -/

/-- A 64-bit pair reads what was stored in it. -/
theorem State.f64_set64 (s : State) (off n : Nat) : (s.set64 off n).f64 off = n % 2 ^ 64 := by
  have lo : (s.set64 off n).reg off = BitVec.ofNat 32 n :=
    (State.reg_setNat_ne _ _ (by omega)).trans (s.reg_setNat_same off n)
  have hi : (s.set64 off n).reg (off + 4) = BitVec.ofNat 32 (n / 0x100000000) := State.reg_setNat_same _ _ _
  rw [State.f64, lo, hi, BitVec.toNat_ofNat, BitVec.toNat_ofNat]
  omega

/-- A 64-bit pair outside the list reads as before. -/
theorem OnlyRegs.f64 {l : List Nat} {t : State} (h : OnlyRegs l s t) {off : Nat} (lo : off ∉ l) (hi : off + 4 ∉ l) :
    t.f64 off = s.f64 off := by
  rw [State.f64, h _ lo, h _ hi, State.f64]

/-- Fields outside a 64-bit pair read as before. -/
theorem State.f_set64_ne (s : State) {off : Nat} {F : Fld} (n : Nat) (h : F.off ≠ off) (h4 : F.off ≠ off + 4) :
    (s.set64 off n).f F = s.f F :=
  (State.f_setNat_ne _ _ h4).trans (s.f_setNat_ne _ h)

theorem frame_set64 (s : State) (off n : Nat) : Frame [off, off + 4] s (s.set64 off n) :=
  ((frame_setReg s off _).mono (by simp)).trans ((frame_setReg _ (off + 4) _).mono (by simp))

/-- A core runs the task that it was given. -/
theorem State.running_setRunning (s : State) (c : Nat) {n : Nat} (h : n < 16384) :
    (s.setRunning c (some n)).running c = some n := by
  have valid : (s.setRunning c (some n)).f (OST_CORE_STAT_CUR_V c) = 1 := State.f_setF_fld_same _ _ _ (by decide)
  have cur : (s.setRunning c (some n)).f (OST_CORE_STAT_CUR c) = n := by
    refine (State.f_setF_fld _ _ _ (by decide) (by decide)).trans ?_
    exact (s.f_setF_fld_same _ n (by decide)).trans (Nat.mod_eq_of_lt h)
  rw [State.running, State.flag_of_f valid, cur]
  rfl

theorem State.ost_setRunning (s : State) (c n : Nat) : (s.setRunning c (some n)).ost = s.ost :=
  (State.setF_ost _ _ 1).trans (s.setF_ost _ n)

theorem frame_setRunning (s : State) (c n : Nat) : Frame [OST_CORE_STAT c] s (s.setRunning c (some n)) :=
  (frame_setF_fld _ _ _ _ _).trans (frame_setF_fld _ _ _ _ _)

/-- The status of a core is no half of its word. -/
theorem coreStat_ne_coreWord (c : Nat) : OST_CORE_STAT c ≠ OST_CORE_WORD c ∧ OST_CORE_STAT c ≠ OST_CORE_WORD c + 4 := by
  unfold OST_CORE_STAT OST_CORE_WORD
  omega

/-! ### A task given to a core: its status, word and watchdog change, and no list -/

theorem State.ost_giveTask (s : State) (c n w : Nat) :
    (s.giveTask c n w).ost =
      { s.ost with wdt := Sparse.put 0 s.ost.wdt c 0, nmi := Sparse.put false s.ost.nmi c false } := by
  rw [State.giveTask, State.wdtRestart, State.setOst_ost, State.set64_ost, State.ost_setRunning]

@[simp] theorem State.task_giveTask (s : State) (c n w m : Nat) : (s.giveTask c n w).task m = s.task m := by
  rw [State.task, s.ost_giveTask, State.task]

@[simp] theorem State.readyList_giveTask (s : State) (c n w p : Nat) :
    (s.giveTask c n w).readyList p = s.readyList p := by
  rw [State.readyList, s.ost_giveTask, State.readyList]

@[simp] theorem State.slot_giveTask (s : State) (c n w d : Nat) : (s.giveTask c n w).slot d = s.slot d := by
  rw [State.slot, s.ost_giveTask, State.slot]

theorem State.wdt_giveTask (s : State) (c n w : Nat) : Sparse.get 0 (s.giveTask c n w).ost.wdt c = 0 := by
  rw [s.ost_giveTask]
  exact Sparse.get_put_same 0 s.ost.wdt c 0

theorem State.running_giveTask (s : State) (c w : Nat) {n : Nat} (h : n < 16384) :
    (s.giveTask c n w).running c = some n := by
  obtain ⟨lo, hi⟩ := coreStat_ne_coreWord c
  have kept (F : Fld) (hF : F.off = OST_CORE_STAT c) :
      ((s.setRunning c (some n)).set64 (OST_CORE_WORD c) w).f F = (s.setRunning c (some n)).f F :=
    State.f_set64_ne _ w (hF ▸ lo) (hF ▸ hi)
  rw [State.giveTask, (ostlerOnly_wdtRestart _ c).running, State.running, State.flag, kept _ rfl, kept _ rfl]
  exact s.running_setRunning c h

theorem State.word_giveTask (s : State) (c n w : Nat) : (s.giveTask c n w).f64 (OST_CORE_WORD c) = w % 2 ^ 64 := by
  rw [State.giveTask, (ostlerOnly_wdtRestart _ c).frame.1.f64 List.not_mem_nil List.not_mem_nil, State.f64_set64]

theorem frame_giveTask (s : State) {c : Nat} (hc : c < 16) (n w : Nat) :
    Frame ([OST_CORE_WORD c, OST_CORE_WORD c + 4] ++ ostTaskRegs) s (s.giveTask c n w) := by
  have status := (frame_setRunning s c n).mono (l' := [OST_CORE_WORD c, OST_CORE_WORD c + 4] ++ ostTaskRegs)
    (by simpa using .inr (.inr (coreStat_mem_ostTaskRegs hc)))
  have word := (frame_set64 (s.setRunning c (some n)) (OST_CORE_WORD c) w).mono
    (List.subset_append_left _ ostTaskRegs)
  exact (status.trans word).trans ((ostlerOnly_wdtRestart _ c).frame.mono (List.nil_subset _))

theorem frame_taken (s : State) {c : Nat} (hc : c < 16) (n : Nat) :
    Frame ([OST_CORE_WORD c, OST_CORE_WORD c + 4] ++ ostTaskRegs) s (s.taken c n) :=
  ((ostlerOnly_takenLists s c n).frame.mono (List.nil_subset _)).trans (frame_giveTask _ hc n _)

/-- The words of the cores lie apart from the status of the cores and the delay count. -/
theorem coreWord_not_mem_ostTaskRegs (c : Nat) :
    OST_CORE_WORD c ∉ ostTaskRegs ∧ OST_CORE_WORD c + 4 ∉ ostTaskRegs := by
  simp only [ostTaskRegs, List.mem_cons, List.mem_map, not_or, not_exists, not_and, OST_CORE_WORD, OST_CORE_STAT,
    ostCoreBase, OST_DLY_CNT]
  exact ⟨⟨by omega, fun d _ => by omega⟩, by omega, fun d _ => by omega⟩

/-! ### What a read answers is no list and no register -/

@[simp] theorem State.task_answer (s : State) (p : Path) (v : Word) (n : Nat) : (s.answer p v).task n = s.task n := by
  rw [State.task, State.answer_ost, State.task]

@[simp] theorem State.readyList_answer (s : State) (p : Path) (v : Word) (q : Nat) :
    (s.answer p v).readyList q = s.readyList q := by
  rw [State.readyList, State.answer_ost, State.readyList]

@[simp] theorem State.slot_answer (s : State) (p : Path) (v : Word) (c : Nat) : (s.answer p v).slot c = s.slot c := by
  rw [State.slot, State.answer_ost, State.slot]

@[simp] theorem State.running_answer (s : State) (p : Path) (v : Word) (c : Nat) :
    (s.answer p v).running c = s.running c := by
  rw [State.running, State.answer_flag, State.answer_f, State.running]

@[simp] theorem State.f64_answer (s : State) (p : Path) (v : Word) (off : Nat) : (s.answer p v).f64 off = s.f64 off := by
  rw [State.f64, State.answer_reg, State.answer_reg, State.f64]

/-- R694, R695: a core takes the task in its slot. -/
theorem completes_coreTake {p : Path} {core : Fin 16} {n : Nat} (hr : Reached s (OST_CORE_TAKE core))
    (hp : p.val = core.val) (hs : s.slot core = some n) (hn : n < 16384) :
    Completes (.coreTake p core) s fun t =>
      (t.path p).answer.toNat = n + 2147483648 ∧ t.slot core = none ∧ t.running core = some n ∧
        (t.task n).state = 4 ∧ (t.task n).core = core ∧ t.f64 (OST_CORE_WORD core) = (s.task n).word % 2 ^ 64 ∧
        Sparse.get 0 t.ost.wdt core = 0 ∧ t.f (OST_CORE_STAT_IRQ core) = 0 ∧
        (∀ r, r ≠ n → s.running core = some r → s.f (OST_CORE_CTRL_STYLE core) = 0 →
          (t.task r) = { s.task r with state := 1, core := 0 } ∧
            t.readyList (s.task r).pri = r :: s.readyList (s.task r).pri) ∧
        Frame ([OST_CORE_WORD core, OST_CORE_WORD core + 4] ++ ostTaskRegs) s t := by
  refine ⟨_, exec_coreTake hr hp hs, ?_⟩
  rw [State.take_eq]
  have settled := irqsOnly_settleIrqs (s.taken core n)
  have empty : (s.taken core n).slot core = none := by simp [State.taken, State.takenLists]
  have taken_task (m : Nat) : (s.taken core n).settleIrqs.task m = (s.takenLists core n).task m := by
    rw [settled.task, State.taken, State.task_giveTask]
  obtain ⟨state, onCore⟩ := s.task_takenLists core n
  obtain ⟨lo, hi⟩ := coreWord_not_mem_ostTaskRegs core
  refine ⟨?_, ?_, ?_, ?_, ?_, ?_, ?_, ?_, fun r hne run style => ?_, ?_⟩
  · rw [State.answer_answer, BitVec.toNat_ofNat]
    omega
  · rw [State.slot_answer, settled.slot, empty]
  · rw [State.running_answer, settled.running, State.taken, State.running_giveTask _ _ _ hn]
  · rw [State.task_answer, taken_task, state]
  · rw [State.task_answer, taken_task, onCore]
  · rw [State.f64_answer, settled.frame.1.f64 lo hi, State.taken, State.word_giveTask, s.word_takenLists]
  · rw [State.answer_ost, settled.ost, State.taken, State.wdt_giveTask]
  · rw [State.answer_f, State.irqBit_settleIrqs _ core.isLt, State.irq_empty _ empty]
    rfl
  · obtain ⟨returned, list⟩ := State.returned_takenLists hne run style
    rw [State.task_answer, taken_task, State.readyList_answer, settled.readyList, State.taken, State.readyList_giveTask]
    exact ⟨returned, list⟩
  · exact ((frame_taken s core.isLt n).trans (settled.frame.mono (List.subset_append_right _ _))).trans
      ((frame_answer _ p _).mono (List.nil_subset _))

/-! ### The obligation -/

/-- Settles O46: placement on an idle core, over a running task and over a slotted task, placement with no core, and the
read of OST_CORE_TAKE, each by its rule. -/
theorem tasksArePlacedAndTaken : Obligations.TasksArePlacedAndTaken := by
  intro s
  refine ⟨fun n l c top fits => ⟨?_, ?_, ?_⟩, completes_taskPlace_none, fun p core reached => ⟨?_, ?_⟩⟩
  · exact completes_taskPlace_idle top c.isLt fits
  · exact fun b => completes_taskPlace_interrupt top c.isLt fits
  · exact fun a => completes_taskPlace_displace top c.isLt fits
  · exact fun n => completes_coreTake reached
  · exact fun h => ⟨_, exec_coreTake_none reached h, rfl⟩

end Sys2Proof.Machine
